-- ==== Sys2Proof/Word.lean ====
section
/-! DEFINITION. The machine's words and their plainest arithmetic (R3, R6, R78). -/

namespace Sys2Proof

/-- A 32-bit word: a register, an instruction, a memory word (R91, R118). -/
abbrev Word := BitVec 32

/-- A byte of memory or of a frame. -/
abbrev Byte := BitVec 8

/-- A line of the die: 0 to 3 are PORT0 to PORT3, 4 is the cross-link of a MANAGER-role die (chapter 14), which uses the
ports' coding, frames and link start. -/
abbrev Port := Fin 5

/-- A context, CTX0 to CTX7 (R69). -/
abbrev Cid := Fin 8

/-- One of the registers X0 to X15 (R77). -/
abbrev RegNo := Fin 16

end Sys2Proof
end

