-- ==== Sys2Proof/Types.lean ====
section
/-! DEFINITION. Plain data that commands carry: bus masters, frames as a port receives them, presence pulses. -/

namespace Sys2Proof

/-- Who makes a register or memory access (R93, R97, R196). `served` is the window unit serving another node. -/
inductive Master where
  | ctx (c : Cid)
  | dma (n : Fin 4)
  | host
  | served
  deriving DecidableEq, Repr

/-- A frame without its CRC (R373, Tables 9-4 and 9-5); LEN is the payload's length. -/
structure Frame where
  ftype : Fin 16
  hops : Nat
  side : Bool
  sideStart : Bool
  prio : Nat
  ackreq : Bool
  dest : BitVec 16
  src : BitVec 16
  lseq : BitVec 16
  payload : List Byte
  deriving DecidableEq, Repr

/-- A frame as it arrives on a port: the frame, the CRC-16 field received, and whether its length and EOF obey
R378. -/
structure Arrival where
  port : Port
  frame : Frame
  crc : BitVec 16
  formed : Bool
  deriving DecidableEq, Repr

/-- One presence pulse the initiator sees (R407): rising edge and width in 0.1 µs, peak in 0.1 mA. -/
structure Pulse where
  delay : Nat
  width : Nat
  peak : Nat
  deriving DecidableEq, Repr

/-- Where a PROG message comes from: a frame received, or the host port's LOADIN stream (R105, R743). -/
inductive ProgFrom where
  | fabric (a : Arrival)
  | host (payload : List Byte)
  deriving DecidableEq, Repr

/-- Instructions of the test-access port; `others` are those that are not for use (R776). -/
inductive TapInstr where
  | bypass | idcode | samplePreload | extest | clamp | others
  deriving DecidableEq, Repr

end Sys2Proof
end

