-- ==== Sys2Proof/Syntax.lean ====
section
/-! DEFINITION. The commands of the block: one constructor per row of the opcode table, in its order, with the row's
operands. Basvo instructions carry every field of their word (R119), those marked zero included (R121). -/

namespace Sys2Proof

/-- A command; each constructor's docstring gives its row's governing rule and effect. -/
inductive Instr where
  /-- R10: A write to a register field with no row of its own acts under its access code, with the RS judgement of R18. -/
  | registerWrite (m : Master) (off : BitVec 16) (v : Word)
  /-- R16: A read of an RC field returns it and clears it for every master. -/
  | rcRead (m : Master) (off : BitVec 16)
  /-- R81: A read of a _LO word, or of RTIME_LO, latches the matching high word for a consistent value. -/
  | loWordRead (m : Master) (off : BitVec 16)
  /-- R98: A write to a selector is judged by its channel field; an out-of-range value traps SEL_RANGE or is discarded. -/
  | selectorWrite (m : Master) (page : Fin 16) (v : Word)
  /-- R127: rd := rs1 + rs2, setting ZNCV. -/
  | add (rd : RegNo) (rs1 : RegNo) (rs2 : RegNo) (z : BitVec 14)
  /-- R127: rd := rs1 - rs2, setting ZNCV. -/
  | sub (rd : RegNo) (rs1 : RegNo) (rs2 : RegNo) (z : BitVec 14)
  /-- R127: rd := rs1 + rs2 + C, setting ZNCV. -/
  | adc (rd : RegNo) (rs1 : RegNo) (rs2 : RegNo) (z : BitVec 14)
  /-- R127: rd := rs1 - rs2 - (1 - C), setting ZNCV. -/
  | sbc (rd : RegNo) (rs1 : RegNo) (rs2 : RegNo) (z : BitVec 14)
  /-- R127: rd := rs1 and rs2, setting ZN. -/
  | and (rd : RegNo) (rs1 : RegNo) (rs2 : RegNo) (z : BitVec 14)
  /-- R127: rd := rs1 or rs2, setting ZN. -/
  | or (rd : RegNo) (rs1 : RegNo) (rs2 : RegNo) (z : BitVec 14)
  /-- R127: rd := rs1 xor rs2, setting ZN. -/
  | xor (rd : RegNo) (rs1 : RegNo) (rs2 : RegNo) (z : BitVec 14)
  /-- R127: rd := rs1 shifted left by rs2[4:0]. -/
  | shl (rd : RegNo) (rs1 : RegNo) (rs2 : RegNo) (z : BitVec 14)
  /-- R127: rd := rs1 shifted right logically by rs2[4:0]. -/
  | shr (rd : RegNo) (rs1 : RegNo) (rs2 : RegNo) (z : BitVec 14)
  /-- R127: rd := rs1 shifted right arithmetically by rs2[4:0]. -/
  | sar (rd : RegNo) (rs1 : RegNo) (rs2 : RegNo) (z : BitVec 14)
  /-- R127: rd := low 32 bits of rs1 × rs2. -/
  | mul (rd : RegNo) (rs1 : RegNo) (rs2 : RegNo) (z : BitVec 14)
  /-- R127: rd := high 32 bits of the signed product. -/
  | mulh (rd : RegNo) (rs1 : RegNo) (rs2 : RegNo) (z : BitVec 14)
  /-- R130: Unsigned division; divide by zero gives 0xFFFF_FFFF without trapping. -/
  | divu (rd : RegNo) (rs1 : RegNo) (rs2 : RegNo) (z : BitVec 14)
  /-- R130: Unsigned remainder; divide by zero gives rs1. -/
  | remu (rd : RegNo) (rs1 : RegNo) (rs2 : RegNo) (z : BitVec 14)
  /-- R127: rd := 1 if signed rs1 < rs2, else 0. -/
  | slt (rd : RegNo) (rs1 : RegNo) (rs2 : RegNo) (z : BitVec 14)
  /-- R127: rd := 1 if unsigned rs1 < rs2, else 0. -/
  | sltu (rd : RegNo) (rs1 : RegNo) (rs2 : RegNo) (z : BitVec 14)
  /-- R127: rd := rs1 + sign-extended imm14, setting ZNCV. -/
  | addi (rd : RegNo) (rs1 : RegNo) (z : BitVec 4) (imm : BitVec 14)
  /-- R127: rd := rs1 and zero-extended imm14. -/
  | andi (rd : RegNo) (rs1 : RegNo) (z : BitVec 4) (imm : BitVec 14)
  /-- R127: rd := rs1 or zero-extended imm14. -/
  | ori (rd : RegNo) (rs1 : RegNo) (z : BitVec 4) (imm : BitVec 14)
  /-- R127: rd := rs1 xor zero-extended imm14. -/
  | xori (rd : RegNo) (rs1 : RegNo) (z : BitVec 4) (imm : BitVec 14)
  /-- R127: rd := rs1 shifted left by imm14[4:0]. -/
  | shli (rd : RegNo) (rs1 : RegNo) (z : BitVec 4) (imm : BitVec 14)
  /-- R127: rd := rs1 shifted right logically by imm14[4:0]. -/
  | shri (rd : RegNo) (rs1 : RegNo) (z : BitVec 4) (imm : BitVec 14)
  /-- R127: rd := rs1 shifted right arithmetically by imm14[4:0]. -/
  | sari (rd : RegNo) (rs1 : RegNo) (z : BitVec 4) (imm : BitVec 14)
  /-- R127: rd := 1 if signed rs1 < sign-extended imm14. -/
  | slti (rd : RegNo) (rs1 : RegNo) (z : BitVec 4) (imm : BitVec 14)
  /-- R127: rd := imm18 shifted left by 14. -/
  | lui (rd : RegNo) (z : BitVec 4) (imm : BitVec 18)
  /-- R127: Loads a word through the windows, locally or as a remote read. -/
  | ldw (rd : RegNo) (rs1 : RegNo) (z : BitVec 4) (imm : BitVec 14)
  /-- R127: Loads a sign-extended halfword through the windows. -/
  | ldh (rd : RegNo) (rs1 : RegNo) (z : BitVec 4) (imm : BitVec 14)
  /-- R127: Loads a zero-extended halfword through the windows. -/
  | ldhu (rd : RegNo) (rs1 : RegNo) (z : BitVec 4) (imm : BitVec 14)
  /-- R127: Loads a sign-extended byte through the windows. -/
  | ldb (rd : RegNo) (rs1 : RegNo) (z : BitVec 4) (imm : BitVec 14)
  /-- R127: Loads a zero-extended byte through the windows. -/
  | ldbu (rd : RegNo) (rs1 : RegNo) (z : BitVec 4) (imm : BitVec 14)
  /-- R127: Stores a word through the windows, locally or as a remote write. -/
  | stw (rd : RegNo) (rs1 : RegNo) (z : BitVec 4) (imm : BitVec 14)
  /-- R127: Stores a halfword through the windows. -/
  | sth (rd : RegNo) (rs1 : RegNo) (z : BitVec 4) (imm : BitVec 14)
  /-- R127: Stores a byte through the windows. -/
  | stb (rd : RegNo) (rs1 : RegNo) (z : BitVec 4) (imm : BitVec 14)
  /-- R127: Branches if rs1 = rs2. -/
  | beq (z : BitVec 4) (rs1 : RegNo) (rs2 : RegNo) (off : BitVec 14)
  /-- R127: Branches if rs1 differs from rs2. -/
  | bne (z : BitVec 4) (rs1 : RegNo) (rs2 : RegNo) (off : BitVec 14)
  /-- R127: Branches if signed rs1 < rs2. -/
  | blt (z : BitVec 4) (rs1 : RegNo) (rs2 : RegNo) (off : BitVec 14)
  /-- R127: Branches if signed rs1 >= rs2. -/
  | bge (z : BitVec 4) (rs1 : RegNo) (rs2 : RegNo) (off : BitVec 14)
  /-- R127: Branches if unsigned rs1 < rs2. -/
  | bltu (z : BitVec 4) (rs1 : RegNo) (rs2 : RegNo) (off : BitVec 14)
  /-- R127: Branches if unsigned rs1 >= rs2. -/
  | bgeu (z : BitVec 4) (rs1 : RegNo) (rs2 : RegNo) (off : BitVec 14)
  /-- R127: Jumps relative and links pc + 4 into rd. -/
  | jal (rd : RegNo) (off : BitVec 22)
  /-- R127: Jumps to rs1 + imm with bits [1:0] cleared and links pc + 4. -/
  | jalr (rd : RegNo) (rs1 : RegNo) (z : BitVec 4) (imm : BitVec 14)
  /-- R80: Reads a control register of the context by index. -/
  | csrr (rd : RegNo) (rs1 : RegNo) (rs2 : RegNo) (sel : BitVec 14)
  /-- R140: Writes a control register under its access code and returns the old value. -/
  | csrw (rd : RegNo) (rs1 : RegNo) (rs2 : RegNo) (sel : BitVec 14)
  /-- R135: Writes the context's copy of a selector with rs1 + addend and returns the old value. -/
  | selch (rd : RegNo) (rs1 : RegNo) (rs2 : RegNo) (sel : BitVec 14)
  /-- R71: Waits until an enabled event is pending and returns the pending enabled events. -/
  | waite (rd : RegNo) (rs1 : RegNo) (rs2 : RegNo) (sel : BitVec 14)
  /-- R137: Waits like WAITE and permits a deeper power state meanwhile. -/
  | sleep (rd : RegNo) (rs1 : RegNo) (rs2 : RegNo) (sel : BitVec 14)
  /-- R138: Stands aside until higher-numbered READY contexts progress or an enabled event arrives. -/
  | yield (rd : RegNo) (rs1 : RegNo) (rs2 : RegNo) (sel : BitVec 14)
  /-- R139: Waits until the chosen classes of stores, remote stores and DMA are complete. -/
  | fence (rd : RegNo) (rs1 : RegNo) (rs2 : RegNo) (sel : BitVec 14)
  /-- R85: Restores STATUS from ESTATUS and continues at EPC. -/
  | rete (rd : RegNo) (rs1 : RegNo) (rs2 : RegNo) (sel : BitVec 14)
  /-- R84: Traps SOFT with a 16-bit code. -/
  | trap (rd : RegNo) (z : BitVec 4) (imm : BitVec 18)
  /-- R148: Arms, starts or cancels converter channels and returns the channels accepted. -/
  | meas (rd : RegNo) (rs1 : RegNo) (rs2 : RegNo) (sel : BitVec 14)
  /-- R153: Hands a shuttle or bleed operation with target and ceiling to the Ladle. -/
  | bal (rd : RegNo) (rs1 : RegNo) (rs2 : RegNo) (sel : BitVec 14)
  /-- R317: Latches a local snapshot or requests a rack-wide one at a compare instant. -/
  | snap (rd : RegNo) (rs1 : RegNo) (rs2 : RegNo) (sel : BitVec 14)
  /-- R157: Queues a frame built from a header word and payload and returns a transmit tag. -/
  | send (rd : RegNo) (rs1 : RegNo) (rs2 : RegNo) (sel : BitVec 14)
  /-- R162: Moves the head frame of the context's receive queue into a buffer. -/
  | recv (rd : RegNo) (rs1 : RegNo) (rs2 : RegNo) (sel : BitVec 14)
  /-- R165: Computes a CRC over memory word by word, resumable. -/
  | scan (rd : RegNo) (rs1 : RegNo) (rs2 : RegNo) (sel : BitVec 14)
  /-- R165: Copies memory word by word in ascending order, resumable. -/
  | movb (rd : RegNo) (rs1 : RegNo) (rs2 : RegNo) (sel : BitVec 14)
  /-- R165: Stages a 48-byte record and hands it to the black-box engine. -/
  | logb (rd : RegNo) (rs1 : RegNo) (rs2 : RegNo) (sel : BitVec 14)
  /-- R165: Moves a block between local and remote memory transfer by transfer. -/
  | rmov (rd : RegNo) (rs1 : RegNo) (rs2 : RegNo) (sel : BitVec 14)
  /-- R76: Makes IDLE contexts READY at CTX_PC and restarts PARKED ones. -/
  | ctxStart (m : Master) (mask : BitVec 8)
  /-- R75: Halts contexts before their next instruction or resumption point. -/
  | ctxStop (m : Master) (mask : BitVec 8)
  /-- R83: Raises the SOFT event in the chosen contexts. -/
  | evRaise (m : Master) (mask : BitVec 8)
  /-- R72: A write to a selected context register takes effect only while it is IDLE or PARKED, else sets WERR. -/
  | ctxSelectedWrite (m : Master) (off : BitVec 8) (v : Word)
  /-- R104: After CVU job 0 matches and the image is valid, programs start under R103. -/
  | programStart
  /-- R107: A die whose role is selected enters LOAD, stops its work and clears the image marker. -/
  | loadBegin (f : ProgFrom)
  /-- R108: Stages a 32-byte chunk and requests a sector write once 16 chunks are staged. -/
  | loadData (f : ProgFrom)
  /-- R109: Checks the stored image, copies sealed sections and sets the image marker. -/
  | loadCommit (f : ProgFrom)
  /-- R113: Ends LOAD and leaves the die NOIMAGE. -/
  | loadAbort (f : ProgFrom)
  /-- R117: Answers LOAD_STATUS with the load state without changing it. -/
  | loadQuery (f : ProgFrom)
  /-- R117: A LOAD_STATUS reply is received and delivered to its receiver. -/
  | loadStatus (a : Arrival)
  /-- R113: No PROG message for 10 s in LOAD leaves the die NOIMAGE. -/
  | loadTimeout
  /-- R95: An NVM sector write completes and releases delayed loads and the next write. -/
  | nvmSectorWriteDone (ok : Bool)
  /-- R194: The target serves a remote read in hardware after the export checks. -/
  | rread (a : Arrival)
  /-- R195: The target applies a remote write after the checks and answers RDONE. -/
  | rwrite (a : Arrival)
  /-- R191: A remote read answer is taken for the outstanding request or discarded. -/
  | rdata (a : Arrival)
  /-- R191: A remote write acknowledgement is taken for the outstanding request or discarded. -/
  | rdone (a : Arrival)
  /-- R191: A refusal ends the outstanding request as REMOTE_NAK or a DMA fault. -/
  | rrefuse (a : Arrival)
  /-- R192: A remote request's timeout expires without an answer taken. -/
  | remoteTimeout (r : Fin 12)
  /-- R202: DMA_GO START begins a channel at DMA_DESCn. -/
  | dmaStart (m : Master) (n : Fin 4)
  /-- R207: DMA_GO RESUME continues a channel from the current descriptor's STAT.DONE. -/
  | dmaResume (m : Master) (n : Fin 4)
  /-- R210: DMA_GO HALT stops a channel at its next beat boundary. -/
  | dmaHalt (m : Master) (n : Fin 4)
  /-- R203: The engine moves one beat of the chosen channel and advances its descriptor. -/
  | dmaBeat
  /-- R205: The answer of a DMA remote transfer arrives and its data is written. -/
  | dmaRemoteDone (n : Fin 4)
  /-- R230: A channel writes its corrected result, `lag` ticks after its window's end, and the set raises MEAS_DONE when complete. -/
  | conversionDone (ch : Fin 16) (raw : Int) (lag : Fin 25)
  /-- R246: The next scanned aux input starts 5 µs after the previous window ends. -/
  | auxInputStart
  /-- R248: AUXREF turns on SETTLE × 10 µs before the start tick. -/
  | auxrefOn
  /-- R352: Shuttles pause 200 µs before a Study start tick. -/
  | quietWindowPause
  /-- R352: Shuttles resume 200 µs after the last Study window ends. -/
  | quietWindowResume
  /-- R251: The sentinel sequencer samples every enabled cell against its thresholds. -/
  | sentinelSample (cells : List Int)
  /-- R256: Clearing a SENT_ST bit whose live bit is set is discarded for that bit. -/
  | sentStWrite (m : Master) (v : Word)
  /-- R257: A write to SENT_OV, SENT_UV or SENT_CFG restarts every sample count. -/
  | sentCfgWrite (m : Master) (r : Fin 3) (v : Word)
  /-- R265: OW_CTL.START begins the two-phase open-wire test. -/
  | openWireStart
  /-- R265: A phase of the open-wire test ends; the last sets OPEN bits and DONE. -/
  | openWirePhaseEnd (cells : List Int)
  /-- R268: LEAK_CTL.START begins a leakage test or defers it until channel 15 is free. -/
  | leakageStart
  /-- R264: A waiting leakage test starts once channel 15 completes. -/
  | leakageDeferredStart
  /-- R268: The leakage test ends, updating LEAKY, SUSPECT and widening. -/
  | leakageDone (v : List Int)
  /-- R277: A change of MEAS_CFG.GR takes effect 100 µs after the write. -/
  | grChangeEffect
  /-- R289: A write to RTCk_LO stores target [31:0] and disarms compare k. -/
  | rtcLoWrite (m : Master) (k : Fin 4) (v : Word)
  /-- R289: A write to RTCk_HI arms compare k, or sets PAST if the target is not later. -/
  | rtcHiWrite (m : Master) (k : Fin 4) (v : Word)
  /-- R294: RTC_CTL.DISARM disarms the named compares. -/
  | rtcDisarm (m : Master) (mask : BitVec 4)
  /-- R290: An armed compare fires, raises its event and starts everything tied to it. -/
  | rtcFire (k : Fin 4)
  /-- R284: The 48-bit count passes its maximum and the epoch byte advances. -/
  | epochWrap
  /-- R285: The count reaches 24 h before the wrap and raises EPOCH_WARN. -/
  | epochWarn
  /-- R297: A manager originates a TIME frame on every running port each period or at a compare. -/
  | timeOriginate
  /-- R302: A received TIME frame is applied, forwarded with delay added, or recorded in RT_XDIFF. -/
  | time (a : Arrival)
  /-- R304: RT_AGE exceeds the STALE limit and LOCKED clears. -/
  | lockStale
  /-- R300: A port starts a link-delay measurement with DLY_REQ at link start and every 10 s. -/
  | linkDelayMeasure (p : Port)
  /-- R300: A received DLY_REQ side message is answered with DLY_RSP. -/
  | dlyReq (p : Port)
  /-- R300: A received DLY_RSP sets the port's link delay and VALID. -/
  | dlyRsp (p : Port) (value : BitVec 40)
  /-- R403: A DLY_REQ unanswered for 2 ms is sent again. -/
  | dlyReqRetry (p : Port)
  /-- R313: A received SCHED is checked, queued for a sweep, or arms the snapshot compare. -/
  | sched (a : Arrival)
  /-- R315: The snapshot unit's own compare fires and latches bank 0. -/
  | snapshotCompareFire
  /-- R328: HFO-domain snapshot words latch once HFO is stable after a trigger in sleep. -/
  | snapHfoLatch
  /-- R317: SNAP_CTL.GO requests a local or rack snapshot. -/
  | snapGo (m : Master) (k : Fin 4)
  /-- R325: SNAP_CTL.TRIP_REL releases frozen bank 1. -/
  | snapTripRel (m : Master)
  /-- R324: SNAP_CTL.ACK acknowledges bank 0. -/
  | snapAck (m : Master)
  /-- R342: Every 1 ms the governor updates the thermal model and each shuttle's bound; the charge that shuttle 1 and the others have measured. -/
  | governorUpdate (first : Nat) (others : List Nat)
  /-- R345: The shuttle measures the served cell's impedance at start and every 1 s. -/
  | impedanceMeasure (k : Fin 6) (v0 v1 : Int)
  /-- R358: A shuttle operation reaches its target, sets DONE and goes idle. -/
  | shuttleTargetReached (k : Fin 6)
  /-- R351: A cell within 50 mV of its threshold ends the operation with VLIM: the shuttle, and the voltage it senses. -/
  | shuttleVoltageLimit (at_ : Fin 6 × Int)
  /-- R335: The stack or cell crosses its supply limit and the shuttle stops or resumes: the voltages of stack and cell. -/
  | shuttleSupplyChange (k : Fin 6) (volts : Int × Int)
  /-- R337: Each 100 ms frame the bleed duty is recomputed and switches reclosed; no operand. -/
  | bleedFrame (u : Unit)
  /-- R337: A bleed switch opens at the end of its duty within the frame. -/
  | bleedDutyOpen
  /-- R336: Every 1 ms each closed switch's current is measured into BAL_IBn. -/
  | bleedCurrentSample (amps : List Nat)
  /-- R358: A bleed target counts down to 0, the switch opens and BDONE is set. -/
  | bleedTargetReached (n : Fin 12)
  /-- R334: A write to BAL_CEIL stores the ceiling clipped to 1,000 mA. -/
  | balCeilWrite (m : Master) (k : Fin 6) (v : Word)
  /-- R377: A received NULL frame keeps the link alive and carries a SLEEP_NOTE or side bit. -/
  | null (a : Arrival)
  /-- R377: A running port sends a NULL 100 µs after its last transmitted frame. -/
  | nullSend (p : Port)
  /-- R384: A received ACK completes the outstanding frame with its LSEQ. -/
  | ack (a : Arrival)
  /-- R384: A received NAK BUSY schedules a retransmission after 50 µs. -/
  | nak (a : Arrival)
  /-- R384: An unacknowledged frame is retransmitted or failed when its timer expires. -/
  | retransmitTimeout (p : Port) (l : BitVec 16)
  /-- R393: A frame cut short by ABORT is discarded and a forwarded copy is aborted: the frame that was being sent, and how many of its
  bits, counted from bit time 2, came before the ABORT. -/
  | abort (c : Arrival × Nat)
  /-- R372: A code violation discards the partial frame and counts CODE. -/
  | codeError (p : Port)
  /-- R400: A complete 64-bit side message is CRC-checked and dispatched. -/
  | sideMessageReceived (p : Port) (msg : BitVec 64)
  /-- R402: PORT_SIDETX_HI with GO queues one program side message. -/
  | sideTxGo (m : Master) (p : Fin 4) (v : Word)
  /-- R404: An initiating port sends WAKE or holds the line, then sends RST_END. -/
  | linkStart (p : Port) (quiet : Bool)
  /-- R404: The initiator's hold ends and it sends the RST_END mark. -/
  | linkHoldEnd (p : Port)
  /-- R405: A port that sees a hold and RST_END mark answers as responder with PRESENCE. -/
  | rstEnd (p : Port)
  /-- R407: The initiator judges presence pulses as good, absent, early, late or doubled. -/
  | presenceWindowEnd (p : Port) (pulses : List Pulse)
  /-- R404: Both ends start idle and NULL frames 150 µs after the mark. -/
  | trainingTxStart (p : Port)
  /-- R825: Training without 16 NULLs within 1 ms ends the attempt. -/
  | trainingTimeout (p : Port)
  /-- R408: After a failed attempt's pause, the port tries again. -/
  | linkRetryPauseEnd (p : Port)
  /-- R408: A port in STARTFAIL tries three attempts again every 1 s. -/
  | linkAutostartRetry (p : Port)
  /-- R409: An ASLEEP port enters RESUMING and sends idle and NULLs. -/
  | portResume (p : Port)
  /-- R410: A RESUMING port without a valid frame sends WAKE, then restarts the link. -/
  | resumingTimeout (p : Port)
  /-- R411: No valid frame for 300 µs on an UP port loses the link. -/
  | linkSilence (p : Port)
  /-- R411: The far end holds the line 80 µs and the port becomes responder. -/
  | farEndHold (p : Port)
  /-- R411: No RST_END within 2 ms after a loss takes the port DOWN and restarts it. -/
  | responderWaitTimeout (p : Port)
  /-- R411: PORT_CTL.START ends any running link without LOST and starts a link. -/
  | portCtlStart (m : Master) (p : Fin 4)
  /-- R414: PORT_CTL.WAKE sends one WAKE pattern. -/
  | portCtlWake (m : Master) (p : Fin 4)
  /-- R367: A change of PORT_CTL.EN stops the port or starts a link under AUTOSTART. -/
  | portCtlEnWrite (m : Master) (p : Fin 4) (en : Bool)
  /-- R416: A WAKE group sets LL_WAKE, wakes the die and resumes the port. -/
  | lifelineWake (p : Port)
  /-- R417: An ALARM group wakes the die, resumes the port and relays ALARM upstream. -/
  | lifelineAlarm (p : Port)
  /-- R415: A lifeline group of wrong size is counted in LLNOISE or LLBAD. -/
  | lifelineNoise (p : Port) (pulses : Nat)
  /-- R417: A port repeating ALARM sends it again every 1 ms. -/
  | alarmRepeat (p : Port)
  /-- R417: A port stops repeating ALARM after 10 s without a valid frame. -/
  | alarmGiveUp (p : Port)
  /-- R422: A DATA frame is delivered to its receive queue or routed on. -/
  | data (a : Arrival)
  /-- R422: A SAFE frame is delivered to its receive queue or routed on. -/
  | safe (a : Arrival)
  /-- R422: A CONFIG frame goes to the window unit or a receive queue, or is routed on. -/
  | config (a : Arrival)
  /-- R439: A broadcast is taken on a default upstream port, delivered in scope and forwarded. -/
  | bcast (a : Arrival)
  /-- R421: A TRIP frame is routed on with pre-emption, latching a snapshot at each node. -/
  | trip (a : Arrival)
  /-- R617: A TRIP delivered at a manager sets SAFE_CTL.DEMAND within 5 µs. -/
  | tripDeliver
  /-- R443: The primary usable for HOLD × 100 ms makes the node fail back. -/
  | failbackHoldEnd
  /-- R448: A directed frame is forwarded on PATH[i] or dropped. -/
  | directedForward (a : Arrival)
  /-- R451: The target answers QUERY with INFO. -/
  | enumQuery (a : Arrival)
  /-- R451: A blank die with matching UID takes address, rack ID, upstreams and DEFHOPS. -/
  | enumAssign (a : Arrival)
  /-- R451: A blank die with matching UID sets one routing entry. -/
  | enumRoute (a : Arrival)
  /-- R451: The target starts Primers on the named ports after DELAY. -/
  | enumPrimer (a : Arrival)
  /-- R451: The Primer delay of an ENUM PRIMER ends and Primers begin. -/
  | enumPrimerDelayEnd (p : Port)
  /-- R451: The target answers a line-test read with LTINFO. -/
  | enumLtread (a : Arrival)
  /-- R449: An INFO reply is delivered to the manager's receive queue. -/
  | info (a : Arrival)
  /-- R449: An LTINFO reply is delivered to the manager's receive queue. -/
  | ltinfo (a : Arrival)
  /-- R459: A far ANNOUNCE is recorded and the port judged OPEN or FENCED. -/
  | announce (a : Arrival)
  /-- R458: A pending port resends its ANNOUNCE every 1 ms up to 10 times. -/
  | announceResend (p : Port)
  /-- R459: No valid far ANNOUNCE within 10 ms of UP fences the port as SILENT. -/
  | announceSilent (p : Port)
  /-- R422: A FENCE_REPORT is delivered to a receive queue, logged at a manager. -/
  | fenceReport (a : Arrival)
  /-- R462: FAB_CTL.RECHECK re-runs a port's far-end check. -/
  | fabRecheck (m : Master) (mask : BitVec 4)
  /-- R464: LT_CTL.PRIMER makes a port send PRIMER_REQ as initiator. -/
  | primerStart (m : Master) (mask : BitVec 4)
  /-- R464: The far end answers PRIMER_ACK or PRIMER_NAK. -/
  | primerReq (a : Arrival)
  /-- R464: The initiator receives PRIMER_ACK and both ends prepare the raw pattern. -/
  | primerAck (a : Arrival)
  /-- R464: A PRIMER_NAK sets LT_RES to REFUSED. -/
  | primerNak (a : Arrival)
  /-- R464: No Primer answer within 2 ms sets REFUSED. -/
  | primerNoAnswer (p : Port)
  /-- R465: Both ends start PRBS-31 100 µs after PRIMER_ACK. -/
  | primerPatternStart (p : Port)
  /-- R466: The Primer's time elapses and PASS or FAIL is written. -/
  | primerEnd (p : Port) (bits : Nat) (errs : Nat) (syncloss : Nat)
  /-- R466: The initiator starts a link 2 s after its Primer ends. -/
  | primerRelink (p : Port)
  /-- R467: LT_CTL.STOP ends a Primer as ABORTED. -/
  | primerStop (m : Master) (mask : BitVec 4)
  /-- R468: An interval line-test cycle starts at a PERIOD crossing. -/
  | intervalCycleStart
  /-- R468: LT_CTL.CYCLE starts an interval cycle at once. -/
  | ltCycle (m : Master)
  /-- R468: A port's SECS-long turn ends and the next usable port begins. -/
  | intervalTurnEnd
  /-- R469: During a turn the engine queues a TEST frame when the port is idle. -/
  | testFrameSend
  /-- R470: A received TEST frame is compared with PRBS-7 and counted. -/
  | test (a : Arrival)
  /-- R479: A job starts when its period elapses, reloading RESULT and POS. -/
  | cvuJobStart (k : Fin 8)
  /-- R479: CVU_CTL.GO starts the named jobs. -/
  | cvuGo (m : Master) (mask : BitVec 8)
  /-- R478: A job finishes its range, applies FINAL and compares with EXPECT. -/
  | cvuJobDone (k : Fin 8)
  /-- R477: An uncorrectable ECC error ends a job with ERROR. -/
  | cvuJobError (k : Fin 8) (addr : BitVec 32)
  /-- R488: A write to CVU_AVIN judges one alive value against its slot. -/
  | cvuAvin (m : Master) (v : Word)
  /-- R489: CVU_AVCFG.GO starts a batch alive check. -/
  | cvuAvcfgGo (m : Master) (v : Word)
  /-- R489: A batch check judges its last halfword and raises CVU_DONE. -/
  | cvuBatchDone
  /-- R507: The engine starts a commit while HOLDUP_OK is 1. -/
  | bbxCommitStart
  /-- R506: A two-phase commit and verify end and the record is mirrored. -/
  | bbxCommitDone (ok : Bool)
  /-- R521: A tombstone row burn completes. -/
  | tombstoneBurnDone
  /-- R509: The reset scan finds the last record, sets READY and appends RESET. -/
  | bbxRingScanDone
  /-- R497: Every SUMPER minutes the engine appends a SUMMARY record. -/
  | summaryTimer
  /-- R514: A holder stores, replaces or rejects a mirrored record. -/
  | mrec (a : Arrival)
  /-- R514: A holder frees the sticky pool position of the released SEQ. -/
  | mrel (a : Arrival)
  /-- R516: The owner counts a rejected mirror and stops mirroring to that partner. -/
  | mrej (a : Arrival)
  /-- R525: A target answers a manager's BREAD with BDATA. -/
  | bread (a : Arrival)
  /-- R526: The manager writes the answer to BBX_RDBUF and BBX_RDST. -/
  | bdata (a : Arrival)
  /-- R526: No BDATA within 10 ms sets RDST to TIMEOUT. -/
  | breadTimeout
  /-- R525: BBX_RDREQ.GO on a manager sends a BREAD. -/
  | bbxRdreqGo (m : Master) (v : Word)
  /-- R523: A manager receiving an UNFIT notice appends UNFIT_SEEN. -/
  | unfit (a : Arrival)
  /-- R523: A DEGRADED die resends its UNFIT notice every 60 s. -/
  | unfitRepeat
  /-- R500: BBX_ACK unpins matching sticky records, writes the map and sends MREL. -/
  | bbxAckWrite (m : Master) (seq : BitVec 16) (all : Bool)
  /-- R515: BBX_SHCTL.RELEASE sets a shadow area EMPTY. -/
  | bbxShctlRelease (m : Master) (u : Bool) (d : Bool)
  /-- R537: An input level is accepted after 3.0 ms of unmasked samples and pair states move. -/
  | sinLevelAccepted (n : Fin 12) (level : Bool) (a : Bool) (b : Bool)
  /-- R540: One input disagreeing longer than the discrepancy time gets an input fault. -/
  | discrepancyExpiry (j : Fin 4)
  /-- R543: TPOA or TPOB starts or ends its low pulse and inputs are checked. -/
  | testPulse (b : Bool) (ending : Bool) (ok : Bool) (low : BitVec 12) (high : BitVec 12)
  /-- R530: Channel B compares with channel A every 1 ms, raising CHB after 5 ms. -/
  | chbCompare
  /-- R530: A 1 ms heartbeat gap makes channel B raise CHB and turn its outputs off. -/
  | chbHeartbeatMiss
  /-- R535: SAFE_CTL.ACK clears ended latching sources and may return HOLD to RUN. -/
  | safeAck (m : Master)
  /-- R578: SAFE_CTL.TRCONF takes HOLD coils of a tray to OPENING under demand. -/
  | safeTrconf (m : Master)
  /-- R529: SAFE_CTL.DEMAND sets or clears the PROG source. -/
  | safeDemandWrite (m : Master) (v : Bool)
  /-- R539: SAFE_CTL.PAIRACK releases a pair's restart or leaves FAULT. -/
  | pairack (m : Master) (mask : BitVec 4)
  /-- R551: A write of SAFE_TRQ.PERMIT permits torque or is refused. -/
  | permitWrite (m : Master) (v : Bool)
  /-- R552: The driven TRQ pin drops for 250 µs each period and is read back. -/
  | trqOffPulse (ok : Bool)
  /-- R554: The partner TRQ line changes and is judged against its pulse window. -/
  | partnerLineChange (level : Bool)
  /-- R554: Two missing partner off-pulses set TRQRB. -/
  | partnerPulseMissing
  /-- R554: The partner line not high within 20 ms of own pin sets PARTOFF. -/
  | partnerRiseTimeout
  /-- R559: SAFE_CON.ON bit changes start pick-up, deferral or opening of coils. -/
  | safeConWrite (m : Master) (v : BitVec 4)
  /-- R560: A coil leaves PICKUP for HOLD after 50 ms; a waiting coil picks up. -/
  | pickupEnd (n : Fin 4)
  /-- R563: Coil current below 1.5 A 10 ms into PICKUP turns the coil OFF. -/
  | coilOpenCheck (n : Fin 4) (amps : Nat)
  /-- R563: Low-side current above 3.5 A turns the coil OFF and sets COIL. -/
  | coilShort (n : Fin 4) (amps : Nat)
  /-- R562: High-side current above 4.4 A for 100 µs turns the switch and its coils off. -/
  | hsOver (w : Fin 2)
  /-- R563: Feedback not low 80 ms after pick-up turns the coil OFF. -/
  | noclose (n : Fin 4)
  /-- R563: Feedback high ends OPENING, or its absence at 80 ms flags WELD. -/
  | openingEnd (n : Fin 4)
  /-- R564: 20 ms after FB1 is accepted low, CON0 goes to OPENING. -/
  | handoverEnd
  /-- R567: The seal reader scans the matrix and accepts a word after two equal scans. -/
  | sealScan (w : BitVec 12) (ghost : Bool)
  /-- R574: SAFE_SEALWR GO with key in PARAM writes the sealed parameters. -/
  | sealedWrite (m : Master) (key : BitVec 16)
  /-- R574: The sealed write's read-back completes and DONE or FAIL is set. -/
  | sealedWriteDone
  /-- R578: TIWAIT after a demand takes HOLD coils to OPENING. -/
  | tiwaitExpiry
  /-- R578: SDDELAY after both TRQ lines read low opens a manager's contactors. -/
  | sddelayExpiry
  /-- R578: Channel B turns HSA and HSB off at TIWAIT + 10 ms. -/
  | chbOutputCutoff
  /-- R586: FORM builds a safety frame in the buffer with CN, stamp and CRC. -/
  | sfuForm (m : Master) (slot : Fin 16) (d : BitVec 6)
  /-- R591: CHECK judges a received safety frame and gives a verdict. -/
  | sfuCheck (m : Master) (slot : Fin 16)
  /-- R596: Every 500 µs armed RX slots and entries past EXP expire. -/
  | sfuExpiryExamine
  /-- R597: A write to SFU_ARM arms slots with a fresh deadline or is refused. -/
  | sfuArmWrite (m : Master) (v : BitVec 16)
  /-- R606: At each 500 µs instant manager A sends TIME and both send XCHG. -/
  | exchangeInstant
  /-- R608: A received XCHG is checked at XRX in hardware. -/
  | xchg (a : Arrival)
  /-- R610: 100 µs after the instant the exchange is judged AGREE, MISMATCH or MISSING. -/
  | exchangeJudge
  /-- R609: SFU_VOTECTL.COMMIT copies the shadow votes to live at the next instant. -/
  | voteCommit (m : Master)
  /-- R826: Manager A initiates the cross-link at reset and after each loss. -/
  | crossLinkStart
  /-- R648: RACK_JCTL.JOIN starts a join attempt or is refused. -/
  | join (m : Master) (capseq : BitVec 16)
  /-- R654: RACK_JCTL.LEAVE starts a controlled opening or ends a pending join. -/
  | leave (m : Master)
  /-- R653: RACK_JCTL.UNLOCK takes LOCKOUT to OPEN. -/
  | unlock (m : Master)
  /-- R646: Every 1 ms AUX6 and AUX7 are converted and the join moves on ΔV. -/
  | joinVoltageSample (aux6 : Nat) (aux7 : Nat)
  /-- R649: The settle timer ends and the join enters MAIN. -/
  | settleEnd
  /-- R650: The precharge timer reaches PRE and aborts the attempt. -/
  | prechargeTimeout
  /-- R647: Every 100 µs the tray current mean is written and inrush and opening checked. -/
  | trayCurrentSample (nv : Int)
  /-- R652: 30 s after an abort, a new join attempt starts. -/
  | joinRetry
  /-- R654: OPENT elapses during LEAVING and CON1 is opened. -/
  | openingWaitEnd
  /-- R660: RACK_CAPIN1.GO judges a received CAP and applies it. -/
  | capinGo (m : Master) (v : Word)
  /-- R665: The 2 ms HOLD after a cap change ends. -/
  | capHoldEnd
  /-- R661: Tray current above ITRAY for OCT sets OVERCAP. -/
  | overcapTimer
  /-- R662: Each 100 µs CAPOUT starts a period with the duty of RACK_CAPSET. -/
  | capoutPeriod
  /-- R638: RACK_TOP FORM_RS forms a RACKSTATE for a tray entry. -/
  | formRs (m : Master) (t : Fin 64) (d : BitVec 6)
  /-- R638: RACK_TOP FORM_CMD forms a COMMAND for a tray entry. -/
  | formCmd (m : Master) (t : Fin 64) (d : BitVec 6)
  /-- R638: RACK_TOP CHECK_ST checks a STATUS for a tray entry. -/
  | checkSt (m : Master) (t : Fin 64)
  /-- R640: A write to RACK_TARM arms entries or is refused while PERMIT is 1. -/
  | rackTarmWrite (m : Master) (k : Fin 2) (v : Word)
  /-- R684: With no holding condition, the die sends SLEEP_NOTE, stops HFO and enters NAP, SLEEP or SHIP. -/
  | powerStateEntry
  /-- R690: The wake timer fires a guard ahead of the earliest target and wakes the die. -/
  | wakeTimerFire (early : Fin 733)
  /-- R677: HFO becomes stable after a wake or reset. -/
  | hfoStable
  /-- R691: At each 4 Hz temperature sample below DOZE the guard and wake aim are recomputed. -/
  | guardRecompute (temp : Int)
  /-- R693: Every 1 s while locked the LFO rate of the present bin is measured. -/
  | lfoRateMeasure (dev : Int)
  /-- R700: No TIME or SCHED within G + 160 µs of a guard wake starts SEARCH. -/
  | searchEntry
  /-- R701: SEARCH runs out of time and the die sets LOST. -/
  | searchExpired
  /-- R702: A LOST die wakes every RETRY seconds for a 10 ms SEARCH. -/
  | lostRetry
  /-- R703: 400 µs after a foreign WAKE without TIME, the die relays WAKE upstream. -/
  | wakeRelay
  /-- R703: A relaying die's 50 ms stay-awake ends. -/
  | relayHoldEnd
  /-- R706: Die temperature and VSTK are sampled and crossings raise MONITOR. -/
  | monitorSample (temp : Int) (vstk : Nat)
  /-- R707: HFO is compared with SFO or WDO and a deviation resets the die. -/
  | clockMonitor (dev : Int)
  /-- R709: A write to CLK_WDKICK restarts the watchdog, or expires it on a wrong key. -/
  | wdkick (m : Master) (key : BitVec 16)
  /-- R709: At 75 % of the timeout the watchdog raises WDOG_WARN. -/
  | wdogWarn
  /-- R711: The watchdog expires and resets the sequencer or raises WDOG. -/
  | watchdogExpiry
  /-- R710: Still below DOZE SLPMAX after the target expires the watchdog. -/
  | sleepLimitExpiry
  /-- R713: The energy ledger adds state charge and work at fused values, `n` ticks after it did last. -/
  | ledgerUpdate (n : Nat)
  /-- R719: CS_N falls, a transaction starts and a sleeping die wakes. -/
  | hostSelect
  /-- R723: A NOP transaction returns STATUS only. -/
  | hostNop (cmd : Word) (addr : Word)
  /-- R726: A READ returns words from one region with RSTAT and RCRC. -/
  | hostRead (cmd : Word) (addr : Word) (late : List Nat)
  /-- R731: A WRITE is judged at the last WCRC edge and commits or is discarded. -/
  | hostWrite (cmd : Word) (addr : Word) (rest : List Word)
  /-- R741: An SREAD takes words from an output stream. -/
  | hostSread (cmd : Word) (addr : Word)
  /-- R731: An SWRITE appends whole messages to an input stream. -/
  | hostSwrite (cmd : Word) (addr : Word) (rest : List Word)
  /-- R734: CS_N rises and the transaction is completed, partial or trailing. -/
  | hostDeselect (edges : Nat)
  /-- R733: A committed host write takes effect on its registers or memory. -/
  | hostWriteApply
  /-- R744: A MSGIN message enters the receive queue once it has room. -/
  | msginDeliver
  /-- R746: A WININ answer is taken by the window unit. -/
  | wininAnswer
  /-- R747: A host write to HOST_BELL ORs its code and raises DOORBELL. -/
  | hostBell (m : Master) (code : BitVec 16)
  /-- R748: A context write to HOST_BELLOUT ORs its code and alerts the host. -/
  | hostBellout (m : Master) (code : BitVec 16)
  /-- R745: HOST_MOUT_CTL.GO copies a message into MSGOUT. -/
  | hostMoutGo (m : Master) (v : Word)
  /-- R767: VAON below 0.85 V resets the die. -/
  | porReset (asserted : Bool)
  /-- R686: A lifeline group in SHIP starts the die as a power-on reset. -/
  | shipWake
  /-- R767: A rail below its brownout threshold for 2 µs resets the die. -/
  | brownout (asserted : Bool)
  /-- R768: RESET_N low for at least 1 µs, or TESTEN high, resets the die. -/
  | pinReset (asserted : Bool)
  /-- R776: A test-access instruction other than BYPASS, IDCODE or SAMPLE holds the die in reset. -/
  | tapReset (ir : TapInstr)
  /-- R767: SYS_CTL.RESET with key 0xD1E5 resets the die. -/
  | softReset (m : Master) (key : BitVec 16)
  /-- R768: 10 µs after the last source ends, start-up begins. -/
  | resetEnd
  /-- R774: Fuses and trims load and are CRC-checked, or reload every 100 ms. -/
  | fuseLoadDone (ok : Bool) (uid : BitVec 64) (rev : BitVec 8) (tref : BitVec 24)
  /-- R772: ROLE straps are read in two phases, or again every 100 ms if open. -/
  | strapRead (role0 : Option Bool) (role1 : Option Bool)
  /-- R774: The SRAM march test ends and failing banks are recorded. -/
  | sramMarchDone (bad : BitVec 4)
  /-- R774: VREF and SREF are compared against DREF. -/
  | referenceCheckDone (bad : Bool)
  /-- R761: V5IN crossing its thresholds moves the loads between V5IN and VHV. -/
  | supplySwitchover (mv : Nat)
  /-- R766: VCOIL below 10.8 V holds HSA, HSB off and TPOA, TPOB low. -/
  | vcoilLow
  /-- R764: VHOLD crosses 7.0 V and HOLDUP_OK changes. -/
  | holdupOkChange (mv : Nat)
  /-- R385: A port finishes sending a frame's EOF: a frame without ACKREQ completes its tag in PORT_TXDONE and raises TX_DONE, a frame with ACKREQ starts its 40 µs ACK timer, the side bit is consumed and the next frame is chosen under Table 9-6. -/
  | frameEofSent (p : Port)
  /-- R766: VCOIL rises back to 10.8 V or above, SYS_SUPPLY.COIL_OK sets and channel B stops holding HSA, HSB off and TPOA, TPOB low. -/
  | vcoilReturn
  deriving DecidableEq, Repr

end Sys2Proof
end

