-- ==== Sys2Proof/Decode.lean ====
section
/-! DEFINITION. Commands spelt by the opcode table's bits. No row of the table gives bits (each row's "fields" is empty), so no
word spells a command. Reading a Basvo instruction word is Machine/Fetch.lean's `decodeWord`. -/

namespace Sys2Proof

def decodeTableWord (_nbits _w : Nat) : Option Instr := none

end Sys2Proof
end

