-- ==== Sys2Proof/Config.lean ====
section
/-! DEFINITION. What one implementation or one moment fixes and the spec leaves open: free values without a body,
so that no proof can see what they are (log 5). -/

namespace Sys2Proof.Config

/-- The random part of a pause, in µs, by the state's free-value counter (R408: 0 to 255; R412: 100 to 400). The
model takes it modulo the range the rule gives. -/
opaque randomPause : Nat → Nat

/-- How many ones the coulomb modulator gives over a span of time, by the free-value counter and the number of modulator periods (R242);
the model takes no more than there are periods. -/
opaque modulatorOnes : Nat → Nat → Nat

/-- The LFO's deviation from nominal in 0.1 ppm while the die sleeps, by the free-value counter; the model takes it within the 2 % of
Table 16-1. -/
opaque lfoDev : Nat → Int

/-- The fused energy, in 10⁻¹⁸ J, that one unit of work of a kind costs (R713, R803): 5 a Sketch, 6 a Study conversion, 7 a transmitter's
bit time, 9 an NVM sector write; for 8, a lifeline pulse, the fused charge in 10⁻¹⁸ C; the model takes no more than Table 20-4 allows. -/
opaque ledgerCost : Nat → Nat

/-- Whether an exact quotient that is not whole is rounded up, by its numerator and denominator, where the spec gives
a formula and no rounding (R279, R342, R345, R268). -/
opaque roundUp : Int → Nat → Bool

/-- The quotient by RACK_RSHUNT or MEAS_RF where the divisor is 0: no rule states it. -/
opaque byZero : Int → Int

/-- PRIO of a frame of a type that hardware builds and whose PRIO no rule states: ANNOUNCE, the Primer's messages and the
directed replies, SCHED, TIME, LOAD_STATUS, XCHG, by TYPE. The model takes it modulo 8. -/
opaque hwPrio : Nat → Nat

/-- ACKREQ of the frames that hardware builds and whose ACKREQ no rule states, by TYPE. -/
opaque hwAck : Nat → Bool

/-- DEST of the directed replies that hardware builds: no rule states it, and no node reads it. -/
opaque replyDest : BitVec 16

/-- A byte of NVM that no rule states: of a sector whose write failed or was cut off, or of an image's last sector beyond
the image; by the free-value counter and its address. -/
opaque tornByte : Nat → Nat → Byte

/-- What a tombstone row holds after a burn that a power-on reset cut off, by the free-value counter (R765). -/
opaque tornRow : Nat → BitVec 64

/-- Clock domains whose running is momentary, as a read of CLK_DOM finds them, by the free-value counter: [3:0] CD07 to CD10, [4] an NVM
read, [5] CD59. -/
opaque momentary : Nat → BitVec 6

/-- How many words of background work the scan engine is given while the core takes a step, by the free-value counter (R475). -/
opaque scanWords : Nat → Nat

/-- How many words of a committed host WRITE are written while the core takes a step, by the free-value counter (R732). -/
opaque hostWords : Nat → Nat

/-- How long an operation of the safety-frame unit, or a copy to MSGOUT, takes, by the free-value counter (R586, R591, R745); the model
takes it modulo the greatest time of the rule. -/
opaque opTicks : Nat → Nat

/-- What a Primer's checker finds while time passes, by the free-value counter: [2p] bit errors, [2p + 1] losses of synchronisation on
port p (R465); the model takes no more errors than bits, and keeps the losses within what the errors allow. -/
opaque lineErrors : Nat → Nat → Nat

/-- How far the measured current of a coil in PICKUP (2) or HOLD (3) stands above its lowest regulated value, in mA, by the free-value
counter (R558); the model takes it modulo the width of the 10 % band. -/
opaque coilBand : Nat → Nat → Nat

/-- Where in SRAM bank 3 a received chunk is staged, by the free-value counter and the chunk's number (R108); the model takes
it among the bank's 512 places of 32 bytes that hold no staged chunk. -/
opaque stageAt : Nat → Nat → Nat

/-- Which free transmit slot a SEND takes, by the free-value counter; the model takes it modulo the number of free slots. -/
opaque slotChoice : Nat → Nat

/-- LSEQ and arrival port of a frame that never leaves its die (R424), as RECV shows them, by the free-value counter. -/
opaque ownLseq : Nat → BitVec 16
opaque ownPort : Nat → Nat

end Sys2Proof.Config
end

