-- ==== Sys2Proof/Machine/Regs.lean ====
section
/-! DEFINITION. The register tables of every chapter (Tables 5-10 to 5-21, 6-6 to 6-13, 7-7, 7-8, 8-3 to 8-5,
9-15 to 9-18, 10-13 to 10-15, 11-4, 11-5, 12-7, 13-15 to 13-18, 14-12, 14-13, 15-13 to 15-15, 16-9, 16-10,
17-10, 17-11, 18-11): each named field's place, and each register's access codes and reset value (R10, R12, R819).

A register's key is its offset from 0x4000_0000; a register behind a selector adds 0x1_0000 for each channel
(R96, R97), and a WIN register's channel is 8 x context + window (R225). The CTX page's registers are typed state. -/

namespace Sys2Proof.Machine

/-- A named register field: the key of its register's first instance, the distance to the next instance, its
lowest bit and its width. -/
structure Fld where
  base : Nat
  stride : Nat
  lo : Nat
  width : Nat
  deriving DecidableEq, Repr

/-- Access codes of Table 0-2 (R10); the last three are RW on the roles named and RO elsewhere. -/
inductive Access where
  | ro | rw | w1c | w1s | rc | wo | rs | rwCellJunction | rwJunction | rwManager
  deriving DecidableEq, Repr

/-- One field of a register table row. -/
structure FieldDesc where
  lo : Nat
  width : Nat
  acc : Access
  deriving DecidableEq, Repr

/-- One register (or array of registers): first key, distance, count, CTX0-only mark (R72), named fields. -/
structure RegDesc where
  off : Nat
  stride : Nat
  count : Nat
  ctx0 : Bool
  fields : List FieldDesc
  deriving DecidableEq, Repr

namespace Reg

def SYS_ID.PART : Fld := ⟨0x0000, 0x0, 0, 16⟩
def SYS_ID.REV : Fld := ⟨0x0000, 0x0, 16, 8⟩
def SYS_UID_LO.UID : Fld := ⟨0x0004, 0x0, 0, 32⟩
def SYS_UID_HI.UID : Fld := ⟨0x0008, 0x0, 0, 32⟩
def SYS_ROLE.ROLE : Fld := ⟨0x000C, 0x0, 0, 2⟩
def SYS_RSTCAUSE.CAUSES : Fld := ⟨0x0010, 0x0, 0, 7⟩
def SYS_RSTCAUSE.PRIMARY : Fld := ⟨0x0010, 0x0, 8, 4⟩
def SYS_RSTCNT.DIE : Fld := ⟨0x0014, 0x0, 0, 16⟩
def SYS_RSTCNT.SEQ : Fld := ⟨0x0014, 0x0, 16, 16⟩
def SYS_BIST.SRAM : Fld := ⟨0x0018, 0x0, 0, 4⟩
def SYS_BIST.REF : Fld := ⟨0x0018, 0x0, 4, 1⟩
def SYS_SUPPLY.V5 : Fld := ⟨0x001C, 0x0, 0, 1⟩
def SYS_SUPPLY.COIL_OK : Fld := ⟨0x001C, 0x0, 1, 1⟩
def SYS_SUPPLY.VHOLD : Fld := ⟨0x001C, 0x0, 16, 12⟩
def SYS_CTL.RESET : Fld := ⟨0x0020, 0x0, 0, 1⟩
def SYS_CTL.KEY : Fld := ⟨0x0020, 0x0, 16, 16⟩
def CLK_ST.LAST : Fld := ⟨0x1000, 0x0, 0, 3⟩
def CLK_ST.SEARCH : Fld := ⟨0x1000, 0x0, 3, 1⟩
def CLK_ST.LOST : Fld := ⟨0x1000, 0x0, 4, 1⟩
def CLK_ST.GSAT : Fld := ⟨0x1000, 0x0, 5, 1⟩
def CLK_ST.HFOCOLD : Fld := ⟨0x1000, 0x0, 6, 1⟩
def CLK_ST.RELAY : Fld := ⟨0x1000, 0x0, 7, 1⟩
def CLK_ST.UNLEARNED : Fld := ⟨0x1000, 0x0, 8, 1⟩
def CLK_CFG.STAYUP : Fld := ⟨0x1004, 0x0, 0, 1⟩
def CLK_CFG.SRCH : Fld := ⟨0x1004, 0x0, 1, 1⟩
def CLK_GMIN.US : Fld := ⟨0x1008, 0x0, 0, 14⟩
def CLK_GUARD.LEARNED : Fld := ⟨0x100C, 0x0, 0, 14⟩
def CLK_GUARD.EFFECTIVE : Fld := ⟨0x100C, 0x0, 16, 14⟩
def CLK_LASTERR.CORR : Fld := ⟨0x1010, 0x0, 0, 32⟩
def CLK_RESID.PPM : Fld := ⟨0x1014, 0x0, 0, 16⟩
def CLK_SLEPT.MS : Fld := ⟨0x1018, 0x0, 0, 32⟩
def CLK_SRCHCFG.RETRY : Fld := ⟨0x101C, 0x0, 0, 8⟩
def CLK_SRCHCFG.MAX : Fld := ⟨0x101C, 0x0, 8, 8⟩
def CLK_WAKESRC.SRC : Fld := ⟨0x1020, 0x0, 0, 6⟩
def CLK_RETAIN.BANKS : Fld := ⟨0x1024, 0x0, 0, 4⟩
def CLK_WDCFG.EN : Fld := ⟨0x1030, 0x0, 0, 1⟩
def CLK_WDCFG.TMO : Fld := ⟨0x1030, 0x0, 8, 8⟩
def CLK_WDCFG.SLPMAX : Fld := ⟨0x1030, 0x0, 16, 16⟩
def CLK_WDKICK.KEY : Fld := ⟨0x1034, 0x0, 0, 16⟩
def CLK_WDST.COUNT : Fld := ⟨0x1038, 0x0, 0, 16⟩
def CLK_WDST.WARN : Fld := ⟨0x1038, 0x0, 16, 1⟩
def CLK_WDST.SLPLIM : Fld := ⟨0x1038, 0x0, 17, 1⟩
def CLK_MONCFG.THI : Fld := ⟨0x1040, 0x0, 0, 8⟩
def CLK_MONCFG.TLO : Fld := ⟨0x1040, 0x0, 8, 8⟩
def CLK_MONCFG.VLO : Fld := ⟨0x1040, 0x0, 16, 16⟩
def CLK_MONST.NOW : Fld := ⟨0x1044, 0x0, 0, 3⟩
def CLK_MONST.CROSSED : Fld := ⟨0x1044, 0x0, 8, 3⟩
def CLK_TEMP.MC : Fld := ⟨0x1048, 0x0, 0, 32⟩
def CLK_QLED_LO.VALUE : Fld := ⟨0x1050, 0x0, 0, 32⟩
def CLK_QLED_HI.VALUE : Fld := ⟨0x1054, 0x0, 0, 32⟩
def CLK_ELED_LO.VALUE : Fld := ⟨0x1058, 0x0, 0, 32⟩
def CLK_ELED_HI.VALUE : Fld := ⟨0x105C, 0x0, 0, 32⟩
def CLK_DOM0.RUN : Fld := ⟨0x1060, 0x0, 0, 32⟩
def CLK_DOM1.RUN : Fld := ⟨0x1064, 0x0, 0, 28⟩
def CLK_LFOBIN.RATE : Fld := ⟨0x1100, 0x4, 0, 20⟩
def CLK_LFOBIN.TUPD : Fld := ⟨0x1100, 0x4, 20, 8⟩
def CLK_LFOBIN.VALID : Fld := ⟨0x1100, 0x4, 31, 1⟩
def MEAS_CFG.GR : Fld := ⟨0x2000, 0x0, 0, 1⟩
def MEAS_CFG.ICONT : Fld := ⟨0x2000, 0x0, 1, 1⟩
def MEAS_CFG.COUL_GAP : Fld := ⟨0x2000, 0x0, 2, 1⟩
def MEAS_BUSY.CONV : Fld := ⟨0x2004, 0x0, 0, 16⟩
def MEAS_BUSY.ARMED : Fld := ⟨0x2004, 0x0, 16, 16⟩
def MEAS_DONEMASK.DONE : Fld := ⟨0x2008, 0x0, 0, 16⟩
def MEAS_QW.HELD : Fld := ⟨0x200C, 0x0, 0, 1⟩
def MEAS_QW.SHORT : Fld := ⟨0x200C, 0x0, 1, 1⟩
def MEAS_CALSRC.MASK : Fld := ⟨0x2010, 0x0, 0, 12⟩
def MEAS_CALSRC.SRC : Fld := ⟨0x2010, 0x0, 12, 2⟩
def MEAS_TREF.VALUE : Fld := ⟨0x2014, 0x0, 0, 24⟩
def MEAS_AUXCFG.SCAN : Fld := ⟨0x2020, 0x0, 0, 8⟩
def MEAS_AUXCFG.BIAS : Fld := ⟨0x2020, 0x0, 8, 1⟩
def MEAS_AUXCFG.RATIO : Fld := ⟨0x2020, 0x0, 9, 1⟩
def MEAS_AUXCFG.SETTLE : Fld := ⟨0x2020, 0x0, 16, 8⟩
def MEAS_AUXST.DONE : Fld := ⟨0x2024, 0x0, 0, 8⟩
def MEAS_AUXST.BIAS_SHORT : Fld := ⟨0x2024, 0x0, 8, 1⟩
def MEAS_AUXRES.RESULT : Fld := ⟨0x2040, 0x4, 0, 32⟩
def SENT_OV.CODE : Fld := ⟨0x2060, 0x0, 0, 10⟩
def SENT_UV.CODE : Fld := ⟨0x2064, 0x0, 0, 10⟩
def SENT_CFG.COUNT : Fld := ⟨0x2068, 0x0, 0, 4⟩
def SENT_CFG.MASK : Fld := ⟨0x2068, 0x0, 4, 12⟩
def SENT_CFG.WMAX : Fld := ⟨0x2068, 0x0, 16, 8⟩
def SENT_ST.OV : Fld := ⟨0x206C, 0x0, 0, 12⟩
def SENT_ST.UV : Fld := ⟨0x206C, 0x0, 16, 12⟩
def SENT_ST.CONFIRM : Fld := ⟨0x206C, 0x0, 28, 1⟩
def SENT_ST.CFGERR : Fld := ⟨0x206C, 0x0, 29, 1⟩
def SENT_LIVE.OV : Fld := ⟨0x2070, 0x0, 0, 12⟩
def SENT_LIVE.UV : Fld := ⟨0x2070, 0x0, 16, 12⟩
def MEAS_RF.OHMS : Fld := ⟨0x2074, 0x0, 0, 16⟩
def LEAK_CTL.START : Fld := ⟨0x2080, 0x0, 0, 1⟩
def LEAK_CTL.BUSY : Fld := ⟨0x2080, 0x0, 1, 1⟩
def LEAK_ST.LEAKY : Fld := ⟨0x2084, 0x0, 0, 12⟩
def LEAK_ST.SUSPECT : Fld := ⟨0x2084, 0x0, 16, 12⟩
def LEAK_ST.DONE : Fld := ⟨0x2084, 0x0, 28, 1⟩
def LEAK_ST.REFUSED : Fld := ⟨0x2084, 0x0, 29, 1⟩
def LEAK_NT.PIN : Fld := ⟨0x2088, 0x0, 0, 13⟩
def LEAK_PIN.I : Fld := ⟨0x2090, 0x4, 0, 16⟩
def OW_CTL.START : Fld := ⟨0x20D0, 0x0, 0, 1⟩
def OW_CTL.BUSY : Fld := ⟨0x20D0, 0x0, 1, 1⟩
def OW_ST.OPEN : Fld := ⟨0x20D4, 0x0, 0, 13⟩
def OW_ST.DONE : Fld := ⟨0x20D4, 0x0, 16, 1⟩
def OW_ST.REFUSED : Fld := ⟨0x20D4, 0x0, 17, 1⟩
def DIAG_CFG.TARGET : Fld := ⟨0x20E0, 0x0, 0, 5⟩
def DIAG_CFG.LIMIT : Fld := ⟨0x20E0, 0x0, 8, 16⟩
def DIAG_ST.MISMATCH : Fld := ⟨0x20E4, 0x0, 0, 1⟩
def DIAG_ST.NOCMP : Fld := ⟨0x20E4, 0x0, 1, 1⟩
def DIAG_ST.LAST : Fld := ⟨0x20E4, 0x0, 8, 5⟩
def MEAS_COUL_LO.VALUE : Fld := ⟨0x20F0, 0x0, 0, 32⟩
def MEAS_COUL_HI.VALUE : Fld := ⟨0x20F4, 0x0, 0, 32⟩
def MEAS_COULT_LO.VALUE : Fld := ⟨0x20F8, 0x0, 0, 32⟩
def MEAS_COULT_HI.VALUE : Fld := ⟨0x20FC, 0x0, 0, 32⟩
def MEAS_CHSEL.CH : Fld := ⟨0x2800, 0x0, 0, 4⟩
def MEAS_RESULT.VALUE : Fld := ⟨0x2804, 0x10000, 0, 24⟩
def MEAS_RESULT.STUDY : Fld := ⟨0x2804, 0x10000, 24, 1⟩
def MEAS_RESULT.OVR : Fld := ⟨0x2804, 0x10000, 25, 1⟩
def MEAS_RESULT.SUSPECT : Fld := ⟨0x2804, 0x10000, 26, 1⟩
def MEAS_RESULT.QW_SHORT : Fld := ⟨0x2804, 0x10000, 27, 1⟩
def MEAS_RESULT.BLEED_COMP : Fld := ⟨0x2804, 0x10000, 28, 1⟩
def MEAS_RESULT.SHUTTLE : Fld := ⟨0x2804, 0x10000, 29, 1⟩
def MEAS_RESULT.CAL : Fld := ⟨0x2804, 0x10000, 30, 1⟩
def MEAS_RESULT.LATE : Fld := ⟨0x2804, 0x10000, 31, 1⟩
def MEAS_STAMP.TICK : Fld := ⟨0x2808, 0x10000, 0, 32⟩
def MEAS_CALO.OFFSET : Fld := ⟨0x280C, 0x10000, 0, 24⟩
def MEAS_CALG.GAIN : Fld := ⟨0x2810, 0x10000, 0, 24⟩
def MEAS_WIDEN.W : Fld := ⟨0x2814, 0x10000, 0, 8⟩
def RT_NOW_LO.TIME : Fld := ⟨0x3000, 0x0, 0, 32⟩
def RT_NOW_HI.TIME : Fld := ⟨0x3004, 0x0, 0, 16⟩
def RT_NOW_HI.EPOCH : Fld := ⟨0x3004, 0x0, 16, 8⟩
def RT_NOW_HI.FRAC : Fld := ⟨0x3004, 0x0, 24, 6⟩
def RT_CFG.PER : Fld := ⟨0x3008, 0x0, 0, 12⟩
def RT_CFG.TGEN : Fld := ⟨0x3008, 0x0, 12, 4⟩
def RT_CFG.TLEAD : Fld := ⟨0x3008, 0x0, 16, 8⟩
def RT_CFG.STALE : Fld := ⟨0x3008, 0x0, 24, 4⟩
def RT_CFG.TSNAP : Fld := ⟨0x3008, 0x0, 28, 1⟩
def RT_ST.SET : Fld := ⟨0x300C, 0x0, 0, 1⟩
def RT_ST.LOCKED : Fld := ⟨0x300C, 0x0, 1, 1⟩
def RT_ST.ORIGIN : Fld := ⟨0x300C, 0x0, 2, 1⟩
def RT_ST.BACK : Fld := ⟨0x300C, 0x0, 3, 1⟩
def RT_ST.OVF : Fld := ⟨0x300C, 0x0, 4, 1⟩
def RT_ST.PORT : Fld := ⟨0x300C, 0x0, 8, 2⟩
def RT_ST.XLINK : Fld := ⟨0x300C, 0x0, 10, 1⟩
def RT_LASTCORR.CORR : Fld := ⟨0x3010, 0x0, 0, 32⟩
def RT_AGE.TICKS : Fld := ⟨0x3014, 0x0, 0, 32⟩
def RT_XDIFF.DIFF : Fld := ⟨0x3018, 0x0, 0, 32⟩
def SCHED_BAD.COUNT : Fld := ⟨0x301C, 0x0, 0, 32⟩
def RT_LINKDLY.DELAY : Fld := ⟨0x3020, 0x4, 0, 24⟩
def RT_LINKDLY.VALID : Fld := ⟨0x3020, 0x4, 31, 1⟩
def RTC_ST.ARMED : Fld := ⟨0x3030, 0x0, 0, 4⟩
def RTC_ST.MATCH : Fld := ⟨0x3030, 0x0, 8, 4⟩
def RTC_ST.PAST : Fld := ⟨0x3030, 0x0, 16, 4⟩
def RTC_ST.JUMP : Fld := ⟨0x3030, 0x0, 24, 4⟩
def RTC_CTL.DISARM : Fld := ⟨0x3034, 0x0, 0, 4⟩
def RTC_LO.TIME : Fld := ⟨0x3040, 0x8, 0, 32⟩
def RTC_HI.TIME : Fld := ⟨0x3044, 0x8, 0, 16⟩
def RTC_HI.EPOCH : Fld := ⟨0x3044, 0x8, 16, 8⟩
def RTC_HI.EPV : Fld := ⟨0x3044, 0x8, 31, 1⟩
def SNAP_CTL.GO : Fld := ⟨0x3060, 0x0, 0, 1⟩
def SNAP_CTL.RTC : Fld := ⟨0x3060, 0x0, 1, 2⟩
def SNAP_CTL.TRIP_REL : Fld := ⟨0x3060, 0x0, 3, 1⟩
def SNAP_CTL.ACK : Fld := ⟨0x3060, 0x0, 4, 1⟩
def SNAP_ST.LAST : Fld := ⟨0x3064, 0x0, 0, 16⟩
def SNAP_ST.FROZEN : Fld := ⟨0x3064, 0x0, 16, 1⟩
def SNAP_ST.OVW : Fld := ⟨0x3064, 0x0, 17, 1⟩
def SNAP_ST.TRIP2 : Fld := ⟨0x3064, 0x0, 18, 1⟩
def SNAP_ST.MISSED : Fld := ⟨0x3064, 0x0, 19, 1⟩
def SNAP_ST.REFUSED : Fld := ⟨0x3064, 0x0, 20, 1⟩
def SNAP_ST.PENDING : Fld := ⟨0x3064, 0x0, 21, 1⟩
def SNAP_NEXT.NUMBER : Fld := ⟨0x3068, 0x0, 0, 15⟩
def SNAP_NEXT.RACK : Fld := ⟨0x3068, 0x0, 15, 1⟩
def SNAP_BANK0.WORD : Fld := ⟨0x3400, 0x4, 0, 32⟩
def SNAP_BANK1.WORD : Fld := ⟨0x3C00, 0x4, 0, 32⟩
def BAL_CFG.PARK : Fld := ⟨0x4000, 0x0, 0, 1⟩
def BAL_CFG.QWEV : Fld := ⟨0x4000, 0x0, 1, 1⟩
def BAL_ACTIVE.OP : Fld := ⟨0x4004, 0x0, 0, 6⟩
def BAL_ACTIVE.PAUSED : Fld := ⟨0x4004, 0x0, 8, 6⟩
def BAL_BLEED.CLOSED : Fld := ⟨0x4008, 0x0, 0, 12⟩
def BAL_BLEED.BDONE : Fld := ⟨0x4008, 0x0, 16, 12⟩
def BAL_BLEED.HELD : Fld := ⟨0x4008, 0x0, 28, 1⟩
def BAL_BLEED.REFUSED : Fld := ⟨0x4008, 0x0, 29, 1⟩
def BAL_BDUTY.DUTY : Fld := ⟨0x400C, 0x0, 0, 8⟩
def BAL_ZVMAX.MV : Fld := ⟨0x4010, 0x0, 0, 8⟩
def BAL_RT.R : Fld := ⟨0x4040, 0x4, 0, 16⟩
def BAL_IB.I : Fld := ⟨0x4080, 0x4, 0, 16⟩
def BAL_BT.LEFT : Fld := ⟨0x40C0, 0x4, 0, 32⟩
def BAL_QC_LO.VALUE : Fld := ⟨0x4100, 0x10, 0, 32⟩
def BAL_QC_HI.VALUE : Fld := ⟨0x4104, 0x10, 0, 32⟩
def BAL_QB_LO.VALUE : Fld := ⟨0x4108, 0x10, 0, 32⟩
def BAL_QB_HI.VALUE : Fld := ⟨0x410C, 0x10, 0, 32⟩
def BAL_SEL.SHUTTLE : Fld := ⟨0x4800, 0x0, 0, 3⟩
def BAL_ST.OP : Fld := ⟨0x4804, 0x10000, 0, 2⟩
def BAL_ST.CELL : Fld := ⟨0x4804, 0x10000, 2, 1⟩
def BAL_ST.PAUSED : Fld := ⟨0x4804, 0x10000, 3, 1⟩
def BAL_ST.SUSPENDED : Fld := ⟨0x4804, 0x10000, 4, 1⟩
def BAL_ST.SUPPLY : Fld := ⟨0x4804, 0x10000, 5, 1⟩
def BAL_ST.CLAMP_NOW : Fld := ⟨0x4804, 0x10000, 6, 1⟩
def BAL_ST.CLAMPED : Fld := ⟨0x4804, 0x10000, 7, 1⟩
def BAL_ST.DONE : Fld := ⟨0x4804, 0x10000, 8, 1⟩
def BAL_ST.VLIM : Fld := ⟨0x4804, 0x10000, 9, 1⟩
def BAL_ST.TRIPSTOP : Fld := ⟨0x4804, 0x10000, 10, 1⟩
def BAL_ST.REPLACED : Fld := ⟨0x4804, 0x10000, 11, 1⟩
def BAL_ST.HALTED : Fld := ⟨0x4804, 0x10000, 12, 1⟩
def BAL_ST.REFUSED : Fld := ⟨0x4804, 0x10000, 13, 1⟩
def BAL_ST.LIMIT : Fld := ⟨0x4804, 0x10000, 14, 2⟩
def BAL_TARGET.UC : Fld := ⟨0x4808, 0x10000, 0, 32⟩
def BAL_DONE.UC : Fld := ⟨0x480C, 0x10000, 0, 32⟩
def BAL_LEFT.UC : Fld := ⟨0x4810, 0x10000, 0, 32⟩
def BAL_CUR.APPLIED : Fld := ⟨0x4814, 0x10000, 0, 16⟩
def BAL_CUR.BOUND : Fld := ⟨0x4814, 0x10000, 16, 16⟩
def BAL_CEIL.MA : Fld := ⟨0x4818, 0x10000, 0, 11⟩
def BAL_TIND.MC : Fld := ⟨0x481C, 0x10000, 0, 32⟩
def BAL_Z.ZMEAS0 : Fld := ⟨0x4820, 0x10000, 0, 16⟩
def BAL_Z.ZMEAS1 : Fld := ⟨0x4820, 0x10000, 16, 16⟩
def BAL_ZMIN.FLOOR0 : Fld := ⟨0x4824, 0x10000, 0, 16⟩
def BAL_ZMIN.FLOOR1 : Fld := ⟨0x4824, 0x10000, 16, 16⟩
def BAL_SHORT.UC : Fld := ⟨0x4828, 0x10000, 0, 32⟩
def PORT_TXDONE.DONE : Fld := ⟨0x5000, 0x0, 1, 15⟩
def PORT_TXFAIL.FAIL : Fld := ⟨0x5004, 0x0, 1, 15⟩
def PORT_SUMMARY.UP : Fld := ⟨0x5008, 0x0, 0, 4⟩
def PORT_SUMMARY.ASLEEP : Fld := ⟨0x5008, 0x0, 4, 4⟩
def PORT_SUMMARY.DOWN : Fld := ⟨0x5008, 0x0, 8, 4⟩
def PORT_SUMMARY.FENCED : Fld := ⟨0x5008, 0x0, 12, 4⟩
def PORT_SEL.PORT : Fld := ⟨0x5800, 0x0, 0, 2⟩
def PORT_CTL.EN : Fld := ⟨0x5804, 0x10000, 0, 1⟩
def PORT_CTL.AUTOSTART : Fld := ⟨0x5804, 0x10000, 1, 1⟩
def PORT_CTL.START : Fld := ⟨0x5804, 0x10000, 2, 1⟩
def PORT_CTL.WAKE : Fld := ⟨0x5804, 0x10000, 3, 1⟩
def PORT_ST.STATE : Fld := ⟨0x5808, 0x10000, 0, 3⟩
def PORT_ST.FENCED : Fld := ⟨0x5808, 0x10000, 3, 1⟩
def PORT_ST.SIDE_BUSY : Fld := ⟨0x5808, 0x10000, 4, 1⟩
def PORT_ST.ALARM_TX : Fld := ⟨0x5808, 0x10000, 5, 1⟩
def PORT_ST.P_ABSENT : Fld := ⟨0x5808, 0x10000, 8, 1⟩
def PORT_ST.P_EARLY : Fld := ⟨0x5808, 0x10000, 9, 1⟩
def PORT_ST.P_LATE : Fld := ⟨0x5808, 0x10000, 10, 1⟩
def PORT_ST.P_DOUBLE : Fld := ⟨0x5808, 0x10000, 11, 1⟩
def PORT_ST.STARTFAIL : Fld := ⟨0x5808, 0x10000, 12, 1⟩
def PORT_ST.LOST : Fld := ⟨0x5808, 0x10000, 13, 1⟩
def PORT_ST.LL_WAKE : Fld := ⟨0x5808, 0x10000, 14, 1⟩
def PORT_ST.LL_ALARM : Fld := ⟨0x5808, 0x10000, 15, 1⟩
def PORT_ST.SIDE_RX : Fld := ⟨0x5808, 0x10000, 16, 1⟩
def PORT_ST.SIDE_OVR : Fld := ⟨0x5808, 0x10000, 17, 1⟩
def PORT_ST.SIDE_REJ : Fld := ⟨0x5808, 0x10000, 18, 1⟩
def PORT_ST.COLLIDE : Fld := ⟨0x5808, 0x10000, 19, 1⟩
def PORT_ST.FAILS : Fld := ⟨0x5808, 0x10000, 20, 2⟩
def PORT_LSEQ.LAST_TX : Fld := ⟨0x580C, 0x10000, 0, 16⟩
def PORT_LSEQ.LAST_RX : Fld := ⟨0x580C, 0x10000, 16, 16⟩
def PORT_PRES.DELAY : Fld := ⟨0x5810, 0x10000, 0, 16⟩
def PORT_PRES.WIDTH : Fld := ⟨0x5810, 0x10000, 16, 8⟩
def PORT_PRES.PEAK : Fld := ⟨0x5810, 0x10000, 24, 8⟩
def PORT_SIDETX_LO.VALUE : Fld := ⟨0x5814, 0x10000, 0, 32⟩
def PORT_SIDETX_HI.VALUE : Fld := ⟨0x5818, 0x10000, 0, 8⟩
def PORT_SIDETX_HI.KIND : Fld := ⟨0x5818, 0x10000, 8, 8⟩
def PORT_SIDETX_HI.GO : Fld := ⟨0x5818, 0x10000, 16, 1⟩
def PORT_SIDERX_LO.VALUE : Fld := ⟨0x581C, 0x10000, 0, 32⟩
def PORT_SIDERX_HI.VALUE : Fld := ⟨0x5820, 0x10000, 0, 8⟩
def PORT_SIDERX_HI.KIND : Fld := ⟨0x5820, 0x10000, 8, 8⟩
def PORT_FRX_LO.COUNT : Fld := ⟨0x5830, 0x10000, 0, 32⟩
def PORT_FRX_HI.COUNT : Fld := ⟨0x5834, 0x10000, 0, 16⟩
def PORT_FTX_LO.COUNT : Fld := ⟨0x5838, 0x10000, 0, 32⟩
def PORT_FTX_HI.COUNT : Fld := ⟨0x583C, 0x10000, 0, 16⟩
def PORT_CODE.COUNT : Fld := ⟨0x5840, 0x10000, 0, 32⟩
def PORT_CRC.COUNT : Fld := ⟨0x5844, 0x10000, 0, 32⟩
def PORT_POISON.COUNT : Fld := ⟨0x5848, 0x10000, 0, 32⟩
def PORT_FORMAT.COUNT : Fld := ⟨0x584C, 0x10000, 0, 32⟩
def PORT_ABORTS.COUNT : Fld := ⟨0x5850, 0x10000, 0, 32⟩
def PORT_DUP.COUNT : Fld := ⟨0x5854, 0x10000, 0, 32⟩
def PORT_STALE.COUNT : Fld := ⟨0x5858, 0x10000, 0, 32⟩
def PORT_BUSY.COUNT : Fld := ⟨0x585C, 0x10000, 0, 32⟩
def PORT_RETRY.COUNT : Fld := ⟨0x5860, 0x10000, 0, 32⟩
def PORT_TXFAILC.COUNT : Fld := ⟨0x5864, 0x10000, 0, 32⟩
def PORT_DROP.COUNT : Fld := ⟨0x5868, 0x10000, 0, 32⟩
def PORT_LOSTC.COUNT : Fld := ⟨0x586C, 0x10000, 0, 32⟩
def PORT_SIDEBAD.COUNT : Fld := ⟨0x5870, 0x10000, 0, 32⟩
def PORT_LLNOISE.COUNT : Fld := ⟨0x5874, 0x10000, 0, 32⟩
def PORT_LLBAD.COUNT : Fld := ⟨0x5878, 0x10000, 0, 32⟩
def FAB_ADDR.ADDR : Fld := ⟨0x6000, 0x0, 0, 16⟩
def FAB_ADDR.VALID : Fld := ⟨0x6000, 0x0, 16, 1⟩
def FAB_ADDR.SOURCE : Fld := ⟨0x6000, 0x0, 17, 1⟩
def FAB_RACKID.ID : Fld := ⟨0x6004, 0x0, 0, 32⟩
def FAB_CFG.DEFHOPS : Fld := ⟨0x6008, 0x0, 0, 6⟩
def FAB_CFG.REVERT : Fld := ⟨0x6008, 0x0, 8, 1⟩
def FAB_CFG.HOLD : Fld := ⟨0x6008, 0x0, 12, 4⟩
def FAB_CFG.PRIMER_EN : Fld := ⟨0x6008, 0x0, 16, 1⟩
def FAB_UP.PRIM : Fld := ⟨0x600C, 0x0, 0, 2⟩
def FAB_UP.PRIMV : Fld := ⟨0x600C, 0x0, 2, 1⟩
def FAB_UP.SEC : Fld := ⟨0x600C, 0x0, 4, 2⟩
def FAB_UP.SECV : Fld := ⟨0x600C, 0x0, 6, 1⟩
def FAB_UP.ACTIVE : Fld := ⟨0x600C, 0x0, 8, 2⟩
def FAB_UP.ONSEC : Fld := ⟨0x600C, 0x0, 10, 1⟩
def FAB_UP.NONE : Fld := ⟨0x600C, 0x0, 11, 1⟩
def FAB_ST.FAILOVER : Fld := ⟨0x6010, 0x0, 0, 1⟩
def FAB_ST.FAILBACK : Fld := ⟨0x6010, 0x0, 1, 1⟩
def FAB_ST.PLANERR : Fld := ⟨0x6010, 0x0, 2, 1⟩
def FAB_ST.ASSIGNED : Fld := ⟨0x6010, 0x0, 3, 1⟩
def FAB_PLANDIG.DIG : Fld := ⟨0x6014, 0x0, 0, 32⟩
def FAB_CTL.RECHECK : Fld := ⟨0x6018, 0x0, 0, 4⟩
def FAB_QMAP0.CTX0 : Fld := ⟨0x6020, 0x0, 0, 3⟩
def FAB_QMAP0.CTX1 : Fld := ⟨0x6020, 0x0, 3, 3⟩
def FAB_QMAP0.CTX2 : Fld := ⟨0x6020, 0x0, 6, 3⟩
def FAB_QMAP0.CTX3 : Fld := ⟨0x6020, 0x0, 9, 3⟩
def FAB_QMAP0.CTX4 : Fld := ⟨0x6020, 0x0, 12, 3⟩
def FAB_QMAP0.CTX5 : Fld := ⟨0x6020, 0x0, 15, 3⟩
def FAB_QMAP0.CTX6 : Fld := ⟨0x6020, 0x0, 18, 3⟩
def FAB_QMAP0.CTX7 : Fld := ⟨0x6020, 0x0, 21, 3⟩
def FAB_QMAP1.CTX8 : Fld := ⟨0x6024, 0x0, 0, 3⟩
def FAB_QMAP1.CTX9 : Fld := ⟨0x6024, 0x0, 3, 3⟩
def FAB_QMAP1.CTX10 : Fld := ⟨0x6024, 0x0, 6, 3⟩
def FAB_QMAP1.CTX11 : Fld := ⟨0x6024, 0x0, 9, 3⟩
def FAB_QMAP1.CTX12 : Fld := ⟨0x6024, 0x0, 12, 3⟩
def FAB_QMAP1.CTX13 : Fld := ⟨0x6024, 0x0, 15, 3⟩
def FAB_QMAP1.CTX14 : Fld := ⟨0x6024, 0x0, 18, 3⟩
def FAB_QMAP1.CTX15 : Fld := ⟨0x6024, 0x0, 21, 3⟩
def FAB_NOROUTE.COUNT : Fld := ⟨0x6040, 0x0, 0, 32⟩
def FAB_UTURN.COUNT : Fld := ⟨0x6044, 0x0, 0, 32⟩
def FAB_HOPDROP.COUNT : Fld := ⟨0x6048, 0x0, 0, 32⟩
def FAB_FENCEDROP.COUNT : Fld := ⟨0x604C, 0x0, 0, 32⟩
def FAB_BCEND.COUNT : Fld := ⟨0x6050, 0x0, 0, 32⟩
def FAB_SCOPEBAD.COUNT : Fld := ⟨0x6054, 0x0, 0, 32⟩
def FAB_QFULL.COUNT : Fld := ⟨0x6058, 0x0, 0, 32⟩
def FAB_CHK.CHECK : Fld := ⟨0x6100, 0x20, 0, 2⟩
def FAB_CHK.CAUSE : Fld := ⟨0x6100, 0x20, 4, 4⟩
def FAB_CHK.FAR_BLANK : Fld := ⟨0x6100, 0x20, 8, 1⟩
def FAB_SEEN_UIDLO.UID : Fld := ⟨0x6104, 0x20, 0, 32⟩
def FAB_SEEN_UIDHI.UID : Fld := ⟨0x6108, 0x20, 0, 32⟩
def FAB_SEEN_RACK.RACKID : Fld := ⟨0x610C, 0x20, 0, 32⟩
def FAB_SEEN_INFO.ADDR : Fld := ⟨0x6110, 0x20, 0, 16⟩
def FAB_SEEN_INFO.PORT : Fld := ⟨0x6110, 0x20, 16, 2⟩
def FAB_SEEN_INFO.ROLE : Fld := ⟨0x6110, 0x20, 24, 2⟩
def FAB_SEEN_INFO.ADDRVALID : Fld := ⟨0x6110, 0x20, 28, 1⟩
def FAB_SEEN_INFO.BLANK : Fld := ⟨0x6110, 0x20, 29, 1⟩
def FAB_SEEN_INFO.VALID : Fld := ⟨0x6110, 0x20, 31, 1⟩
def FAB_SEEN_DIG.DIG : Fld := ⟨0x6114, 0x20, 0, 32⟩
def FAB_RT_A.BASE : Fld := ⟨0x6200, 0x8, 0, 16⟩
def FAB_RT_A.MASK : Fld := ⟨0x6200, 0x8, 16, 16⟩
def FAB_RT_B.PORT : Fld := ⟨0x6204, 0x8, 0, 2⟩
def FAB_RT_B.VALID : Fld := ⟨0x6204, 0x8, 8, 1⟩
def LT_CTL.PRIMER : Fld := ⟨0x6300, 0x0, 0, 4⟩
def LT_CTL.CYCLE : Fld := ⟨0x6300, 0x0, 4, 1⟩
def LT_CTL.STOP : Fld := ⟨0x6300, 0x0, 8, 4⟩
def LT_CFG.AUTO : Fld := ⟨0x6304, 0x0, 0, 1⟩
def LT_CFG.PERIOD : Fld := ⟨0x6304, 0x0, 8, 8⟩
def LT_CFG.SECS : Fld := ⟨0x6304, 0x0, 16, 4⟩
def LT_CFG.MINUTES : Fld := ⟨0x6304, 0x0, 24, 6⟩
def LT_ST.PRIMER : Fld := ⟨0x6308, 0x0, 0, 4⟩
def LT_ST.TESTING : Fld := ⟨0x6308, 0x0, 4, 4⟩
def LT_ST.DONE : Fld := ⟨0x6308, 0x0, 8, 4⟩
def LT_BITS_LO.BITS : Fld := ⟨0x6340, 0x10, 0, 32⟩
def LT_BITS_HI.BITS : Fld := ⟨0x6344, 0x10, 0, 16⟩
def LT_ERRS.ERRS : Fld := ⟨0x6348, 0x10, 0, 32⟩
def LT_RES.RESULT : Fld := ⟨0x634C, 0x10, 0, 3⟩
def LT_RES.INIT : Fld := ⟨0x634C, 0x10, 4, 1⟩
def LT_RES.SYNCLOSS : Fld := ⟨0x634C, 0x10, 16, 16⟩
def CVU_ST.BUSY : Fld := ⟨0x7000, 0x0, 0, 8⟩
def CVU_ST.AVBUSY : Fld := ⟨0x7000, 0x0, 8, 1⟩
def CVU_ST.SEALFAIL : Fld := ⟨0x7000, 0x0, 9, 1⟩
def CVU_ST.OVERDUE : Fld := ⟨0x7000, 0x0, 10, 1⟩
def CVU_ST.AVERR : Fld := ⟨0x7000, 0x0, 11, 1⟩
def CVU_ST.AVWERR : Fld := ⟨0x7000, 0x0, 12, 1⟩
def CVU_ST.SCAN : Fld := ⟨0x7000, 0x0, 13, 1⟩
def CVU_CTL.GO : Fld := ⟨0x7004, 0x0, 0, 8⟩
def CVU_AVIN.VALUE : Fld := ⟨0x7010, 0x0, 0, 16⟩
def CVU_AVIN.SLOT : Fld := ⟨0x7010, 0x0, 16, 6⟩
def CVU_AVBASE.ADDR : Fld := ⟨0x7014, 0x0, 0, 32⟩
def CVU_AVCFG.STRIDE : Fld := ⟨0x7018, 0x0, 0, 8⟩
def CVU_AVCFG.COUNT : Fld := ⟨0x7018, 0x0, 8, 6⟩
def CVU_AVCFG.FIRST : Fld := ⟨0x7018, 0x0, 16, 6⟩
def CVU_AVCFG.GO : Fld := ⟨0x7018, 0x0, 31, 1⟩
def CVU_AVOK.SLOTS : Fld := ⟨0x7020, 0x4, 0, 32⟩
def CVU_AVREP.SLOTS : Fld := ⟨0x7028, 0x4, 0, 32⟩
def CVU_AVSKIP.SLOTS : Fld := ⟨0x7030, 0x4, 0, 32⟩
def CVU_AVARM.SLOTS : Fld := ⟨0x7038, 0x4, 0, 32⟩
def CVU_JOB_CTRL.EN : Fld := ⟨0x7100, 0x20, 0, 1⟩
def CVU_JOB_CTRL.POLY : Fld := ⟨0x7100, 0x20, 1, 2⟩
def CVU_JOB_CTRL.CMP : Fld := ⟨0x7100, 0x20, 3, 1⟩
def CVU_JOB_CTRL.FINAL : Fld := ⟨0x7100, 0x20, 4, 1⟩
def CVU_JOB_CTRL.DEV : Fld := ⟨0x7100, 0x20, 5, 1⟩
def CVU_JOB_CTRL.PERIOD : Fld := ⟨0x7100, 0x20, 16, 16⟩
def CVU_JOB_START.ADDR : Fld := ⟨0x7104, 0x20, 0, 32⟩
def CVU_JOB_LEN.BYTES : Fld := ⟨0x7108, 0x20, 0, 18⟩
def CVU_JOB_INIT.VALUE : Fld := ⟨0x710C, 0x20, 0, 32⟩
def CVU_JOB_EXPECT.VALUE : Fld := ⟨0x7110, 0x20, 0, 32⟩
def CVU_JOB_RESULT.VALUE : Fld := ⟨0x7114, 0x20, 0, 32⟩
def CVU_JOB_STAT.OUTCOME : Fld := ⟨0x7118, 0x20, 0, 2⟩
def CVU_JOB_STAT.RUNNING : Fld := ⟨0x7118, 0x20, 2, 1⟩
def CVU_JOB_STAT.OVERDUE : Fld := ⟨0x7118, 0x20, 3, 1⟩
def CVU_JOB_STAT.WERR : Fld := ⟨0x7118, 0x20, 4, 1⟩
def CVU_JOB_STAT.ERR : Fld := ⟨0x7118, 0x20, 5, 2⟩
def CVU_JOB_STAT.POS : Fld := ⟨0x7118, 0x20, 16, 16⟩
def CVU_JOB_LAST.TICK : Fld := ⟨0x711C, 0x20, 0, 32⟩
def CVU_AVLAST.VALUE : Fld := ⟨0x7200, 0x4, 0, 16⟩
def BBX_CFG.SUMPER : Fld := ⟨0x8000, 0x0, 0, 8⟩
def BBX_STAT.READY : Fld := ⟨0x8004, 0x0, 0, 1⟩
def BBX_STAT.BUSY : Fld := ⟨0x8004, 0x0, 1, 1⟩
def BBX_STAT.HOLDUP_OK : Fld := ⟨0x8004, 0x0, 2, 1⟩
def BBX_STAT.MEDIA : Fld := ⟨0x8004, 0x0, 3, 1⟩
def BBX_STAT.DEGRADED : Fld := ⟨0x8004, 0x0, 4, 1⟩
def BBX_STAT.UNFIT : Fld := ⟨0x8004, 0x0, 5, 1⟩
def BBX_STAT.TOMB_FULL : Fld := ⟨0x8004, 0x0, 6, 1⟩
def BBX_STAT.STICKY_FULL : Fld := ⟨0x8004, 0x0, 7, 1⟩
def BBX_STAT.MAPERR : Fld := ⟨0x8004, 0x0, 8, 1⟩
def BBX_STAT.ACKMISS : Fld := ⟨0x8004, 0x0, 9, 1⟩
def BBX_STAT.NOPART_U : Fld := ⟨0x8004, 0x0, 10, 1⟩
def BBX_STAT.NOPART_D : Fld := ⟨0x8004, 0x0, 11, 1⟩
def BBX_STAT.GOOD : Fld := ⟨0x8004, 0x0, 16, 7⟩
def BBX_NEXT.SEQ : Fld := ⟨0x8008, 0x0, 0, 16⟩
def BBX_NEXT.POS : Fld := ⟨0x8008, 0x0, 16, 9⟩
def BBX_PINS.COUNT : Fld := ⟨0x800C, 0x0, 0, 7⟩
def BBX_ACK.SEQ : Fld := ⟨0x8010, 0x0, 0, 16⟩
def BBX_ACK.ALL : Fld := ⟨0x8010, 0x0, 16, 1⟩
def BBX_SHCTL.RELEASE_U : Fld := ⟨0x8014, 0x0, 0, 1⟩
def BBX_SHCTL.RELEASE_D : Fld := ⟨0x8014, 0x0, 1, 1⟩
def BBX_BADMAP_LO.BAD : Fld := ⟨0x8020, 0x0, 0, 32⟩
def BBX_BADMAP_HI.BAD : Fld := ⟨0x8024, 0x0, 0, 32⟩
def BBX_SHBAD.BAD : Fld := ⟨0x8028, 0x0, 0, 32⟩
def BBX_TORN.COUNT : Fld := ⟨0x8070, 0x0, 0, 32⟩
def BBX_QLOST.COUNT : Fld := ⟨0x8074, 0x0, 0, 32⟩
def BBX_NOROOM.COUNT : Fld := ⟨0x8078, 0x0, 0, 32⟩
def BBX_MIRLOST.COUNT : Fld := ⟨0x807C, 0x0, 0, 32⟩
def BBX_RDREQ.DEST : Fld := ⟨0x8080, 0x0, 0, 16⟩
def BBX_RDREQ.AREA : Fld := ⟨0x8080, 0x0, 16, 2⟩
def BBX_RDREQ.INDEX : Fld := ⟨0x8080, 0x0, 18, 10⟩
def BBX_RDREQ.GO : Fld := ⟨0x8080, 0x0, 31, 1⟩
def BBX_RDST.STATUS : Fld := ⟨0x8084, 0x0, 0, 3⟩
def BBX_TOMB_LO.ROW : Fld := ⟨0x8030, 0x8, 0, 32⟩
def BBX_TOMB_HI.ROW : Fld := ⟨0x8034, 0x8, 0, 32⟩
def BBX_RDBUF.DATA : Fld := ⟨0x80C0, 0x4, 0, 32⟩
def SAFE_ST.MODE : Fld := ⟨0x9000, 0x0, 0, 3⟩
def SAFE_ST.DEMAND : Fld := ⟨0x9000, 0x0, 3, 1⟩
def SAFE_ST.TIPEND : Fld := ⟨0x9000, 0x0, 4, 1⟩
def SAFE_ST.CHBDEM : Fld := ⟨0x9000, 0x0, 5, 1⟩
def SAFE_ST.PAIRS : Fld := ⟨0x9000, 0x0, 8, 8⟩
def SAFE_ST.PWARN : Fld := ⟨0x9000, 0x0, 16, 8⟩
def SAFE_DSRC.SRC : Fld := ⟨0x9004, 0x0, 0, 17⟩
def SAFE_DLATCH.SRC : Fld := ⟨0x9008, 0x0, 0, 17⟩
def SAFE_CTL.ACK : Fld := ⟨0x900C, 0x0, 0, 1⟩
def SAFE_CTL.TRCONF : Fld := ⟨0x900C, 0x0, 1, 1⟩
def SAFE_CTL.DEMAND : Fld := ⟨0x900C, 0x0, 2, 1⟩
def SAFE_CTL.PAIRACK : Fld := ⟨0x900C, 0x0, 8, 4⟩
def SAFE_DREP.COUNT : Fld := ⟨0x9010, 0x0, 0, 32⟩
def SAFE_TRQ.PERMIT : Fld := ⟨0x9020, 0x0, 0, 1⟩
def SAFE_TRQ.OWN : Fld := ⟨0x9020, 0x0, 1, 1⟩
def SAFE_TRQ.PART : Fld := ⟨0x9020, 0x0, 2, 1⟩
def SAFE_TRQ.DRIVES : Fld := ⟨0x9020, 0x0, 3, 1⟩
def SAFE_TRQ.WHICH : Fld := ⟨0x9020, 0x0, 4, 1⟩
def SAFE_TRQERR.OWN : Fld := ⟨0x9024, 0x0, 0, 1⟩
def SAFE_TRQERR.PART_NOPULSE : Fld := ⟨0x9024, 0x0, 1, 1⟩
def SAFE_TRQERR.PARTOFF : Fld := ⟨0x9024, 0x0, 2, 1⟩
def SAFE_TRQERR.REFUSED : Fld := ⟨0x9024, 0x0, 3, 1⟩
def SAFE_CON.ON : Fld := ⟨0x9030, 0x0, 0, 4⟩
def SAFE_CONST.PHASE0 : Fld := ⟨0x9034, 0x0, 0, 3⟩
def SAFE_CONST.PHASE1 : Fld := ⟨0x9034, 0x0, 4, 3⟩
def SAFE_CONST.PHASE2 : Fld := ⟨0x9034, 0x0, 8, 3⟩
def SAFE_CONST.PHASE3 : Fld := ⟨0x9034, 0x0, 12, 3⟩
def SAFE_CONST.HANDOVER : Fld := ⟨0x9034, 0x0, 16, 1⟩
def SAFE_CONST.HSA : Fld := ⟨0x9034, 0x0, 17, 1⟩
def SAFE_CONST.HSB : Fld := ⟨0x9034, 0x0, 18, 1⟩
def CON_ERR.REFUSED : Fld := ⟨0x9038, 0x0, 0, 4⟩
def CON_ERR.OVERLAP : Fld := ⟨0x9038, 0x0, 4, 4⟩
def CON_ERR.NOCLOSE : Fld := ⟨0x9038, 0x0, 8, 4⟩
def CON_ERR.WELD : Fld := ⟨0x9038, 0x0, 12, 4⟩
def CON_ERR.FB_UNEXP : Fld := ⟨0x9038, 0x0, 16, 4⟩
def CON_ERR.COIL_OPEN : Fld := ⟨0x9038, 0x0, 20, 4⟩
def CON_ERR.COIL_SHORT : Fld := ⟨0x9038, 0x0, 24, 4⟩
def CON_ERR.HS_OVER : Fld := ⟨0x9038, 0x0, 28, 2⟩
def SAFE_FB.ACC : Fld := ⟨0x903C, 0x0, 0, 4⟩
def SAFE_FB.RAW : Fld := ⟨0x903C, 0x0, 4, 4⟩
def CON_I.MA : Fld := ⟨0x9040, 0x4, 0, 16⟩
def SEAL_RAW.WORD : Fld := ⟨0x9060, 0x0, 0, 12⟩
def SEAL_ACC.WORD : Fld := ⟨0x9064, 0x0, 0, 12⟩
def SEAL_ST.MATRIX : Fld := ⟨0x9068, 0x0, 0, 1⟩
def SEAL_ST.CHANGED : Fld := ⟨0x9068, 0x0, 1, 1⟩
def SEAL_ST.MATCH : Fld := ⟨0x9068, 0x0, 2, 1⟩
def SAFE_VARNISH.DIG : Fld := ⟨0x906C, 0x0, 0, 32⟩
def SAFE_VEXP.DIG : Fld := ⟨0x9070, 0x0, 0, 32⟩
def SAFE_SEALWR.GO : Fld := ⟨0x9074, 0x0, 0, 1⟩
def SAFE_SEALWR.BUSY : Fld := ⟨0x9074, 0x0, 1, 1⟩
def SAFE_SEALWR.DONE : Fld := ⟨0x9074, 0x0, 2, 1⟩
def SAFE_SEALWR.ERR : Fld := ⟨0x9074, 0x0, 3, 1⟩
def SAFE_SEALWR.FAIL : Fld := ⟨0x9074, 0x0, 4, 1⟩
def SAFE_SEALWR.KEY : Fld := ⟨0x9074, 0x0, 16, 16⟩
def SAFE_PMODE.MODE2 : Fld := ⟨0x9080, 0x0, 0, 2⟩
def SAFE_PMODE.MODE3 : Fld := ⟨0x9080, 0x0, 2, 2⟩
def SAFE_SDMASK.SRC : Fld := ⟨0x9084, 0x0, 0, 17⟩
def SAFE_TIMING.TIWAIT : Fld := ⟨0x9088, 0x0, 0, 8⟩
def SAFE_TIMING.SDDELAY : Fld := ⟨0x9088, 0x0, 8, 8⟩
def SAFE_CONCFG.FB3EN : Fld := ⟨0x908C, 0x0, 0, 1⟩
def SIN_SEL.INPUT : Fld := ⟨0x9800, 0x0, 0, 3⟩
def SIN_ST.RAW : Fld := ⟨0x9804, 0x10000, 0, 1⟩
def SIN_ST.ACC_A : Fld := ⟨0x9804, 0x10000, 1, 1⟩
def SIN_ST.ACC_B : Fld := ⟨0x9804, 0x10000, 2, 1⟩
def SIN_ST.DEMAND : Fld := ⟨0x9804, 0x10000, 3, 1⟩
def SIN_ST.CAUSE : Fld := ⟨0x9804, 0x10000, 4, 4⟩
def SIN_ST.PAIR : Fld := ⟨0x9804, 0x10000, 8, 2⟩
def SIN_ST.FAULTS : Fld := ⟨0x9804, 0x10000, 16, 16⟩
def SFU_CFG.TRIPDEM : Fld := ⟨0x9100, 0x0, 0, 1⟩
def SFU_BUF.ADDR : Fld := ⟨0x9104, 0x0, 2, 30⟩
def SFU_OP.SLOT : Fld := ⟨0x9108, 0x0, 0, 4⟩
def SFU_OP.DLEN : Fld := ⟨0x9108, 0x0, 4, 6⟩
def SFU_OP.FORM : Fld := ⟨0x9108, 0x0, 12, 1⟩
def SFU_OP.CHECK : Fld := ⟨0x9108, 0x0, 13, 1⟩
def SFU_RES.VERDICT : Fld := ⟨0x910C, 0x0, 0, 4⟩
def SFU_RES.BUSY : Fld := ⟨0x910C, 0x0, 4, 1⟩
def SFU_RES.PAIRED : Fld := ⟨0x910C, 0x0, 5, 1⟩
def SFU_RES.SLOT : Fld := ⟨0x910C, 0x0, 8, 4⟩
def SFU_RES.CN : Fld := ⟨0x910C, 0x0, 16, 16⟩
def SFU_ARM.SLOTS : Fld := ⟨0x9110, 0x0, 0, 16⟩
def SFU_EXPIRED.SLOTS : Fld := ⟨0x9114, 0x0, 0, 16⟩
def SFU_XCID.CID : Fld := ⟨0x9118, 0x0, 0, 32⟩
def SFU_XST.XLINK : Fld := ⟨0x911C, 0x0, 0, 1⟩
def SFU_XST.LAST_MISMATCH : Fld := ⟨0x911C, 0x0, 1, 1⟩
def SFU_XST.LAST_MISSING : Fld := ⟨0x911C, 0x0, 2, 1⟩
def SFU_XST.AGREERUN : Fld := ⟨0x911C, 0x0, 3, 4⟩
def SFU_XST.TXCN : Fld := ⟨0x911C, 0x0, 16, 16⟩
def SFU_VOTECTL.COMMIT : Fld := ⟨0x9120, 0x0, 0, 1⟩
def SFU_XRX.L : Fld := ⟨0x9124, 0x0, 0, 16⟩
def SFU_XRX.VALID : Fld := ⟨0x9124, 0x0, 16, 1⟩
def SFU_XRX.ARMED : Fld := ⟨0x9124, 0x0, 17, 1⟩
def SFU_XERR.CRC : Fld := ⟨0x9128, 0x0, 0, 8⟩
def SFU_XERR.AGE : Fld := ⟨0x9128, 0x0, 8, 8⟩
def SFU_XERR.SEQ : Fld := ⟨0x9128, 0x0, 16, 8⟩
def SFU_XERR.LOST : Fld := ⟨0x9128, 0x0, 24, 8⟩
def SFU_VOTE.VALUE : Fld := ⟨0x9140, 0x4, 0, 32⟩
def SFU_PVOTE.VALUE : Fld := ⟨0x9160, 0x4, 0, 32⟩
def SCON_CFG.EN : Fld := ⟨0x9200, 0x20, 0, 1⟩
def SCON_CFG.DIR : Fld := ⟨0x9200, 0x20, 1, 1⟩
def SCON_CFG.ACT : Fld := ⟨0x9200, 0x20, 2, 1⟩
def SCON_CFG.PAIR : Fld := ⟨0x9200, 0x20, 3, 1⟩
def SCON_CFG.TRBIT : Fld := ⟨0x9200, 0x20, 4, 1⟩
def SCON_CFG.KIND : Fld := ⟨0x9200, 0x20, 8, 8⟩
def SCON_CFG.PEER : Fld := ⟨0x9200, 0x20, 16, 16⟩
def SCON_CID.CID : Fld := ⟨0x9204, 0x20, 0, 32⟩
def SCON_CN.CN : Fld := ⟨0x9208, 0x20, 0, 16⟩
def SCON_CN.VALID : Fld := ⟨0x9208, 0x20, 16, 1⟩
def SCON_EXP.TICK : Fld := ⟨0x920C, 0x20, 0, 32⟩
def SCON_ERR.CRC : Fld := ⟨0x9210, 0x20, 0, 8⟩
def SCON_ERR.AGE : Fld := ⟨0x9210, 0x20, 8, 8⟩
def SCON_ERR.SEQ : Fld := ⟨0x9210, 0x20, 16, 8⟩
def SCON_ERR.LOST : Fld := ⟨0x9210, 0x20, 24, 8⟩
def RACK_CFG.RSBOTH : Fld := ⟨0xA000, 0x0, 0, 1⟩
def RACK_CFG.OCT : Fld := ⟨0xA000, 0x0, 8, 8⟩
def RACK_TST.STATE : Fld := ⟨0xA004, 0x0, 0, 4⟩
def RACK_TST.CAUSE : Fld := ⟨0xA004, 0x0, 4, 4⟩
def RACK_TST.TRIES : Fld := ⟨0xA004, 0x0, 8, 3⟩
def RACK_TST.JOINWANT : Fld := ⟨0xA004, 0x0, 16, 1⟩
def RACK_TST.HOLD : Fld := ⟨0xA004, 0x0, 17, 1⟩
def RACK_TST.OVERCAP : Fld := ⟨0xA004, 0x0, 18, 1⟩
def RACK_TST.CAPDIFF : Fld := ⟨0xA004, 0x0, 19, 1⟩
def RACK_TST.JREFUSED : Fld := ⟨0xA004, 0x0, 20, 1⟩
def RACK_JCTL.JOIN : Fld := ⟨0xA008, 0x0, 0, 1⟩
def RACK_JCTL.LEAVE : Fld := ⟨0xA008, 0x0, 1, 1⟩
def RACK_JCTL.UNLOCK : Fld := ⟨0xA008, 0x0, 2, 1⟩
def RACK_JCTL.CAPSEQ : Fld := ⟨0xA008, 0x0, 16, 16⟩
def RACK_ILIM.A : Fld := ⟨0xA00C, 0x0, 0, 16⟩
def RACK_VWIN.V : Fld := ⟨0xA010, 0x0, 0, 16⟩
def RACK_DIV.RATIO : Fld := ⟨0xA014, 0x0, 0, 16⟩
def RACK_RSHUNT.UOHM : Fld := ⟨0xA018, 0x0, 0, 16⟩
def RACK_JTIME.PRE : Fld := ⟨0xA01C, 0x0, 0, 8⟩
def RACK_JTIME.SETTLE : Fld := ⟨0xA01C, 0x0, 8, 8⟩
def RACK_OPEN.OPENI : Fld := ⟨0xA020, 0x0, 0, 16⟩
def RACK_OPEN.OPENT : Fld := ⟨0xA020, 0x0, 16, 8⟩
def RACK_VBUS.V : Fld := ⟨0xA024, 0x0, 0, 16⟩
def RACK_VTRAY.V : Fld := ⟨0xA028, 0x0, 0, 16⟩
def RACK_ITRAY.A : Fld := ⟨0xA02C, 0x0, 0, 16⟩
def RACK_IPEAK.A : Fld := ⟨0xA030, 0x0, 0, 16⟩
def RACK_CAPIN0.CAPSEQ : Fld := ⟨0xA040, 0x0, 0, 16⟩
def RACK_CAPIN0.CAP : Fld := ⟨0xA040, 0x0, 16, 10⟩
def RACK_CAPIN1.ITRAY : Fld := ⟨0xA044, 0x0, 0, 16⟩
def RACK_CAPIN1.MGR : Fld := ⟨0xA044, 0x0, 16, 1⟩
def RACK_CAPIN1.GO : Fld := ⟨0xA044, 0x0, 31, 1⟩
def RACK_TCAP.SEQ : Fld := ⟨0xA048, 0x0, 0, 16⟩
def RACK_TCAP.CAP : Fld := ⟨0xA048, 0x0, 16, 10⟩
def RACK_TCAP.VALID : Fld := ⟨0xA048, 0x0, 31, 1⟩
def RACK_CAPCNT.CAPDUP : Fld := ⟨0xA04C, 0x0, 0, 16⟩
def RACK_CAPCNT.CAPOLD : Fld := ⟨0xA04C, 0x0, 16, 16⟩
def RACK_MST.SURVIVOR : Fld := ⟨0xA080, 0x0, 0, 1⟩
def RACK_CAPSET.CAP : Fld := ⟨0xA084, 0x0, 0, 10⟩
def RACK_RATED.A : Fld := ⟨0xA088, 0x0, 0, 16⟩
def RACK_CAPOUT.DUTY : Fld := ⟨0xA08C, 0x0, 0, 10⟩
def RACK_TOP.ENTRY : Fld := ⟨0xA0C0, 0x0, 0, 6⟩
def RACK_TOP.OP : Fld := ⟨0xA0C0, 0x0, 8, 2⟩
def RACK_TOP.DLEN : Fld := ⟨0xA0C0, 0x0, 10, 6⟩
def RACK_TRES.VERDICT : Fld := ⟨0xA0C4, 0x0, 0, 4⟩
def RACK_TRES.BUSY : Fld := ⟨0xA0C4, 0x0, 4, 1⟩
def RACK_TRES.ENTRY : Fld := ⟨0xA0C4, 0x0, 8, 6⟩
def RACK_TRES.CN : Fld := ⟨0xA0C4, 0x0, 16, 16⟩
def RACK_TARM.ENTRIES : Fld := ⟨0xA0C8, 0x4, 0, 32⟩
def RACK_TEXP.ENTRIES : Fld := ⟨0xA0D0, 0x4, 0, 32⟩
def TRAY_CFG.TADDR : Fld := ⟨0xA800, 0x20, 0, 16⟩
def TRAY_CFG.EN : Fld := ⟨0xA800, 0x20, 16, 1⟩
def TRAY_CFG.ACT : Fld := ⟨0xA800, 0x20, 17, 1⟩
def TRAY_STCID.STCID : Fld := ⟨0xA804, 0x20, 0, 32⟩
def TRAY_RSCID.STCID : Fld := ⟨0xA808, 0x20, 0, 32⟩
def TRAY_CMCID.STCID : Fld := ⟨0xA80C, 0x20, 0, 32⟩
def TRAY_CN.RSCN : Fld := ⟨0xA810, 0x20, 0, 16⟩
def TRAY_CN.CMCN : Fld := ⟨0xA810, 0x20, 16, 16⟩
def TRAY_RX.L : Fld := ⟨0xA814, 0x20, 0, 16⟩
def TRAY_RX.VALID : Fld := ⟨0xA814, 0x20, 16, 1⟩
def TRAY_EXP.EXP : Fld := ⟨0xA818, 0x20, 0, 32⟩
def TRAY_ERR.ERR : Fld := ⟨0xA81C, 0x20, 0, 32⟩
def HOST_CFG.EN : Fld := ⟨0xB000, 0x0, 0, 1⟩
def HOST_CFG.MCTX : Fld := ⟨0xB000, 0x0, 4, 3⟩
def HOST_ST.RSTSEEN : Fld := ⟨0xB004, 0x0, 0, 1⟩
def HOST_ST.PEND : Fld := ⟨0xB004, 0x0, 1, 1⟩
def HOST_ST.LASTOK : Fld := ⟨0xB004, 0x0, 2, 1⟩
def HOST_ST.LASTTAG : Fld := ⟨0xB004, 0x0, 8, 8⟩
def HOST_ERR.PARTIAL : Fld := ⟨0xB008, 0x0, 0, 1⟩
def HOST_ERR.EDGES : Fld := ⟨0xB008, 0x0, 1, 1⟩
def HOST_ERR.TRAIL : Fld := ⟨0xB008, 0x0, 2, 1⟩
def HOST_ERR.HDRCRC : Fld := ⟨0xB008, 0x0, 3, 1⟩
def HOST_ERR.CRC : Fld := ⟨0xB008, 0x0, 4, 1⟩
def HOST_ERR.OP : Fld := ⟨0xB008, 0x0, 5, 1⟩
def HOST_ERR.ADDR : Fld := ⟨0xB008, 0x0, 6, 1⟩
def HOST_ERR.FULL : Fld := ⟨0xB008, 0x0, 7, 1⟩
def HOST_ERR.FORMAT : Fld := ⟨0xB008, 0x0, 8, 1⟩
def HOST_ERR.LATE : Fld := ⟨0xB008, 0x0, 9, 1⟩
def HOST_ALERT.ERR : Fld := ⟨0xB00C, 0x0, 0, 1⟩
def HOST_ALERT.BELLOUT : Fld := ⟨0xB00C, 0x0, 1, 1⟩
def HOST_ALERT.LOADOUT : Fld := ⟨0xB00C, 0x0, 2, 1⟩
def HOST_ALERT.MSGOUT : Fld := ⟨0xB00C, 0x0, 3, 1⟩
def HOST_ALERT.WINOUT : Fld := ⟨0xB00C, 0x0, 4, 1⟩
def HOST_ALERT.MEDIA : Fld := ⟨0xB00C, 0x0, 5, 1⟩
def HOST_ALERT.SAFE : Fld := ⟨0xB00C, 0x0, 6, 1⟩
def HOST_ALERT.SURV : Fld := ⟨0xB00C, 0x0, 7, 1⟩
def HOST_AMASK.ERR : Fld := ⟨0xB010, 0x0, 0, 1⟩
def HOST_AMASK.MEDIA : Fld := ⟨0xB010, 0x0, 5, 1⟩
def HOST_AMASK.ENABLE0 : Fld := ⟨0xB010, 0x0, 1, 4⟩
def HOST_AMASK.ENABLE1 : Fld := ⟨0xB010, 0x0, 6, 2⟩
def HOST_BELL.CODE : Fld := ⟨0xB014, 0x0, 0, 16⟩
def HOST_BELLIN.CODE : Fld := ⟨0xB018, 0x0, 0, 16⟩
def HOST_BELLIN.OVR : Fld := ⟨0xB018, 0x0, 16, 1⟩
def HOST_BELLOUT.CODE : Fld := ⟨0xB01C, 0x0, 0, 16⟩
def HOST_BELLRD.CODE : Fld := ⟨0xB020, 0x0, 0, 16⟩
def HOST_BELLRD.OVR : Fld := ⟨0xB020, 0x0, 16, 1⟩
def HOST_MOUT_ADDR.ADDR : Fld := ⟨0xB024, 0x0, 2, 30⟩
def HOST_MOUT_CTL.LEN : Fld := ⟨0xB028, 0x0, 0, 7⟩
def HOST_MOUT_CTL.KIND : Fld := ⟨0xB028, 0x0, 8, 8⟩
def HOST_MOUT_CTL.GO : Fld := ⟨0xB028, 0x0, 16, 1⟩
def HOST_MOUT_CTL.FULL : Fld := ⟨0xB028, 0x0, 17, 1⟩
def HOST_MOUT_CTL.BUSY : Fld := ⟨0xB028, 0x0, 18, 1⟩
def HOST_LVLIN.FREE0 : Fld := ⟨0xB030, 0x0, 0, 8⟩
def HOST_LVLIN.FREE1 : Fld := ⟨0xB030, 0x0, 8, 8⟩
def HOST_LVLIN.FREE2 : Fld := ⟨0xB030, 0x0, 16, 8⟩
def HOST_LVLOUT.USED0 : Fld := ⟨0xB034, 0x0, 0, 8⟩
def HOST_LVLOUT.USED1 : Fld := ⟨0xB034, 0x0, 8, 8⟩
def HOST_LVLOUT.USED2 : Fld := ⟨0xB034, 0x0, 16, 8⟩
def HOST_DONE.COUNT : Fld := ⟨0xB040, 0x0, 0, 32⟩
def HOST_DISC.COUNT : Fld := ⟨0xB044, 0x0, 0, 32⟩
def HOST_LOST.COUNT : Fld := ⟨0xB048, 0x0, 0, 32⟩
def DMA_CFG.EN : Fld := ⟨0xC000, 0x40, 0, 1⟩
def DMA_CFG.OWNER : Fld := ⟨0xC000, 0x40, 1, 3⟩
def DMA_DESC.ADDR : Fld := ⟨0xC004, 0x40, 2, 30⟩
def DMA_GO.START : Fld := ⟨0xC008, 0x40, 0, 1⟩
def DMA_GO.RESUME : Fld := ⟨0xC008, 0x40, 1, 1⟩
def DMA_GO.HALT : Fld := ⟨0xC008, 0x40, 2, 1⟩
def DMA_STAT.STATE : Fld := ⟨0xC00C, 0x40, 0, 2⟩
def DMA_STAT.CODE : Fld := ⟨0xC00C, 0x40, 8, 8⟩
def DMA_STAT.WERR : Fld := ⟨0xC00C, 0x40, 16, 1⟩
def DMA_STAT.DONE : Fld := ⟨0xC00C, 0x40, 17, 1⟩
def DMA_STAT.FAULT : Fld := ⟨0xC00C, 0x40, 18, 1⟩
def DMA_CURD.VALUE : Fld := ⟨0xC010, 0x40, 0, 32⟩
def DMA_CURN.VALUE : Fld := ⟨0xC014, 0x40, 0, 32⟩
def DMA_ACTIVE.ACTIVE : Fld := ⟨0xC100, 0x0, 0, 4⟩
def DMA_ACTIVE.WAIT : Fld := ⟨0xC100, 0x0, 4, 4⟩
def LOAD_ST.VALID : Fld := ⟨0xD010, 0x0, 0, 1⟩
def LOAD_ST.IN_LOAD : Fld := ⟨0xD010, 0x0, 1, 1⟩
def LOAD_ST.BLANK : Fld := ⟨0xD010, 0x0, 2, 1⟩
def LOAD_ST.NOIMAGE : Fld := ⟨0xD010, 0x0, 3, 1⟩
def LOAD_ST.LAST : Fld := ⟨0xD010, 0x0, 8, 8⟩
def LOAD_ST.CHUNKS : Fld := ⟨0xD010, 0x0, 16, 16⟩
def LOAD_IMGID.VALUE : Fld := ⟨0xD014, 0x0, 0, 32⟩
def LOAD_IMGVER.VALUE : Fld := ⟨0xD018, 0x0, 0, 32⟩
def WIN_EXP_BASE.ADDR : Fld := ⟨0xE000, 0x10, 2, 30⟩
def WIN_EXP_LIMIT.ADDR : Fld := ⟨0xE004, 0x10, 2, 30⟩
def WIN_EXP_CTRL.VALID : Fld := ⟨0xE008, 0x10, 0, 1⟩
def WIN_EXP_CTRL.R : Fld := ⟨0xE008, 0x10, 1, 1⟩
def WIN_EXP_CTRL.W : Fld := ⟨0xE008, 0x10, 2, 1⟩
def WIN_EXP_CTRL.MGR_ONLY : Fld := ⟨0xE008, 0x10, 3, 1⟩
def WIN_LATE.COUNT : Fld := ⟨0xE040, 0x0, 0, 32⟩
def WIN_REFUSED.COUNT : Fld := ⟨0xE044, 0x0, 0, 32⟩
def WIN_SEL.WIN : Fld := ⟨0xE800, 0x0, 0, 3⟩
def WIN_VBASE.ADDR : Fld := ⟨0xE804, 0x10000, 6, 26⟩
def WIN_LIMIT.ADDR : Fld := ⟨0xE808, 0x10000, 6, 26⟩
def WIN_PBASE.ADDR : Fld := ⟨0xE80C, 0x10000, 6, 26⟩
def WIN_CTRL.VALID : Fld := ⟨0xE810, 0x10000, 0, 1⟩
def WIN_CTRL.R : Fld := ⟨0xE810, 0x10000, 1, 1⟩
def WIN_CTRL.W : Fld := ⟨0xE810, 0x10000, 2, 1⟩
def WIN_CTRL.X : Fld := ⟨0xE810, 0x10000, 3, 1⟩
def WIN_CTRL.D : Fld := ⟨0xE810, 0x10000, 4, 1⟩
def WIN_CTRL.REMOTE : Fld := ⟨0xE810, 0x10000, 5, 1⟩
def WIN_CTRL.HOST : Fld := ⟨0xE810, 0x10000, 6, 1⟩
def WIN_CTRL.TMO : Fld := ⟨0xE810, 0x10000, 8, 2⟩
def WIN_CTRL.NODE : Fld := ⟨0xE810, 0x10000, 16, 16⟩

/-- Registers of the SYS page, 0x4000_0000. -/
def pageSYS : List RegDesc :=
  [⟨0x0000, 0x0, 1, false, [⟨0, 16, .ro⟩, ⟨16, 8, .ro⟩]⟩,
   ⟨0x0004, 0x0, 1, false, [⟨0, 32, .ro⟩]⟩,
   ⟨0x0008, 0x0, 1, false, [⟨0, 32, .ro⟩]⟩,
   ⟨0x000C, 0x0, 1, false, [⟨0, 2, .ro⟩]⟩,
   ⟨0x0010, 0x0, 1, false, [⟨0, 7, .ro⟩, ⟨8, 4, .ro⟩]⟩,
   ⟨0x0014, 0x0, 1, false, [⟨0, 16, .ro⟩, ⟨16, 16, .ro⟩]⟩,
   ⟨0x0018, 0x0, 1, false, [⟨0, 4, .ro⟩, ⟨4, 1, .ro⟩]⟩,
   ⟨0x001C, 0x0, 1, false, [⟨0, 1, .ro⟩, ⟨1, 1, .ro⟩, ⟨16, 12, .ro⟩]⟩,
   ⟨0x0020, 0x0, 1, true, [⟨0, 1, .wo⟩, ⟨16, 16, .wo⟩]⟩]

/-- Registers of the CLK page, 0x4000_1000. -/
def pageCLK : List RegDesc :=
  [⟨0x1000, 0x0, 1, false, [⟨0, 3, .ro⟩, ⟨3, 1, .ro⟩, ⟨4, 1, .ro⟩, ⟨5, 1, .w1c⟩, ⟨6, 1, .ro⟩, ⟨7, 1, .w1c⟩, ⟨8, 1, .ro⟩]⟩,
   ⟨0x1004, 0x0, 1, true, [⟨0, 1, .rw⟩, ⟨1, 1, .rw⟩]⟩,
   ⟨0x1008, 0x0, 1, true, [⟨0, 14, .rw⟩]⟩,
   ⟨0x100C, 0x0, 1, false, [⟨0, 14, .ro⟩, ⟨16, 14, .ro⟩]⟩,
   ⟨0x1010, 0x0, 1, false, [⟨0, 32, .ro⟩]⟩,
   ⟨0x1014, 0x0, 1, false, [⟨0, 16, .ro⟩]⟩,
   ⟨0x1018, 0x0, 1, false, [⟨0, 32, .ro⟩]⟩,
   ⟨0x101C, 0x0, 1, true, [⟨0, 8, .rw⟩, ⟨8, 8, .rw⟩]⟩,
   ⟨0x1020, 0x0, 1, false, [⟨0, 6, .w1c⟩]⟩,
   ⟨0x1024, 0x0, 1, true, [⟨0, 4, .rw⟩]⟩,
   ⟨0x1030, 0x0, 1, true, [⟨0, 1, .rwCellJunction⟩, ⟨8, 8, .rwCellJunction⟩, ⟨16, 16, .rw⟩]⟩,
   ⟨0x1034, 0x0, 1, true, [⟨0, 16, .wo⟩]⟩,
   ⟨0x1038, 0x0, 1, false, [⟨0, 16, .ro⟩, ⟨16, 1, .w1c⟩, ⟨17, 1, .ro⟩]⟩,
   ⟨0x1040, 0x0, 1, true, [⟨0, 8, .rw⟩, ⟨8, 8, .rw⟩, ⟨16, 16, .rw⟩]⟩,
   ⟨0x1044, 0x0, 1, false, [⟨0, 3, .ro⟩, ⟨8, 3, .w1c⟩]⟩,
   ⟨0x1048, 0x0, 1, false, [⟨0, 32, .ro⟩]⟩,
   ⟨0x1050, 0x0, 1, false, [⟨0, 32, .ro⟩]⟩,
   ⟨0x1054, 0x0, 1, false, [⟨0, 32, .ro⟩]⟩,
   ⟨0x1058, 0x0, 1, false, [⟨0, 32, .ro⟩]⟩,
   ⟨0x105C, 0x0, 1, false, [⟨0, 32, .ro⟩]⟩] ++
  [⟨0x1060, 0x0, 1, false, [⟨0, 32, .ro⟩]⟩,
   ⟨0x1064, 0x0, 1, false, [⟨0, 28, .ro⟩]⟩,
   ⟨0x1100, 0x4, 15, false, [⟨0, 20, .ro⟩, ⟨20, 8, .ro⟩, ⟨31, 1, .ro⟩]⟩]

/-- Registers of the MEAS page, 0x4000_2000. -/
def pageMEAS : List RegDesc :=
  [⟨0x2000, 0x0, 1, false, [⟨0, 1, .rwJunction⟩, ⟨1, 1, .rw⟩, ⟨2, 1, .w1c⟩]⟩,
   ⟨0x2004, 0x0, 1, false, [⟨0, 16, .ro⟩, ⟨16, 16, .ro⟩]⟩,
   ⟨0x2008, 0x0, 1, false, [⟨0, 16, .w1c⟩]⟩,
   ⟨0x200C, 0x0, 1, false, [⟨0, 1, .ro⟩, ⟨1, 1, .w1c⟩]⟩,
   ⟨0x2010, 0x0, 1, true, [⟨0, 12, .rw⟩, ⟨12, 2, .rw⟩]⟩,
   ⟨0x2014, 0x0, 1, false, [⟨0, 24, .ro⟩]⟩,
   ⟨0x2020, 0x0, 1, false, [⟨0, 8, .rw⟩, ⟨8, 1, .rw⟩, ⟨9, 1, .rw⟩, ⟨16, 8, .rw⟩]⟩,
   ⟨0x2024, 0x0, 1, false, [⟨0, 8, .w1c⟩, ⟨8, 1, .w1c⟩]⟩,
   ⟨0x2040, 0x4, 8, false, [⟨0, 32, .ro⟩]⟩,
   ⟨0x2060, 0x0, 1, false, [⟨0, 10, .rs⟩]⟩,
   ⟨0x2064, 0x0, 1, false, [⟨0, 10, .rs⟩]⟩,
   ⟨0x2068, 0x0, 1, false, [⟨0, 4, .rs⟩, ⟨4, 12, .rs⟩, ⟨16, 8, .rs⟩]⟩,
   ⟨0x206C, 0x0, 1, false, [⟨0, 12, .w1c⟩, ⟨16, 12, .w1c⟩, ⟨28, 1, .ro⟩, ⟨29, 1, .ro⟩]⟩,
   ⟨0x2070, 0x0, 1, false, [⟨0, 12, .ro⟩, ⟨16, 12, .ro⟩]⟩,
   ⟨0x2074, 0x0, 1, false, [⟨0, 16, .rs⟩]⟩,
   ⟨0x2080, 0x0, 1, false, [⟨0, 1, .wo⟩, ⟨1, 1, .ro⟩]⟩,
   ⟨0x2084, 0x0, 1, false, [⟨0, 12, .ro⟩, ⟨16, 12, .ro⟩, ⟨28, 1, .w1c⟩, ⟨29, 1, .w1c⟩]⟩,
   ⟨0x2088, 0x0, 1, false, [⟨0, 13, .ro⟩]⟩,
   ⟨0x2090, 0x4, 13, false, [⟨0, 16, .ro⟩]⟩,
   ⟨0x20D0, 0x0, 1, false, [⟨0, 1, .wo⟩, ⟨1, 1, .ro⟩]⟩] ++
  [⟨0x20D4, 0x0, 1, false, [⟨0, 13, .ro⟩, ⟨16, 1, .w1c⟩, ⟨17, 1, .w1c⟩]⟩,
   ⟨0x20E0, 0x0, 1, false, [⟨0, 5, .rw⟩, ⟨8, 16, .rw⟩]⟩,
   ⟨0x20E4, 0x0, 1, false, [⟨0, 1, .w1c⟩, ⟨1, 1, .w1c⟩, ⟨8, 5, .ro⟩]⟩,
   ⟨0x20F0, 0x0, 1, false, [⟨0, 32, .ro⟩]⟩,
   ⟨0x20F4, 0x0, 1, false, [⟨0, 32, .ro⟩]⟩,
   ⟨0x20F8, 0x0, 1, false, [⟨0, 32, .ro⟩]⟩,
   ⟨0x20FC, 0x0, 1, false, [⟨0, 32, .ro⟩]⟩,
   ⟨0x2800, 0x0, 1, false, [⟨0, 4, .rw⟩]⟩,
   ⟨0x2804, 0x10000, 16, false, [⟨0, 24, .ro⟩, ⟨24, 1, .ro⟩, ⟨25, 1, .ro⟩, ⟨26, 1, .ro⟩, ⟨27, 1, .ro⟩, ⟨28, 1, .ro⟩, ⟨29, 1, .ro⟩, ⟨30, 1, .ro⟩, ⟨31, 1, .ro⟩]⟩,
   ⟨0x2808, 0x10000, 16, false, [⟨0, 32, .ro⟩]⟩,
   ⟨0x280C, 0x10000, 16, true, [⟨0, 24, .rw⟩]⟩,
   ⟨0x2810, 0x10000, 16, true, [⟨0, 24, .rw⟩]⟩,
   ⟨0x2814, 0x10000, 16, false, [⟨0, 8, .ro⟩]⟩]

/-- Registers of the SNAP page, 0x4000_3000. -/
def pageSNAP : List RegDesc :=
  [⟨0x3000, 0x0, 1, false, [⟨0, 32, .ro⟩]⟩,
   ⟨0x3004, 0x0, 1, false, [⟨0, 16, .ro⟩, ⟨16, 8, .ro⟩, ⟨24, 6, .ro⟩]⟩,
   ⟨0x3008, 0x0, 1, true, [⟨0, 12, .rw⟩, ⟨12, 4, .rw⟩, ⟨16, 8, .rw⟩, ⟨24, 4, .rw⟩, ⟨28, 1, .rs⟩]⟩,
   ⟨0x300C, 0x0, 1, false, [⟨0, 1, .ro⟩, ⟨1, 1, .ro⟩, ⟨2, 1, .ro⟩, ⟨3, 1, .w1c⟩, ⟨4, 1, .w1c⟩, ⟨8, 2, .ro⟩, ⟨10, 1, .ro⟩]⟩,
   ⟨0x3010, 0x0, 1, false, [⟨0, 32, .ro⟩]⟩,
   ⟨0x3014, 0x0, 1, false, [⟨0, 32, .ro⟩]⟩,
   ⟨0x3018, 0x0, 1, false, [⟨0, 32, .ro⟩]⟩,
   ⟨0x301C, 0x0, 1, false, [⟨0, 32, .rc⟩]⟩,
   ⟨0x3020, 0x4, 4, false, [⟨0, 24, .ro⟩, ⟨31, 1, .ro⟩]⟩,
   ⟨0x3030, 0x0, 1, false, [⟨0, 4, .ro⟩, ⟨8, 4, .w1c⟩, ⟨16, 4, .w1c⟩, ⟨24, 4, .w1c⟩]⟩,
   ⟨0x3034, 0x0, 1, false, [⟨0, 4, .wo⟩]⟩,
   ⟨0x3040, 0x8, 4, false, [⟨0, 32, .rw⟩]⟩,
   ⟨0x3044, 0x8, 4, false, [⟨0, 16, .rw⟩, ⟨16, 8, .rw⟩, ⟨31, 1, .rw⟩]⟩,
   ⟨0x3060, 0x0, 1, true, [⟨0, 1, .wo⟩, ⟨1, 2, .wo⟩, ⟨3, 1, .wo⟩, ⟨4, 1, .wo⟩]⟩,
   ⟨0x3064, 0x0, 1, false, [⟨0, 16, .ro⟩, ⟨16, 1, .ro⟩, ⟨17, 1, .w1c⟩, ⟨18, 1, .w1c⟩, ⟨19, 1, .w1c⟩, ⟨20, 1, .w1c⟩, ⟨21, 1, .ro⟩]⟩,
   ⟨0x3068, 0x0, 1, false, [⟨0, 15, .rwManager⟩, ⟨15, 1, .ro⟩]⟩,
   ⟨0x3400, 0x4, 256, false, [⟨0, 32, .ro⟩]⟩,
   ⟨0x3C00, 0x4, 256, false, [⟨0, 32, .ro⟩]⟩]

/-- Registers of the BAL page, 0x4000_4000. -/
def pageBAL : List RegDesc :=
  [⟨0x4000, 0x0, 1, true, [⟨0, 1, .rw⟩, ⟨1, 1, .rw⟩]⟩,
   ⟨0x4004, 0x0, 1, false, [⟨0, 6, .ro⟩, ⟨8, 6, .ro⟩]⟩,
   ⟨0x4008, 0x0, 1, false, [⟨0, 12, .ro⟩, ⟨16, 12, .w1c⟩, ⟨28, 1, .ro⟩, ⟨29, 1, .w1c⟩]⟩,
   ⟨0x400C, 0x0, 1, false, [⟨0, 8, .ro⟩]⟩,
   ⟨0x4010, 0x0, 1, false, [⟨0, 8, .rs⟩]⟩,
   ⟨0x4040, 0x4, 13, false, [⟨0, 16, .rs⟩]⟩,
   ⟨0x4080, 0x4, 12, false, [⟨0, 16, .ro⟩]⟩,
   ⟨0x40C0, 0x4, 12, false, [⟨0, 32, .ro⟩]⟩,
   ⟨0x4100, 0x10, 12, false, [⟨0, 32, .ro⟩]⟩,
   ⟨0x4104, 0x10, 12, false, [⟨0, 32, .ro⟩]⟩,
   ⟨0x4108, 0x10, 12, false, [⟨0, 32, .ro⟩]⟩,
   ⟨0x410C, 0x10, 12, false, [⟨0, 32, .ro⟩]⟩,
   ⟨0x4800, 0x0, 1, false, [⟨0, 3, .rw⟩]⟩,
   ⟨0x4804, 0x10000, 6, false, [⟨0, 2, .ro⟩, ⟨2, 1, .ro⟩, ⟨3, 1, .ro⟩, ⟨4, 1, .ro⟩, ⟨5, 1, .ro⟩, ⟨6, 1, .ro⟩, ⟨7, 1, .w1c⟩, ⟨8, 1, .w1c⟩, ⟨9, 1, .w1c⟩, ⟨10, 1, .w1c⟩, ⟨11, 1, .w1c⟩, ⟨12, 1, .w1c⟩, ⟨13, 1, .w1c⟩, ⟨14, 2, .ro⟩]⟩,
   ⟨0x4808, 0x10000, 6, false, [⟨0, 32, .ro⟩]⟩,
   ⟨0x480C, 0x10000, 6, false, [⟨0, 32, .ro⟩]⟩,
   ⟨0x4810, 0x10000, 6, false, [⟨0, 32, .ro⟩]⟩,
   ⟨0x4814, 0x10000, 6, false, [⟨0, 16, .ro⟩, ⟨16, 16, .ro⟩]⟩,
   ⟨0x4818, 0x10000, 6, false, [⟨0, 11, .rw⟩]⟩,
   ⟨0x481C, 0x10000, 6, false, [⟨0, 32, .ro⟩]⟩] ++
  [⟨0x4820, 0x10000, 6, false, [⟨0, 16, .ro⟩, ⟨16, 16, .ro⟩]⟩,
   ⟨0x4824, 0x10000, 6, false, [⟨0, 16, .rw⟩, ⟨16, 16, .rw⟩]⟩,
   ⟨0x4828, 0x10000, 6, false, [⟨0, 32, .rc⟩]⟩]

/-- Registers of the PORT page, 0x4000_5000. -/
def pagePORT : List RegDesc :=
  [⟨0x5000, 0x0, 1, false, [⟨1, 15, .w1c⟩]⟩,
   ⟨0x5004, 0x0, 1, false, [⟨1, 15, .w1c⟩]⟩,
   ⟨0x5008, 0x0, 1, false, [⟨0, 4, .ro⟩, ⟨4, 4, .ro⟩, ⟨8, 4, .ro⟩, ⟨12, 4, .ro⟩]⟩,
   ⟨0x5800, 0x0, 1, false, [⟨0, 2, .rw⟩]⟩,
   ⟨0x5804, 0x10000, 4, true, [⟨0, 1, .rw⟩, ⟨1, 1, .rw⟩, ⟨2, 1, .wo⟩, ⟨3, 1, .wo⟩]⟩,
   ⟨0x5808, 0x10000, 4, false, [⟨0, 3, .ro⟩, ⟨3, 1, .ro⟩, ⟨4, 1, .ro⟩, ⟨5, 1, .ro⟩, ⟨8, 1, .w1c⟩, ⟨9, 1, .w1c⟩, ⟨10, 1, .w1c⟩, ⟨11, 1, .w1c⟩, ⟨12, 1, .w1c⟩, ⟨13, 1, .w1c⟩, ⟨14, 1, .w1c⟩, ⟨15, 1, .w1c⟩, ⟨16, 1, .w1c⟩, ⟨17, 1, .w1c⟩, ⟨18, 1, .w1c⟩, ⟨19, 1, .w1c⟩, ⟨20, 2, .ro⟩]⟩,
   ⟨0x580C, 0x10000, 4, false, [⟨0, 16, .ro⟩, ⟨16, 16, .ro⟩]⟩,
   ⟨0x5810, 0x10000, 4, false, [⟨0, 16, .ro⟩, ⟨16, 8, .ro⟩, ⟨24, 8, .ro⟩]⟩,
   ⟨0x5814, 0x10000, 4, false, [⟨0, 32, .rw⟩]⟩,
   ⟨0x5818, 0x10000, 4, false, [⟨0, 8, .rw⟩, ⟨8, 8, .rw⟩, ⟨16, 1, .wo⟩]⟩,
   ⟨0x581C, 0x10000, 4, false, [⟨0, 32, .ro⟩]⟩,
   ⟨0x5820, 0x10000, 4, false, [⟨0, 8, .ro⟩, ⟨8, 8, .ro⟩]⟩,
   ⟨0x5830, 0x10000, 4, false, [⟨0, 32, .ro⟩]⟩,
   ⟨0x5834, 0x10000, 4, false, [⟨0, 16, .ro⟩]⟩,
   ⟨0x5838, 0x10000, 4, false, [⟨0, 32, .ro⟩]⟩,
   ⟨0x583C, 0x10000, 4, false, [⟨0, 16, .ro⟩]⟩,
   ⟨0x5840, 0x10000, 4, false, [⟨0, 32, .rc⟩]⟩,
   ⟨0x5844, 0x10000, 4, false, [⟨0, 32, .rc⟩]⟩,
   ⟨0x5848, 0x10000, 4, false, [⟨0, 32, .rc⟩]⟩,
   ⟨0x584C, 0x10000, 4, false, [⟨0, 32, .rc⟩]⟩] ++
  [⟨0x5850, 0x10000, 4, false, [⟨0, 32, .rc⟩]⟩,
   ⟨0x5854, 0x10000, 4, false, [⟨0, 32, .rc⟩]⟩,
   ⟨0x5858, 0x10000, 4, false, [⟨0, 32, .rc⟩]⟩,
   ⟨0x585C, 0x10000, 4, false, [⟨0, 32, .rc⟩]⟩,
   ⟨0x5860, 0x10000, 4, false, [⟨0, 32, .rc⟩]⟩,
   ⟨0x5864, 0x10000, 4, false, [⟨0, 32, .rc⟩]⟩,
   ⟨0x5868, 0x10000, 4, false, [⟨0, 32, .rc⟩]⟩,
   ⟨0x586C, 0x10000, 4, false, [⟨0, 32, .rc⟩]⟩,
   ⟨0x5870, 0x10000, 4, false, [⟨0, 32, .rc⟩]⟩,
   ⟨0x5874, 0x10000, 4, false, [⟨0, 32, .rc⟩]⟩,
   ⟨0x5878, 0x10000, 4, false, [⟨0, 32, .rc⟩]⟩]

/-- Registers of the FAB page, 0x4000_6000. -/
def pageFAB : List RegDesc :=
  [⟨0x6000, 0x0, 1, false, [⟨0, 16, .ro⟩, ⟨16, 1, .ro⟩, ⟨17, 1, .ro⟩]⟩,
   ⟨0x6004, 0x0, 1, false, [⟨0, 32, .ro⟩]⟩,
   ⟨0x6008, 0x0, 1, true, [⟨0, 6, .ro⟩, ⟨8, 1, .rw⟩, ⟨12, 4, .rw⟩, ⟨16, 1, .rw⟩]⟩,
   ⟨0x600C, 0x0, 1, false, [⟨0, 2, .ro⟩, ⟨2, 1, .ro⟩, ⟨4, 2, .ro⟩, ⟨6, 1, .ro⟩, ⟨8, 2, .ro⟩, ⟨10, 1, .ro⟩, ⟨11, 1, .ro⟩]⟩,
   ⟨0x6010, 0x0, 1, false, [⟨0, 1, .w1c⟩, ⟨1, 1, .w1c⟩, ⟨2, 1, .ro⟩, ⟨3, 1, .w1c⟩]⟩,
   ⟨0x6014, 0x0, 1, false, [⟨0, 32, .ro⟩]⟩,
   ⟨0x6018, 0x0, 1, true, [⟨0, 4, .wo⟩]⟩,
   ⟨0x6020, 0x0, 1, true, [⟨0, 3, .rw⟩, ⟨3, 3, .rw⟩, ⟨6, 3, .rw⟩, ⟨9, 3, .rw⟩, ⟨12, 3, .rw⟩, ⟨15, 3, .rw⟩, ⟨18, 3, .rw⟩, ⟨21, 3, .rw⟩]⟩,
   ⟨0x6024, 0x0, 1, true, [⟨0, 3, .rw⟩, ⟨3, 3, .rw⟩, ⟨6, 3, .rw⟩, ⟨9, 3, .rw⟩, ⟨12, 3, .rw⟩, ⟨15, 3, .rw⟩, ⟨18, 3, .rw⟩, ⟨21, 3, .rw⟩]⟩,
   ⟨0x6040, 0x0, 1, false, [⟨0, 32, .rc⟩]⟩,
   ⟨0x6044, 0x0, 1, false, [⟨0, 32, .rc⟩]⟩,
   ⟨0x6048, 0x0, 1, false, [⟨0, 32, .rc⟩]⟩,
   ⟨0x604C, 0x0, 1, false, [⟨0, 32, .rc⟩]⟩,
   ⟨0x6050, 0x0, 1, false, [⟨0, 32, .rc⟩]⟩,
   ⟨0x6054, 0x0, 1, false, [⟨0, 32, .rc⟩]⟩,
   ⟨0x6058, 0x0, 1, false, [⟨0, 32, .rc⟩]⟩,
   ⟨0x6100, 0x20, 4, false, [⟨0, 2, .ro⟩, ⟨4, 4, .ro⟩, ⟨8, 1, .ro⟩]⟩,
   ⟨0x6104, 0x20, 4, false, [⟨0, 32, .ro⟩]⟩,
   ⟨0x6108, 0x20, 4, false, [⟨0, 32, .ro⟩]⟩,
   ⟨0x610C, 0x20, 4, false, [⟨0, 32, .ro⟩]⟩] ++
  [⟨0x6110, 0x20, 4, false, [⟨0, 16, .ro⟩, ⟨16, 2, .ro⟩, ⟨24, 2, .ro⟩, ⟨28, 1, .ro⟩, ⟨29, 1, .ro⟩, ⟨31, 1, .ro⟩]⟩,
   ⟨0x6114, 0x20, 4, false, [⟨0, 32, .ro⟩]⟩,
   ⟨0x6200, 0x8, 16, false, [⟨0, 16, .ro⟩, ⟨16, 16, .ro⟩]⟩,
   ⟨0x6204, 0x8, 16, false, [⟨0, 2, .ro⟩, ⟨8, 1, .ro⟩]⟩,
   ⟨0x6300, 0x0, 1, true, [⟨0, 4, .wo⟩, ⟨4, 1, .wo⟩, ⟨8, 4, .wo⟩]⟩,
   ⟨0x6304, 0x0, 1, false, [⟨0, 1, .rw⟩, ⟨8, 8, .rw⟩, ⟨16, 4, .rw⟩, ⟨24, 6, .rw⟩]⟩,
   ⟨0x6308, 0x0, 1, false, [⟨0, 4, .ro⟩, ⟨4, 4, .ro⟩, ⟨8, 4, .w1c⟩]⟩,
   ⟨0x6340, 0x10, 4, false, [⟨0, 32, .ro⟩]⟩,
   ⟨0x6344, 0x10, 4, false, [⟨0, 16, .ro⟩]⟩,
   ⟨0x6348, 0x10, 4, false, [⟨0, 32, .ro⟩]⟩,
   ⟨0x634C, 0x10, 4, false, [⟨0, 3, .ro⟩, ⟨4, 1, .ro⟩, ⟨16, 16, .ro⟩]⟩]

/-- Registers of the CVU page, 0x4000_7000. -/
def pageCVU : List RegDesc :=
  [⟨0x7000, 0x0, 1, false, [⟨0, 8, .ro⟩, ⟨8, 1, .ro⟩, ⟨9, 1, .ro⟩, ⟨10, 1, .w1c⟩, ⟨11, 1, .w1c⟩, ⟨12, 1, .w1c⟩, ⟨13, 1, .ro⟩]⟩,
   ⟨0x7004, 0x0, 1, false, [⟨0, 8, .wo⟩]⟩,
   ⟨0x7010, 0x0, 1, false, [⟨0, 16, .wo⟩, ⟨16, 6, .wo⟩]⟩,
   ⟨0x7014, 0x0, 1, false, [⟨0, 32, .rw⟩]⟩,
   ⟨0x7018, 0x0, 1, false, [⟨0, 8, .rw⟩, ⟨8, 6, .rw⟩, ⟨16, 6, .rw⟩, ⟨31, 1, .wo⟩]⟩,
   ⟨0x7020, 0x4, 2, false, [⟨0, 32, .w1c⟩]⟩,
   ⟨0x7028, 0x4, 2, false, [⟨0, 32, .w1c⟩]⟩,
   ⟨0x7030, 0x4, 2, false, [⟨0, 32, .w1c⟩]⟩,
   ⟨0x7038, 0x4, 2, false, [⟨0, 32, .rw⟩]⟩,
   ⟨0x7100, 0x20, 3, true, [⟨0, 1, .ro⟩, ⟨1, 2, .ro⟩, ⟨3, 1, .ro⟩, ⟨4, 1, .ro⟩, ⟨5, 1, .rw⟩, ⟨16, 16, .rs⟩]⟩,
   ⟨0x7160, 0x20, 5, false, [⟨0, 1, .rw⟩, ⟨1, 2, .rw⟩, ⟨3, 1, .rw⟩, ⟨4, 1, .rw⟩, ⟨5, 1, .rw⟩, ⟨16, 16, .rw⟩]⟩,
   ⟨0x7104, 0x20, 3, true, [⟨0, 32, .ro⟩]⟩,
   ⟨0x7164, 0x20, 5, false, [⟨0, 32, .rw⟩]⟩,
   ⟨0x7108, 0x20, 3, true, [⟨0, 18, .ro⟩]⟩,
   ⟨0x7168, 0x20, 5, false, [⟨0, 18, .rw⟩]⟩,
   ⟨0x710C, 0x20, 3, true, [⟨0, 32, .ro⟩]⟩,
   ⟨0x716C, 0x20, 5, false, [⟨0, 32, .rw⟩]⟩,
   ⟨0x7110, 0x20, 3, true, [⟨0, 32, .ro⟩]⟩,
   ⟨0x7170, 0x20, 5, false, [⟨0, 32, .rw⟩]⟩,
   ⟨0x7114, 0x20, 3, true, [⟨0, 32, .ro⟩]⟩] ++
  [⟨0x7174, 0x20, 5, false, [⟨0, 32, .ro⟩]⟩,
   ⟨0x7118, 0x20, 3, true, [⟨0, 2, .ro⟩, ⟨2, 1, .ro⟩, ⟨3, 1, .w1c⟩, ⟨4, 1, .w1c⟩, ⟨5, 2, .ro⟩, ⟨16, 16, .ro⟩]⟩,
   ⟨0x7178, 0x20, 5, false, [⟨0, 2, .ro⟩, ⟨2, 1, .ro⟩, ⟨3, 1, .w1c⟩, ⟨4, 1, .w1c⟩, ⟨5, 2, .ro⟩, ⟨16, 16, .ro⟩]⟩,
   ⟨0x711C, 0x20, 3, true, [⟨0, 32, .ro⟩]⟩,
   ⟨0x717C, 0x20, 5, false, [⟨0, 32, .ro⟩]⟩,
   ⟨0x7200, 0x4, 64, false, [⟨0, 16, .rw⟩]⟩]

/-- Registers of the BBX page, 0x4000_8000. -/
def pageBBX : List RegDesc :=
  [⟨0x8000, 0x0, 1, true, [⟨0, 8, .rw⟩]⟩,
   ⟨0x8004, 0x0, 1, false, [⟨0, 1, .ro⟩, ⟨1, 1, .ro⟩, ⟨2, 1, .ro⟩, ⟨3, 1, .w1c⟩, ⟨4, 1, .ro⟩, ⟨5, 1, .ro⟩, ⟨6, 1, .ro⟩, ⟨7, 1, .ro⟩, ⟨8, 1, .w1c⟩, ⟨9, 1, .w1c⟩, ⟨10, 1, .ro⟩, ⟨11, 1, .ro⟩, ⟨16, 7, .ro⟩]⟩,
   ⟨0x8008, 0x0, 1, false, [⟨0, 16, .ro⟩, ⟨16, 9, .ro⟩]⟩,
   ⟨0x800C, 0x0, 1, false, [⟨0, 7, .ro⟩]⟩,
   ⟨0x8010, 0x0, 1, true, [⟨0, 16, .wo⟩, ⟨16, 1, .wo⟩]⟩,
   ⟨0x8014, 0x0, 1, true, [⟨0, 1, .wo⟩, ⟨1, 1, .wo⟩]⟩,
   ⟨0x8020, 0x0, 1, false, [⟨0, 32, .ro⟩]⟩,
   ⟨0x8024, 0x0, 1, false, [⟨0, 32, .ro⟩]⟩,
   ⟨0x8028, 0x0, 1, false, [⟨0, 32, .ro⟩]⟩,
   ⟨0x8070, 0x0, 1, false, [⟨0, 32, .rc⟩]⟩,
   ⟨0x8074, 0x0, 1, false, [⟨0, 32, .rc⟩]⟩,
   ⟨0x8078, 0x0, 1, false, [⟨0, 32, .rc⟩]⟩,
   ⟨0x807C, 0x0, 1, false, [⟨0, 32, .rc⟩]⟩,
   ⟨0x8080, 0x0, 1, true, [⟨0, 16, .rw⟩, ⟨16, 2, .rw⟩, ⟨18, 10, .rw⟩, ⟨31, 1, .wo⟩]⟩,
   ⟨0x8084, 0x0, 1, false, [⟨0, 3, .ro⟩]⟩,
   ⟨0x8030, 0x8, 8, false, [⟨0, 32, .ro⟩]⟩,
   ⟨0x8034, 0x8, 8, false, [⟨0, 32, .ro⟩]⟩,
   ⟨0x80C0, 0x4, 16, false, [⟨0, 32, .ro⟩]⟩]

/-- Registers of the SAFE page, 0x4000_9000. -/
def pageSAFE : List RegDesc :=
  [⟨0x9000, 0x0, 1, true, [⟨0, 3, .ro⟩, ⟨3, 1, .ro⟩, ⟨4, 1, .ro⟩, ⟨5, 1, .ro⟩, ⟨8, 8, .ro⟩, ⟨16, 8, .ro⟩]⟩,
   ⟨0x9004, 0x0, 1, true, [⟨0, 17, .ro⟩]⟩,
   ⟨0x9008, 0x0, 1, true, [⟨0, 17, .w1c⟩]⟩,
   ⟨0x900C, 0x0, 1, true, [⟨0, 1, .wo⟩, ⟨1, 1, .wo⟩, ⟨2, 1, .rw⟩, ⟨8, 4, .wo⟩]⟩,
   ⟨0x9010, 0x0, 1, true, [⟨0, 32, .rc⟩]⟩,
   ⟨0x9020, 0x0, 1, true, [⟨0, 1, .rw⟩, ⟨1, 1, .ro⟩, ⟨2, 1, .ro⟩, ⟨3, 1, .ro⟩, ⟨4, 1, .ro⟩]⟩,
   ⟨0x9024, 0x0, 1, true, [⟨0, 1, .w1c⟩, ⟨1, 1, .w1c⟩, ⟨2, 1, .w1c⟩, ⟨3, 1, .w1c⟩]⟩,
   ⟨0x9030, 0x0, 1, true, [⟨0, 4, .rw⟩]⟩,
   ⟨0x9034, 0x0, 1, true, [⟨0, 3, .ro⟩, ⟨4, 3, .ro⟩, ⟨8, 3, .ro⟩, ⟨12, 3, .ro⟩, ⟨16, 1, .ro⟩, ⟨17, 1, .ro⟩, ⟨18, 1, .ro⟩]⟩,
   ⟨0x9038, 0x0, 1, true, [⟨0, 4, .w1c⟩, ⟨4, 4, .w1c⟩, ⟨8, 4, .w1c⟩, ⟨12, 4, .w1c⟩, ⟨16, 4, .w1c⟩, ⟨20, 4, .w1c⟩, ⟨24, 4, .w1c⟩, ⟨28, 2, .w1c⟩]⟩,
   ⟨0x903C, 0x0, 1, true, [⟨0, 4, .ro⟩, ⟨4, 4, .ro⟩]⟩,
   ⟨0x9040, 0x4, 4, true, [⟨0, 16, .ro⟩]⟩,
   ⟨0x9060, 0x0, 1, true, [⟨0, 12, .ro⟩]⟩,
   ⟨0x9064, 0x0, 1, true, [⟨0, 12, .ro⟩]⟩,
   ⟨0x9068, 0x0, 1, true, [⟨0, 1, .w1c⟩, ⟨1, 1, .w1c⟩, ⟨2, 1, .ro⟩]⟩,
   ⟨0x906C, 0x0, 1, true, [⟨0, 32, .ro⟩]⟩,
   ⟨0x9070, 0x0, 1, true, [⟨0, 32, .ro⟩]⟩,
   ⟨0x9074, 0x0, 1, true, [⟨0, 1, .wo⟩, ⟨1, 1, .ro⟩, ⟨2, 1, .w1c⟩, ⟨3, 1, .w1c⟩, ⟨4, 1, .w1c⟩, ⟨16, 16, .wo⟩]⟩,
   ⟨0x9080, 0x0, 1, true, [⟨0, 2, .rs⟩, ⟨2, 2, .rs⟩]⟩,
   ⟨0x9084, 0x0, 1, true, [⟨0, 17, .rs⟩]⟩] ++
  [⟨0x9088, 0x0, 1, true, [⟨0, 8, .rs⟩, ⟨8, 8, .rs⟩]⟩,
   ⟨0x908C, 0x0, 1, true, [⟨0, 1, .rs⟩]⟩,
   ⟨0x9800, 0x0, 1, false, [⟨0, 3, .rw⟩]⟩,
   ⟨0x9804, 0x10000, 8, true, [⟨0, 1, .ro⟩, ⟨1, 1, .ro⟩, ⟨2, 1, .ro⟩, ⟨3, 1, .ro⟩, ⟨4, 4, .ro⟩, ⟨8, 2, .ro⟩, ⟨16, 16, .ro⟩]⟩,
   ⟨0x9100, 0x0, 1, true, [⟨0, 1, .rs⟩]⟩,
   ⟨0x9104, 0x0, 1, true, [⟨2, 30, .rw⟩]⟩,
   ⟨0x9108, 0x0, 1, true, [⟨0, 4, .wo⟩, ⟨4, 6, .wo⟩, ⟨12, 1, .wo⟩, ⟨13, 1, .wo⟩]⟩,
   ⟨0x910C, 0x0, 1, true, [⟨0, 4, .ro⟩, ⟨4, 1, .ro⟩, ⟨5, 1, .ro⟩, ⟨8, 4, .ro⟩, ⟨16, 16, .ro⟩]⟩,
   ⟨0x9110, 0x0, 1, true, [⟨0, 16, .rw⟩]⟩,
   ⟨0x9114, 0x0, 1, true, [⟨0, 16, .w1c⟩]⟩,
   ⟨0x9118, 0x0, 1, true, [⟨0, 32, .rs⟩]⟩,
   ⟨0x911C, 0x0, 1, true, [⟨0, 1, .ro⟩, ⟨1, 1, .ro⟩, ⟨2, 1, .ro⟩, ⟨3, 4, .ro⟩, ⟨16, 16, .ro⟩]⟩,
   ⟨0x9120, 0x0, 1, true, [⟨0, 1, .wo⟩]⟩,
   ⟨0x9124, 0x0, 1, true, [⟨0, 16, .ro⟩, ⟨16, 1, .ro⟩, ⟨17, 1, .ro⟩]⟩,
   ⟨0x9128, 0x0, 1, true, [⟨0, 8, .rc⟩, ⟨8, 8, .rc⟩, ⟨16, 8, .rc⟩, ⟨24, 8, .rc⟩]⟩,
   ⟨0x9140, 0x4, 8, true, [⟨0, 32, .rw⟩]⟩,
   ⟨0x9160, 0x4, 8, true, [⟨0, 32, .ro⟩]⟩,
   ⟨0x9200, 0x20, 16, true, [⟨0, 1, .rs⟩, ⟨1, 1, .rs⟩, ⟨2, 1, .rs⟩, ⟨3, 1, .rs⟩, ⟨4, 1, .rs⟩, ⟨8, 8, .rs⟩, ⟨16, 16, .rs⟩]⟩,
   ⟨0x9204, 0x20, 16, true, [⟨0, 32, .rs⟩]⟩,
   ⟨0x9208, 0x20, 16, true, [⟨0, 16, .ro⟩, ⟨16, 1, .ro⟩]⟩] ++
  [⟨0x920C, 0x20, 16, true, [⟨0, 32, .ro⟩]⟩,
   ⟨0x9210, 0x20, 16, true, [⟨0, 8, .rc⟩, ⟨8, 8, .rc⟩, ⟨16, 8, .rc⟩, ⟨24, 8, .rc⟩]⟩]

/-- Registers of the RACK page, 0x4000_A000. -/
def pageRACK : List RegDesc :=
  [⟨0xA000, 0x0, 1, true, [⟨0, 1, .rs⟩, ⟨8, 8, .rw⟩]⟩,
   ⟨0xA004, 0x0, 1, false, [⟨0, 4, .ro⟩, ⟨4, 4, .ro⟩, ⟨8, 3, .ro⟩, ⟨16, 1, .ro⟩, ⟨17, 1, .ro⟩, ⟨18, 1, .w1c⟩, ⟨19, 1, .w1c⟩, ⟨20, 1, .w1c⟩]⟩,
   ⟨0xA008, 0x0, 1, true, [⟨0, 1, .wo⟩, ⟨1, 1, .wo⟩, ⟨2, 1, .wo⟩, ⟨16, 16, .wo⟩]⟩,
   ⟨0xA00C, 0x0, 1, false, [⟨0, 16, .rs⟩]⟩,
   ⟨0xA010, 0x0, 1, false, [⟨0, 16, .rs⟩]⟩,
   ⟨0xA014, 0x0, 1, false, [⟨0, 16, .rs⟩]⟩,
   ⟨0xA018, 0x0, 1, false, [⟨0, 16, .rs⟩]⟩,
   ⟨0xA01C, 0x0, 1, false, [⟨0, 8, .rs⟩, ⟨8, 8, .rs⟩]⟩,
   ⟨0xA020, 0x0, 1, false, [⟨0, 16, .rs⟩, ⟨16, 8, .rs⟩]⟩,
   ⟨0xA024, 0x0, 1, false, [⟨0, 16, .ro⟩]⟩,
   ⟨0xA028, 0x0, 1, false, [⟨0, 16, .ro⟩]⟩,
   ⟨0xA02C, 0x0, 1, false, [⟨0, 16, .ro⟩]⟩,
   ⟨0xA030, 0x0, 1, false, [⟨0, 16, .ro⟩]⟩,
   ⟨0xA040, 0x0, 1, false, [⟨0, 16, .rw⟩, ⟨16, 10, .rw⟩]⟩,
   ⟨0xA044, 0x0, 1, false, [⟨0, 16, .rw⟩, ⟨16, 1, .rw⟩, ⟨31, 1, .wo⟩]⟩,
   ⟨0xA048, 0x0, 1, false, [⟨0, 16, .ro⟩, ⟨16, 10, .ro⟩, ⟨31, 1, .ro⟩]⟩,
   ⟨0xA04C, 0x0, 1, false, [⟨0, 16, .rc⟩, ⟨16, 16, .rc⟩]⟩,
   ⟨0xA080, 0x0, 1, false, [⟨0, 1, .ro⟩]⟩,
   ⟨0xA084, 0x0, 1, true, [⟨0, 10, .rw⟩]⟩,
   ⟨0xA088, 0x0, 1, false, [⟨0, 16, .rs⟩]⟩] ++
  [⟨0xA08C, 0x0, 1, false, [⟨0, 10, .ro⟩]⟩,
   ⟨0xA0C0, 0x0, 1, true, [⟨0, 6, .wo⟩, ⟨8, 2, .wo⟩, ⟨10, 6, .wo⟩]⟩,
   ⟨0xA0C4, 0x0, 1, false, [⟨0, 4, .ro⟩, ⟨4, 1, .ro⟩, ⟨8, 6, .ro⟩, ⟨16, 16, .ro⟩]⟩,
   ⟨0xA0C8, 0x4, 2, true, [⟨0, 32, .rw⟩]⟩,
   ⟨0xA0D0, 0x4, 2, false, [⟨0, 32, .w1c⟩]⟩,
   ⟨0xA800, 0x20, 64, false, [⟨0, 16, .rs⟩, ⟨16, 1, .rs⟩, ⟨17, 1, .rs⟩]⟩,
   ⟨0xA804, 0x20, 64, false, [⟨0, 32, .rs⟩]⟩,
   ⟨0xA808, 0x20, 64, false, [⟨0, 32, .rs⟩]⟩,
   ⟨0xA80C, 0x20, 64, false, [⟨0, 32, .rs⟩]⟩,
   ⟨0xA810, 0x20, 64, false, [⟨0, 16, .ro⟩, ⟨16, 16, .ro⟩]⟩,
   ⟨0xA814, 0x20, 64, false, [⟨0, 16, .ro⟩, ⟨16, 1, .ro⟩]⟩,
   ⟨0xA818, 0x20, 64, false, [⟨0, 32, .ro⟩]⟩,
   ⟨0xA81C, 0x20, 64, false, [⟨0, 8, .rc⟩, ⟨8, 8, .rc⟩, ⟨16, 8, .rc⟩, ⟨24, 8, .rc⟩]⟩]

/-- Registers of the HOST page, 0x4000_B000. -/
def pageHOST : List RegDesc :=
  [⟨0xB000, 0x0, 1, true, [⟨0, 1, .rw⟩, ⟨4, 3, .rw⟩]⟩,
   ⟨0xB004, 0x0, 1, false, [⟨0, 1, .w1c⟩, ⟨1, 1, .ro⟩, ⟨2, 1, .ro⟩, ⟨8, 8, .ro⟩]⟩,
   ⟨0xB008, 0x0, 1, false, [⟨0, 1, .w1c⟩, ⟨1, 1, .w1c⟩, ⟨2, 1, .w1c⟩, ⟨3, 1, .w1c⟩, ⟨4, 1, .w1c⟩, ⟨5, 1, .w1c⟩, ⟨6, 1, .w1c⟩, ⟨7, 1, .w1c⟩, ⟨8, 1, .w1c⟩, ⟨9, 1, .w1c⟩]⟩,
   ⟨0xB00C, 0x0, 1, false, [⟨0, 1, .ro⟩, ⟨1, 1, .ro⟩, ⟨2, 1, .ro⟩, ⟨3, 1, .ro⟩, ⟨4, 1, .ro⟩, ⟨5, 1, .ro⟩, ⟨6, 1, .ro⟩, ⟨7, 1, .ro⟩]⟩,
   ⟨0xB010, 0x0, 1, true, [⟨0, 1, .ro⟩, ⟨5, 1, .ro⟩, ⟨1, 4, .rw⟩, ⟨6, 2, .rw⟩]⟩,
   ⟨0xB014, 0x0, 1, false, [⟨0, 16, .wo⟩]⟩,
   ⟨0xB018, 0x0, 1, false, [⟨0, 16, .rc⟩, ⟨16, 1, .rc⟩]⟩,
   ⟨0xB01C, 0x0, 1, false, [⟨0, 16, .wo⟩]⟩,
   ⟨0xB020, 0x0, 1, false, [⟨0, 16, .rc⟩, ⟨16, 1, .rc⟩]⟩,
   ⟨0xB024, 0x0, 1, false, [⟨2, 30, .rw⟩]⟩,
   ⟨0xB028, 0x0, 1, false, [⟨0, 7, .rw⟩, ⟨8, 8, .rw⟩, ⟨16, 1, .wo⟩, ⟨17, 1, .w1c⟩, ⟨18, 1, .ro⟩]⟩,
   ⟨0xB030, 0x0, 1, false, [⟨0, 8, .ro⟩, ⟨8, 8, .ro⟩, ⟨16, 8, .ro⟩]⟩,
   ⟨0xB034, 0x0, 1, false, [⟨0, 8, .ro⟩, ⟨8, 8, .ro⟩, ⟨16, 8, .ro⟩]⟩,
   ⟨0xB040, 0x0, 1, false, [⟨0, 32, .rc⟩]⟩,
   ⟨0xB044, 0x0, 1, false, [⟨0, 32, .rc⟩]⟩,
   ⟨0xB048, 0x0, 1, false, [⟨0, 32, .rc⟩]⟩]

/-- Registers of the DMA page, 0x4000_C000. -/
def pageDMA : List RegDesc :=
  [⟨0xC000, 0x40, 4, true, [⟨0, 1, .rw⟩, ⟨1, 3, .rw⟩]⟩,
   ⟨0xC004, 0x40, 4, false, [⟨2, 30, .rw⟩]⟩,
   ⟨0xC008, 0x40, 4, false, [⟨0, 1, .wo⟩, ⟨1, 1, .wo⟩, ⟨2, 1, .wo⟩]⟩,
   ⟨0xC00C, 0x40, 4, false, [⟨0, 2, .ro⟩, ⟨8, 8, .ro⟩, ⟨16, 1, .w1c⟩, ⟨17, 1, .w1c⟩, ⟨18, 1, .w1c⟩]⟩,
   ⟨0xC010, 0x40, 4, false, [⟨0, 32, .ro⟩]⟩,
   ⟨0xC014, 0x40, 4, false, [⟨0, 32, .ro⟩]⟩,
   ⟨0xC100, 0x0, 1, false, [⟨0, 4, .ro⟩, ⟨4, 4, .ro⟩]⟩]

/-- Registers of the CTX page, 0x4000_D000. -/
def pageCTX : List RegDesc :=
  [⟨0xD010, 0x0, 1, true, [⟨0, 1, .ro⟩, ⟨1, 1, .ro⟩, ⟨2, 1, .ro⟩, ⟨3, 1, .ro⟩, ⟨8, 8, .ro⟩, ⟨16, 16, .ro⟩]⟩,
   ⟨0xD014, 0x0, 1, true, [⟨0, 32, .ro⟩]⟩,
   ⟨0xD018, 0x0, 1, true, [⟨0, 32, .ro⟩]⟩]

/-- Registers of the WIN page, 0x4000_E000. -/
def pageWIN : List RegDesc :=
  [⟨0xE000, 0x10, 4, true, [⟨2, 30, .rw⟩]⟩,
   ⟨0xE004, 0x10, 4, true, [⟨2, 30, .rw⟩]⟩,
   ⟨0xE008, 0x10, 4, true, [⟨0, 1, .rw⟩, ⟨1, 1, .rw⟩, ⟨2, 1, .rw⟩, ⟨3, 1, .rw⟩]⟩,
   ⟨0xE040, 0x0, 1, true, [⟨0, 32, .rc⟩]⟩,
   ⟨0xE044, 0x0, 1, true, [⟨0, 32, .rc⟩]⟩,
   ⟨0xE800, 0x0, 1, true, [⟨0, 3, .rw⟩]⟩,
   ⟨0xE804, 0x10000, 64, true, [⟨6, 26, .rw⟩]⟩,
   ⟨0xE808, 0x10000, 64, true, [⟨6, 26, .rw⟩]⟩,
   ⟨0xE80C, 0x10000, 64, true, [⟨6, 26, .rw⟩]⟩,
   ⟨0xE810, 0x10000, 64, true, [⟨0, 1, .rw⟩, ⟨1, 1, .rw⟩, ⟨2, 1, .rw⟩, ⟨3, 1, .rw⟩, ⟨4, 1, .rw⟩, ⟨5, 1, .rw⟩, ⟨6, 1, .rw⟩, ⟨8, 2, .rw⟩, ⟨16, 16, .rw⟩]⟩]

/-- The registers of page `p` (R89, Table 3-7). -/
def page (p : Nat) : List RegDesc :=
  match p with
  | 0 => pageSYS
  | 1 => pageCLK
  | 2 => pageMEAS
  | 3 => pageSNAP
  | 4 => pageBAL
  | 5 => pagePORT
  | 6 => pageFAB
  | 7 => pageCVU
  | 8 => pageBBX
  | 9 => pageSAFE
  | 10 => pageRACK
  | 11 => pageHOST
  | 12 => pageDMA
  | 13 => pageCTX
  | 14 => pageWIN
  | _ => []

/-- Registers whose reset value is not zero (R12), sorted by key; what fuses, straps and NVM load later has its
value before that load, and LOAD_ST.BLANK reads 1 as for the erased NVM (log 1). -/
def resetWords : List (Nat × Word) :=
  [(0x00000, 0x00002412#32), (0x01000, 0x00000100#32), (0x01004, 0x00000002#32), (0x01008, 0x000000A0#32), (0x0100C, 0x27102710#32), (0x0101C, 0x00003C3C#32), (0x01024, 0x00000001#32), (0x01030, 0x00146401#32)] ++
  [(0x01040, 0x0384D373#32), (0x02020, 0x00000001#32), (0x02060, 0x00000384#32), (0x02064, 0x0000012C#32), (0x02068, 0x0000FFF3#32), (0x020E0, 0x0007D000#32), (0x03008, 0x14280032#32), (0x03014, 0xFFFFFFFF#32)] ++
  [(0x03068, 0x00008000#32), (0x0400C, 0x00000064#32), (0x04010, 0x0000003C#32), (0x04814, 0x03E80000#32), (0x05008, 0x00000F00#32), (0x05804, 0x00000003#32), (0x05818, 0x00008000#32), (0x06008, 0x0000A13F#32)] ++
  [(0x0600C, 0x00000800#32), (0x06304, 0x0A021801#32), (0x07100, 0x0064001D#32), (0x07104, 0x10000000#32), (0x07108, 0x00010000#32), (0x0710C, 0xFFFFFFFF#32), (0x07120, 0x000A001F#32), (0x07124, 0x1001C400#32)] ++
  [(0x07128, 0x00001BFC#32), (0x0712C, 0xFFFFFFFF#32), (0x07140, 0x0258001F#32), (0x07144, 0x1001E000#32), (0x07148, 0x00000124#32), (0x0714C, 0xFFFFFFFF#32), (0x08000, 0x0000000A#32), (0x08004, 0x00400000#32)] ++
  [(0x09000, 0x00000028#32), (0x09004, 0x0000004F#32), (0x09084, 0x0001FFFF#32), (0x09088, 0x00000014#32), (0x0908C, 0x00000001#32), (0x09100, 0x00000001#32), (0x0A000, 0x00000A01#32), (0x0A00C, 0x00000190#32)] ++
  [(0x0A010, 0x00000014#32), (0x0A014, 0x00000190#32), (0x0A018, 0x00000064#32), (0x0A01C, 0x00000AC8#32), (0x0A020, 0x001E00C8#32), (0x0B004, 0x00000001#32), (0x0B010, 0x000000FF#32), (0x0B030, 0x00808040#32)] ++
  [(0x0D010, 0x00000004#32), (0x14814, 0x03E80000#32), (0x15804, 0x00000003#32), (0x15818, 0x00008000#32), (0x24814, 0x03E80000#32), (0x25804, 0x00000003#32), (0x25818, 0x00008000#32), (0x34814, 0x03E80000#32)] ++
  [(0x35804, 0x00000003#32), (0x35818, 0x00008000#32), (0x44814, 0x03E80000#32), (0x54814, 0x03E80000#32)]

end Reg

end Sys2Proof.Machine
end

