-- ==== Sys2Proof/Machine/State.lean ====
section
/-! DEFINITION. The state of one RETRIC 2412 die, as plain data, and the state at reset. -/

namespace Sys2Proof.Machine

/-- What a step may stop with. No rule of the spec stops the die in a command, so no meaning raises it;
it would be safe. -/
inductive Fault where
  /-- Raised by nothing: kept so that the type is inhabited. Safe. -/
  | none
  deriving DecidableEq, Repr

/-- Why a command has no meaning in the model. -/
inductive Refusal where
  /-- Raised by an arm of `exec` whose command has no meaning yet. Safe. -/
  | notModelled (mnemonic : String)
  deriving DecidableEq, Repr

/-! ## The core (chapters 3 to 5) -/

/-- Context states, Table 3-1 (R70). -/
inductive CtxState where
  | idle | ready | running | waiting | parked
  deriving DecidableEq, Repr

/-- What a WAITING context waits for (R71, R145). -/
inductive Wait where
  | event
  | sleep (permit : Nat)
  | yield (others : List Cid)
  | fence (classes : BitVec 3)
  | remote
  | nvm (sector : Nat)
  | logb
  deriving DecidableEq, Repr

/-- A remote request of a context or DMA channel (R188 to R192): the word of the instruction that made it (0 for
DMA) and its operands, by which its answer is found again (R147), the window it was sent through, and the request. -/
structure Request where
  word : Word
  win : Nat
  va : Nat
  opnd : Nat
  write : Bool
  node : BitVec 16
  host : Bool
  addr : Nat
  len : Nat
  tag : BitVec 16
  data : List Byte
  deadline : Nat
  deriving DecidableEq, Repr

/-- How a remote request ended (R191, R192). -/
inductive Answer where
  | data (bytes : List Byte)
  | done
  | refused (reason : Nat)
  | timeout
  deriving DecidableEq, Repr

/-- A frame in a receive queue, with its arrival port as RECV shows it (R162, R744). -/
structure RxFrame where
  frame : Frame
  port : Byte
  deriving DecidableEq, Repr

/-- One context: its registers and all the core keeps for it (R77 to R82, R97, R103, R147, R165, R423). `cont` is the long
instruction at whose resumption point the context holds the core (R166), `evNew` the events raised in the tick it names (R88), `werrAt`
when WERR was last set (R13). -/
structure Ctx where
  x : Vector Word 16
  pc : Word
  status : Word
  epc : Word
  estatus : Word
  cause : Word
  tval : Word
  tvec : Word
  evmask : Word
  evpend : Word
  cycle : Word
  scratch0 : Word
  scratch1 : Word
  rtimeHold : BitVec 24
  sel : Vector Nat 6
  state : CtxState
  werr : Bool
  wait : Option Wait
  yielded : Bool
  slot : Option (Request × Answer)
  req : Option Request
  tagCount : BitVec 12
  stage : List Byte
  rx : List RxFrame
  cont : Option Instr
  evNew : Nat × Word
  werrAt : Option Nat
  deriving DecidableEq, Repr

/-- A DMA descriptor as a channel holds it while it works on it (R201, R212). -/
structure Desc where
  ctrl : Word
  src : Nat
  dst : Nat
  len : Nat
  next : Nat
  deriving DecidableEq, Repr

/-- One DMA channel (R202 to R212); its registers are in the DMA page. `req` and `ans` are its remote transfer's request and the
answer taken for it, `waitRtc` the compare its descriptor waits for; `inBeat` while one of its own beats is made (R210). -/
structure DmaCh where
  desc : Option Desc
  stopping : Option Nat
  req : Option Request
  ans : Option (Request × Answer)
  tagCount : BitVec 12
  waitRtc : Option (Fin 4)
  inBeat : Bool
  deriving DecidableEq, Repr

/-- Where the answer to a PROG message goes (R117): LOADOUT, or its SRC. -/
inductive ReplyTo where
  | host
  | fabric (src : BitVec 16)
  deriving DecidableEq, Repr

/-- The loader while the die is in LOAD (R107 to R117): the load's parameters, whether the host began it, chunks received, bytes staged
by chunk, the last failed commit's code,
a commit whose NVM writes are still to be made (where its answer goes, and RESTART), whether a commit has succeeded. -/
structure Load where
  rolemask : BitVec 8
  imglen : Nat
  imgid : Word
  imgver : Word
  imgcrc : Word
  host : Bool
  chunks : List Nat
  staged : List (Nat × Nat)
  lastFail : Option Nat
  commit : Option (ReplyTo × Bool)
  committed : Bool
  deadline : Nat
  deriving DecidableEq, Repr

/-- Who asked for an NVM write (R95): what happens when it completes. `commit` is the black-box engine's commit in its turn, which
carries no bytes here; `dropped` is a write of a load that has ended since, which runs to its end and brings nothing. -/
inductive NvmWriter where
  | program (sector : Nat)
  | directory
  | sealedByLoader
  | sealedWrite
  | bbxMap
  | shadow (area : Nat) (pos : Nat)
  | commit
  | dropped
  deriving DecidableEq, Repr

/-- A waiting or running NVM write (R95). -/
structure NvmWrite where
  addr : Nat
  bytes : List Byte
  writer : NvmWriter
  deriving DecidableEq, Repr

/-! ## Ports and fabric (chapters 9 and 10) -/

/-- What a transmitted frame is for: what its completion or failure reports to (R385, R458, R516); a record's copy names the area, 1 for
U and 2 for D. -/
inductive TxFor where
  | program (tag : Nat)
  | announce
  | mirror (area : Nat) (seq : BitVec 16)
  | other
  deriving DecidableEq, Repr

/-- How a TIME frame's payload is made as it leaves: not at all, from its SOF's arrival and ACC before its residence here
(R299), or from the originator's own count (R296). -/
inductive TimeSrc where
  | fixed
  | relay (arrived acc : Nat)
  | origin
  deriving DecidableEq, Repr

/-- A frame waiting for, or on, a port's transmitter (R384, R388). `seq` is its LSEQ once assigned, `tries` how often it has gone out
whole: above 0 in the queue it is a retransmission, whose frame is kept among the outstanding; it starts not before `ready` (R389);
`viaUp` says that step 7 of Table 10-1 sent it to the default upstream (R444); `poison` ends it with the complement CRC (R379), `cut` with an
ABORT after the ingress frame was cut short then, on that port and with that LSEQ (R393). -/
structure TxItem where
  frame : Frame
  use : TxFor
  seq : Option (BitVec 16)
  tries : Nat
  ready : Nat
  viaUp : Bool
  poison : Bool
  stamp : TimeSrc
  cut : Option (Nat × Port × BitVec 16)
  deriving DecidableEq, Repr

/-- A frame sent with ACKREQ and not yet acknowledged (R384), with the time it is sent again. -/
structure OutItem where
  item : TxItem
  retryAt : Nat
  deriving DecidableEq, Repr

/-- Phases of a link start (R404, R405, R825). -/
inductive StartPhase where
  | none
  | start         -- the port is to start a link as initiator
  | hold          -- the initiator sent WAKE or holds the line
  | mark          -- the initiator sent RST_END and waits for presence
  | answering     -- the responder answered with PRESENCE
  | ready         -- presence judged good: training starts 150 µs after the mark
  | training
  | observing     -- the far end holds the line; RST_END awaited (R411)
  | pausing       -- pause after a failed attempt or a collision (R408, R412)
  | failed        -- three attempts failed (R408)
  deriving DecidableEq, Repr

/-- A side message being sent: its bits left, whether it is the program's (R399, R402), and for a DLY_RSP the t2 that it answers (R300). -/
structure SideTx where
  bits : List Bool
  program : Bool
  isDlyReq : Bool
  answers : Option Nat
  deriving DecidableEq, Repr

/-- A Primer on a port (R464 to R467): asked, its PRIMER_ACK on its way, acknowledged, or running. -/
inductive PrimerPhase where
  | none | asked | acking | acked | running
  deriving DecidableEq, Repr

/-- One port beside its registers; `curAt` is when the frame in flight began, `lastTx` when the last one ended; `annAt`, `dlyAt` and
`alarmAt` say when ANNOUNCE, a periodic DLY_REQ and ALARM last went out; `wakePend` is a WAKE that waits for HFO (R414); `llUntil` is the end of the last
lifeline pattern that the port sent (Table 16-2); `wakesSent`,
`alarmsSent` and `presencesSent` count the lifeline patterns it has put on its line; `primerFrom` is when the raw pattern began, `primerErrs` and
`primerLoss` what its checker has counted since, not saturated (R465); `relinkAt` is the link start of the initiator of a Primer that has
ended (R466); `plan` is the waiting frame, and the LAST_TX before it, of a
transmission chosen before its SOF (R388). -/
structure PortSt where
  phase : StartPhase
  initiator : Bool
  sentWake : Bool
  doubled : Bool
  nulls : Nat
  deadline : Nat
  nextSeq : BitVec 16
  rxAny : Bool
  accepted : List (BitVec 16)
  queue : List TxItem
  cur : Option TxItem
  curAt : Nat
  outs : List OutItem
  failRow : Nat
  aborted : List (Port × BitVec 16 × BitVec 16)
  sideTx : Option SideTx
  sideHw : List (Nat × Nat)
  sideProg : Option (Nat × Nat)
  sideRx : Option (List Bool)
  sideRxAt : Nat
  dlyReqSent : Option Nat
  dlyT1 : Option Nat
  dlyAt : Nat
  farSleep : Bool
  resumeTry : Nat
  lastRx : Nat
  lastTx : Nat
  alarmUntil : Option Nat
  alarmAt : Nat
  annSent : Nat
  annAt : Nat
  annAcked : Bool
  annSeen : Bool
  annFar : List Byte
  primer : PrimerPhase
  primerInit : Bool
  primerMinutes : Nat
  primerDelay : Option Nat
  primerAt : Nat
  primerFrom : Nat
  primerErrs : Nat
  primerLoss : Nat
  relinkAt : Option Nat
  plan : Option (TxItem × Nat)
  wakePend : Bool
  llUntil : Nat
  wakesSent : Nat
  alarmsSent : Nat
  presencesSent : Nat
  deriving DecidableEq, Repr

/-! ## The black box (chapter 12) -/

/-- A record (R495) without its COMMIT word. -/
structure Rec where
  kind : Byte
  sticky : Bool
  moved : Bool
  shadowOnly : Bool
  seq : BitVec 16
  stamp : Nat
  epoch : Byte
  origin : Byte
  content : List Byte
  deriving DecidableEq, Repr

/-- The black-box engine beside its registers; `redo` holds the records to be recommitted after a media failure, each with the bad
position that it is pinned at, `moving` that of the record being committed (R498, R520); `burnOn` says that the first row of `burning` is
being burnt (R521); `unackedU` and `unackedD` are the newest records that are not sticky and that a partner has not acknowledged, in SEQ
order (R517); `stored` counts the records stored in areas U and D, `poolAt` is the sticky
pool position taken last in each (R791, R792); `rdreqAt` ends a BREAD's wait, `unfitAt` is the next UNFIT notice, `summaryAt` when
the last summary was appended, `temps` the least and greatest temperature sampled since. -/
structure Bbx where
  queue : List (Rec × Option Cid)
  redo : List (Rec × Option Nat)
  commit : Option (Rec × Nat)
  moving : Option Nat
  nextPos : Nat
  nextSeq : BitVec 16
  pins : List Nat
  mapGen : Nat
  acks : List (BitVec 16 × Bool)
  burning : List (Nat × BitVec 64)
  burnOn : Bool
  unackedU : List Rec
  unackedD : List Rec
  early : List (Byte × Bool × List Byte)
  breads : List (Port × BitVec 16 × Nat × Nat)
  stored : Nat × Nat
  poolAt : Nat × Nat
  rdreqAt : Nat
  unfitAt : Nat
  summaryAt : Nat
  temps : Option (Int × Int)
  deriving DecidableEq, Repr

/-! ## Measuring and balancing (chapters 6 and 8) -/

/-- Channels armed by one MEAS (R148 to R150, R230): masks by channel number; `trig` is the compare they wait for, `quiet` says that
its quiet window has begun (R235), `ibSketch` and `ibStudy` hold each bleed switch's current by the window's weight (R354). -/
structure MeasSet where
  trig : Option (Fin 4)
  started : Bool
  quiet : Bool
  left : Nat
  study : Nat
  late : Bool
  short : Bool
  shuttles : Nat
  bleeds : Nat
  cal : Nat
  startedAt : Nat
  ibSketch : Vector Nat 12
  ibStudy : Vector Nat 12
  deriving DecidableEq, Repr

/-- The measuring front end beside its registers. Of an aux scan: the inputs left, whether the first is still to be written, when the
present window began, and when the next one does (R246). `starts` and `results` hold each channel's last start and what it last
wrote, with the start and grade, `diagTarget` the target channel 15 started with (R261, R262); `owPhase` and `owAt` the phase of an
open-wire test and when it began; `leakAt` when a leakage test began, `leakSkip` its pins that could not be tested when their turn
came, `leakWaiting` a test that waits (R264, R268, R269); `grSince` a change of GR not yet in effect (R277); `sentAt` the last
sentinel sample (R251); `lastRan` when a shuttle last carried current (R236), `quietEnd` the latest end of a Study window (R237). -/
structure Meas where
  sets : List MeasSet
  auxLeft : List Nat
  auxFirst : Bool
  auxAt : Nat
  auxGap : Option Nat
  auxref : Bool
  pauseHeld : Bool
  resumeAt : Option Nat
  starts : Vector (Option (Nat × Bool)) 16
  results : Vector (Option (Nat × Bool × Int)) 16
  diagTarget : Nat
  owPhase : Nat
  owAt : Nat
  owFirst : List Int
  owSecond : List Int
  leakAt : Option Nat
  leakSkip : Nat
  leakWaiting : Bool
  leakI : List Int
  leakClean : Nat
  grSince : Option (Bool × Nat)
  sentAt : Nat
  lastRan : Option Nat
  quietEnd : Nat
  calSince : Option Nat
  sentOver : Vector Nat 12
  sentUnder : Vector Nat 12
  coul : Int
  coulT : Nat
  deriving DecidableEq, Repr

/-- The operation that replaces a shuttle's running one from its next cycle (R155): when that begins, and what it has moved since, in mA
and ticks. -/
structure NextOp where
  op : Nat
  cell : Nat
  target : Nat
  ceil : Nat
  due : Nat
  part : Nat
  deriving DecidableEq, Repr

/-- A cycle that goes on at the current it began with, until the first tick of the next (R333); its charge may be counted already. -/
structure CycleRest where
  till : Nat
  amps : Nat
  counted : Bool
  deriving DecidableEq, Repr

/-- One shuttle beside its registers (R343, R345, R347, R357): inductor rise in m°C, charge counts in nC; `mean` and `part` gather
applied current times time, in mA and ticks, since the governor's last update and since charge was last counted; `zAt` is when the
next impedance measurement is due. Of a clamp episode: its ticks, its shortfall in mA and ticks that BAL_SHORT does not show yet, and
whether it has lasted more than 1 s (R347, R348); `governed` is what the governor last computed, which SUPPLY replaces by 0 (R335), `next` an operation
that waits for the next shuttle cycle, `cycle` the rest of a cycle that began before the applied current changed. -/
structure Shuttle where
  rise : Rat
  mean : Nat
  part : Nat
  zAt : Nat
  probing : Bool
  doneNc : Nat
  clampFor : Nat
  clampLack : Nat
  clamped : Bool
  governed : Nat
  next : Option NextOp
  cycle : Option CycleRest
  deriving DecidableEq, Repr

/-- The Ladle beside its registers: switches physically closed, those whose duty in this frame has ended, cells whose bleeding has a
target and each target's nC left, the ticks each switch was closed since its charge was last counted; when the governor last
computed, the bleed currents were last measured and the bleed frame began. -/
structure Ladle where
  shuttles : Vector Shuttle 6
  closed : Nat
  dutyOff : Nat
  targets : Nat
  leftNc : Vector Nat 12
  closedFor : Vector Nat 12
  govAt : Nat
  sampleAt : Nat
  frameAt : Nat
  deriving DecidableEq, Repr

/-! ## Rack time, snapshots, power (chapters 7 and 16) -/

/-- The snapshot unit and rack time beside their registers: the unit's own compare (instant, number), the trip follow-up's (R320),
the compares that rack snapshots wait for, when each bank last latched (R329), the last TRIP's source, port and whether it began
here, banks whose HFO words wait, with the words at hand of a record that waits for them (R326, R328), the epoch already warned of
(R285), when TIME last went out by RT_CFG.PER (R297), the instants of the SCHEDs held (R65), the last sweep and snapshot numbers
(R780), the cross-link's delay (R298). -/
structure Snap where
  localNo : Nat
  armed : Option (Nat × Nat)
  follow : Option (Nat × Nat)
  tied : List (Fin 4 × Nat)
  at0 : Option Nat
  at1 : Option Nat
  acked : Bool
  trip : Option (BitVec 16 × Port × Bool)
  hfoLate : List (Nat × Option (List Nat × List Nat))
  warned : Option Nat
  timeAt : Nat
  scheds : List Nat
  lastSweep : Option Nat
  lastSnap : Option Nat
  xDelay : Option Nat
  deriving DecidableEq, Repr

/-- The power and clock unit beside its registers: the state below DOZE (0 awake), a wake whose HFO is not yet stable,
an entry whose SLEEP_NOTEs have gone out, the ports that sent them (R687), when the state was entered, the wake timer's aim and target in rack time, a guard wake not yet answered (R699), a
guard wake whose error is still to be learned with its S, if a TIME had been applied before it (R695), the rack time, with its epoch, of
the last applied TIME (R691), the time asleep before it, SEARCH's end and whether it is a LOST die's retry, when LOST began to
count, the last errors (R695), the port a WAKE is relayed for, since when, whether one was sent on, and whether
a TIME has gone out on that port (R703), the last VSTK sample in
mV, the watchdog and the start of the count that it last warned of (R709), work done since the ledger was last updated, by kind, and
the charge below 1 nC that it left (R713), when the ledger was so updated, when the monitors and the guard last sampled (R691, R706) and
the present measurement of the LFO began (R693). -/
structure Power where
  below : Nat
  waking : Bool
  entering : Bool
  noted : List Port
  enteredAt : Nat
  aim : Option Nat
  target : Option Nat
  guardAt : Option Nat
  learnS : Option (Option Nat)
  rackHeard : Option Nat
  slept : Nat
  searchEnd : Option Nat
  lostSearch : Bool
  retryAt : Option Nat
  errs : List Nat
  relay : Option (Port × Nat × Bool)
  relayed : Bool
  vstk : Nat
  wdOn : Bool
  wdAt : Nat
  wdWarned : Option Nat
  work : Vector Nat 10
  ledgerRem : Nat
  ledgerAt : Nat
  monAt : Nat
  guardSampled : Nat
  lfoAt : Nat
  deriving DecidableEq, Repr

/-! ## Safety, safety frames, joins (chapters 13 to 15) -/

/-- The safety block beside its registers. Inputs 0 to 7 are SIN0 to SIN7, 8 to 11 FB0 to FB3; masks have one bit each.
`known` holds the inputs of which a level has been accepted since the block started (R537, R546).
`cause` is an input's fault (Table 13-18), `cause2` one of the other kind, DISCREPANCY or not, found beside it (R547), `pulseA` and `pulseB`
say that TPOA and TPOB are low, `bothLow` since when both are held so (R544), `passes` the test pulses it has passed in a row (R545), `pairsB` channel B's
pair states, `disc` since when a pair's inputs disagree and which of them did not change (R540), `bothSeen` and `restart`
the pairs that have met R538's FAULT row and the restart condition, `lastRec` when each source was last recorded (R581),
`coilAt` when each coil entered its phase, but for WAIT, `cut` the coils in HOLD whose switch was off as a demand ended (R579), `fb1Low` when FB1 was accepted low (R564), `sdAt` when both torque lines read
low (R578), the torque lines' judgement (R552 to R554) with the start of the partner's last pulse, the seal reader and its last scan (R567), a sealed write
in progress (R574); `sinA` and `sinB` say when each channel last accepted another level of an input, `pulse` which output last began a
test pulse (channel B's or not) and when (R543), `pulseEnd` when one last ended (R537), `cmpAt` when the channels were last compared
(R530); `full` are the inputs that a full test-pulse period has passed since the block's start or their last fault (R538), `chbMiss` when
channel B last missed the heartbeat (R535), `chbAt` since when channel B's own demand word is not 0 (R531), `tiDone` and `sdDone` say that
TIWAIT or SDDELAY has run out in this demand (R578), `picked` are the coils that have entered PICKUP since reset and `closed` those whose
FBn was accepted low within 80 ms of it (R563), `sealEver` says that a seal word was accepted since the die's last reset (R575). -/
structure Safe where
  running : Bool
  raw : Nat
  accA : Nat
  accB : Nat
  known : Nat
  cause : Vector Nat 12
  cause2 : Vector Nat 12
  passes : Vector Nat 12
  full : Nat
  pairsB : Nat
  disc : Vector (Option (Nat × Nat)) 4
  bothSeen : Nat
  restart : Nat
  pulseA : Bool
  pulseB : Bool
  bothLow : Option Nat
  chbSince : Option Nat
  chbOff : Bool
  chbMiss : Option Nat
  chbAt : Option Nat
  lastRec : Vector (Option Nat) 17
  demandAt : Nat
  tiRun : Bool
  tiDone : Bool
  sdAt : Option Nat
  sdDone : Bool
  coilAt : Vector Nat 4
  picked : Nat
  cut : Nat
  closed : Nat
  fb1Low : Option Nat
  ownHigh : Option Nat
  partSeen : Bool
  partLow : Option Nat
  partMiss : Nat
  partAt : Nat
  sinA : Vector Nat 12
  sinB : Vector Nat 12
  pulse : Option (Bool × Nat)
  pulseEnd : Nat
  cmpAt : Nat
  scanAt : Nat
  sealLast : Option Nat
  sealClean : Nat
  sealMatrix : Bool
  sealTaken : Bool
  sealEver : Bool
  sealing : Option (List (Nat × List Byte))
  deriving DecidableEq, Repr

/-- An operation of the safety-frame unit: SFU_OP's on a slot, RACK_TOP's on a tray entry (R586, R591, R638). -/
inductive SfuOp where
  | form (k d : Nat)
  | check (k : Nat)
  | formRs (t d : Nat)
  | formCmd (t d : Nat)
  | checkSt (t : Nat)
  deriving DecidableEq, Repr

/-- The safety-frame unit beside its registers: the operation in progress and when it ends (R589, R639), what each RX slot last accepted (R602), the CN of each end's last JUMP
frame (R594), XRX's EXP (R608), the live votes and a COMMIT waiting (R609), the last exchange: its instant, whether it has been judged, the votes it
was sent with and the partner's, the partner's votes accepted after an instant whose step has not come, with their rack time (R607, R610),
exchanges MISSING in a row, and the rack time, with its epoch, at which the block started (R614). -/
structure Sfu where
  op : Option (SfuOp × Nat)
  kept : Vector (Option (Nat × Nat × List Byte)) 16
  jump : Vector (Option (BitVec 16)) 16
  tJump : Vector (Option (BitVec 16)) 64
  xJump : Option (BitVec 16)
  xExp : Nat
  live : Vector Word 8
  commit : Bool
  instant : Option Nat
  judged : Bool
  sent : Vector Word 8
  got : Option (List Word)
  early : Option (Nat × List Word)
  missing : Nat
  since : Nat
  deriving DecidableEq, Repr

/-- The join engine and the cap beside their registers: when the precharge and settle timers began and what HOLD has cost
the first, when HOLD ends, when a retry and the opening wait are due, whether an abort is waiting for its coils, since when
the tray is over its cap, the applied ITRAY, when the engine's present or next conversion of AUX6 and AUX7 begins and when the tray
current was last written (R646, R647), from which rack time, with its epoch, a crossing begins a period of CAPOUT (R662). -/
structure Rack where
  preAt : Option Nat
  preHeld : Nat
  settleAt : Option Nat
  holdUntil : Option Nat
  retryAt : Option Nat
  leaveAt : Option Nat
  aborting : Bool
  overSince : Option Nat
  itray : Nat
  voltsFrom : Nat
  ampsAt : Nat
  capFrom : Nat
  deriving DecidableEq, Repr

/-! ## The host port (chapter 17) -/

/-- Operations of a transaction (Table 17-1); `bad` is one whose header was refused (R729). -/
inductive HostOp where
  | nop | read | write | sread | swrite | bad
  deriving DecidableEq, Repr

/-- A write that passed Table 17-4 and awaits its effect: a WRITE's address, or an SWRITE's stream, and its words (R732, R733). -/
structure HostWrite where
  stream : Bool
  target : Nat
  words : List Word
  deriving DecidableEq, Repr

/-- The transaction between two edges of CS_N: its operation, TAG, words expected, the words sent on MISO, what a READ
returned of registers with RC fields (key, word) and latched (key, word), the NVM words it found bad, whether it gave LATE, ASLEEP or
ECC, whether that is LATE, the stream of an SREAD and the words it took, whether a write passed Table 17-4, whether it was discarded, and
whether a discarded CMD's OP was a write's (R736). -/
structure Trans where
  op : HostOp
  tag : Nat
  words : Nat
  sent : List Word
  rc : List (Nat × Word)
  hold : List (Nat × Word)
  ecc : List Nat
  short : Bool
  late : Bool
  stream : Nat
  taken : Nat
  committed : Bool
  failed : Bool
  badWrite : Bool
  deriving DecidableEq, Repr

/-- The host port beside its registers: the select line, the transaction, writes awaiting their effect (address and
words), the six streams (Table 17-5; of WINOUT each message's words that are still there, with the TAG of its request), a clearing of EN that waits for its transaction to end (R721), a copy to MSGOUT in progress: its
words and its end (R745), ALERT_N's level on the last entry below DOZE (R753). -/
structure HostPort where
  selected : Bool
  trans : Option Trans
  waiting : List HostWrite
  loadIn : List Word
  msgIn : List Word
  winIn : List Word
  loadOut : List Word
  msgOut : List Word
  winOut : List (BitVec 16 × List Word)
  disable : Bool
  mout : Option (List Word × Nat)
  alertKept : Bool
  deriving DecidableEq, Repr

/-! ## Reset and start-up, line tests, check-value unit (chapters 18, 10, 11) -/

/-- Reset and start-up: the sources asserted now and since the reset began (bit c − 1 for code c), whether the die is in
reset, when the last source ended, when the present start-up step began, which steps have ended (Table 18-7), whether CVU job 0 has completed since the
last die reset or commit, and whether the programs have been started, or found without a valid image, since then or since a
sequencer reset (R104); `held` says that a failed fuse load or an open strap keeps the die in reset (Table 18-8), `fused` what the fuses
hold: UID, revision and TREF, once they have been read, `tap` what the test-access port's instruction register holds (R776). -/
structure Boot where
  active : Nat
  causes : Nat
  inReset : Bool
  quietAt : Nat
  stepAt : Nat
  fuses : Bool
  straps : Bool
  march : Bool
  refs : Bool
  scanned : Bool
  started : Bool
  held : Bool
  fused : Option (BitVec 64 × BitVec 8 × BitVec 24)
  tap : TapInstr
  deriving DecidableEq, Repr

/-- The interval line test (R468): the port whose turn runs and when it ends, the ports still to come, and the rack time, with its epoch,
from which a crossing of a multiple of the period starts a cycle. -/
structure LineTest where
  turn : Option (Port × Nat)
  left : List Port
  since : Nat
  deriving DecidableEq, Repr

/-- The check-value unit beside its registers: when each job last started, none once it is to start at once; by bit, the jobs
whose period elapsed again during their run (R480), the sealed jobs in their second run (R486), and the jobs abandoned when HFO
stopped (R481); `batchAt` is the value that a batch check judges next, `batchSetup` the engine cycles before its first (R474, R489,
R490); `scanAt` is the last cycle that a SCAN's word took (R474). -/
structure Cvu where
  started : Vector (Option Nat) 8
  again : Nat
  second : Nat
  dropped : Nat
  batchAt : Nat
  batchSetup : Nat
  scanAt : Option Nat
  deriving DecidableEq, Repr

/-- The whole die. `pending` is the queue of waiting commands; `now` (24 MHz ticks since the model began) and `free`
(how many free values have been drawn) are the model's own. `struck` holds the register bits that hardware has set in the tick it names
(R13), `wrote` those of RW fields that writes have changed in the tick it names (R15); `replyAt` is when the frame that is being received has
come whole, 0 outside a reception (R382), `primSince` since when the primary default upstream is usable (R443), `upFrom` when the secondary last became active
with neither usable before, with what FAB_UP.ONSEC and FAB_ST.FAILOVER read before that (R445). -/
structure State where
  pending : List Instr
  now : Nat
  free : Nat
  struck : Nat × List (Nat × Word)
  wrote : Nat × List (Nat × Word)
  rtime : Nat
  rtHold : Nat
  hfo : Bool
  lastTime : Option Nat
  regs : List (Nat × Word)
  latches : List (Nat × Word)
  mem : List Host.Cell
  eccBad : List Nat
  ctxs : Vector Ctx 8
  holder : Option Cid
  hostSel : Vector Nat 6
  servedSel : Vector Nat 6
  dma : Vector DmaCh 4
  serving : List Frame
  load : Option Load
  nvmQ : List NvmWrite
  ports : Vector PortSt 5
  trips : List Frame
  replyAt : Nat
  primSince : Option Nat
  upFrom : Option (Nat × Bool × Bool)
  bbx : Bbx
  meas : Meas
  ladle : Ladle
  snap : Snap
  power : Power
  safe : Safe
  sfu : Sfu
  rack : Rack
  hostPort : HostPort
  boot : Boot
  lt : LineTest
  cvu : Cvu
  deriving DecidableEq, Repr

/-- A context at reset (Tables 3-2, 3-17, 3-18; R103). -/
def Ctx.reset (c : Cid) : Ctx where
  x := Vector.replicate 16 0
  pc := 0
  status := BitVec.ofNat 32 (c.val * 2 ^ 8 + if c = 0 then 2 ^ 11 else 0)
  epc := 0
  estatus := 0
  cause := 0
  tval := 0
  tvec := 0
  evmask := 0
  evpend := 0
  cycle := 0
  scratch0 := 0
  scratch1 := 0
  rtimeHold := 0
  sel := Vector.replicate 6 0
  state := .idle
  werr := false
  wait := none
  yielded := false
  slot := none
  req := none
  tagCount := 0
  stage := []
  rx := []
  cont := none
  evNew := (0, 0)
  werrAt := none

/-- A DMA channel at reset. -/
def DmaCh.reset : DmaCh := ⟨none, none, none, none, 0, none, false⟩

/-- A port's hidden state at reset and at each new link (R380, R403). -/
def PortSt.reset : PortSt where
  phase := .none
  initiator := false
  sentWake := false
  doubled := false
  nulls := 0
  deadline := 0
  nextSeq := 0
  rxAny := false
  accepted := []
  queue := []
  cur := none
  curAt := 0
  outs := []
  failRow := 0
  aborted := []
  sideTx := none
  sideHw := []
  sideProg := none
  sideRx := none
  sideRxAt := 0
  dlyReqSent := none
  dlyT1 := none
  dlyAt := 0
  farSleep := false
  resumeTry := 0
  lastRx := 0
  lastTx := 0
  alarmUntil := none
  alarmAt := 0
  annSent := 0
  annAt := 0
  annAcked := false
  annSeen := false
  annFar := []
  primer := .none
  primerInit := false
  primerMinutes := 0
  primerDelay := none
  primerAt := 0
  primerFrom := 0
  primerErrs := 0
  primerLoss := 0
  relinkAt := none
  plan := none
  wakePend := false
  llUntil := 0
  wakesSent := 0
  alarmsSent := 0
  presencesSent := 0

/-- The black-box engine at reset, before its ring scan (R509). -/
def Bbx.reset : Bbx where
  queue := []
  redo := []
  commit := none
  moving := none
  nextPos := 0
  nextSeq := 0
  pins := []
  mapGen := 0
  acks := []
  burning := []
  burnOn := false
  unackedU := []
  unackedD := []
  early := []
  breads := []
  stored := (0, 0)
  poolAt := (127, 127)
  rdreqAt := 0
  unfitAt := 0
  summaryAt := 0
  temps := none

/-- The measuring front end at reset. -/
def Meas.reset : Meas where
  sets := []
  auxLeft := []
  auxFirst := false
  auxAt := 0
  auxGap := none
  auxref := false
  pauseHeld := false
  resumeAt := none
  starts := Vector.replicate 16 none
  results := Vector.replicate 16 none
  diagTarget := 0
  owPhase := 0
  owAt := 0
  owFirst := []
  owSecond := []
  leakAt := none
  leakSkip := 0
  leakWaiting := false
  leakI := List.replicate 13 0
  leakClean := 0
  grSince := none
  sentAt := 0
  lastRan := none
  quietEnd := 0
  calSince := none
  sentOver := Vector.replicate 12 0
  sentUnder := Vector.replicate 12 0
  coul := 0
  coulT := 0

/-- The Ladle at reset: ΔT is 0, every switch open (R343, Table 8-1). -/
def Ladle.reset : Ladle where
  shuttles := Vector.replicate 6 ⟨0, 0, 0, 0, false, 0, 0, 0, false, 1000, none, none⟩
  closed := 0
  dutyOff := 0
  targets := 0
  leftNc := Vector.replicate 12 0
  closedFor := Vector.replicate 12 0
  govAt := 0
  sampleAt := 0
  frameAt := 0

/-- The snapshot unit at reset: no trip, no number taken, bank 0 with nothing to acknowledge. -/
def Snap.reset : Snap := ⟨0, none, none, [], none, none, true, none, [], none, 0, [], none, none, none⟩

/-- The power unit at reset: awake, HFO starting. -/
def Power.reset : Power := ⟨0, true, false, [], 0, none, none, none, none, none, 0, none, false, none, [], none, false, 0, false, 0, none,
  Vector.replicate 10 0, 0, 0, 0, 0, 0⟩

/-- The safety block before it starts (R528). -/
def Safe.reset : Safe where
  running := false
  raw := 0
  accA := 0
  accB := 0
  known := 0
  cause := Vector.replicate 12 0
  cause2 := Vector.replicate 12 0
  passes := Vector.replicate 12 0
  full := 0
  pairsB := 0
  disc := Vector.replicate 4 none
  bothSeen := 0
  restart := 0
  pulseA := true
  pulseB := true
  bothLow := none
  chbSince := none
  chbOff := false
  chbMiss := none
  chbAt := none
  lastRec := Vector.replicate 17 none
  demandAt := 0
  tiRun := false
  tiDone := false
  sdAt := none
  sdDone := false
  coilAt := Vector.replicate 4 0
  picked := 0
  cut := 0
  closed := 0
  fb1Low := none
  ownHigh := none
  partSeen := false
  partLow := none
  partMiss := 0
  partAt := 0
  sinA := Vector.replicate 12 0
  sinB := Vector.replicate 12 0
  pulse := none
  pulseEnd := 0
  cmpAt := 0
  scanAt := 0
  sealLast := none
  sealClean := 0
  sealMatrix := false
  sealTaken := false
  sealEver := false
  sealing := none

/-- The safety-frame unit at reset. -/
def Sfu.reset : Sfu where
  op := none
  kept := Vector.replicate 16 none
  jump := Vector.replicate 16 none
  tJump := Vector.replicate 64 none
  xJump := none
  xExp := 0
  live := Vector.replicate 8 0
  commit := false
  instant := none
  judged := true
  sent := Vector.replicate 8 0
  got := none
  early := none
  missing := 0
  since := 0

/-- The join engine at reset. -/
def Rack.reset : Rack := ⟨none, 0, none, none, none, none, false, none, 0, 0, 0, 0⟩

/-- The host port at reset: its streams are empty. -/
def HostPort.reset : HostPort := ⟨false, none, [], [], [], [], [], [], [], false, none, false⟩

/-- The end of a reset: no source is asserted, no start-up step has ended. -/
def Boot.reset : Boot := ⟨0, 0, false, 0, 0, false, false, false, false, false, false, false, none, .idcode⟩

/-- The check-value unit at reset. -/
def Cvu.reset : Cvu := ⟨Vector.replicate 8 none, 0, 0, 0, 0, 0, none⟩

/-- The machine right after reset: every register at the value of its table (R12), blank NVM, no program running;
values loaded later from fuses, straps and NVM are 0 (log 1). -/
def State.reset : State where
  pending := []
  now := 0
  free := 0
  struck := (0, [])
  wrote := (0, [])
  rtime := 0
  rtHold := 0
  hfo := false
  lastTime := none
  regs := Reg.resetWords
  latches := []
  mem := []
  eccBad := []
  ctxs := Vector.ofFn Ctx.reset
  holder := none
  hostSel := Vector.replicate 6 0
  servedSel := Vector.replicate 6 0
  dma := Vector.replicate 4 DmaCh.reset
  serving := []
  load := none
  nvmQ := []
  ports := Vector.replicate 5 PortSt.reset
  trips := []
  replyAt := 0
  primSince := none
  upFrom := none
  bbx := Bbx.reset
  meas := Meas.reset
  ladle := Ladle.reset
  snap := Snap.reset
  power := Power.reset
  safe := Safe.reset
  sfu := Sfu.reset
  rack := Rack.reset
  hostPort := HostPort.reset
  boot := Boot.reset
  lt := ⟨none, [], 0⟩
  cvu := Cvu.reset

end Sys2Proof.Machine
end

