-- ==== Sys2Proof/Machine/Ops.lean ====
section
/-! DEFINITION. The named operations over registers, memory, contexts, events and time that every block uses. -/

namespace Sys2Proof.Machine

/-! ## Sparse maps in one canonical form: keys strictly rising, no entry at its default -/

/-- The value at key `k`, or the default of an unlisted key. -/
def look {α : Type} (d : Nat → α) : List (Nat × α) → Nat → α
  | [], k => d k
  | (j, v) :: t, k => if k = j then v else if k < j then d k else look d t k

/-- The map with `k` holding `v`; an entry equal to its default is not listed. -/
def put {α : Type} [DecidableEq α] (d : Nat → α) : List (Nat × α) → Nat → α → List (Nat × α)
  | [], k, v => if v = d k then [] else [(k, v)]
  | (j, u) :: t, k, v =>
    if k = j then (if v = d k then t else (k, v) :: t)
    else if k < j then (if v = d k then (j, u) :: t else (k, v) :: (j, u) :: t)
    else (j, u) :: put d t k v

/-- Every key of the map is above `lo`, keys rise strictly, and no entry is its default. -/
def wfFrom {α : Type} [DecidableEq α] (d : Nat → α) (lo : Nat) : List (Nat × α) → Bool
  | [] => true
  | (j, v) :: t => decide (lo ≤ j) && decide (v ≠ d j) && wfFrom d (j + 1) t

/-! ## Bit fields of a word -/

/-- Bits [lo + width − 1 : lo] of a number. -/
def bitsAt (n lo width : Nat) : Nat := n / 2 ^ lo % 2 ^ width

/-- The number with bits [lo + width − 1 : lo] replaced by the low bits of `v`. -/
def withBits (n lo width v : Nat) : Nat :=
  n % 2 ^ lo + (v % 2 ^ width) * 2 ^ lo + n / 2 ^ (lo + width) * 2 ^ (lo + width)

/-- One bit as a truth value. -/
def bitAt (n i : Nat) : Bool := bitsAt n i 1 = 1

/-! ## Peripheral registers -/

/-- The default of an unlisted register word. -/
def regDefault : Nat → Word := fun _ => 0

/-- The register word stored at key `k`. -/
def State.reg (s : State) (k : Nat) : Word := look regDefault s.regs k

/-- The state with register word `k` holding `w`. -/
def State.setReg (s : State) (k : Nat) (w : Word) : State := { s with regs := put regDefault s.regs k w }

/-- The value of field `f` of instance `i`. -/
def State.fld (s : State) (f : Fld) (i : Nat := 0) : Nat :=
  bitsAt (s.reg (f.base + f.stride * i)).toNat f.lo f.width

/-- The state with field `f` of instance `i` set to the low bits of `v`. -/
def State.setFld (s : State) (f : Fld) (v : Nat) (i : Nat := 0) : State :=
  s.setReg (f.base + f.stride * i)
    (BitVec.ofNat 32 (withBits (s.reg (f.base + f.stride * i)).toNat f.lo f.width v))

/-- Register bits noted for tick `t`: those of register `k`. -/
def notedAt (l : Nat × List (Nat × Word)) (t k : Nat) : Word := if l.1 = t then look regDefault l.2 k else 0

/-- Bits `m` of register `k` noted for tick `t`; what was noted for another tick is dropped. -/
def noteIn (l : Nat × List (Nat × Word)) (t k : Nat) (m : Word) : Nat × List (Nat × Word) :=
  (t, put regDefault (if l.1 = t then l.2 else []) k (notedAt l t k ||| m))

/-- Hardware sets the bits of mask `m` of a field: a write in the same tick does not clear them (R13). -/
def State.strike (s : State) (f : Fld) (m : Nat) (i : Nat := 0) : State :=
  { s.setFld f (Nat.lor (s.fld f i) m) i with
    struck := noteIn s.struck s.now (f.base + f.stride * i) (BitVec.ofNat 32 (m % 2 ^ f.width * 2 ^ f.lo)) }

/-- Bits of register `k` that hardware has set in this tick (R13). -/
def State.freshBits (s : State) (k : Nat) : Word := notedAt s.struck s.now k

/-- Hardware updates an RW field in tick `t`: a field that a write changed in that tick keeps the written value (R15). -/
def State.update (s : State) (t : Nat) (f : Fld) (v : Nat) (i : Nat := 0) : State :=
  let k := f.base + f.stride * i
  let keep := notedAt s.wrote t k
  let w := BitVec.ofNat 32 (withBits (s.reg k).toNat f.lo f.width v)
  s.setReg k ((s.reg k &&& keep) ||| (w &&& ~~~keep))

/-- A write of this tick has changed the RW field, and governs it (R15). -/
def State.writeGoverns (s : State) (f : Fld) (i : Nat := 0) : Bool :=
  bitsAt (notedAt s.wrote s.now (f.base + f.stride * i)).toNat f.lo f.width ≠ 0

/-- A one-bit field as a truth value. -/
def State.flag (s : State) (f : Fld) (i : Nat := 0) : Bool := s.fld f i = 1

/-- The state with a one-bit field set or cleared. -/
def State.setFlag (s : State) (f : Fld) (b : Bool) (i : Nat := 0) : State :=
  { s.setFld f (if b then 1 else 0) i with
    struck := if b then noteIn s.struck s.now (f.base + f.stride * i) (BitVec.ofNat 32 (2 ^ f.lo)) else s.struck }

/-- Bit `n` of a field that holds one bit per channel. -/
def State.bitOf (s : State) (f : Fld) (n : Nat) (i : Nat := 0) : Bool := bitAt (s.fld f i) n

/-- The state with bit `n` of a field that holds one bit per channel set or cleared. -/
def State.setBitOf (s : State) (f : Fld) (n : Nat) (b : Bool) (i : Nat := 0) : State :=
  { s.setFld f (withBits (s.fld f i) n 1 (if b then 1 else 0)) i with
    struck := if b then noteIn s.struck s.now (f.base + f.stride * i) (BitVec.ofNat 32 (2 ^ (f.lo + n))) else s.struck }

/-- A counter raised by `n`, saturating at its field's greatest value (Tables 5-14, 9-18, 10-13, 12-7). -/
def State.countBy (s : State) (f : Fld) (n : Nat) (i : Nat := 0) : State :=
  s.setFld f (min (s.fld f i + n) (2 ^ f.width - 1)) i

/-- A counter raised by one, saturating. -/
def State.count (s : State) (f : Fld) (i : Nat := 0) : State := s.countBy f 1 i

/-- A 48-bit counter over two registers, raised by one (Table 9-17). -/
def State.count64 (s : State) (lo hi : Fld) (n : Nat) (i : Nat := 0) : State :=
  let v := s.fld lo i + 2 ^ 32 * s.fld hi i + n
  let v := min v (2 ^ (32 + hi.width) - 1)
  (s.setFld lo (v % 2 ^ 32) i).setFld hi (v / 2 ^ 32) i

/-! ## Role (R1, Table 0-1) -/

def roleCell : Nat := 0
def roleTray : Nat := 1
def roleJunction : Nat := 2
def roleManager : Nat := 3

/-- The die's role code. -/
def State.role (s : State) : Nat := s.fld Reg.SYS_ROLE.ROLE

def State.isManager (s : State) : Bool := s.role = roleManager
def State.isTray (s : State) : Bool := s.role = roleTray
def State.isJunction (s : State) : Bool := s.role = roleJunction

/-- CELL or TRAY: the roles whose sentinels and Ladle run (Table 1-1). -/
def State.hasCells (s : State) : Bool := s.role = roleCell || s.role = roleTray

/-- TRAY or MANAGER: the roles whose safety block runs (Table 1-1). -/
def State.hasSafety (s : State) : Bool := s.role = roleTray || s.role = roleManager

/-! ## Memory (R78, R89) -/

/-- What a byte nothing has written reads as: zeroed SRAM, erased NVM (log 2). -/
def memDefault (a : Nat) : Byte := if a < 0x10000 then 0 else 0xFF

/-- The memory's canonical form. -/
def Memory.wf (m : List Host.Cell) : Bool := wfFrom memDefault 0 m

def State.byte (s : State) (a : Nat) : Byte := look memDefault s.mem a

def State.setByte (s : State) (a : Nat) (b : Byte) : State := { s with mem := put memDefault s.mem a b }

/-- The `n` bytes from address `a` upward. -/
def State.bytes (s : State) (a : Nat) : Nat → List Byte
  | 0 => []
  | n + 1 => s.byte a :: s.bytes (a + 1) n

/-- The state with the bytes written from address `a` upward. -/
def State.setBytes (s : State) (a : Nat) : List Byte → State
  | [] => s
  | b :: t => (s.setByte a b).setBytes (a + 1) t

/-- A number from bytes, least significant first (R78). -/
def leNat : List Byte → Nat
  | [] => 0
  | b :: t => b.toNat + 256 * leNat t

/-- The `n` low bytes of a number, least significant first. -/
def leBytes : Nat → Nat → List Byte
  | 0, _ => []
  | n + 1, v => BitVec.ofNat 8 v :: leBytes n (v / 256)

/-- The little-endian value of `n` bytes at `a`. -/
def State.num (s : State) (a n : Nat) : Nat := leNat (s.bytes a n)

def State.word (s : State) (a : Nat) : Word := BitVec.ofNat 32 (leNat (s.bytes a 4))

/-- A field of a byte string, little-endian. -/
def fieldOf (bs : List Byte) (at_ n : Nat) : Nat := leNat ((bs.drop at_).take n)

/-- A byte string cut or padded with zeros to `n` bytes. -/
def padTo (n : Nat) (bs : List Byte) : List Byte := (bs ++ List.replicate n 0).take n

/-- SRAM banks 0 to 3 (Table 3-6). -/
def isSram (a : Nat) : Bool := a < 0x10000

/-- The NVM read window (Table 3-6). -/
def isNvm (a : Nat) : Bool := 0x10000000 ≤ a && a < 0x10020000

/-- The block register pages (Table 3-6), TEST page included. -/
def isPage (a : Nat) : Bool := 0x40000000 ≤ a && a < 0x40010000

/-- The TEST page. -/
def isTestPage (a : Nat) : Bool := 0x4000F000 ≤ a && a < 0x40010000

/-- The remote window range (Table 3-6). -/
def isRemoteRange (a : Nat) : Bool := 0x20000000 ≤ a && a < 0x30000000

/-- The start of the 512-byte NVM sector that holds `a` (R95). -/
def sectorOf (a : Nat) : Nat := a / 512 * 512

/-! ## Time (R5): 24 ticks to the microsecond; rack time counts 1/64 ticks under an epoch byte -/

def us (n : Nat) : Nat := 24 * n
def ms (n : Nat) : Nat := 24000 * n

/-- Rack time [47:0], in ticks. -/
def State.rackTicks (s : State) : Nat := s.rtime / 64 % 2 ^ 48

/-- The epoch byte. -/
def State.epoch (s : State) : Nat := s.rtime / 2 ^ 54 % 256

/-- A fresh index for a free value. -/
def State.draw (s : State) : Nat × State := (s.free, { s with free := s.free + 1 })

/-- A rational rounded to a whole number where the spec gives no rounding: exact when it is whole (log 5). -/
def roundFree (q : Rat) : Int :=
  if q.den = 1 then q.num else q.floor + if Config.roundUp q.num q.den then 1 else 0

/-- A signed number of `width` bits from a field. -/
def signed (width n : Nat) : Int := if n < 2 ^ (width - 1) then n else (n : Int) - 2 ^ width

/-- The field value of a signed number, in `width` bits. -/
def unsigned (width : Nat) (i : Int) : Nat := (i % 2 ^ width).toNat

/-! ## Contexts -/

def State.ctx (s : State) (c : Cid) : Ctx := s.ctxs[c]

def State.setCtx (s : State) (c : Cid) (v : Ctx) : State := { s with ctxs := s.ctxs.set c.val v c.isLt }

def State.modCtx (s : State) (c : Cid) (f : Ctx → Ctx) : State := s.setCtx c (f (s.ctx c))

def allCtx : List Cid := [0, 1, 2, 3, 4, 5, 6, 7]

/-- `f` done for each element in turn. -/
def forAll {α : Type} (l : List α) (f : α → State → State) (s : State) : State := l.foldl (fun t a => f a t) s

def State.modAll (s : State) (f : Cid → Ctx → Ctx) : State :=
  { s with ctxs := Vector.ofFn fun c => f c s.ctxs[c] }

def Ctx.isRunnable (v : Ctx) : Bool := v.state = .ready || v.state = .running

/-- X0 reads zero (R77). -/
def Ctx.getX (v : Ctx) (r : RegNo) : Word := if r = 0 then 0 else v.x[r]

/-- Writes to X0 are discarded (R77). -/
def Ctx.setX (v : Ctx) (r : RegNo) (w : Word) : Ctx := if r = 0 then v else { v with x := v.x.set r.val w r.isLt }

/-- A waiting context whose wait is over becomes READY (R71). -/
def Ctx.wake (v : Ctx) : Ctx := { v with state := .ready, wait := none }

/-- A context in WAITE or SLEEP with an enabled event pending becomes READY; one in YIELD also does (R71, R138). -/
def Ctx.checkEvents (v : Ctx) : Ctx :=
  if v.evpend &&& v.evmask = 0 then v
  else match v.state, v.wait with
    | .waiting, some .event => v.wake
    | .waiting, some (.sleep _) => v.wake
    | .waiting, some (.yield _) => { v.wake with yielded := true }
    | _, _ => v

/-- The wait of a YIELD without context `c`, which has retired an instruction or left the core (R138). -/
def Ctx.yieldSees (c : Cid) (v : Ctx) : Ctx :=
  match v.state, v.wait with
  | .waiting, some (.yield l) =>
    if l.filter (· ≠ c) = [] then { v.wake with yielded := true }
    else { v with wait := some (.yield (l.filter (· ≠ c))) }
  | _, _ => v

def State.yieldSees (s : State) (c : Cid) : State := s.modAll fun _ v => v.yieldSees c

/-! ## Events (R83, Table 3-4) -/

namespace Ev
def RTC0 : Nat := 0
def SCHED_RX : Nat := 4
def TIME_RX : Nat := 5
def MEAS_DONE : Nat := 6
def SENTINEL : Nat := 7
def TRIP_SEEN : Nat := 8
def SNAP : Nat := 9
def BAL : Nat := 10
def RX : Nat := 11
def TX_DONE : Nat := 12
def PORT : Nat := 13
def LIFELINE : Nat := 14
def DMA0 : Nat := 15
def CVU_DONE : Nat := 19
def CVU_MISMATCH : Nat := 20
def BBX : Nat := 21
def SAFE : Nat := 22
def XLINK : Nat := 23
def DOORBELL : Nat := 24
def HOST_ERR : Nat := 25
def MONITOR : Nat := 26
def EPOCH_WARN : Nat := 27
def MEDIA : Nat := 28
def CTX_PARKED : Nat := 29
def SOFT : Nat := 30
def WDOG_WARN : Nat := 31
end Ev

/-- Events that set their bit in CTX0 only. -/
def ctx0Event (e : Nat) : Bool := e = 22 || e = 23 || e = 28 || e = 29 || e = 31

/-- The events raised in tick `t`: a clearing of EVPEND in that tick leaves them set (R88). -/
def Ctx.freshEvents (v : Ctx) (t : Nat) : Word := if v.evNew.1 = t then v.evNew.2 else 0

/-- Context `v` with event `e` pending from tick `t` on, readied if it waits for it. -/
def Ctx.raise (v : Ctx) (t e : Nat) : Ctx :=
  let b := BitVec.ofNat 32 (2 ^ e)
  { v with evpend := v.evpend ||| b, evNew := (t, v.freshEvents t ||| b) }.checkEvents

/-- A write of `w` to EVPEND in tick `t` (R82, R88). -/
def Ctx.clearEvents (v : Ctx) (t : Nat) (w : Word) : Ctx := { v with evpend := v.evpend &&& ~~~(w &&& ~~~v.freshEvents t) }

/-- Event `e` raised in every context it reaches (R83). -/
def State.raise (s : State) (e : Nat) : State :=
  if ctx0Event e then s.modCtx 0 (·.raise s.now e) else s.modAll fun _ v => v.raise s.now e

/-! ## Ports -/

def State.port (s : State) (p : Port) : PortSt := s.ports[p]

def State.setPort (s : State) (p : Port) (v : PortSt) : State := { s with ports := s.ports.set p.val v p.isLt }

def State.modPort (s : State) (p : Port) (f : PortSt → PortSt) : State := s.setPort p (f (s.port p))

/-- The fabric's ports. -/
def allPorts : List Port := [0, 1, 2, 3]

/-- The cross-link. -/
def xlink : Port := 4

/-! ## DMA channels -/

def State.dmaCh (s : State) (n : Fin 4) : DmaCh := s.dma[n]

def State.setDma (s : State) (n : Fin 4) (v : DmaCh) : State := { s with dma := s.dma.set n.val v n.isLt }

def allDma : List (Fin 4) := [0, 1, 2, 3]

end Sys2Proof.Machine
end

