-- ==== Sys2Proof/Machine/Time.lean ====
section
/-! DEFINITION. What passes with the clock: rack time and its sleep keeper (R283 to R286, R303), the coulomb accumulators (R242), and what
shuttles, bleed switches, conversions, a leakage test and the energy ledger gather meanwhile (R269, R343, R354, R357, R713). -/

namespace Sys2Proof.Machine

/-! ## Power state -/

/-- The die is below DOZE. -/
def State.asleep (s : State) : Bool := s.power.below ≠ 0

/-- A context is READY or RUNNING, or a DMA channel is ACTIVE: the die is in RUN (R73). -/
def State.coreBusy (s : State) : Bool :=
  allCtx.any (fun c => (s.ctx c).isRunnable) || (List.range 4).any fun n => s.fld Reg.DMA_STAT.STATE n = 1

/-- The power-state code of Table 16-3. -/
def State.powerState (s : State) : Nat := if s.asleep then s.power.below else if s.coreBusy then 0 else 1

/-! ## The sleep rack-time keeper (R286, R692, R694) -/

/-- The bin of a die temperature in m°C (R692). -/
def binOf (t : Int) : Nat := if t < -40000 then 0 else min 14 ((t + 40000) / 10000).toNat

def State.temp (s : State) : Int := signed 32 (s.fld Reg.CLK_TEMP.MC)

/-- The nearest valid bin and its distance, the lower on a tie (R694). -/
def State.nearestBin (s : State) (k : Nat) : Option (Nat × Nat) :=
  ((List.range 15).flatMap fun d => if d = 0 then [k] else (if d ≤ k then [k - d] else []) ++ [k + d]).find?
    (fun j => j < 15 && s.flag Reg.CLK_LFOBIN.VALID j) |>.map fun j => (j, if j ≤ k then k - j else j - k)

/-- The rate, in 0.1 ppm from nominal, at which the keeper takes the LFO to run; nominal with no valid bin. -/
def State.keeperRate (s : State) : Int :=
  match s.nearestBin (binOf s.temp) with
  | some (j, _) => signed 20 (s.fld Reg.CLK_LFOBIN.RATE j)
  | none => 0

/-- Net ones less zeros of `k` periods of the coulomb modulator: each adds +1 or −1 (R242). -/
def State.modSum (s : State) (k : Nat) : Int := 2 * ((Config.modulatorOnes s.free k % (k + 1) : Nat) : Int) - k

/-- The LFO's own deviation in 0.1 ppm, within the 2 % of Table 16-1; what it is, is free (log 5). -/
def State.lfoDev (s : State) : Int := max (-200000) (min 200000 (Config.lfoDev s.free))

/-- Rack time's rate asleep, in 1/64 tick for each tick that passes, as a quotient. -/
def State.keeperGain (s : State) : Nat × Nat := (64 * (10 ^ 7 + s.lfoDev).toNat, (10 ^ 7 + s.keeperRate).toNat)

/-- Rack time stands still: in SHIP and in reset (R288, R686). -/
def State.rackStill (s : State) : Bool := s.power.below = 4 || s.boot.inReset || s.boot.held

/-- How far rack time is carried in `n` ticks, in 1/64 tick: by HFO, by the keeper while HFO is stopped, not at all in SHIP
or in reset (R283, R286, R288, R686). -/
def State.rackPass (s : State) (n : Nat) : Nat :=
  if s.rackStill then 0
  else if s.hfo then 64 * n
  else s.keeperGain.1 * n / s.keeperGain.2

/-- Ticks until rack time, with what a correction still holds it (R303), is at `t` or later; 0 when it is, or stands still. -/
def State.ticksTo (s : State) (t : Nat) : Nat :=
  let need := 64 * t + s.rtHold - s.rtime
  if 64 * t ≤ s.rtime then 0
  else if s.rackStill then 0
  else if s.hfo then (need + 63) / 64
  else (need * s.keeperGain.2 + s.keeperGain.1 - 1) / s.keeperGain.1

/-- Rack time with its epoch, in ticks. -/
def State.rackNow (s : State) : Nat := s.rtime / 64

/-- The first rack time after `t`, both with their epochs, whose count is a multiple of `m`; a count that wraps comes to 0 (R284). -/
def multipleAfter (m t : Nat) : Nat := t + min (m - t % 2 ^ 48 % m) (2 ^ 48 - t % 2 ^ 48)

/-- The next rack time after now whose count is a multiple of `m`. -/
def State.nextMultiple (s : State) (m : Nat) : Nat := multipleAfter m s.rackNow

/-- The rack time from now on whose count is `k` past a multiple of `m`. -/
def State.nextPhase (s : State) (m k : Nat) : Nat :=
  let d := (k + m - s.rackTicks % m) % m
  s.rackNow + if s.rackTicks + d < 2 ^ 48 then d else 2 ^ 48 - s.rackTicks + k

/-! ## The coulomb accumulator (R242, R647) -/

/-- A join or leave runs: NEG to MAIN, or LEAVING (Table 15-6). -/
def State.joinRuns (s : State) : Bool :=
  let st := s.fld Reg.RACK_TST.STATE
  (1 ≤ st && st ≤ 4) || st = 6

/-- The join engine's conversion of AUX6 and AUX7 runs (R646). -/
def State.joinConverts (s : State) : Bool := s.role = roleTray && s.joinRuns && s.rack.voltsFrom ≤ s.now

/-- Converters of cells, current and stack run: not on a JUNCTION-role die that is not ground-referenced (Table 1-1, R274). -/
def State.frontRuns (s : State) : Bool := s.hasCells || s.isManager || s.flag Reg.MEAS_CFG.GR

/-- Modulator periods of 8 ticks in the next `n` ticks while the coulomb accumulator counts. -/
def State.modPeriods (s : State) (n : Nat) : Nat :=
  if s.hfo && s.frontRuns && (s.flag Reg.MEAS_CFG.ICONT || s.joinRuns) then (s.now + n) / 8 - s.now / 8 else 0

/-! ## Shuttles and switches (R332, R357) -/

def allShuttles : List (Fin 6) := [0, 1, 2, 3, 4, 5]

/-- The operation whose cycle has begun and which the registers do not show yet (R155; `settleShuttle` has them follow). -/
def State.swapped (s : State) (k : Fin 6) : Option NextOp := s.ladle.shuttles[k].next.filter fun x => decide (x.due ≤ s.now)

/-- The cell, 1 to 12, that shuttle `k` serves (R332). -/
def State.servedCell (s : State) (k : Fin 6) : Nat :=
  match s.swapped k with
  | some x => x.cell
  | none => 2 * k.val + 1 + s.fld Reg.BAL_ST.CELL k

/-- The operation that the registers show is active. -/
def State.opActive (s : State) (k : Fin 6) : Bool := s.fld Reg.BAL_ST.OP k ≠ 0

def State.shuttleActive (s : State) (k : Fin 6) : Bool := (s.swapped k).isSome || s.opActive k

def State.shuttleHeld (s : State) (k : Fin 6) : Bool :=
  s.flag Reg.BAL_ST.PAUSED k || s.flag Reg.BAL_ST.SUSPENDED k

/-- The current of the operation that the registers show, in mA. -/
def State.opAmps (s : State) (k : Fin 6) : Nat :=
  if s.opActive k && !s.shuttleHeld k then s.fld Reg.BAL_CUR.APPLIED k else 0

/-- The current of an operation in its start measurement (R345), none while the shuttles pause or are suspended. -/
def State.startAmps (s : State) (k : Fin 6) (ceil : Nat) : Nat :=
  if s.meas.pauseHeld || (s.asleep && s.flag Reg.BAL_CFG.PARK) then 0 else min (min ceil 100) (s.fld Reg.BAL_CUR.BOUND k)

/-- The shuttle carries current now. -/
def State.shuttleRuns (s : State) (k : Fin 6) : Bool :=
  match s.swapped k with
  | some x => s.startAmps k x.ceil ≠ 0
  | none => s.opAmps k ≠ 0

/-- The shuttle's bound is below its ceiling in an active operation: time that counts toward R347 and BAL_SHORT. Time paused, suspended,
held by SUPPLY or at a ceiling of 0 does not (R349). -/
def State.clampCounts (s : State) (k : Fin 6) : Bool :=
  s.opActive k && !s.shuttleHeld k && !s.flag Reg.BAL_ST.SUPPLY k && s.fld Reg.BAL_CUR.BOUND k < s.fld Reg.BAL_CEIL.MA k

/-- The first tick of the next shuttle cycle, 4 µs long (R333); the phase of the cycles is the model's (log 35). -/
def State.nextCycle (s : State) : Nat := us 4 * (s.now / us 4 + 1)

/-- The rest of a cycle that goes on at the current it began with (R333). -/
def State.cycleRest (s : State) (k : Fin 6) : Option CycleRest := s.ladle.shuttles[k].cycle.filter fun c => decide (s.now < c.till)

/-- The current of the shuttle's present cycle for the operation that the registers show, in mA. -/
def State.cycleAmps (s : State) (k : Fin 6) : Nat :=
  match s.cycleRest k with
  | some c => c.amps
  | none => s.opAmps k

/-- What that operation moves in the next `n` ticks, in mA and ticks, and how much of it is not counted yet. -/
def State.cycleCharge (s : State) (k : Fin 6) (n : Nat) : Nat × Nat :=
  match s.cycleRest k with
  | some c =>
    let a := min n (c.till - s.now)
    let q := s.opAmps k * (n - a)
    (c.amps * a + q, (if c.counted then 0 else c.amps * a) + q)
  | none => (s.opAmps k * n, s.opAmps k * n)

/-- A shuttle after `n` ticks: its current times the time is gathered, that of a next operation from its first cycle on, and of a
clamp episode its length and shortfall (R347, R348). -/
def State.passShuttle (s : State) (n : Nat) (k : Fin 6) : Shuttle :=
  let h := s.ladle.shuttles[k]
  let a := match h.next with
    | some x => min n (x.due - s.now)
    | none => n
  let q := s.cycleCharge k a
  let r := match h.next with
    | some x => s.startAmps k x.ceil * (n - a)
    | none => 0
  let c := if s.clampCounts k then a else 0
  { h with mean := h.mean + q.1 + r, part := h.part + q.2, next := h.next.map fun x => { x with part := x.part + r }
           clampFor := h.clampFor + c
           clampLack := h.clampLack + (s.fld Reg.BAL_CEIL.MA k - s.fld Reg.BAL_CUR.APPLIED k) * c }

def State.passLadle (s : State) (n : Nat) : Ladle :=
  { s.ladle with
    shuttles := Vector.ofFn fun k => s.passShuttle n k
    closedFor := Vector.ofFn fun c => s.ladle.closedFor[c] + if bitAt s.ladle.closed c.val then n else 0 }

/-! ## Conversions and tests -/

/-- The weighting of a Sketch window up to `x` ticks from its start: uniform over 960 (Table 6-2). -/
def sketchWeight (x : Nat) : Nat := min x 960

/-- Twice the weighting of a Study window up to `x` ticks from its start: triangular over 31,200, its peak at 15,600 (Table 6-2). -/
def studyWeight (x : Nat) : Nat := if x ≤ 15600 then x ^ 2 else 486720000 - (31200 - x) ^ 2

/-- A set's weighted bleed currents after `n` ticks (R354): each closed switch's measured current, by the weight of the time. -/
def State.passSet (s : State) (n : Nat) (m : MeasSet) : MeasSet :=
  if m.started then
    let w := fun (f : Nat → Nat) => f (s.now + n - m.startedAt) - f (s.now - m.startedAt)
    let add := fun (v : Vector Nat 12) (d : Nat) => Vector.ofFn fun c : Fin 12 =>
      v[c] + if bitAt s.ladle.closed c.val then d * s.fld Reg.BAL_IB.I c else 0
    { m with ibSketch := add m.ibSketch (w sketchWeight), ibStudy := add m.ibStudy (w studyWeight) }
  else m

/-- Pins that cannot be tested now: their bleed switch is closed, their shuttle runs, or R_F is 0 (R269). -/
def State.pinUntested (s : State) (k : Nat) : Bool :=
  s.fld Reg.MEAS_RF.OHMS = 0 || (0 < k && bitAt s.ladle.closed (k - 1)) || (k < 12 && bitAt s.ladle.closed k) ||
    allShuttles.any fun j => s.shuttleRuns j && (s.servedCell j = k || s.servedCell j = k + 1)

/-- Pins whose turn in a running leakage test comes in the next `n` ticks, 50 µs each (R268), and that cannot be tested then. -/
def State.passLeak (s : State) (n : Nat) : Nat :=
  match s.meas.leakAt with
  | some t => (List.range 13).foldl (fun a k =>
      if s.now ≤ t + us 50 * k && t + us 50 * k < s.now + n && s.pinUntested k then withBits a k 1 1 else a) s.meas.leakSkip
  | none => s.meas.leakSkip

def State.passMeas (s : State) (n : Nat) : Meas :=
  let k := s.modPeriods n
  { s.meas with
    coul := if k = 0 then s.meas.coul else s.meas.coul + s.modSum k
    coulT := s.meas.coulT + k
    sets := s.meas.sets.map (s.passSet n)
    leakSkip := s.passLeak n
    lastRan := if n ≠ 0 && allShuttles.any s.shuttleRuns then some (s.now + n) else s.meas.lastRan }

/-! ## The energy ledger (R713) -/

/-- A port's lane runs (Table 16-2). -/
def laneRuns (st : Nat) : Bool := 1 ≤ st && st ≤ 4 || st = 6

/-- Work of kind `i` done `n` times more. -/
def Power.did (p : Power) (i : Fin 10) (n : Nat) : Power := { p with work := p.work.set i.val (p.work[i] + n) i.isLt }

/-- `n` ticks of a power state: its current, retained banks beyond bank 0, and running transmitters' bit times (Tables 16-3, 16-7); nothing
while those loads run from V5IN (R713, R761). -/
def State.passPower (s : State) (n : Nat) : Power :=
  let banks := ([1, 2, 3].filter (s.bitOf Reg.CLK_RETAIN.BANKS)).length
  let lanes := ((List.range 5).filter fun p => laneRuns (s.fld Reg.PORT_ST.STATE p)).length
  if s.flag Reg.SYS_SUPPLY.V5 then s.power else match s.powerState with
  | 0 => (s.power.did 0 n).did 7 (n * lanes)
  | 1 => (s.power.did 1 n).did 7 (n * lanes)
  | 2 => s.power.did 2 n
  | 3 => (s.power.did 3 n).did 4 (n * banks)
  | _ => s.power

/-- Work of kind `i` is done `n` times: not drawn from the stack while V5IN supplies VHV's loads, but for the stack converter's (R761). -/
def State.didWork (s : State) (i : Fin 10) (n : Nat := 1) (stack : Bool := false) : State :=
  if s.flag Reg.SYS_SUPPLY.V5 && !stack then s else { s with power := s.power.did i n }

/-! ## The checkers of Primers (R465) -/

/-- Bits that the checker of a running Primer has counted by `t`: from 1 ms after its start until 1 s before its end. -/
def PortSt.checkedAt (v : PortSt) (t : Nat) : Nat := min (t - v.primerFrom) (ms (60000 * v.primerMinutes) - ms 1000) - ms 1

/-- `x` losses of synchronisation, held to what `e` errors in `b` bits allow: each takes more than 64 errors, and every 1,024 bits with more
than 64 bring one. -/
def lossWithin (b e x : Nat) : Nat := max ((e - 64 * ((b + 1023) / 1024) + 959) / 960) (min (e / 65) x)

/-- Errors and losses that a checker has counted by `t` when it finds `e` more errors, and about `l` more losses, than by `now`: no more
errors than bits checked in between, and no loss that those errors do not bring, with the 64 that may have come since the last one. -/
def PortSt.foundBy (v : PortSt) (now t e l : Nat) : Nat × Nat :=
  let b := v.checkedAt t
  let d := min (b - v.checkedAt now) e
  (v.primerErrs + d, if d = 0 then v.primerLoss else lossWithin b (v.primerErrs + d) (v.primerLoss + min l ((d + 64) / 65)))

/-- A checker goes on for `n` ticks from `now` and finds at most `e` more errors and about `l` more losses. -/
def PortSt.passPrimer (v : PortSt) (now n e l : Nat) : PortSt :=
  let c := v.foundBy now (now + n) e l
  if v.primer = .running then { v with primerErrs := c.1, primerLoss := c.2 } else v

/-- A Primer runs on some port. -/
def State.primerRuns (s : State) : Bool := allPorts.any fun p => (s.port p).primer = .running

/-- What the checkers find in `n` ticks: free. -/
def State.passPrimers (s : State) (n : Nat) : Vector PortSt 5 :=
  if s.primerRuns then
    Vector.ofFn fun p => (s.port p).passPrimer s.now n (Config.lineErrors s.free (2 * p.val)) (Config.lineErrors s.free (2 * p.val + 1))
  else s.ports

/-! ## The clock -/

/-- `n` ticks pass: the model's clock moves on; rack time advances with it, but for what a backward correction still
holds it (R303), wrapping at 48 bits into the epoch byte (R284). -/
def State.advance (s : State) (n : Nat) : State :=
  { s with
    now := s.now + n
    rtime := (s.rtime + (s.rackPass n - s.rtHold)) % 2 ^ 62
    rtHold := s.rtHold - s.rackPass n
    free := if s.modPeriods n = 0 && (s.hfo || n = 0) && !s.primerRuns then s.free else s.free + 1
    meas := s.passMeas n
    ladle := s.passLadle n
    power := s.passPower n
    ports := s.passPrimers n }

/-- The time a timer is due comes, if it has not come yet (log 4). -/
def State.reach (s : State) (t : Nat) : State := if t ≤ s.now then s else s.advance (t - s.now)

/-- Ticks pass until rack time reaches `t`. -/
def State.reachTick (s : State) (t : Nat) : State := if s.ticksTo t = 0 then s else s.advance (s.ticksTo t)

end Sys2Proof.Machine
end

