-- ==== Sys2Proof/Machine/Crc.lean ====
section
/-! DEFINITION. The four CRCs of Table 11-1 (R472, R473), the frame CRC-16 (R374), and PRBS patterns. -/

namespace Sys2Proof.Machine

/-- One bit of an unreflected CRC of `width` bits: `top` is the bit shifted out. -/
def crcBit (width poly reg : Nat) : Nat :=
  if reg / 2 ^ (width - 1) % 2 = 1 then Nat.xor (reg * 2 % 2 ^ width) poly else reg * 2 % 2 ^ width

/-- One bit of a reflected CRC; `rpoly` is the polynomial reflected. -/
def crcBitR (rpoly reg : Nat) : Nat := if reg % 2 = 1 then Nat.xor (reg / 2) rpoly else reg / 2

/-- `f` eight times. -/
def times8 (f : Nat → Nat) (r : Nat) : Nat := f (f (f (f (f (f (f (f r)))))))

/-- One byte of an unreflected CRC. -/
def crcByte (width poly reg : Nat) (b : Byte) : Nat :=
  times8 (crcBit width poly) (Nat.xor (reg % 2 ^ width) (b.toNat * 2 ^ (width - 8)))

/-- One byte of a reflected CRC. -/
def crcByteR (rpoly reg : Nat) (b : Byte) : Nat := times8 (crcBitR rpoly) (Nat.xor reg b.toNat)

/-- One byte of the CRC with code `poly` of Table 11-1, on the running register as held (R473). -/
def crcStep (poly : Nat) (reg : Nat) (b : Byte) : Nat :=
  match poly with
  | 0 => crcByte 8 0x2F reg b
  | 1 => crcByte 16 0x1021 reg b
  | 2 => crcByteR 0xEDB88320 reg b
  | _ => crcByteR 0x82F63B78 reg b

/-- The CRC over bytes in address order, from a running register. -/
def crcBytes (poly : Nat) (reg : Nat) (bs : List Byte) : Nat := bs.foldl (crcStep poly) reg

/-- The final XOR of Table 11-1. -/
def crcFinal (poly : Nat) : Nat :=
  match poly with
  | 0 => 0xFF
  | 1 => 0
  | _ => 0xFFFFFFFF

/-- The initial value of Table 11-1. -/
def crcInit (poly : Nat) : Nat :=
  match poly with
  | 0 => 0xFF
  | 1 => 0xFFFF
  | _ => 0xFFFFFFFF

/-- A CRC's width in bits. -/
def crcWidth (poly : Nat) : Nat :=
  match poly with
  | 0 => 8
  | 1 => 16
  | _ => 32

/-- The whole CRC of a byte string, from the initial value through the final XOR. -/
def crcOf (poly : Nat) (bs : List Byte) : Nat := Nat.xor (crcBytes poly (crcInit poly) bs) (crcFinal poly)

def crc8 (bs : List Byte) : Nat := crcOf 0 bs
def crc16 (bs : List Byte) : Nat := crcOf 1 bs
def crc32 (bs : List Byte) : Nat := crcOf 2 bs
def crc32c (bs : List Byte) : Nat := crcOf 3 bs

/-- The `n` low bytes of a number, most significant first. -/
def beBytes : Nat → Nat → List Byte
  | 0, _ => []
  | n + 1, v => BitVec.ofNat 8 (v / 256 ^ n) :: beBytes n v

/-- The header word of a frame (Table 9-5). -/
def frameHeader (f : Frame) : Nat :=
  f.ftype.val * 2 ^ 28 + f.hops % 64 * 2 ^ 22 + (if f.side then 2 ^ 21 else 0) + (if f.sideStart then 2 ^ 20 else 0)
    + f.prio % 8 * 2 ^ 17 + (if f.ackreq then 2 ^ 16 else 0) + f.dest.toNat

/-- The bytes the frame CRC covers, from header bit 31 to the last payload bit (R373, R374). -/
def frameCovered (f : Frame) : List Byte :=
  beBytes 4 (frameHeader f) ++ beBytes 2 f.src.toNat ++ beBytes 2 f.lseq.toNat ++ [BitVec.ofNat 8 f.payload.length] ++ f.payload

/-- The frame's CRC-16. -/
def frameCrc (f : Frame) : Nat := crc16 (frameCovered f)

/-- `n` bits of PRBS-7 (x^7 + x^6 + 1) from a seven-bit state, most significant first (R469). -/
def prbs7 : Nat → Nat → List Bool
  | 0, _ => []
  | n + 1, r => (r / 64 % 2 = 1) :: prbs7 n (r * 2 % 128 + (r / 64 + r / 32) % 2)

/-- Eight bits, most significant first, as a byte. -/
def byteOfBits (bs : List Bool) : Byte := BitVec.ofNat 8 (bs.foldl (fun a b => 2 * a + if b then 1 else 0) 0)

/-- Bits packed into bytes, most significant first. -/
def packBits : Nat → List Bool → List Byte
  | 0, _ => []
  | n + 1, bs => byteOfBits (bs.take 8) :: packBits n (bs.drop 8)

/-- The 512-bit payload of a TEST frame (R469). -/
def testPayload : List Byte := packBits 64 (prbs7 512 127)

/-- Set bits of a byte. -/
def onesOf (b : Byte) : Nat := (List.range 8).countP fun i => bitAt b.toNat i

/-- Differing bits of two byte strings of equal length. -/
def bitDiff : List Byte → List Byte → Nat
  | a :: x, b :: y => onesOf (a ^^^ b) + bitDiff x y
  | _, _ => 0

/-- The bits of a number, most significant first. -/
def bitsMsb : Nat → Nat → List Bool
  | 0, _ => []
  | n + 1, v => bitAt v n :: bitsMsb n v

/-- A number from bits, most significant first. -/
def natOfBits (bs : List Bool) : Nat := bs.foldl (fun a b => 2 * a + if b then 1 else 0) 0

end Sys2Proof.Machine
end

