-- ==== Sys2Proof/Machine/Egress.lean ====
section
/-! DEFINITION. What every sender of frames shares: a port's link state, its queue and transmitter (R376 to R398),
routing (R429, R430), default upstream ports, receive queues (R423), completion of frames (R385). -/

namespace Sys2Proof

/-- Bit times of a frame on the line, of one tick each (R369, R373). -/
def Frame.ticks (f : Frame) : Nat := 92 + 8 * f.payload.length

/-- The arrival as a frame of type `t`; TYPE 14, which no message has (R378), stays. -/
def Arrival.as (a : Arrival) (t : Fin 16) : Arrival :=
  if a.frame.ftype = 14 then a else { a with frame := { a.frame with ftype := t } }

/-- The arrival as a message: a frame of type `t` whose OP is `op`. -/
def Arrival.asOp (a : Arrival) (t : Fin 16) (op : Byte) : Arrival :=
  ({ a with frame := { a.frame with payload := op :: a.frame.payload.drop 1 } } : Arrival).as t

end Sys2Proof

namespace Sys2Proof.Machine

/-! ## Link states (Table 9-9) and frame types (Table 4-7) -/

namespace Link
def DOWN : Nat := 0
def RESET : Nat := 1
def PRESENCE : Nat := 2
def TRAINING : Nat := 3
def UP : Nat := 4
def ASLEEP : Nat := 5
def RESUMING : Nat := 6
end Link

namespace Ty
def DATA : Fin 16 := 0
def SAFE : Fin 16 := 1
def TRIP : Fin 16 := 2
def SCHED : Fin 16 := 3
def TIME : Fin 16 := 4
def PROG : Fin 16 := 5
def CONFIG : Fin 16 := 6
def ENUM : Fin 16 := 7
def IDENT : Fin 16 := 8
def ACK : Fin 16 := 9
def NAK : Fin 16 := 10
def TEST : Fin 16 := 11
def BCAST : Fin 16 := 12
def MIRROR : Fin 16 := 13
def NULL : Fin 16 := 15
end Ty

def State.link (s : State) (p : Port) : Nat := s.fld Reg.PORT_ST.STATE p

/-- PORT is raised for a port of the fabric. -/
def State.raisePort (s : State) (p : Port) : State := if p = xlink then s else s.raise Ev.PORT

/-- The port's link enters state `st`; PORT is raised when it changes (Table 9-16). -/
def State.setLink (s : State) (p : Port) (st : Nat) : State :=
  if s.link p = st then s else (s.setFld Reg.PORT_ST.STATE st p).raisePort p

/-- The die holds a valid extract: it is not blank (R455). -/
def State.sealed (s : State) : Bool := !bitAt (s.reg 0xD010).toNat 2

/-- Addresses of managers A and B in the sealed plan (Table 10-7). -/
def State.mgrA (s : State) : BitVec 16 := BitVec.ofNat 16 (s.num 0x1001E010 2)
def State.mgrB (s : State) : BitVec 16 := BitVec.ofNat 16 (s.num 0x1001E012 2)

/-- `a` is manager A or manager B of the sealed plan. -/
def State.isMgrAddr (s : State) (a : BitVec 16) : Bool := s.sealed && (a = s.mgrA || a = s.mgrB)

/-- This die is manager A of its sealed plan (R549, R826). -/
def State.isMgrA (s : State) : Bool :=
  s.isManager && s.sealed && s.flag Reg.FAB_ADDR.VALID && s.fld Reg.FAB_ADDR.ADDR = s.mgrA.toNat

/-- The line starts links by itself: AUTOSTART, or manager A on the cross-link (R404, R826). -/
def State.autoStart (s : State) (p : Port) : Bool := if p = xlink then s.isMgrA else s.flag Reg.PORT_CTL.AUTOSTART p

/-- PORT_CTL.EN, once the ports run (Table 18-7); the cross-link runs in the MANAGER role (Table 1-1). -/
def State.portOn (s : State) (p : Port) : Bool :=
  !s.boot.inReset && s.boot.refs && if p = xlink then s.isManager else s.flag Reg.PORT_CTL.EN p

/-- UP, ASLEEP or RESUMING. -/
def State.linkAlive (s : State) (p : Port) : Bool := 4 ≤ s.link p && s.link p ≤ 6

/-- Results of the far-end check (Table 10-14): NONE, PENDING, OPEN, FENCED. The cross-link has no check, and passes all. -/
def State.check (s : State) (p : Port) : Nat := if p = xlink then 2 else s.fld Reg.FAB_CHK.CHECK p

def State.inPrimer (s : State) (p : Port) : Bool := s.bitOf Reg.LT_ST.PRIMER p

/-- The port is in a Primer, or has acknowledged one (R464); the 2 s before the initiator's link start are no part of it (R466). -/
def State.primerTaken (s : State) (p : Port) : Bool :=
  (s.port p).primer = .acking || (s.port p).primer = .acked || (s.port p).primer = .running

/-- The port may carry routed frames (R429). -/
def State.usable (s : State) (p : Port) : Bool := s.linkAlive p && s.check p = 2 && !s.inPrimer p

/-- This node's address, or 0 (R376). -/
def State.addr (s : State) : BitVec 16 :=
  if s.flag Reg.FAB_ADDR.VALID then BitVec.ofNat 16 (s.fld Reg.FAB_ADDR.ADDR) else 0

/-- The destination names this node (step 5 of Table 10-1). -/
def State.isMine (s : State) (d : BitVec 16) : Bool :=
  s.flag Reg.FAB_ADDR.VALID && d.toNat = s.fld Reg.FAB_ADDR.ADDR

def State.defHops (s : State) : Nat := s.fld Reg.FAB_CFG.DEFHOPS

def portOf (n : Nat) : Port := ⟨n % 4, Nat.lt_of_lt_of_le (Nat.mod_lt n (by decide)) (by decide)⟩

/-- The default upstream ports; a MANAGER-role die has none (R430). -/
def State.primPort (s : State) : Option Port :=
  if s.flag Reg.FAB_UP.PRIMV && !s.isManager then some (portOf (s.fld Reg.FAB_UP.PRIM)) else none

def State.secPort (s : State) : Option Port :=
  if s.flag Reg.FAB_UP.SECV && !s.isManager then some (portOf (s.fld Reg.FAB_UP.SEC)) else none

/-- The active default upstream port (R442). -/
def State.activeUp (s : State) : Option Port :=
  if s.flag Reg.FAB_UP.NONE then none else some (portOf (s.fld Reg.FAB_UP.ACTIVE))

def optPorts (a b : Option Port) : List Port :=
  match a, b with
  | some x, some y => if x = y then [x] else [x, y]
  | some x, none => [x]
  | none, some y => [y]
  | none, none => []

/-- The default upstream ports, primary first. -/
def State.upPorts (s : State) : List Port := optPorts s.primPort s.secPort

/-- A frame built by this die's hardware. -/
def State.mkFrame (s : State) (t : Fin 16) (hops prio : Nat) (ackreq : Bool) (dest : BitVec 16)
    (payload : List Byte) : Frame :=
  { ftype := t, hops := hops, side := false, sideStart := false, prio := prio, ackreq := ackreq, dest := dest,
    src := s.addr, lseq := 0, payload := payload }

def TxItem.of (f : Frame) (use : TxFor) : TxItem := ⟨f, use, none, 0, 0, false, false, .fixed, none⟩

/-- Frames of a link that never take an LSEQ (R380). -/
def linkLocal (t : Fin 16) : Bool := t = Ty.NULL || t = Ty.ACK || t = Ty.NAK

/-- Types that pass a port whose check is not OPEN (R41, R462). -/
def passesShut (t : Fin 16) : Bool := t = Ty.ENUM || t = Ty.IDENT || linkLocal t

/-! ## Completion of frames (R384, R385, R516) -/

def State.txDone (s : State) (u : TxFor) (p : Port) : State :=
  match u with
  | .program t => (s.setBitOf Reg.PORT_TXDONE.DONE (t - 1) true).raise Ev.TX_DONE
  | .announce => s.modPort p fun v => { v with annAcked := true }
  | .mirror area q =>
    let left := fun (l : List Rec) => l.filter fun r => r.seq ≠ q
    if area = 1 then { s with bbx := { s.bbx with unackedU := left s.bbx.unackedU } }
    else { s with bbx := { s.bbx with unackedD := left s.bbx.unackedD } }
  | .other => s

/-- FRAME_FAIL: a frame is failed, counted, and its tag completed as failed. -/
def State.txFail (s : State) (u : TxFor) (p : Port) : State :=
  let s := s.count Reg.PORT_TXFAILC.COUNT p
  match u with
  | .program t => (s.setBitOf Reg.PORT_TXFAIL.FAIL (t - 1) true).raise Ev.TX_DONE
  | .mirror _ _ => s.count Reg.BBX_MIRLOST.COUNT
  | _ => s

/-- A responder's PRIMER_ACK that does not go out leaves its port as before the PRIMER_REQ (R464). -/
def State.ackLost (s : State) (p : Port) (i : TxItem) : State :=
  if i.frame.ftype = Ty.IDENT && fieldOf i.frame.payload 0 1 = 0x12 && (s.port p).primer = .acking then
    s.modPort p fun v => { v with primer := .none }
  else s

/-- A record's copy whose partner takes none any longer (R516). -/
def TxItem.shunned (i : TxItem) (s : State) : Bool :=
  match i.use with
  | .mirror area _ => s.flag (if area = 1 then Reg.BBX_STAT.NOPART_U else Reg.BBX_STAT.NOPART_D)
  | _ => false

/-- A copy that was begun before its frame was found bad, or was cut short (R379, R393). -/
def TxItem.begun (i : TxItem) : Bool := i.poison || i.cut.isSome

/-- A frame that can go out no more fails, or is dropped when it asked for no acknowledgement (R161, R384, R397). -/
def State.failItem (s : State) (p : Port) (i : TxItem) : State :=
  let s := s.ackLost p i
  if i.frame.ackreq then s.txFail i.use p
  else if i.frame.ftype = Ty.NULL then s
  else
    let s := s.count Reg.PORT_DROP.COUNT p
    match i.use with
    | .program _ => s.txFail i.use p
    | _ => s

/-! ## The transmitter -/

/-- Table 9-6: the rank of a waiting frame; a frame that has its LSEQ is a retransmission or resend. -/
def TxItem.rank (i : TxItem) : Nat :=
  if i.frame.ftype = Ty.TRIP then 0
  else if i.frame.ftype = Ty.TIME then 1
  else if i.frame.ftype = Ty.ACK || i.frame.ftype = Ty.NAK then 2
  else if i.frame.ftype = Ty.NULL then 100
  else 3 + 2 * i.frame.prio + if i.seq.isSome then 0 else 1

/-- A frame with ACKREQ that is not outstanding yet waits while eight frames are (R384). -/
def TxItem.mayStart (outs : Nat) (i : TxItem) : Bool := !i.frame.ackreq || i.tries ≠ 0 || outs < 8

/-- The frame may leave port `p` now: an unproven or fenced port passes ENUM, IDENT and link-local frames only (R41, R462, R467). -/
def State.mayLeave (s : State) (p : Port) (i : TxItem) : Bool :=
  i.mayStart (s.port p).outs.length && (s.check p = 2 || passesShut i.frame.ftype)

/-- The frame of lowest rank that may start, the earliest of its class, and the rest in order. -/
def pickItem (ok : TxItem → Bool) : List TxItem → Option (TxItem × List TxItem)
  | [] => none
  | i :: t =>
    match pickItem ok t with
    | none => if ok i then some (i, t) else none
    | some (j, r) => if ok i && i.rank ≤ j.rank then some (i, t) else some (j, i :: r)

/-- The 64 bits of a side message of kind `k` (R400). -/
def sideBitsOf (k value : Nat) : List Bool :=
  let body := k * 2 ^ 40 + value
  bitsMsb 64 (body * 2 ^ 16 + crc16 (beBytes 6 body))

/-- DLY_RSP's message when the frame of its first bit starts at `t3`: its VALUE is t3 − t2 in 1/64 tick (R300). -/
def delayAnswer (t2 t3 : Nat) : SideTx := ⟨sideBitsOf 0x11 (64 * (t3 - t2) % 2 ^ 40), false, false, some t2⟩

/-- The next side message begins when none is being sent: hardware messages first (R403). A queued DLY_RSP holds t2; t3 is the SOF, `now`, of
the frame that carries its first bit, taken anew while that bit has not gone out (R300, R398). -/
def PortSt.loadSide (v : PortSt) (now : Nat) : PortSt :=
  match v.sideTx with
  | some m =>
    match m.answers with
    | some t2 => if m.bits.length = 64 then { v with sideTx := some (delayAnswer t2 now) } else v
    | none => v
  | none =>
    match v.sideHw, v.sideProg with
    | (k, x) :: t, _ =>
      { v with sideHw := t, sideTx := some (if k = 0x11 then delayAnswer x now else ⟨sideBitsOf k x, false, k = 0x10, none⟩) }
    | [], some (k, x) => { v with sideTx := some ⟨sideBitsOf k x, true, false, none⟩ }
    | [], none => v

/-- A side message is being sent, or waits. -/
def PortSt.sideWaits (v : PortSt) : Bool := v.sideTx.isSome || v.sideHw ≠ [] || v.sideProg.isSome

/-- Side bits are left for the transmission after the present one. -/
def PortSt.sideMore (v : PortSt) : Bool :=
  v.sideHw ≠ [] || match v.sideTx with
    | some m => 2 ≤ m.bits.length || (v.sideProg.isSome && !m.program)
    | none => v.sideProg.isSome

/-- The side bits of the next transmission (R398); none before the port is UP or RESUMING. -/
def PortSt.sideBits (v : PortSt) (running : Bool) : Bool × Bool :=
  match v.sideTx with
  | some m => if running then (m.bits.headD false, m.bits.length = 64) else (false, false)
  | none => (false, false)

/-- ACC of a forwarded TIME that leaves at `now`: its residence, at least the 36 ticks of R389, is added (R299). -/
def accOut (arrived acc now : Nat) : Nat := acc + 64 * max 36 (now - arrived)

/-- A TIME payload of the die's own count (R296). -/
def State.timePayload (s : State) : List Byte :=
  let t := s.rtime / 2 ^ 6
  leBytes 3 (s.rtime % 2 ^ 22) ++ leBytes 4 (t / 2 ^ 16) ++ leBytes 1 (t / 2 ^ 48)

/-- The payload of a copy whose SOF leaves now (R296, R299). -/
def State.payloadOf (s : State) (i : TxItem) : List Byte :=
  match i.stamp with
  | .relay t acc => leBytes 3 (accOut t acc s.now) ++ i.frame.payload.drop 3
  | .origin => s.timePayload
  | .fixed => i.frame.payload

/-- A forwarded TIME whose ACC would pass its greatest value is dropped as its turn comes (R307). -/
def TxItem.overflows (i : TxItem) (now : Nat) : Bool :=
  match i.stamp with
  | .relay t acc => 0xFFFFFF < accOut t acc now
  | _ => false

/-- When the SOF of `i` may leave port `p`: after 4 bit times of idle (R371), a copy 1.5 µs after the SOF it copies (R389). -/
def State.sofAt (s : State) (p : Port) (i : TxItem) : Nat := max (max s.now ((s.port p).lastTx + 4)) i.ready

/-- A transmission of `i` begins on port `p`: it takes its LSEQ if it has none (R380), which the copy of a frame cut short keeps for that
frame's resend (R393), and its side bit. -/
def State.startTx (s : State) (p : Port) (i : TxItem) : State :=
  let sof := s.sofAt p i
  let v := (s.port p).loadSide sof
  let bits := v.sideBits (s.link p = Link.UP || s.link p = Link.RESUMING)
  let q := i.seq.getD v.nextSeq
  let numbered := !linkLocal i.frame.ftype
  let lseq := if numbered then q else if i.frame.ftype = Ty.NULL then v.nextSeq else i.frame.lseq
  let i' : TxItem := { i with
    frame := { i.frame with lseq := lseq, side := bits.1, sideStart := bits.2, payload := (s.advance (sof - s.now)).payloadOf i }
    seq := if numbered then some q else none }
  let fresh := numbered && i.seq.isNone
  let asks := bits.2 && (match v.sideTx with
    | some m => m.isDlyReq
    | none => false)
  let plan := if s.now < sof then some (i, s.fld Reg.PORT_LSEQ.LAST_TX p) else none
  let kept := match i.cut, i.seq with
    | some (_, r, l), none => [(r, l, q)]
    | _, _ => []
  let s := s.setPort p { v with cur := some i', curAt := sof, plan := plan, nextSeq := if fresh then v.nextSeq + 1 else v.nextSeq,
                                dlyT1 := if asks then some sof else v.dlyT1, aborted := v.aborted ++ kept }
  if fresh then s.setFld Reg.PORT_LSEQ.LAST_TX q.toNat p else s

/-- A NULL frame (R377). -/
def State.nullFrame (s : State) (note : Bool) : Frame :=
  s.mkFrame Ty.NULL 1 0 false 0 (if note then [1] else [])

/-- The end of the ABORT of a frame whose SOF left at `sof`, when a TRIP is ready `now`: it goes on to the next boundary of 8 bits
counted from bit time 2 (R391). A frame not begun ends before its idle. -/
def cutAt (sof now : Nat) : Nat := if now < sof then sof - 4 else sof + 4 + (now - sof - 2 + 7) / 8 * 8

/-- When the EOF, or the ABORT, of a transmission of `i` that began at `sof` ends. -/
def TxItem.endsAt (i : TxItem) (sof : Nat) : Nat :=
  match i.cut with
  | some (t, _) => cutAt sof t
  | none => sof + i.frame.ticks

/-- When the first of the waiting frames that `ok` admits is ready, from now on. -/
def State.readyAt (s : State) (p : Port) (ok : TxItem → Bool) : Option Nat :=
  (((s.port p).queue.filter ok).map fun i => max s.now i.ready).min?

/-- A TRIP that may leave, once it is ready, aborts another frame in flight, which keeps its LSEQ and is sent whole later (TRIP_PREEMPT,
R391); a TRIP never aborts a TRIP (R392). -/
def State.preempt (s : State) (p : Port) : State :=
  let v := s.port p
  match v.cur, s.readyAt p fun i => i.frame.ftype = Ty.TRIP && s.mayLeave p i with
  | some c, some t =>
    if s.link p = Link.UP && c.frame.ftype ≠ Ty.TRIP && t + 2 ≤ c.endsAt v.curAt then
      s.setPort p { v with cur := none, plan := none, queue := if c.begun || c.shunned s then v.queue else c :: v.queue,
                           lastTx := cutAt v.curAt t }
    else s
  | _, _ => s

/-- A transmission chosen before its SOF goes back to the waiting frames. -/
def State.unpick (s : State) (p : Port) : State :=
  let v := s.port p
  match v.plan with
  | some (i, last) =>
    if v.cur.isSome then
      let q := v.queue.takeWhile (·.ready < i.ready) ++ i :: v.queue.dropWhile (·.ready < i.ready)
      let gone := fun (e : Port × BitVec 16 × BitVec 16) => i.seq.isNone && i.cut.any fun c => c.2 = (e.1, e.2.1)
      (s.setPort p { v with cur := none, plan := none, queue := q,
                            aborted := v.aborted.filter fun e => !gone e,
                            nextSeq := if i.seq.isNone && !linkLocal i.frame.ftype then v.nextSeq - 1 else v.nextSeq }).setFld
        Reg.PORT_LSEQ.LAST_TX last p
    else s
  | none => s

/-- A transmission chosen before its frame's header is there is chosen anew: until then another frame may become ready (R388). -/
def State.unplan (s : State) (p : Port) : State :=
  match (s.port p).plan with
  | some (i, _) => if s.now < i.ready then s.unpick p else s
  | none => s

/-- A frame whose SOF has not left has not begun: it waits again (R444). -/
def State.recall (s : State) (p : Port) : State := if s.now < (s.port p).curAt then s.unpick p else s

/-- When port `p`, whose line is free, chooses its next frame: at its last frame's end, or once a frame that may leave is ready (R388). -/
def State.boundary (s : State) (p : Port) : Nat := max (s.port p).lastTx ((s.readyAt p (s.mayLeave p)).getD s.now)

/-- Copies that were to end as the frames they copied, but did not find the port idle 1.5 µs after the SOF: they never began (R389). -/
def State.dropMissed (s : State) (p : Port) : State :=
  s.modPort p fun v => { v with queue := v.queue.filter fun i => !(i.begun && i.ready < s.sofAt p i) }

/-- Forwarded TIME frames whose ACC would pass its greatest value are dropped (R307). -/
def State.dropLate (s : State) (p : Port) : State :=
  let late := fun (i : TxItem) => i.overflows (s.sofAt p i)
  if (s.port p).queue.any late then
    (s.modPort p fun v => { v with queue := v.queue.filter fun i => !late i }).setFlag Reg.RT_ST.OVF true
  else s

/-- A TRIP pre-empts, and at a frame boundary the port chooses its next frame (R388): an idle UP port takes the best waiting frame, and
a NULL fills in while a side message waits and no frame is ready (R399). -/
def State.kick (s : State) (p : Port) : State :=
  let s := (((s.dropMissed p).dropLate p).unplan p).preempt p
  let v := s.port p
  if v.cur.isSome || s.inPrimer p then s
  else if s.link p = Link.UP then
    let b := if v.sideWaits then max v.lastTx s.now else s.boundary p
    match pickItem (fun i => s.mayLeave p i && i.ready ≤ b) v.queue with
    | some (i, rest) => (s.setPort p { v with queue := rest }).startTx p i
    | none =>
      if v.sideWaits then s.startTx p (.of (s.nullFrame false) .other)
      else s
  else if s.link p = Link.TRAINING || s.link p = Link.RESUMING then s.startTx p (.of (s.nullFrame false) .other)
  else s

/-- An ASLEEP port that must send enters RESUMING and sends idle and NULLs (R409), once HFO runs. -/
def State.resume (s : State) (p : Port) : State :=
  if s.link p = Link.ASLEEP && s.hfo then
    ((s.modPort p fun v => { v with resumeTry := 0, deadline := s.now + us 400, lastTx := s.now }).setLink p
      Link.RESUMING).kick p
  else s

/-- A frame waits on port `p` behind those whose headers are there before its own (R388): an answer is ready once the frame that it answers
has come whole. -/
def State.await (s : State) (p : Port) (i : TxItem) : State :=
  let i := if i.ready = 0 then { i with ready := s.replyAt } else i
  let t := max s.now i.ready
  s.modPort p fun v => { v with queue := v.queue.takeWhile (·.ready ≤ t) ++ i :: v.queue.dropWhile (·.ready ≤ t) }

/-- A frame is given to port `p` for sending. Without ACKREQ it is dropped at an ASLEEP or DOWN link (R397); with
ACKREQ it resumes an ASLEEP link, and fails where there is no link, or where R41 fences the port (R161, R384; log 12). -/
def State.enqueue (s : State) (p : Port) (i : TxItem) : State :=
  let put := s.await p i
  if s.check p = 3 && !passesShut i.frame.ftype then s.failItem p i
  else if s.link p = Link.UP then put.kick p
  else if s.link p = Link.RESUMING then put
  else if s.link p = Link.ASLEEP && i.frame.ackreq then put.resume p
  else s.failItem p i

/-- What waits on a port that has become FENCED, or is outstanding there, fails or is dropped (R41, R161; log 12). -/
def State.shedFenced (s : State) (p : Port) : State :=
  let v := s.port p
  let stays := fun (i : TxItem) => passesShut i.frame.ftype
  let s := s.setPort p { v with outs := v.outs.filter fun o => stays o.item, queue := v.queue.filter stays }
  forAll ((v.outs.map (·.item)).filter (fun i => !stays i) ++ v.queue.filter fun i => !stays i && i.tries = 0)
    (fun i t => t.failItem p i) s

/-! ## Routing (R429, R430) -/

/-- The 16 routing entries that match a destination on a port that `ok` admits: (set bits of MASK, port), in order. -/
def State.matches (s : State) (ok : Port → Bool) (d : BitVec 16) : List (Nat × Port) :=
  (List.range 16).filterMap fun k =>
    let port := portOf (s.fld Reg.FAB_RT_B.PORT k)
    let base := BitVec.ofNat 16 (s.fld Reg.FAB_RT_A.BASE k)
    let mask := BitVec.ofNat 16 (s.fld Reg.FAB_RT_A.MASK k)
    if s.flag Reg.FAB_RT_B.VALID k && (d ^^^ base) &&& mask = 0 && ok port then
      some ((List.range 16).countP fun i => bitAt mask.toNat i, port)
    else none

/-- The entry with the most mask bits, the lowest index on a tie. -/
def bestMatch : List (Nat × Port) → Option (Nat × Port)
  | [] => none
  | e :: t =>
    match bestMatch t with
    | none => some e
    | some f => if e.1 ≥ f.1 then some e else some f

/-- Where a routed frame leaves: the best usable entry, else the active default upstream (the flag says which). -/
def State.route (s : State) (d : BitVec 16) : Option (Port × Bool) :=
  match bestMatch (s.matches s.usable d) with
  | some (_, p) => some (p, false)
  | none => s.activeUp.map fun p => (p, true)

/-- A frame this die originates is routed by its DEST; with no egress it is dropped and counted (R430). -/
def State.sendRouted (s : State) (f : Frame) (use : TxFor) : State :=
  match s.route f.dest with
  | some (p, up) => s.enqueue p { TxItem.of f use with viaUp := up && use = .other }
  | none =>
    let s := s.count Reg.FAB_NOROUTE.COUNT
    match use with
    | .program _ => s.txFail use 0
    | _ => s

/-! ## Copies of frames (R389, R393, R427) -/

/-- The LSEQ kept for the copy, on port `q`, of a frame cut short on port `p` before. -/
def State.keptSeq (s : State) (p q : Port) (l : BitVec 16) : Option (BitVec 16) :=
  ((s.port q).aborted.find? fun e => e.1 = p && e.2.1 = l).map (·.2.2)

/-- The copy of a frame from port `p` that leaves on port `q`. -/
def State.copyOf (s : State) (p q : Port) (f : Frame) (up : Bool) (stamp : TimeSrc) : TxItem :=
  { TxItem.of { f with hops := f.hops - 1, side := false, sideStart := false } .other with
    viaUp := up, stamp := stamp, seq := s.keptSeq p q f.lseq, ready := s.now + 36 }

/-- The copy is queued; a kept LSEQ is used up. -/
def State.sendCopy (s : State) (p q : Port) (f : Frame) (up : Bool) (stamp : TimeSrc) : State :=
  (s.modPort q fun v => { v with aborted := v.aborted.filter fun e => !(e.1 = p && e.2.1 = f.lseq) }).enqueue q
    (s.copyOf p q f up stamp)

/-! ## Copies toward both managers (R394) -/

/-- Where a copy for the primary or secondary upstream goes: the manager of the sealed plan at that port's end, or
0x0000 on the primary and 0x0001 on the secondary without a plan (R394; log 13: R433 gives an entry for
each manager that the primary does not lead to, so the entries tell which end is which). -/
def State.upDest (s : State) (secondary : Bool) : BitVec 16 :=
  if s.sealed then
    let entry := fun d => (bestMatch (s.matches (fun _ => true) d)).map (·.2)
    let primIsB := (s.primPort.isSome && entry s.mgrB = s.primPort) || (s.secPort.isSome && entry s.mgrA = s.secPort)
    if secondary = primIsB then s.mgrA else s.mgrB
  else if secondary then 1 else 0

/-- A hardware frame on each default upstream port that `ok` admits, each copy addressed as R394 states. -/
def State.sendUp (s : State) (ok : State → Port → Bool) (mk : BitVec 16 → Frame) : State :=
  let s1 := match s.primPort with
    | some p => if ok s p then s.enqueue p (.of (mk (s.upDest false)) .other) else s
    | none => s
  match s.secPort with
  | some p => if ok s p && s.primPort ≠ some p then s1.enqueue p (.of (mk (s.upDest true)) .other) else s1
  | none => s1

/-! ## Receive queues (R390, R422, R423) -/

/-- The fabric's frames that a port holds: waiting, in flight, or not yet acknowledged; a retransmission is its outstanding frame. -/
def PortSt.holds (v : PortSt) : List TxItem :=
  ((v.queue ++ v.cur.toList).filter (fun i => i.tries = 0) ++ v.outs.map (·.item)).filter fun i =>
    i.use = .other && !linkLocal i.frame.ftype

/-- Shared frame buffers in use: frames in receive queues (R423) and those of the ports, but for the TRIP in each port's reserved
buffer (R390). -/
def State.buffersUsed (s : State) : Nat :=
  (allCtx.map fun c => (s.ctx c).rx.length).sum +
  (allPorts.map fun p =>
    let l := (s.port p).holds
    (l.countP fun i => i.frame.ftype ≠ Ty.TRIP) + ((l.countP fun i => i.frame.ftype = Ty.TRIP) - 1)).sum

/-- The context whose queue frames of type `t` enter (FAB_QMAP). -/
def State.qmap (s : State) (t : Fin 16) : Cid :=
  let w := if t.val < 8 then s.reg 0x6020 else s.reg 0x6024
  ⟨bitsAt w.toNat (3 * (t.val % 8)) 3, Nat.mod_lt _ (by decide)⟩

/-- A frame that does not find the shared buffers it needs cannot be taken; a TRIP always finds one (R383, R390). -/
def State.hasBuffer (s : State) (t : Fin 16) (need : Nat) : Bool := t = Ty.TRIP || s.buffersUsed + need ≤ 32

/-- A frame enters context `c`'s receive queue and RX is raised; a full queue is counted, and without a shared buffer it is discarded
(R390, R423; log 18). -/
def State.rxInto (s : State) (c : Cid) (f : Frame) (port : Byte) : State :=
  if 8 ≤ (s.ctx c).rx.length then s.count Reg.FAB_QFULL.COUNT
  else if s.hasBuffer f.ftype 1 then (s.modCtx c fun v => { v with rx := v.rx ++ [⟨f, port⟩] }).raise Ev.RX
  else s

/-- A delivered frame enters the receive queue that FAB_QMAP names. -/
def State.rxPut (s : State) (f : Frame) (p : Port) : State := s.rxInto (s.qmap f.ftype) f (BitVec.ofNat 8 p.val)

end Sys2Proof.Machine
end

