-- ==== Sys2Proof/Machine/Blackbox.lean ====
section
/-! DEFINITION. The black box (chapter 12): records, handoff, commits, the map, mirroring, media failures, reading. -/

namespace Sys2Proof.Machine

/-! ## Records (R495) -/

/-- Bytes 0 to 59 of a record. -/
def Rec.bytes (r : Rec) : List Byte :=
  [r.kind, BitVec.ofNat 8 ((if r.sticky then 1 else 0) + (if r.moved then 2 else 0) + if r.shadowOnly then 4 else 0)]
    ++ leBytes 2 r.seq.toNat ++ leBytes 6 r.stamp ++ [r.epoch, r.origin] ++ padTo 48 r.content

/-- The COMMIT word: CRC-32C of bytes 0 to 59. -/
def commitWord (b60 : List Byte) : List Byte := leBytes 4 (crc32c b60)

/-- The record that 60 bytes hold. -/
def Rec.of (b : List Byte) : Rec where
  kind := b.headD 0
  sticky := bitAt (fieldOf b 1 1) 0
  moved := bitAt (fieldOf b 1 1) 1
  shadowOnly := bitAt (fieldOf b 1 1) 2
  seq := BitVec.ofNat 16 (fieldOf b 2 2)
  stamp := fieldOf b 4 6
  epoch := BitVec.ofNat 8 (fieldOf b 10 1)
  origin := BitVec.ofNat 8 (fieldOf b 11 1)
  content := (b.drop 12).take 48

/-- Address of ring position `q`. -/
def ringAddr (q : Nat) : Nat := 0x10010000 + 64 * q

/-- 64 bytes are a committed record. -/
def isCommitted (b64 : List Byte) : Bool := b64.drop 60 = commitWord (b64.take 60)

def isErased (b : List Byte) : Bool := b.all (· = 0xFF)

/-- Every byte of NVM once the writes now waiting have been made. -/
def State.settled (s : State) : State := s.nvmQ.foldl (fun t w => t.setBytes w.addr w.bytes) s

/-- An NVM write is requested (R95). -/
def State.nvmWrite (s : State) (a : Nat) (b : List Byte) (w : NvmWriter) : State :=
  { s with nvmQ := s.nvmQ ++ [⟨a, b, w⟩] }

/-! ## The map (R504) -/

def State.badSector (s : State) (k : Nat) : Bool :=
  if k < 32 then s.bitOf Reg.BBX_BADMAP_LO.BAD k else s.bitOf Reg.BBX_BADMAP_HI.BAD (k - 32)

def State.setBad (s : State) (k : Nat) : State :=
  if k < 32 then s.setBitOf Reg.BBX_BADMAP_LO.BAD k true else s.setBitOf Reg.BBX_BADMAP_HI.BAD (k - 32) true

def State.goodSectors (s : State) : Nat := 64 - (List.range 64).countP s.badSector

/-- GOOD and PINS follow the map. -/
def State.mapViews (s : State) : State :=
  let s := (s.setFld Reg.BBX_STAT.GOOD s.goodSectors).setFld Reg.BBX_PINS.COUNT s.bbx.pins.length
  if s.bbx.pins.length < 64 then s.setFlag Reg.BBX_STAT.STICKY_FULL false else s

/-- The 256 bytes of the map. -/
def State.mapBytes (s : State) : List Byte :=
  let pin := leBytes 64 ((s.bbx.pins.map fun q => 2 ^ q).sum)
  let body := leBytes 4 (s.fld Reg.BBX_BADMAP_LO.BAD) ++ leBytes 4 (s.fld Reg.BBX_BADMAP_HI.BAD)
    ++ leBytes 4 (s.fld Reg.BBX_SHBAD.BAD) ++ leBytes 4 s.bbx.mapGen ++ List.replicate 48 0 ++ pin
    ++ List.replicate 124 0
  body ++ leBytes 4 (crc32c body)

/-- The engine writes the map, its GEN one higher. -/
def State.writeMap (s : State) : State :=
  let s := { s with bbx := { s.bbx with mapGen := s.bbx.mapGen + 1 } }
  s.mapViews.nvmWrite 0x1001C100 s.mapBytes .bbxMap

/-! ## Mirroring (R507a, R512 to R517) -/

/-- USE of port `p` in the plan record (Table 10-8). -/
def State.planUse (s : State) (p : Port) : Nat := s.num (0x1001E030 + 16 * p.val) 1

/-- The port area U is bound to. -/
def State.boundU (s : State) : Option Port :=
  if s.sealed then some (s.primPort.getD 0) else none

/-- The port area D is bound to. -/
def State.boundD (s : State) : Option Port :=
  if s.sealed then
    match s.secPort with
    | some p => some p
    | none => allPorts.find? fun p => some p ≠ s.boundU && s.planUse p = 1
  else none

/-- A MIRROR frame straight out of a bound port, HOPS 0, addressed to the far end that announced itself (log 14). -/
def State.sendMirror (s : State) (p : Port) (payload : List Byte) (use : TxFor) : State :=
  if s.check p = 3 then s
  else s.enqueue p (.of (s.mkFrame Ty.MIRROR 0 2 true (BitVec.ofNat 16 (s.fld Reg.FAB_SEEN_INFO.ADDR p)) payload) use)

def State.mrecTo (s : State) (area : Nat) (r : Rec) : State :=
  let go := fun (p : Option Port) (noPart : Fld) =>
    match p with
    | some p => if s.flag noPart then s else s.sendMirror p ([0x01, 0, 0, 0] ++ r.bytes) (.mirror area r.seq)
    | none => s
  if area = 1 then go s.boundU Reg.BBX_STAT.NOPART_U else go s.boundD Reg.BBX_STAT.NOPART_D

/-- Records in SEQ order, the oldest before the next SEQ first. -/
def insertBySeq (next : BitVec 16) (r : Rec) : List Rec → List Rec
  | [] => [r]
  | a :: t => if (r.seq - next).toNat < (a.seq - next).toNat then r :: a :: t else a :: insertBySeq next r t

/-- A record joins those of its partner not yet acknowledged, in SEQ order; a recommitted one takes the place of the first of its SEQ
(R517). As many are kept as the ring holds. -/
def keepUnacked (next : BitVec 16) (r : Rec) (l : List Rec) : List Rec :=
  let l := insertBySeq next r (l.filter fun x => x.seq ≠ r.seq)
  l.drop (l.length - 512)

/-- A record goes to both partners (R512). -/
def State.mirror (s : State) (r : Rec) : State :=
  let keep := keepUnacked s.bbx.nextSeq r
  let s := if r.sticky then s
    else { s with bbx := { s.bbx with unackedU := keep s.bbx.unackedU, unackedD := keep s.bbx.unackedD } }
  (s.mrecTo 1 r).mrecTo 2 r

/-! ## Handoff (R496, R499, R501, R508) -/

/-- A position that may take a record: its sector good, itself unpinned (R498). -/
def State.posFree (s : State) (q : Nat) : Bool := !s.badSector (q / 8) && !s.bbx.pins.contains q

/-- The next free position at or after `q`, wrapping. -/
def State.nextFree (s : State) (q : Nat) : Option Nat :=
  ((List.range 512).map fun i => (q + i) % 512).find? s.posFree

/-- BBX_HANDOFF: the record takes SEQ, STAMP and EPOCH and enters the queue, or goes to the shadows only. -/
def State.handoff (s : State) (kind : Byte) (sticky : Bool) (origin : Byte) (content : List Byte) (owner : Option Cid)
    : State :=
  let q := s.bbx.nextSeq
  let full := sticky && 64 ≤ s.bbx.pins.length
  let none' := !sticky && (s.nextFree s.bbx.nextPos).isNone
  let shadow := s.flag Reg.BBX_STAT.DEGRADED || full || none'
  let r : Rec := { kind := kind, sticky := sticky, moved := false, shadowOnly := shadow, seq := q,
                   stamp := s.rackTicks, epoch := BitVec.ofNat 8 s.epoch, origin := origin, content := content }
  let s := { s with bbx := { s.bbx with nextSeq := q + 1 } }.setFld Reg.BBX_NEXT.SEQ (q + 1).toNat
  if shadow then
    let s := if full then (s.setFlag Reg.BBX_STAT.STICKY_FULL true).raise Ev.BBX else s
    let s := if none' then s.count Reg.BBX_NOROOM.COUNT else s
    s.mirror r
  else { s with bbx := { s.bbx with queue := s.bbx.queue ++ [(r, owner)] } }

/-- An engine record is appended; before the ring scan it waits for READY, and with no free entry it is lost and
counted (R508). -/
def State.bbxAppend (s : State) (kind : Byte) (sticky : Bool) (content : List Byte) : State :=
  if s.bbx.queue.length + s.bbx.early.length ≥ 16 then s.count Reg.BBX_QLOST.COUNT
  else if s.flag Reg.BBX_STAT.READY then s.handoff kind sticky 0xFF content none
  else { s with bbx := { s.bbx with early := s.bbx.early ++ [(kind, sticky, content)] } }

/-- LOGB may hand its record over: the engine is READY and holds no earlier record of the context (R165, R508). -/
def State.logbMayHand (s : State) (c : Cid) : Bool :=
  s.flag Reg.BBX_STAT.READY && !(s.bbx.queue.any fun e => e.2 = some c) &&
    (s.bbx.queue.countP fun e => e.2.isSome) < 8 && s.bbx.queue.length < 16

/-- The first waiting row's burn starts once HOLDUP_OK lets it; one begun goes on without (R521, R764). -/
def State.startBurn (s : State) : State :=
  { s with bbx := { s.bbx with
    burnOn := !s.bbx.burning.isEmpty && (s.bbx.burnOn || s.flag Reg.BBX_STAT.HOLDUP_OK) } }

/-- BUSY follows a commit and a burn in progress (Table 12-7). -/
def State.noteBusy (s : State) : State :=
  let s := s.startBurn
  s.setFlag Reg.BBX_STAT.BUSY (s.bbx.commit.isSome || s.bbx.burnOn)

/-! ## Media failures (R520 to R524) -/

/-- The tombstone row of a failure (R521). -/
def State.tombRow (s : State) (cause sector : Nat) : Nat :=
  let top := cause % 16 * 2 ^ 52 + sector % 64 * 2 ^ 46 + (64 - s.goodSectors) % 64 * 2 ^ 40 + s.epoch * 2 ^ 32 +
    s.rackTicks / 2 ^ 16 % 2 ^ 32
  top * 256 + crc8 (beBytes 7 top)

/-- The first unused row. -/
def State.freeRow (s : State) : Option Nat :=
  (List.range 8).find? fun r => s.fld Reg.BBX_TOMB_LO.ROW r = 0 && s.fld Reg.BBX_TOMB_HI.ROW r = 0 &&
    !(s.bbx.burning.any fun b => b.1 = r)

/-- Entry into DEGRADED with its UNFIT notice (R523). -/
def State.unfitNotice (s : State) : State :=
  let pay := [0x20, 0, BitVec.ofNat 8 s.goodSectors, 0] ++ leBytes 4 (s.fld Reg.SYS_UID_LO.UID)
    ++ leBytes 4 (s.fld Reg.SYS_UID_HI.UID)
  let s : State := { s with bbx := { s.bbx with unfitAt := s.now + ms 60000 } }
  s.sendUp State.usable fun d => s.mkFrame Ty.MIRROR s.defHops 1 true d pay

def State.enterDegraded (s : State) : State :=
  if s.flag Reg.BBX_STAT.DEGRADED then s
  else ((s.setFlag Reg.BBX_STAT.DEGRADED true).setFlag Reg.BBX_STAT.UNFIT true).unfitNotice

/-- Steps 3 to 5 of R520: the MEDIA_FAIL record, the tombstone, MEDIA. -/
def State.mediaReport (s : State) (cause sector addr : Nat) : State :=
  let row := s.freeRow
  let content := [BitVec.ofNat 8 cause, BitVec.ofNat 8 sector, BitVec.ofNat 8 s.goodSectors,
      BitVec.ofNat 8 (row.getD 0xFF)] ++ leBytes 4 addr ++ leBytes 4 (s.fld Reg.BBX_BADMAP_LO.BAD)
      ++ leBytes 4 (s.fld Reg.BBX_BADMAP_HI.BAD)
  let s := s.bbxAppend 0x0A true content
  let s := match row with
    | some r => { s with bbx := { s.bbx with burning := s.bbx.burning ++ [(r, BitVec.ofNat 64 (s.tombRow cause sector))] } }
    | none => s.setFlag Reg.BBX_STAT.TOMB_FULL true
  (s.noteBusy.setFlag Reg.BBX_STAT.MEDIA true).raise Ev.MEDIA

/-- A word of the `n` bytes at `a` reads with an uncorrectable ECC error. -/
def State.eccIn (s : State) (a n : Nat) : Bool := s.eccBad.any fun w => a < w + 4 && w < a + n

/-- The record at position `q` reads well and its COMMIT word verifies. -/
def State.verifies (s : State) (q : Nat) : Bool := !s.eccIn (ringAddr q) 64 && isCommitted (s.bytes (ringAddr q) 64)

/-- Committed positions of good sectors: (position, SEQ, STICKY), ascending. -/
def State.ringRecords (s : State) : List (Nat × Nat × Bool) :=
  (List.range 512).filterMap fun q =>
    if s.badSector (q / 8) then none
    else
      let b := s.bytes (ringAddr q) 64
      if s.verifies q then some (q, fieldOf b 2 2, bitAt (fieldOf b 1 1) 0) else none

/-- The map of NVM is taken, or rebuilt when its CRC fails (R504, R505). -/
def State.loadMap (s : State) : State :=
  let m := s.settled.bytes 0x1001C100 256
  if fieldOf m 0xFC 4 = crc32c (m.take 0xFC) then
    let pin := fieldOf m 0x40 64
    let s := ((s.setFld Reg.BBX_BADMAP_LO.BAD (fieldOf m 0 4)).setFld Reg.BBX_BADMAP_HI.BAD (fieldOf m 4 4)).setFld
      Reg.BBX_SHBAD.BAD (fieldOf m 8 4)
    { s with bbx := { s.bbx with mapGen := fieldOf m 12 4, pins := (List.range 512).filter fun q => bitAt pin q } }.mapViews
  else
    let s := ((s.setFld Reg.BBX_BADMAP_LO.BAD 0).setFld Reg.BBX_BADMAP_HI.BAD 0).setFld Reg.BBX_SHBAD.BAD 0
    let s := { s with bbx := { s.bbx with pins := List.map Prod.fst (List.filter (fun (e : Nat × Nat × Bool) => e.2.2) s.ringRecords) } }
    (s.setFlag Reg.BBX_STAT.MAPERR true).writeMap

/-- The map as it stands: until the ring scan has loaded it at READY, NVM holds it (R504, R505). -/
def State.withMap (s : State) : State := if s.flag Reg.BBX_STAT.READY then s else s.loadMap

/-- MEDIA_FAILURE of a ring sector (R520): the map first, then the recommits with MOVED and the same SEQ, then the report. A record
stays pinned where it is until its recommit is committed (R498). -/
def State.mediaFailure (s : State) (cause sector addr : Nat) (failed : Option Rec) : State :=
  let s : State := s.withMap.setBad sector
  let moved := (s.bbx.pins.filter fun q => q / 8 = sector && s.verifies q).map fun q =>
    ({ Rec.of (s.bytes (ringAddr q) 60) with moved := true }, some q)
  let again := failed.toList.map fun r => ({ r with moved := true }, s.bbx.moving)
  let s := { s with bbx := { s.bbx with redo := s.bbx.redo ++ moved ++ again } }
  let s := s.writeMap
  let s : State := s.mediaReport cause sector addr
  if s.goodSectors < 2 then s.enterDegraded else s

/-- The map's own write or verify failed (R522). -/
def State.mapFailure (s : State) : State := (s.mediaReport 3 0x3F 0x1001C100).enterDegraded

/-- A sector of the shadow areas fails: its SHBAD bit is set and the map written (R504, R524). -/
def State.shadowFailure (s : State) (k : Nat) : State :=
  let s := s.withMap
  if s.bitOf Reg.BBX_SHBAD.BAD k then s else (s.setBitOf Reg.BBX_SHBAD.BAD k true).writeMap

/-- An uncorrectable ECC error read from NVM address `a`, by the engine or any master (R520, R524). -/
def State.eccInNvm (s : State) (a : Nat) : State :=
  if 0x10010000 ≤ a && a < 0x10018000 then
    let k := (a - 0x10010000) / 512
    if s.withMap.badSector k then s else s.mediaFailure 2 k a none
  else if 0x10018000 ≤ a && a < 0x1001C000 then s.shadowFailure ((a - 0x10018000) / 512)
  else s

/-- The first word with an uncorrectable error among the `n` bytes at `a` is reported. -/
def State.eccReport (s : State) (a n : Nat) : State :=
  match s.eccBad.find? fun w => a < w + 4 && w < a + n with
  | some w => s.eccInNvm w
  | none => s

/-! ## Commits (R506, R507) -/

/-- The sector is being written or waits for a write (R95). -/
def State.sectorBusy (s : State) (a : Nat) : Bool := s.nvmQ.any fun w => sectorOf w.addr = sectorOf a

/-- A context that waits for the engine becomes READY once its own LOGB may hand over: its previous record is taken (R71, R165). -/
def State.wakeLogb (s : State) : State :=
  s.modAll fun c v => if v.state = .waiting && v.wait = some .logb && s.logbMayHand c then v.wake else v

/-- The record to be committed next, with the bad position it is pinned at, and the engine without it: recommits first (R520), then the
queue in handoff order (R508). -/
def Bbx.next (b : Bbx) : Option (Rec × Option Nat × Bbx) :=
  match b.redo, b.queue with
  | (r, m) :: t, _ => some (r, m, { b with redo := t })
  | [], (r, _) :: t => some (r, none, { b with queue := t })
  | [], [] => none

/-- The engine starts a commit: once the ring scan has told it the next position (R509), only with HOLDUP_OK, one at a time, at the next good unpinned position; the NVM takes it in its turn
(R95; log 39). A sticky record whose turn comes while 64 are pinned goes to the shadows (R499; log 39). -/
def State.commitStart (s : State) : State :=
  if s.flag Reg.BBX_STAT.READY && s.flag Reg.BBX_STAT.HOLDUP_OK && s.bbx.commit.isNone then
    match s.bbx.next with
    | none => s
    | some (r, m, b) =>
      let s0 := { s with bbx := b }
      let full := r.sticky && m.isNone && 64 ≤ s.bbx.pins.length
      match s.nextFree s.bbx.nextPos with
      | none => ((if r.sticky then s0 else s0.count Reg.BBX_NOROOM.COUNT).mirror { r with shadowOnly := true }).wakeLogb
      | some q =>
        if full then (((s0.setFlag Reg.BBX_STAT.STICKY_FULL true).raise Ev.BBX).mirror { r with shadowOnly := true }).wakeLogb
        else if s.flag Reg.BBX_STAT.DEGRADED then (s0.mirror { r with shadowOnly := true }).wakeLogb
        else
          let s1 := { s0 with bbx := { s0.bbx with commit := some (r, q), moving := m, nextPos := (q + 1) % 512 } }.noteBusy
          ((s1.nvmWrite (ringAddr q) [] .commit).setFld Reg.BBX_NEXT.POS ((q + 1) % 512)).wakeLogb
  else s

/-- Contexts waiting for a sector that is no longer busy become READY (R95, R71). -/
def State.wakeNvm (s : State) : State :=
  s.modAll fun _ v =>
    match v.wait with
    | some (.nvm a) => if v.state = .waiting && !s.sectorBusy a then v.wake else v
    | _ => v

/-! ## Acknowledgement (R500, R502, R503) -/

/-- The SEQ of the record pinned at position `q`. -/
def State.pinSeq (s : State) (q : Nat) : BitVec 16 := BitVec.ofNat 16 (s.num (ringAddr q + 2) 2)

/-- ACKED content: COUNT, then up to 23 SEQs. -/
def ackedContent (l : List (BitVec 16)) : List Byte :=
  leBytes 2 l.length ++ (l.take 23).flatMap fun q => leBytes 2 q.toNat

def State.mrel (s : State) (q : BitVec 16) : State :=
  let go := fun (p : Option Port) (s : State) =>
    match p with
    | some p => s.sendMirror p ([0x02, 0] ++ leBytes 2 q.toNat) .other
    | none => s
  go s.boundD (go s.boundU s)

/-- The SEQ at position `q` reads with an uncorrectable error, so that no acknowledgement of one SEQ can match it. -/
def State.pinUnread (s : State) (q : Nat) : Bool := s.eccIn (ringAddr q) 4

/-- The pinned positions of one SEQ, or all, are unpinned. -/
def State.unpin (s : State) (hit : List Nat) : State :=
  let seqs := (hit.filter fun k => !s.pinUnread k).map s.pinSeq
  let s := { s with bbx := { s.bbx with pins := s.bbx.pins.filter fun k => !hit.contains k } }
  let s := (s.writeMap).bbxAppend 0x0B false (ackedContent seqs)
  forAll seqs (fun q t => t.mrel q) s

/-- One acknowledgement takes effect: one SEQ, or ALL; a sector that the engine cannot read for it has failed (R520). -/
def State.ackNow (s : State) (q : BitVec 16) (all : Bool) : State :=
  let s := s.withMap
  let hit := s.bbx.pins.filter fun k => all || (!s.pinUnread k && s.pinSeq k = q)
  let bad := s.bbx.pins.filter s.pinUnread
  let s := if hit = [] then s.setFlag Reg.BBX_STAT.ACKMISS true else s.unpin hit
  forAll bad (fun k t => t.eccReport (ringAddr k) 4) s

/-- A BBX_ACK write; during a commit it waits for the commit's end. -/
def State.bbxAck (s : State) (q : BitVec 16) (all : Bool) : State :=
  if s.bbx.commit.isSome then { s with bbx := { s.bbx with acks := s.bbx.acks ++ [(q, all)] } }
  else s.ackNow q all

/-! ## Shadows of neighbours (R513 to R518) -/

def areaBase (area : Nat) : Nat := if area = 1 then 0x10018000 else 0x1001A000

/-- Which area port `p` is bound to: 1 for U, 2 for D. -/
def State.areaOf (s : State) (p : Port) : Option Nat :=
  if s.boundU = some p then some 1 else if s.boundD = some p then some 2 else none

/-- Bytes of position `i` of an area, waiting writes included. -/
def State.shadowAt (s : State) (area i : Nat) : List Byte := s.settled.bytes (areaBase area + 64 * i) 64

/-- The area is HELD: its header says so and its CRC holds (log 14). -/
def State.areaHeld (s : State) (area : Nat) : Bool :=
  let h := s.shadowAt area 0
  fieldOf h 11 1 = 1 && h.drop 60 = commitWord (h.take 60)

def State.seenUid (s : State) (p : Port) : Nat :=
  s.fld Reg.FAB_SEEN_UIDLO.UID p + 2 ^ 32 * s.fld Reg.FAB_SEEN_UIDHI.UID p

/-- The header of an area (Table 12-4). -/
def areaHeader (uid : Nat) (addr : Nat) (port : Nat) (held : Bool) (last count : Nat) : List Byte :=
  let b := padTo 60 (leBytes 8 uid ++ leBytes 2 addr ++ leBytes 1 port ++ [if held then 1 else 0] ++ leBytes 2 last
    ++ leBytes 4 count)
  b ++ commitWord b

/-- The sector of position `i` of an area is marked in SHBAD (R524), as the map has it before READY too. -/
def State.shadowBad (s : State) (area i : Nat) : Bool :=
  s.withMap.bitOf Reg.BBX_SHBAD.BAD ((if area = 1 then 0 else 16) + i / 8)

/-- How much newer SEQ `a` is than SEQ `b`, in the half of the range around it; negative when it is older. -/
def seqAhead (a b : Nat) : Int := signed 16 ((a + 65536 - b) % 65536)

/-- Of the positions `l` of an area, the one that holds the oldest record, with how much older than `seq` it is (R514). -/
def State.oldestOf (s : State) (area seq : Nat) (l : List Nat) : Option (Nat × Int) :=
  (l.map fun i => (i, seqAhead seq (fieldOf (s.shadowAt area i) 2 2))).foldl (fun best e => match best with
    | none => some e
    | some f => if f.2 < e.2 then some e else some f) none

/-- Where an accepted MREC goes: `none` rejects it FULL; `some none` stores nothing (R514, R518): so does a record older than the 16
newest that the ring of the area holds. Positions of bad sectors are skipped (R524). -/
def State.shadowPlace (s : State) (area : Nat) (b60 : List Byte) : Option (Option Nat) :=
  let seq := fieldOf b60 2 2
  let media := fieldOf b60 0 1 = 0x0A
  let held := fun i => let b := s.shadowAt area i; isCommitted b && fieldOf b 2 2 = seq && !s.shadowBad area i
  let free := fun i => !isCommitted (s.shadowAt area i) && !s.shadowBad area i
  let span := fun (a n : Nat) => (List.range n).map (· + a)
  if media then
    if (span 1 7).any held then some none else ((span 1 7).find? free).map some
  else
    let last := if area = 1 then s.bbx.poolAt.1 else s.bbx.poolAt.2
    let where' := if bitAt (fieldOf b60 1 1) 0 then (List.range 104).map fun i => 24 + (last - 24 + 1 + i) % 104
      else span 8 16
    match (span 8 120).find? held with
    | some i => if (s.shadowAt area i).take 60 = b60 then some none else some (some i)
    | none =>
      match where'.find? free with
      | some i => some (some i)
      | none =>
        if bitAt (fieldOf b60 1 1) 0 then none
        else some (match s.oldestOf area seq (where'.filter fun i => !s.shadowBad area i) with
          | some (i, d) => if 0 < d then some i else none
          | none => none)

def State.sendMrej (s : State) (p : Port) (reason seq : Nat) : State :=
  s.sendMirror p ([0x03, BitVec.ofNat 8 reason] ++ leBytes 2 seq) .other

/-- Records stored in an area since it became HELD; after a reset its header's COUNT goes on (R514, R791). -/
def State.storedIn (s : State) (area : Nat) : Nat :=
  max (if area = 1 then s.bbx.stored.1 else s.bbx.stored.2) (fieldOf (s.shadowAt area 0) 14 4)

/-- A record went to position `i` of an area, taken `anew` or held by a record before: the live COUNT, and the pool position taken last
(R791, R792). -/
def State.noteStored (s : State) (area count i : Nat) (anew : Bool) : State :=
  let pool := fun (old : Nat) => if 24 ≤ i && anew then i else old
  if area = 1 then { s with bbx := { s.bbx with stored := (count, s.bbx.stored.2), poolAt := (pool s.bbx.poolAt.1, s.bbx.poolAt.2) } }
  else { s with bbx := { s.bbx with stored := (s.bbx.stored.1, count), poolAt := (s.bbx.poolAt.1, pool s.bbx.poolAt.2) } }

/-- A holder takes an MREC from port `p` (R514, R515, R518, R791). -/
def State.takeMrec (s : State) (p : Port) (b60 : List Byte) : State :=
  let seq := fieldOf b60 2 2
  match s.areaOf p with
  | none => s.sendMrej p 3 seq
  | some area =>
    let h := s.shadowAt area 0
    if s.areaHeld area && fieldOf h 0 8 ≠ s.seenUid p then s.sendMrej p 1 seq
    else
      match s.shadowPlace area b60 with
      | none => s.sendMrej p 2 seq
      | some none => s
      | some (some i) =>
        let count := if s.areaHeld area then s.storedIn area + 1 else 1
        let hdr := areaHeader (s.seenUid p) (s.fld Reg.FAB_SEEN_INFO.ADDR p) (s.fld Reg.FAB_SEEN_INFO.PORT p) true seq count
        let write := !s.areaHeld area || count % 64 = 0
        let anew := !isCommitted (s.shadowAt area i)
        let s := (s.nvmWrite (areaBase area + 64 * i) (b60 ++ commitWord b60) (.shadow area i)).noteStored area count i anew
        if write then s.nvmWrite (areaBase area) hdr (.shadow area 0) else s

/-- A holder frees the pool position of a SEQ (MREL) for the owner of the area; a replaced node's records stay until RELEASE (R519). Bad
sectors are skipped (R524). -/
def State.takeMrel (s : State) (p : Port) (seq : Nat) : State :=
  match s.areaOf p with
  | none => s
  | some area =>
    let owner := s.areaHeld area && fieldOf (s.shadowAt area 0) 0 8 = s.seenUid p
    match ((List.range 104).map (· + 24)).find? fun i =>
        let b := s.shadowAt area i; owner && isCommitted b && fieldOf b 2 2 = seq && !s.shadowBad area i with
    | some i => s.nvmWrite (areaBase area + 64 * i) (List.replicate 64 0xFF) (.shadow area i)
    | none => s

/-- The item is a copy of a record. -/
def TxItem.isMrec (i : TxItem) : Bool :=
  match i.use with
  | .mirror _ _ => true
  | _ => false

/-- The partner on port `p` takes no record until its link starts again: copies that wait there or are kept go out no more (R516). -/
def State.noPartner (s : State) (p : Port) (area : Nat) : State :=
  (s.modPort p fun v => { v with queue := v.queue.filter fun i => !i.isMrec, outs := v.outs.filter fun o => !o.item.isMrec }).setFlag
    (if area = 1 then Reg.BBX_STAT.NOPART_U else Reg.BBX_STAT.NOPART_D) true

/-- The owner counts a rejected mirror; OWNER and UNBOUND end mirroring to that partner (R516). An MREJ on an unbound port is not
accepted (R513). -/
def State.takeMrej (s : State) (p : Port) (reason : Nat) : State :=
  match s.areaOf p with
  | none => s
  | some area =>
    let s := s.count Reg.BBX_MIRLOST.COUNT
    if reason = 1 || reason = 3 then s.noPartner p area else s

/-- BBX_SHCTL.RELEASE: the area is EMPTY and holds no record (R515, log 14). -/
def State.release (s : State) (area : Nat) : State :=
  let s := forAll (List.range 16) (fun k t => t.nvmWrite (areaBase area + 512 * k) (List.replicate 512 0xFF)
    (.shadow area (8 * k))) s
  s.nvmWrite (areaBase area) (areaHeader 0 0 0 false 0 0) (.shadow area 0)

/-- The 16 newest of records in SEQ order (R517). -/
def newest16 (l : List Rec) : List Rec := l.drop (l.length - 16)

/-- MIRROR_RESEND: a partner whose link is UP and OPEN gets every pinned record and the 16 newest unacknowledged others
(R517); a sector that the engine cannot read for it has failed (R520). -/
def State.mirrorResend (s : State) (p : Port) : State :=
  match s.areaOf p with
  | none => s
  | some area =>
    let unread := fun (q : Nat) => s.eccIn (ringAddr q) 64
    let rs := ((s.bbx.pins.filter fun q => !unread q).map fun q => Rec.of (s.bytes (ringAddr q) 60)) ++
      newest16 (if area = 1 then s.bbx.unackedU else s.bbx.unackedD)
    let t := forAll (rs.foldr (insertBySeq s.bbx.nextSeq) []) (fun r t => t.mrecTo area r) s
    forAll (s.bbx.pins.filter unread) (fun q t => t.eccReport (ringAddr q) 64) t

/-- A link start on a bound port ends NOPART (Table 12-7). -/
def State.bbxLinkStart (s : State) (p : Port) : State :=
  let s := if s.boundU = some p then s.setFlag Reg.BBX_STAT.NOPART_U false else s
  if s.boundD = some p then s.setFlag Reg.BBX_STAT.NOPART_D false else s

/-! ## Reading (R525, R526) -/

/-- The 64 bytes of NVM that an item is read from, if it is read from NVM. -/
def itemAt (area index : Nat) : Option Nat :=
  if area = 0 && index < 512 then some (ringAddr index)
  else if (area = 1 || area = 2) && index < 128 then some (areaBase area + 64 * index)
  else none

/-- STATUS and the 60 bytes of one item. -/
def State.boxItem (s : State) (area index : Nat) : Nat × List Byte :=
  let judge := fun (a : Nat) =>
    let b := s.bytes a 64
    if s.eccIn a 64 then (3, List.replicate 60 0)
    else if isErased b then (1, b.take 60)
    else if isCommitted b then (0, b.take 60) else (2, b.take 60)
  let tombs := fun k => (List.range 4).flatMap fun i =>
    leBytes 4 (s.fld Reg.BBX_TOMB_LO.ROW (k + i)) ++ leBytes 4 (s.fld Reg.BBX_TOMB_HI.ROW (k + i))
  if area = 0 then if index < 512 then judge (ringAddr index) else (4, List.replicate 60 0)
  else if area = 1 || area = 2 then
    if index < 128 then judge (areaBase area + 64 * index) else (4, List.replicate 60 0)
  else match index with
    | 0 => (0, s.withMap.mapBytes.take 60)
    | 1 => (0, padTo 60 (tombs 0))
    | 2 => (0, padTo 60 (tombs 4))
    | 3 => (0, padTo 60 (leBytes 4 (s.reg 0x8004).toNat))
    | _ => (4, List.replicate 60 0)

/-- The manager writes an answer to BBX_RDBUF and BBX_RDST (R526). -/
def State.takeBdata (s : State) (status : Nat) (b60 : List Byte) : State :=
  if s.fld Reg.BBX_RDST.STATUS = 7 then
    let s := forAll (List.range 16) (fun i t => t.setFld Reg.BBX_RDBUF.DATA (fieldOf (padTo 64 b60) (4 * i) 4) i) s
    s.setFld Reg.BBX_RDST.STATUS status
  else s

/-- A target's BDATA to the requester; BREAD from anyone but a manager of the plan is REFUSED (R525). One to this node itself is
delivered to it (R424). An ECC error that the read meets is a media failure (R520). -/
def State.answerBread (s : State) (src : BitVec 16) (area index : Nat) : State :=
  let r := if s.isMgrAddr src then s.boxItem area index else (5, List.replicate 60 0)
  let s := if s.isMine src then s.takeBdata r.1 r.2
    else s.sendRouted (s.mkFrame Ty.MIRROR s.defHops 2 true src ([0x90, BitVec.ofNat 8 r.1] ++ leBytes 2 index ++ r.2)) .other
  match if r.1 = 3 then itemAt area index else none with
  | some a => s.eccReport a 64
  | none => s

/-- BREAD is answered at once, or after a commit in progress. -/
def State.takeBread (s : State) (p : Port) (src : BitVec 16) (area index : Nat) : State :=
  if s.bbx.commit.isSome then { s with bbx := { s.bbx with breads := s.bbx.breads ++ [(p, src, area, index)] } }
  else s.answerBread src area index

/-- BBX_RDREQ.GO on a MANAGER-role die sends a BREAD, one at a time (R525); one to this node itself is delivered to it (R424). -/
def State.rdreqGo (s : State) : State :=
  if s.isManager && s.fld Reg.BBX_RDST.STATUS ≠ 7 then
    let dest := BitVec.ofNat 16 (s.fld Reg.BBX_RDREQ.DEST)
    let area := s.fld Reg.BBX_RDREQ.AREA
    let index := s.fld Reg.BBX_RDREQ.INDEX
    let s := { s with bbx := { s.bbx with rdreqAt := s.now + ms 10 } }.setFld Reg.BBX_RDST.STATUS 7
    if s.isMine dest then s.takeBread 0 dest area index
    else s.sendRouted (s.mkFrame Ty.MIRROR s.defHops 2 true dest
      ([0x10, BitVec.ofNat 8 area] ++ leBytes 2 index)) .other
  else s

/-- MIRROR frames taken by the engine (R513); `hops` and `p` are those of arrival. -/
def State.takeMirror (s : State) (p : Port) (f : Frame) : State :=
  let b := f.payload
  match (b.headD 0).toNat with
  | 0x01 => if f.hops = 0 && b.length = 64 then s.takeMrec p ((b.drop 4).take 60) else s
  | 0x02 => if f.hops = 0 && b.length = 4 then s.takeMrel p (fieldOf b 2 2) else s
  | 0x03 => if f.hops = 0 && b.length = 4 then s.takeMrej p (fieldOf b 1 1) else s
  | 0x10 => if b.length = 4 then s.takeBread p f.src (fieldOf b 1 1) (fieldOf b 2 2) else s
  | 0x90 => if b.length = 64 && s.isManager then s.takeBdata (fieldOf b 1 1) (b.drop 4) else s
  | 0x20 => if b.length = 12 && s.isManager then s.bbxAppend 0x0D true b else s
  | _ => s

/-! ## The commands of the family -/

/-- BBX_COMMIT_START. -/
def execBbxCommitStart (s : State) : Host.Outcome State Fault Refusal := .next s.commitStart

/-- The NVM's turn is the engine's commit. -/
def State.commitTurn (s : State) : Bool := (s.nvmQ.head?.map (·.writer)) = some .commit

/-- The record `r`, committed at `q`, is pinned when it is STICKY: a recommitted one in the place of its old position, unless it was
acknowledged meanwhile (R498, R502). -/
def State.pinCommitted (s : State) (r : Rec) (q : Nat) : State :=
  match s.bbx.moving with
  | some p =>
    if s.bbx.pins.contains p then
      { s with bbx := { s.bbx with pins := s.bbx.pins.filter (· ≠ p) ++ [q] } }.writeMap
    else s
  | none => if r.sticky then { s with bbx := { s.bbx with pins := s.bbx.pins ++ [q] } }.writeMap else s

/-- The effect of a commit's end, in its turn: `ok` is the outcome of its read-back. Both phases have written the position; what it holds
when the read-back differs is free (R506). -/
def State.commitDone (s : State) (ok : Bool) : State :=
  match s.bbx.commit with
  | none => s
  | some (r, q) =>
    if !s.commitTurn then s else
    let s := { s with nvmQ := s.nvmQ.drop 1, bbx := { s.bbx with commit := none } }.noteBusy
    let s :=
      if ok then
        s.setBytes (ringAddr q) (r.bytes ++ commitWord r.bytes) |>.pinCommitted r q
      else
        let torn := (List.range 64).map fun i => Config.tornByte s.free (ringAddr q + i)
        ({ s with free := s.free + 1 }.setBytes (ringAddr q) torn).mediaFailure 1 (q / 8) (ringAddr q) (some r)
    let s := { s with bbx := { s.bbx with moving := none } }
    let s := s.mirror r
    let s := (s.raise Ev.BBX).wakeNvm
    let acks := s.bbx.acks
    let breads := s.bbx.breads
    let s := { s with bbx := { s.bbx with acks := [], breads := [] } }
    let s := forAll acks (fun a t => t.ackNow a.1 a.2) s
    forAll breads (fun b t => t.answerBread b.2.1 b.2.2.1 b.2.2.2) s

/-- The row being burnt is done, and the next may start (R521, R764). -/
def State.burnDone (s : State) : State :=
  match s.bbx.burning with
  | (r, v) :: t =>
    if s.bbx.burnOn then
      ({ s with bbx := { s.bbx with burning := t, burnOn := false } }.setFld Reg.BBX_TOMB_LO.ROW v.toNat r).setFld
        Reg.BBX_TOMB_HI.ROW (v.toNat / 2 ^ 32) r |>.noteBusy
    else s
  | [] => s

/-- TOMBSTONE_BURN_DONE. -/
def execTombstoneBurnDone (s : State) : Host.Outcome State Fault Refusal := .next s.burnDone

/-- Positions that read well and are neither erased nor committed. -/
def State.tornCount (s : State) : Nat :=
  (List.range 512).countP fun q =>
    !s.badSector (q / 8) && !s.eccIn (ringAddr q) 64 && let b := s.bytes (ringAddr q) 64; !isErased b && !isCommitted b

/-- Steps to each record's successor, the last wrapping to `first`. -/
def stepsFrom (first : Nat) : List (Nat × Nat × Bool) → List (Nat × Nat × Nat)
  | [] => []
  | [(q, x, _)] => [((first + 65536 - x) % 65536, q, x)]
  | (q, x, _) :: (q', y, k) :: t => ((y + 65536 - x) % 65536, q, x) :: stepsFrom first ((q', y, k) :: t)

/-- The entry with the largest first part, the earliest on a tie. -/
def largest : List (Nat × Nat × Nat) → Option (Nat × Nat × Nat)
  | [] => none
  | e :: t =>
    match largest t with
    | none => some e
    | some f => if e.1 ≥ f.1 then some e else some f

/-- R509: position and SEQ of the last record of the ring. -/
def State.lastRecord (s : State) : Option (Nat × Nat) :=
  let all := s.ringRecords
  let plain := all.filter fun e => !e.2.2
  let base := if plain = [] then all else plain
  match largest (stepsFrom ((base.map fun e => e.2.1).headD 0) base) with
  | none => none
  | some (_, _, n) =>
    (largest (all.filterMap fun e =>
      let d := (e.2.1 + 65536 - n) % 65536
      if d < 512 then some (d, e.1, e.2.1) else none)).map fun e => (e.2.1, e.2.2)

/-- The records of the ring that are not sticky, in SEQ order: those of an earlier run, which no partner is known to have acknowledged
(R517; log 39). -/
def State.recentOf (s : State) (last : Nat) : List Rec :=
  let plain := (s.ringRecords.filter fun e => !e.2.2).map fun e => Rec.of (s.bytes (ringAddr e.1) 60)
  plain.foldr (insertBySeq (BitVec.ofNat 16 (last + 1))) []

/-- Sectors in which the scan met an uncorrectable error have failed (R520). -/
def State.scanFaults (s : State) : State :=
  forAll (s.eccBad.filter fun w => 0x10010000 ≤ w && w < 0x10018000) (fun w t => t.eccInNvm w) s

/-- The reset scan ends (R509): map, last record, TORN, READY, the records for partners whose links were OPEN before (R517), the RESET
record, then what waited. -/
def State.ringScan (s : State) : State :=
  if s.flag Reg.BBX_STAT.READY then s
  else
    let s := s.loadMap
    let last := s.lastRecord
    let start := match last with
      | some (q, _) => (s.nextFree ((q + 1) % 512)).getD 0
      | none => 0
    let seq := match last with
      | some (_, n) => n + 1
      | none => 0
    let s := s.countBy Reg.BBX_TORN.COUNT s.tornCount
    let recent := match last with
      | some (_, n) => s.recentOf n
      | none => []
    let s := { s with bbx := { s.bbx with nextPos := start, nextSeq := BitVec.ofNat 16 seq, unackedU := recent, unackedD := recent } }
    let s := ((s.setFld Reg.BBX_NEXT.POS start).setFld Reg.BBX_NEXT.SEQ seq).setFlag Reg.BBX_STAT.READY true
    let s := forAll (allPorts.filter fun p => s.link p = Link.UP && s.check p = 2) (fun p t => t.mirrorResend p) s
    let early := s.bbx.early
    let s := { s with bbx := { s.bbx with early := [] } }
    let s := s.bbxAppend 0x0E false (leBytes 4 (s.reg 0x10).toNat ++ leBytes 4 (s.fld Reg.BBX_TORN.COUNT)
      ++ [BitVec.ofNat 8 s.goodSectors])
    let s := (forAll early (fun e t => t.bbxAppend e.1 e.2.1 e.2.2) s).scanFaults
    let s := if s.goodSectors < 2 then s.enterDegraded else s
    s.wakeLogb

/-- BBX_RING_SCAN_DONE: after the march, and after a commit that ran through the reset (Table 18-7, R507). -/
def execBbxRingScanDone (s : State) : Host.Outcome State Fault Refusal :=
  .next (if !s.boot.inReset && s.boot.march && s.bbx.commit.isNone then s.ringScan else s)

end Sys2Proof.Machine
end

