-- ==== Sys2Proof/Machine/Link.lean ====
section
/-! DEFINITION. The chain link (chapter 9): link states, acceptance of frames, acknowledgement and retries, the side
channel, link start and loss, failover of the default upstream (R442 to R445), fencing (R458 to R463). -/

namespace Sys2Proof.Machine

/-! ## Default upstream and failover (R442 to R445) -/

/-- Frames that step 7 sent to the default upstream and that have not begun move to the new active port (R444); a program's frame never
moves (R161). -/
def State.moveUp (s : State) (old new : Port) : State :=
  if old = new then s
  else
    let s := if (s.port old).cur.any (·.viaUp) then s.recall old else s
    let v := s.port old
    let go := v.queue.filter fun i => i.viaUp && i.seq.isNone
    let s := s.setPort old { v with queue := v.queue.filter fun i => !(i.viaUp && i.seq.isNone) }
    (forAll go (fun i t => t.enqueue new i) s).kick old

/-- The active port becomes `p`, on the secondary or not; a change from one to the other is a switch (R442). -/
def State.switchUp (s : State) (p : Port) (sec : Bool) : State :=
  let old := portOf (s.fld Reg.FAB_UP.ACTIVE)
  let wasSec := s.flag Reg.FAB_UP.ONSEC
  let s := ((s.setFld Reg.FAB_UP.ACTIVE p.val).setFlag Reg.FAB_UP.ONSEC sec).setFlag Reg.FAB_UP.NONE false
  if wasSec = sec then s
  else ((s.setFlag (if sec then Reg.FAB_ST.FAILOVER else Reg.FAB_ST.FAILBACK) true).raise Ev.PORT).moveUp old p

def optUsable (s : State) : Option Port → Bool
  | some p => s.usable p
  | none => false

/-- The secondary is the active default upstream. -/
def State.onSecondary (s : State) : Bool := s.flag Reg.FAB_UP.ONSEC && !s.flag Reg.FAB_UP.NONE

/-- When the node returns to its primary: with REVERT, once that has been usable for HOLD × 100 ms (R443). -/
def State.revertAt (s : State) : Option Nat :=
  if s.flag Reg.FAB_CFG.REVERT then s.primSince.map (· + ms (100 * max 1 (s.fld Reg.FAB_CFG.HOLD))) else none

/-- The secondary became active in this cycle, neither port having been usable before. -/
def State.secondaryJust (s : State) : Bool :=
  match s.upFrom with
  | some (t, _, _) => t = s.now
  | none => false

/-- The primary became usable in the cycle in which the secondary did: it is the active one, as if it had been the first (R445). -/
def State.primaryAfterAll (s : State) : State :=
  match s.upFrom with
  | some (_, onsec, flag) =>
    let p := s.primPort.getD 0
    let old := portOf (s.fld Reg.FAB_UP.ACTIVE)
    let s := (s.setFlag Reg.FAB_ST.FAILOVER flag).setFlag Reg.FAB_UP.ONSEC onsec
    { (s.switchUp p false).moveUp old p with upFrom := none }
  | none => s

/-- FAILOVER: the active default upstream follows the ports' usability; the return to the primary waits (R443). -/
def State.updateUp (s : State) : State :=
  let prim := optUsable s s.primPort
  let sec := optUsable s s.secPort
  let s : State := { s with primSince := if prim then some (s.primSince.getD s.now) else none }
  if s.onSecondary && prim && s.secondaryJust then s.primaryAfterAll
  else if s.onSecondary && sec then
    match s.revertAt with
    | some t => if t ≤ s.now then s.switchUp (s.primPort.getD 0) false else s
    | none => s
  else if prim then s.switchUp (s.primPort.getD 0) false
  else if sec then
    let before := (s.now, s.flag Reg.FAB_UP.ONSEC, s.flag Reg.FAB_ST.FAILOVER)
    { s.switchUp (s.secPort.getD 0) true with upFrom := if s.flag Reg.FAB_UP.NONE then some before else none }
  else s.setFlag Reg.FAB_UP.NONE true

/-- FAILBACK_HOLD_END: the primary has been usable for HOLD × 100 ms without a break, with REVERT still 1 (R443). -/
def execFailbackHoldEnd (s : State) : Host.Outcome State Fault Refusal :=
  .next (match s.revertAt with
    | some t => if s.onSecondary then (s.reach t).switchUp (s.primPort.getD 0) false else s
    | none => s)

/-- The link state changes, and the default upstream with it. -/
def State.relink (s : State) (p : Port) (st : Nat) : State := (s.setLink p st).updateUp

/-! ## The far-end check and fencing (R458 to R463) -/

/-- The far-end check of a port reads a result; FENCED shows in PORT_ST and raises PORT when it changes. -/
def State.putCheck (s : State) (p : Port) (check cause : Nat) : State :=
  let was := s.flag Reg.PORT_ST.FENCED p
  let s := ((s.setFld Reg.FAB_CHK.CHECK check p).setFld Reg.FAB_CHK.CAUSE cause p).setFlag Reg.PORT_ST.FENCED
    (check = 3) p
  if was = decide (check = 3) then s else s.raise Ev.PORT

/-- The check takes a result, and the default upstream follows (R442, R445). -/
def State.setCheck (s : State) (p : Port) (check cause : Nat) : State := (s.putCheck p check cause).updateUp

/-- A 32-byte FENCE_REPORT payload (Table 10-11). -/
def State.fenceReport (s : State) (p : Port) (cause : Nat) : List Byte :=
  let far := s.bytes (0x1001E038 + 16 * p.val) 8
  let a := s.port p |>.annFar
  padTo 32 ([0x20, BitVec.ofNat 8 p.val, BitVec.ofNat 8 cause, 0] ++ (if s.sealed then far else List.replicate 8 0)
    ++ padTo 8 ((a.drop 4).take 8) ++ padTo 4 ((a.drop 12).take 4)
    ++ (if s.sealed then s.bytes (0x1001E034 + 16 * p.val) 2 else [0, 0]) ++ padTo 2 ((a.drop 16).take 2)
    ++ [BitVec.ofNat 8 (fieldOf a 1 1), BitVec.ofNat 8 (fieldOf a 2 1)])

/-- A port that has become FENCED for `cause` stops forwarding, logs and reports (R41, R461). -/
def State.fenced (s : State) (p : Port) (cause : Nat) : State :=
  let s := s.shedFenced p
  let rep := s.fenceReport p cause
  let s := s.bbxAppend 0x04 true rep
  s.sendUp State.usable fun d => s.mkFrame Ty.IDENT s.defHops 1 true d rep

/-- The port is fenced for this cause already. -/
def State.fencedFor (s : State) (p : Port) (cause : Nat) : Bool := s.check p = 3 && s.fld Reg.FAB_CHK.CAUSE p = cause

/-- PORT_FENCE (R461). -/
def State.fence (s : State) (p : Port) (cause : Nat) : State :=
  if p = xlink || s.fencedFor p cause then s else (s.setCheck p 3 cause).fenced p cause

/-- FLAGS of this die's ANNOUNCE and INFO: role, ADDRVALID, BLANK (Tables 10-6, 10-9). -/
def State.idFlags (s : State) : Nat :=
  s.role + (if s.flag Reg.FAB_ADDR.VALID then 4 else 0) + if s.sealed then 0 else 8

/-- This die's ANNOUNCE on a port (Table 10-9). -/
def State.announce (s : State) (p : Port) : List Byte :=
  [0x10, BitVec.ofNat 8 p.val, BitVec.ofNat 8 s.idFlags, 0] ++ leBytes 4 (s.fld Reg.SYS_UID_LO.UID)
    ++ leBytes 4 (s.fld Reg.SYS_UID_HI.UID) ++ leBytes 4 (s.fld Reg.FAB_RACKID.ID) ++ leBytes 2 s.addr.toNat ++ [0, 0]
    ++ leBytes 4 (s.fld Reg.FAB_PLANDIG.DIG)

/-- An ANNOUNCE goes out, link-local, with ACKREQ (R458; no rule states its PRIO, log 15). -/
def State.sendAnnounce (s : State) (p : Port) : State :=
  (s.modPort p fun v => { v with annSent := v.annSent + 1, annAt := s.now }).enqueue p
    (.of (s.mkFrame Ty.IDENT 0 (Config.hwPrio 8 % 8) true 0 (s.announce p)) .announce)

/-- The port's check becomes PENDING and its ANNOUNCE goes out (R458). -/
def State.startCheck (s : State) (p : Port) : State :=
  let s := s.modPort p fun v =>
    { v with annSent := 0, annAcked := false, annSeen := false, annFar := [], deadline := max s.now v.lastRx + ms 10 }
  (s.setCheck p 1 0).sendAnnounce p

/-- Whether an ANNOUNCE payload is valid (R458). -/
def announceValid (b : List Byte) : Bool :=
  b.length = 24 && fieldOf b 0 1 = 0x10 && fieldOf b 1 1 < 4 && fieldOf b 2 1 < 16 && fieldOf b 3 1 = 0 &&
    fieldOf b 18 2 = 0

/-- The first failing cause of Table 10-10 for the far end that announced `b`, or 0. -/
def State.judge (s : State) (p : Port) (b : List Byte) : Nat :=
  let rec' := 0x1001E030 + 16 * p.val
  let blank := bitAt (fieldOf b 2 1) 3
  if (s.port p).doubled then 1
  else if !s.sealed then 0
  else if s.num rec' 1 = 0 then 3
  else if !blank && fieldOf b 12 4 ≠ s.fld Reg.FAB_RACKID.ID then 4
  else if fieldOf b 4 8 ≠ s.num (rec' + 8) 8 then 5
  else if fieldOf b 1 1 ≠ s.num (rec' + 1) 1 then 6
  else if fieldOf b 2 1 % 4 ≠ s.num (rec' + 2) 1 then 7
  else if !blank && (fieldOf b 16 2 ≠ s.num (rec' + 4) 2 || !bitAt (fieldOf b 2 1) 2) then 8
  else if !blank && fieldOf b 20 4 ≠ s.fld Reg.FAB_PLANDIG.DIG then 9
  else 0

/-- A far ANNOUNCE is recorded in FAB_SEENp (Table 10-14). -/
def State.recordFar (s : State) (p : Port) (b : List Byte) : State :=
  let fl := fieldOf b 2 1
  let s := s.modPort p fun v => { v with annSeen := true, annFar := b }
  let s := ((s.setFld Reg.FAB_SEEN_UIDLO.UID (fieldOf b 4 4) p).setFld Reg.FAB_SEEN_UIDHI.UID (fieldOf b 8 4) p).setFld
    Reg.FAB_SEEN_RACK.RACKID (fieldOf b 12 4) p
  let s := (((s.setFld Reg.FAB_SEEN_INFO.ADDR (fieldOf b 16 2) p).setFld Reg.FAB_SEEN_INFO.PORT (fieldOf b 1 1) p).setFld
    Reg.FAB_SEEN_INFO.ROLE fl p).setFlag Reg.FAB_SEEN_INFO.ADDRVALID (bitAt fl 2) p
  let s := (s.setFlag Reg.FAB_SEEN_INFO.BLANK (bitAt fl 3) p).setFlag Reg.FAB_SEEN_INFO.VALID true p
  (s.setFld Reg.FAB_SEEN_DIG.DIG (fieldOf b 20 4) p).setFlag Reg.FAB_CHK.FAR_BLANK (bitAt fl 3) p

/-- A port that has become OPEN: the black box mirrors anew, or once its scan is over, and frames that waited for it go (R467, R517). -/
def State.opened (s : State) (p : Port) : State := (if s.flag Reg.BBX_STAT.READY then s.mirrorResend p else s).kick p

/-- The port is judged by the last far ANNOUNCE: OPEN or FENCED (R459, R460). -/
def State.judgePort (s : State) (p : Port) (b : List Byte) : State :=
  match s.judge p b with
  | 0 => if s.check p = 2 then s else (s.setCheck p 2 0).opened p
  | c => s.fence p c

/-- A far ANNOUNCE arrives on an UP port: a pending check judges it, an OPEN port one that differs from the one judged; a
FENCED port only records it (R458, R459, R462, R463). -/
def State.takeAnnounce (s : State) (p : Port) (b : List Byte) : State :=
  if announceValid b then
    let anew := s.check p = 1 || (s.check p = 2 && (s.port p).annFar ≠ b)
    let s := s.recordFar p b
    if anew then s.judgePort p b else s
  else s.count Reg.PORT_FORMAT.COUNT p

/-- ANNOUNCE_RESEND: every 1 ms, up to ten in all, until acknowledged and a valid far ANNOUNCE has come (R458). -/
def execAnnounceResend (p : Port) (s : State) : Host.Outcome State Fault Refusal :=
  let v := s.port p
  .next (if p ≠ xlink && s.link p = Link.UP && v.annSent < 10 && !(v.annAcked && v.annSeen) then
      (s.reach (v.annAt + ms 1)).sendAnnounce p else s)

/-- ANNOUNCE_SILENT: no valid far ANNOUNCE within 10 ms of UP (R459). -/
def execAnnounceSilent (p : Port) (s : State) : Host.Outcome State Fault Refusal :=
  .next (if s.check p = 1 && !(s.port p).annSeen then ((s.reach (s.port p).deadline).fence p 2) else s)

/-- What follows when a port's check has changed from `was` to the verdict `c` of Table 10-10, 0 for OPEN. -/
def State.rechecked (s : State) (was : State) (p : Port) (c : Nat) : State :=
  if c = 0 then (if was.check p = 2 then s else s.opened p)
  else if was.fencedFor p c then s else s.fenced p c

/-- FAB_CTL.RECHECK re-runs the check of the ports named (R462): the ANNOUNCE of this link is judged again, every port's result
before the default upstream follows them (R445); without one the check starts afresh, since a far end whose own check is over sends
no other (log 21). A port fenced for DOUBLE stays fenced. -/
def State.recheck (s : State) (mask : Nat) : State :=
  let named := allPorts.filter fun p => bitAt mask p.val && s.linkAlive p && !(s.port p).doubled
  let seen := (named.filter fun p => (s.port p).annSeen).map fun p => (p, s.judge p (s.port p).annFar)
  let t := (forAll seen (fun e t => t.putCheck e.1 (if e.2 = 0 then 2 else 3) e.2) s).updateUp
  let t := forAll seen (fun e t => t.rechecked s e.1 e.2) t
  forAll (named.filter fun p => !(s.port p).annSeen && s.link p = Link.UP) (fun p t => t.startCheck p) t

/-! ## Side channel (R398 to R403) -/

/-- A DLY_REQ is queued as a hardware side message (R300, R406). -/
def State.sendDlyReq (s : State) (p : Port) : State :=
  (s.modPort p fun v => { v with sideHw := v.sideHw ++ [(0x10, 0)] }).kick p

/-- A link-delay measurement begins, at a link start or the periodic one (R300). -/
def State.measureDelay (s : State) (p : Port) : State := (s.modPort p fun v => { v with dlyAt := s.now }).sendDlyReq p

/-- A DLY_REQ whose first bit came at `t2` is answered with DLY_RSP, the next message of the stream (R300, Table 9-8). -/
def State.takeDlyReq (s : State) (p : Port) (t2 : Nat) : State :=
  (s.modPort p fun v => { v with sideHw := (0x11, t2) :: v.sideHw }).kick p

/-- A program side message arrives (R402). -/
def State.takeProgramSide (s : State) (p : Port) (kind value : Nat) : State :=
  let s := if s.flag Reg.PORT_ST.SIDE_RX p then s.setFlag Reg.PORT_ST.SIDE_OVR true p else s
  (((s.setFld Reg.PORT_SIDERX_LO.VALUE value p).setFld Reg.PORT_SIDERX_HI.VALUE (value / 2 ^ 32) p).setFld
    Reg.PORT_SIDERX_HI.KIND kind p).setFlag Reg.PORT_ST.SIDE_RX true p

/-- The measured delay of a line, or that there is none; a void measurement keeps its DELAY field (R300). -/
def State.setDelay (s : State) (p : Port) (d : Option Nat) : State :=
  if p = xlink then { s with snap := { s.snap with xDelay := d } }
  else match d with
    | some d => (s.setFld Reg.RT_LINKDLY.DELAY d p).setFlag Reg.RT_LINKDLY.VALID true p
    | none => s.setFlag Reg.RT_LINKDLY.VALID false p

/-- The link delay in 1/64 tick while it is VALID. -/
def State.linkDelay (s : State) (p : Port) : Option Nat :=
  if p = xlink then s.snap.xDelay
  else if s.flag Reg.RT_LINKDLY.VALID p then some (s.fld Reg.RT_LINKDLY.DELAY p) else none

/-- A DLY_RSP whose first bit came at `t4` sets the link delay: half of the round trip less the far end's stay, in
1/64 tick, clamped; without an unanswered DLY_REQ it is ignored (R300). -/
def State.takeDlyRsp (s : State) (p : Port) (t4 value : Nat) : State :=
  match (s.port p).dlyT1 with
  | some t1 =>
    let d := min 0xFFFFFF ((64 * (t4 - t1) - value) / 2)
    (s.modPort p fun v => { v with dlyT1 := none, dlyReqSent := none }).setDelay p (some d)
  | none => s

/-- A complete side message is checked and dispatched (R400, R401). -/
def State.takeSide (s : State) (p : Port) (msg : Nat) : State :=
  let kind := msg / 2 ^ 56 % 256
  let value := msg / 2 ^ 16 % 2 ^ 40
  if crc16 (beBytes 6 (msg / 2 ^ 16)) ≠ msg % 2 ^ 16 then s.count Reg.PORT_SIDEBAD.COUNT p
  else if kind = 0x10 then s.takeDlyReq p (s.port p).sideRxAt
  else if kind = 0x11 then s.takeDlyRsp p (s.port p).sideRxAt value
  else if kind ≥ 0x80 then s.takeProgramSide p kind value
  else s.count Reg.PORT_SIDEBAD.COUNT p

/-- The side bit of a frame received whole with a valid CRC on an UP or RESUMING port (R398, R400). -/
def State.sideIn (s : State) (p : Port) (bit start : Bool) : State :=
  let have' := if start then some [] else (s.port p).sideRx
  match have' with
  | none => s
  | some l =>
    let l := l ++ [bit]
    if l.length = 64 then (s.modPort p fun v => { v with sideRx := none }).takeSide p (natOfBits l)
    else s.modPort p fun v => { v with sideRx := some l, sideRxAt := if start then s.now else v.sideRxAt }

/-! ## Link start and loss (R403 to R413) -/

/-- LSEQs kept for copies of frames that were cut short on port `p` end with its link (R393). -/
def State.forgetAborted (s : State) (p : Port) : State :=
  { s with ports := s.ports.map fun v => { v with aborted := v.aborted.filter fun e => e.1 ≠ p } }

/-- A link start is under way on the port, or will follow by itself (R404, R408). -/
def State.startDueOn (s : State) (p : Port) (phase : StartPhase) : Bool :=
  phase ≠ .none && (phase ≠ .failed || s.autoStart p)

/-- The port's frames end with the link (R384, R397). A TRIP of the hardware not yet sent stays when it waited for a link already (`any`)
or a start follows (`keep`), a program's when it waited and a start follows (R255, R467, log 9). -/
def State.failAll (s : State) (p : Port) (keep any : Bool) : State :=
  let s := if (s.port p).cur.any fun i => i.frame.ftype = Ty.TRIP then s.recall p else s
  let v := s.port p
  let stay := fun (i : TxItem) => i.frame.ftype = Ty.TRIP && i.seq.isNone && (if i.use = .other then keep || any else keep && any)
  let s := s.setPort p { v with cur := none, plan := none, outs := [], queue := v.queue.filter stay, aborted := [], failRow := 0 }
  forAll (v.outs.map (·.item) ++ (v.cur.toList ++ v.queue.filter fun i => !stay i).filter fun i => i.tries = 0)
    (fun i t => t.failItem p i) s

/-! ## A Primer's checker and its end (R465 to R467) -/

/-- Counts of bits, errors and losses as the registers hold them: saturated (R779, R782). -/
def saturated (c : Nat × Nat × Nat) : Nat × Nat × Nat := (c.1, min c.2.1 (2 ^ 32 - 1), min c.2.2 (2 ^ 16 - 1))

/-- The counters of a port's Primer, or interval test, as they read now: bits, errors, losses. -/
def State.lineCounts (s : State) (p : Port) : Nat × Nat × Nat :=
  let v := s.port p
  if v.primer = .running then saturated (v.checkedAt s.now, v.primerErrs, v.primerLoss)
  else (s.fld Reg.LT_BITS_LO.BITS p + 2 ^ 32 * s.fld Reg.LT_BITS_HI.BITS p, s.fld Reg.LT_ERRS.ERRS p, s.fld Reg.LT_RES.SYNCLOSS p)

/-- The counters of a port stand at these values. -/
def State.putCounts (s : State) (p : Port) (c : Nat × Nat × Nat) : State :=
  (((s.setFld Reg.LT_BITS_LO.BITS c.1 p).setFld Reg.LT_BITS_HI.BITS (c.1 / 2 ^ 32) p).setFld Reg.LT_ERRS.ERRS c.2.1 p).setFld
    Reg.LT_RES.SYNCLOSS c.2.2 p

/-- The port leaves its Primer with a result; its counters stay. -/
def State.endPrimer (s : State) (p : Port) (result : Nat) : State :=
  let s := s.putCounts p (s.lineCounts p)
  let s := (s.setBitOf Reg.LT_ST.PRIMER p.val false).setBitOf Reg.LT_ST.DONE p.val true
  { s.setFld Reg.LT_RES.RESULT result p with free := s.free + 1 }.modPort p fun v => { v with primer := .none }

/-- What a new link, or none, leaves of the port's hidden state (R380, R403); a program's side message stays. -/
def PortSt.fresh (v : PortSt) : PortSt :=
  { v with nextSeq := 0, rxAny := false, accepted := [], sideTx := none, sideHw := [], sideRx := none, nulls := 0,
           dlyReqSent := none, dlyT1 := none, farSleep := false, resumeTry := 0, annSeen := false, annSent := 0,
           annAcked := false, annFar := [], primer := if v.primer = .acking then .none else v.primer }

/-- The link ends: the far-end check goes to NONE and the link-delay measurement is void (R413). -/
def State.endLink (s : State) (p : Port) (st : Nat) (phase : StartPhase) : State :=
  let any := !s.linkAlive p
  let s := (s.relink p st)
  let s := (s.failAll p (s.startDueOn p phase) any).forgetAborted p
  let s := s.modPort p fun v => { v.fresh with phase := phase }
  let s := if s.flag Reg.PORT_ST.FENCED p && (s.port p).doubled then s else s.setCheck p 0 0
  (s.setDelay p none).setFlag Reg.FAB_SEEN_INFO.VALID false p

/-- A port starts a link as initiator (R404): it is in RESET until it sends WAKE or holds the line. -/
def State.startLink (s : State) (p : Port) : State :=
  if s.portOn p then
    let s := s.endLink p Link.RESET .start
    s.modPort p fun v => { v with initiator := true }
  else s

/-- LINK_LOSS: outstanding frames fail, LOST is set and counted, PORT is raised (R411). -/
def State.linkLoss (s : State) (p : Port) (st : Nat) (phase : StartPhase) : State :=
  let s := (s.setFlag Reg.PORT_ST.LOST true p).count Reg.PORT_LOSTC.COUNT p
  (s.endLink p st phase).raisePort p

/-- A lost link whose far end is not holding: the port waits 2 ms for an RST_END mark (R411). -/
def State.loseLink (s : State) (p : Port) : State :=
  let s := s.linkLoss p Link.RESET .observing
  s.modPort p fun v => { v with initiator := false, deadline := s.now + ms 2 }

/-- A failed attempt: a pause, or after three in a row STARTFAIL (R408). -/
def State.attemptFailed (s : State) (p : Port) : State :=
  let fails := min 3 (s.fld Reg.PORT_ST.FAILS p + 1)
  let s := s.setFld Reg.PORT_ST.FAILS fails p
  if fails = 3 then
    let s := (s.setFlag Reg.PORT_ST.STARTFAIL true p).endLink p Link.DOWN .failed
    (s.modPort p fun v => { v with deadline := s.now + ms 1000 }).raisePort p
  else
    let d := s.draw
    let s := d.2.endLink p Link.DOWN .pausing
    s.modPort p fun v => { v with deadline := s.now + us (1000 + Config.randomPause d.1 % 256) }

/-- One WAKE pattern, of four pulses over 77 µs, on the line of an enabled port; it waits for HFO (R367, R414). -/
def State.sendWake (s : State) (p : Port) : State :=
  if !s.portOn p then s
  else if s.hfo then (s.modPort p fun v => { v with wakesSent := v.wakesSent + 1, wakePend := false, llUntil := s.now + us 77 }).didWork 8 4
  else s.modPort p fun v => { v with wakePend := true }

/-- WAKE patterns that waited for HFO go out. -/
def State.sendWaiting (s : State) : State :=
  forAll ((xlink :: allPorts).filter fun p => (s.port p).wakePend) (fun p t => t.sendWake p) s

/-- LINK_START: with HFO, the initiator sends WAKE when the pair has been quiet for 1 ms, then holds the line (R404, R414). -/
def execLinkStart (p : Port) (quiet : Bool) (s : State) : Host.Outcome State Fault Refusal :=
  .next (if (s.port p).phase = .start && s.hfo then
      (if quiet then s.sendWake p else s).modPort p fun v => { v with
        phase := .hold, sentWake := quiet, deadline := s.now + if quiet then us (77 + 250) else us 100 }
    else s)

/-- LINK_HOLD_END: the hold ends and the RST_END mark of 16 bit times goes out; the initiator waits for PRESENCE (R404). -/
def execLinkHoldEnd (p : Port) (s : State) : Host.Outcome State Fault Refusal :=
  .next (if (s.port p).phase = .hold then
      let s := s.reach (s.port p).deadline
      (s.modPort p fun v => { v with phase := .mark, deadline := s.now + 16 + us 150 }).relink p Link.PRESENCE
    else s)

/-- RST_END: after a hold of 80 µs the port answers as responder, with a PRESENCE pulse (R405); a far end that had sent SLEEP_NOTE is
not lost (R411). An initiator that is holding or waiting for presence abandons its attempt (LINK_COLLISION, R412). -/
def State.rstEnd (s : State) (p : Port) : State :=
  if !s.portOn p then s
  else
    let s := if s.inPrimer p then s.endPrimer p 3 else s
    let v := s.port p
    if v.initiator && (v.phase = .start || v.phase = .hold || v.phase = .mark) then
      let d := s.draw
      let s := (d.2.setFlag Reg.PORT_ST.COLLIDE true p).endLink p Link.DOWN .pausing
      s.modPort p fun v => { v with deadline := s.now + us (100 + Config.randomPause d.1 % 301) }
    else
      let lost := s.link p = Link.UP && !v.farSleep
      let s := if lost then s.linkLoss p Link.RESET .answering else s.endLink p Link.RESET .answering
      let pulse := s.hfo
      let s := s.modPort p fun v => { v with
        initiator := false, deadline := s.now + us 150, presencesSent := v.presencesSent + if pulse then 1 else 0 }
      if pulse then s.didWork 8 1 else s

def execRstEnd (p : Port) (s : State) : Host.Outcome State Fault Refusal := .next (s.rstEnd p)

/-- The outcome of the presence window: 0 good, 1 absent, 2 early, 3 late, 4 doubled (R407, Table 9-11). Pulses under
1 µs do not count; under 3.0 µs with a peak of at most 2.4 mA they count as none. -/
def presenceOutcome (pulses : List Pulse) : Nat :=
  let seen := pulses.filter fun u => 10 ≤ u.width && u.delay ≤ 1500 && !(u.width < 30 && u.peak ≤ 24)
  match seen with
  | [] => 1
  | u :: rest =>
    if rest ≠ [] || seen.any (fun u => 55 < u.width || 24 < u.peak) then 4
    else if u.delay < 300 then 2
    else if 900 < u.delay then 3
    else 0

/-- PRESENCE_WINDOW_END: the initiator judges the presence pulses. -/
def State.presenceEnd (s : State) (p : Port) (pulses : List Pulse) : State :=
  if (s.port p).phase = .mark then
    let s := s.reach (s.port p).deadline
    let last := (pulses.filter fun u => 10 ≤ u.width && u.delay ≤ 1500).getLast?
    let s := match last with
      | some u => ((s.setFld Reg.PORT_PRES.DELAY u.delay p).setFld Reg.PORT_PRES.WIDTH (min u.width 255) p).setFld
          Reg.PORT_PRES.PEAK (min u.peak 255) p
      | none => s
    let bit := fun (f : Fld) (s : State) => if s.flag f p then s else (s.setFlag f true p).raisePort p
    match presenceOutcome pulses with
    | 0 => s.modPort p fun v => { v with phase := .ready, doubled := false }
    | 1 => (bit Reg.PORT_ST.P_ABSENT s).attemptFailed p
    | 2 => (bit Reg.PORT_ST.P_EARLY s).attemptFailed p
    | 3 => (bit Reg.PORT_ST.P_LATE s).attemptFailed p
    | _ => ((bit Reg.PORT_ST.P_DOUBLE s).modPort p fun v => { v with phase := .ready, doubled := true }).fence p 1
  else s

def execPresenceWindowEnd (p : Port) (pulses : List Pulse) (s : State) : Host.Outcome State Fault Refusal :=
  .next (s.presenceEnd p pulses)

/-- TRAINING_TX_START: 150 µs after the mark both ends send idle, the first NULL frame at 152 µs, then NULL frames back to back
(R404, R405). -/
def execTrainingTxStart (p : Port) (s : State) : Host.Outcome State Fault Refusal :=
  .next (if (s.port p).phase = .ready || (s.port p).phase = .answering then
      let s := s.reach (s.port p).deadline
      ((s.modPort p fun v => { v with phase := .training, nulls := 0, deadline := s.now + us 850, lastTx := s.now + us 2 - 4 }).relink p
        Link.TRAINING).kick p
    else s)

/-- TRAINING_TIMEOUT: no 16 NULLs within 1 ms of the mark; a responder awaits a new mark for 2 ms (R825). -/
def State.trainingTimeout (s : State) (p : Port) : State :=
  if s.link p = Link.TRAINING then
    let s := s.reach (s.port p).deadline
    if (s.port p).initiator then s.attemptFailed p
    else
      let s := s.endLink p Link.DOWN .observing
      s.modPort p fun v => { v with deadline := s.now + ms 2 }
  else s

def execTrainingTimeout (p : Port) (s : State) : Host.Outcome State Fault Refusal := .next (s.trainingTimeout p)

/-- LINK_RETRY_PAUSE_END: after the pause the port tries again (R408, R412). -/
def execLinkRetryPauseEnd (p : Port) (s : State) : Host.Outcome State Fault Refusal :=
  .next (if (s.port p).phase = .pausing then (s.reach (s.port p).deadline).startLink p else s)

/-- LINK_AUTOSTART_RETRY: after STARTFAIL, every 1 s, three attempts again (R408). -/
def execLinkAutostartRetry (p : Port) (s : State) : Host.Outcome State Fault Refusal :=
  .next (if (s.port p).phase = .failed && s.autoStart p then
      (((s.reach (s.port p).deadline).setFld Reg.PORT_ST.FAILS 0 p).startLink p)
    else s)

/-- LINK_UP: the 16th valid NULL takes the port UP; LSEQ restarts, the side stream begins with DLY_REQ, the far-end
check begins (R406, R458). A NULL on the line goes on to its end. -/
def State.linkUp (s : State) (p : Port) : State :=
  let s := s.modPort p fun v => { v.fresh with phase := .none, failRow := 0 }
  let s := ((s.setFld Reg.PORT_LSEQ.LAST_TX 0 p).setFld Reg.PORT_LSEQ.LAST_RX 0 p).setFld Reg.PORT_ST.FAILS 0 p
  let s := (s.bbxLinkStart p).relink p Link.UP
  let s := if p = xlink then s else if (s.port p).doubled then s.sendAnnounce p else s.startCheck p
  s.measureDelay p

/-- RESPONDER_WAIT_TIMEOUT: no RST_END within 2 ms of a loss or a far-end hold: the port enters DOWN, and with AUTOSTART then starts a
link (R411). -/
def execResponderWaitTimeout (p : Port) (s : State) : Host.Outcome State Fault Refusal :=
  .next (if (s.port p).phase = .observing then
      let s := s.reach (s.port p).deadline
      if s.autoStart p && s.portOn p then (s.endLink p Link.DOWN .pausing).startLink p else s.endLink p Link.DOWN .none
    else s)

/-- LINK_SILENCE: no valid frame for 300 µs on an UP port (R411). -/
def execLinkSilence (p : Port) (s : State) : Host.Outcome State Fault Refusal :=
  .next (if s.link p = Link.UP then (s.reach ((s.port p).lastRx + us 300)).loseLink p else s)

/-- PRIMER_ABORT: a TRIP ready for the port ends the Primer, and the port starts a link (R467). -/
def State.abortPrimer (s : State) (p : Port) : State :=
  if s.inPrimer p then (s.endPrimer p 3).startLink p else s

/-- The initiator of a Primer that has ended starts a link 2 s later (R466). -/
def State.relinkLater (s : State) (p : Port) : State :=
  s.modPort p fun v => if v.primerInit then { v with relinkAt := some (s.now + ms 2000) } else v

/-- A write of STOP ends the Primer (R466, R467). -/
def State.stopPrimer (s : State) (p : Port) : State := if s.inPrimer p then (s.endPrimer p 3).relinkLater p else s

/-- FAR_END_HOLD: the far end holds the line 80 µs: a link without SLEEP_NOTE is lost, a Primer is aborted, an attempt
in training ends, and the port becomes the responder (R411, R467, R825). -/
def State.farHold (s : State) (p : Port) : State :=
  if !s.portOn p then s
  else if s.inPrimer p then
    let s := (s.endPrimer p 3).endLink p Link.RESET .observing
    s.modPort p fun v => { v with initiator := false, deadline := s.now + ms 2 }
  else if s.link p = Link.UP && !(s.port p).farSleep then s.loseLink p
  else if s.link p = Link.TRAINING then
    if (s.port p).initiator then s.attemptFailed p
    else
      let s := s.endLink p Link.DOWN .observing
      s.modPort p fun v => { v with deadline := s.now + ms 2 }
  else s

def execFarEndHold (p : Port) (s : State) : Host.Outcome State Fault Refusal := .next (s.farHold p)

/-- PORT_CTL.START, from any state: any running link ends without LOST, a Primer ends, and a link starts at once (R404, R411). -/
def State.ctlStart (s : State) (p : Port) : State :=
  let s := if s.portOn p && s.inPrimer p then s.endPrimer p 3 else s
  let s := if s.linkAlive p then s.raisePort p else s
  (s.setFld Reg.PORT_ST.FAILS 0 p).startLink p

/-- A change of PORT_CTL.EN: clearing it stops the port, setting it starts a link under AUTOSTART (R367, R404). -/
def State.ctlEn (s : State) (p : Port) (en : Bool) : State :=
  if s.flag Reg.PORT_CTL.EN p = en then s
  else if en then
    let s := s.setFlag Reg.PORT_CTL.EN true p
    if s.autoStart p then s.startLink p else s
  else
    let s := if s.inPrimer p then s.endPrimer p 3 else s
    let s := (s.modPort p fun v => { v with alarmUntil := none, wakePend := false, primer := if v.primer = .asked then .asked else .none }).setFlag Reg.PORT_ST.ALARM_TX false p
    (s.endLink p Link.DOWN .none).setFlag Reg.PORT_CTL.EN false p

/-- PORT_CTL.WAKE: an enabled port sends one WAKE while HFO runs (R367, R414). -/
def State.ctlWake (s : State) (p : Port) : State := if s.hfo then s.sendWake p else s

/-- A write of a PORT_CTL word: AUTOSTART, then EN, START and WAKE (Table 9-16). -/
def State.portCtl (s : State) (p : Port) (w : Nat) : State :=
  let s := s.setFlag Reg.PORT_CTL.AUTOSTART (bitAt w 1) p
  let s := s.ctlEn p (bitAt w 0)
  let s := if bitAt w 2 then s.ctlStart p else s
  if bitAt w 3 then s.ctlWake p else s

/-! ## Acceptance (R378, R381, R382, R383) -/

/-- LINK_ACCEPT verdicts. -/
inductive Accept where
  | new | late | dup | stale
  deriving DecidableEq, Repr

def State.judgeSeq (s : State) (p : Port) (l : BitVec 16) : Accept :=
  let v := s.port p
  let h := BitVec.ofNat 16 (s.fld Reg.PORT_LSEQ.LAST_RX p)
  if !v.rxAny then .new
  else if 0 < (l - h).toNat && (l - h).toNat < 32768 then .new
  else if (h - l).toNat < 128 then (if v.accepted.contains l then .dup else .late)
  else .stale

/-- H and the record of accepted LSEQs after an accepted frame. -/
def State.noteSeq (s : State) (p : Port) (l : BitVec 16) (isNew : Bool) : State :=
  let h := if isNew then l else BitVec.ofNat 16 (s.fld Reg.PORT_LSEQ.LAST_RX p)
  (s.modPort p fun v => { v with
    rxAny := true
    accepted := (l :: v.accepted).filter fun x => decide ((h - x).toNat < 128) }).setFld Reg.PORT_LSEQ.LAST_RX h.toNat p

def State.sendAck (s : State) (p : Port) (l : BitVec 16) : State :=
  s.enqueue p (.of { s.mkFrame Ty.ACK 1 0 false 0 [] with lseq := l } .other)

def State.sendNak (s : State) (p : Port) (l : BitVec 16) : State :=
  (s.count Reg.PORT_BUSY.COUNT p).enqueue p (.of { s.mkFrame Ty.NAK 1 0 false 0 [1] with lseq := l } .other)

/-- The frame breaks a length rule of R378. -/
def badFormat (f : Frame) : Bool :=
  f.ftype = 14 || 64 < f.payload.length ||
    (f.ftype = Ty.NULL && !(f.payload = [] || f.payload = [1])) || (f.ftype = Ty.ACK && f.payload ≠ []) ||
    (f.ftype = Ty.NAK && f.payload ≠ [1]) || (f.ftype = Ty.TIME && f.payload.length ≠ 8)

/-- What the receiver makes of an arrival before its content counts. -/
inductive Line where
  | off | badForm | poison | badCrc | good
  deriving DecidableEq, Repr

/-- The port's receiver runs: an enabled port in TRAINING, UP, ASLEEP or RESUMING, not in a Primer, its die in DOZE or above. -/
def State.receives (s : State) (p : Port) : Bool :=
  s.portOn p && 3 ≤ s.link p && s.link p ≤ 6 && !s.inPrimer p && !s.asleep

def State.lineOf (s : State) (a : Arrival) : Line :=
  if !s.receives a.port then .off
  else if !a.formed then .badForm
  else if a.crc.toNat = frameCrc a.frame then (if badFormat a.frame then .badForm else .good)
  else if a.crc.toNat + frameCrc a.frame = 0xFFFF then .poison
  else .badCrc

/-- The side bit of a frame received whole with a valid CRC is taken (R398, R400). -/
def State.takeBit (s : State) (p : Port) (f : Frame) : State :=
  if s.link p = Link.UP || s.link p = Link.RESUMING then s.sideIn p f.side f.sideStart else s

/-- A valid frame has arrived, its SOF now: counted, the silence timer restarts at its end, ALARM stops, a RESUMING port is UP (R410,
R417), and its side bit is taken. -/
def State.heard (s : State) (p : Port) (f : Frame) : State :=
  let s := s.count64 Reg.PORT_FRX_LO.COUNT Reg.PORT_FRX_HI.COUNT 1 p
  let s := (s.modPort p fun v => { v with lastRx := s.now + f.ticks, alarmUntil := none, nulls := 0 }).setFlag
    Reg.PORT_ST.ALARM_TX false p
  let note := f.ftype = Ty.NULL && f.payload = [1]
  let s := if s.link p = Link.ASLEEP && !note then s.resume p else s
  let s := if s.link p = Link.RESUMING then ((s.modPort p fun v => { v with farSleep := false }).relink p Link.UP).kick p
    else s
  s.takeBit p f

/-- Errors of a discarded arrival (Table 9-13). -/
def State.countLine (s : State) (p : Port) : Line → State
  | .badForm => s.count Reg.PORT_FORMAT.COUNT p
  | .poison => s.count Reg.PORT_POISON.COUNT p
  | .badCrc => s.count Reg.PORT_CRC.COUNT p
  | _ => s

/-- NULL frames are consecutive no longer (R406). -/
def State.breakNulls (s : State) (p : Port) : State := s.modPort p fun v => { v with nulls := 0 }

/-- A frame that is not taken: its error is counted, and a side bit that came whole under a valid CRC is taken (R378, R400). -/
def State.discardFrame (s : State) (a : Arrival) (l : Line) : State :=
  if l = .off then s
  else
    let s := (s.countLine a.port l).breakNulls a.port
    if a.formed && a.crc.toNat = frameCrc a.frame then s.takeBit a.port a.frame else s

/-! ## Link-local frames and the transmitter's events -/

/-- A SLEEP_NOTE takes the port ASLEEP once no frame with ACKREQ is outstanding and none but a NULL is in flight; what waits without ACKREQ
is discarded (R397), and for a frame with ACKREQ that waits the port resumes at once (R409). -/
def State.sleepIfIdle (s : State) (p : Port) : State :=
  let s := if (s.port p).farSleep then s.unplan p else s
  let v := s.port p
  if s.link p = Link.UP && v.farSleep && v.outs = [] && !(v.cur.any fun i => i.frame.ftype ≠ Ty.NULL) then
    let stay := v.queue.filter fun i => i.frame.ackreq
    let s := (s.setPort p { v with cur := none, plan := none, queue := stay }).relink p Link.ASLEEP
    let s := forAll (v.queue.filter fun i => !i.frame.ackreq) (fun i t => t.failItem p i) s
    if stay = [] then s else s.resume p
  else s

/-- A received NULL (R377, R406, R409). -/
def State.takeNull (s : State) (a : Arrival) : State :=
  let p := a.port
  let n := (s.port p).nulls
  match s.lineOf a with
  | .good =>
    if s.link p = Link.TRAINING then
      let s := (s.heard p a.frame).modPort p fun v => { v with nulls := n + 1 }
      if n + 1 ≥ 16 then s.linkUp p else s
    else
      let s := s.heard p a.frame
      if a.frame.payload = [1] then ((s.modPort p fun v => { v with farSleep := true }).sleepIfIdle p).kick p else s
  | l => s.discardFrame a l

def execNull (a : Arrival) (s : State) : Host.Outcome State Fault Refusal := .next (s.takeNull (a.as Ty.NULL))

/-- NULL_SEND: 100 µs after its last frame a running port sends a NULL (R377), before a frame chosen ahead whose header is not there. -/
def execNullSend (p : Port) (s : State) : Host.Outcome State Fault Refusal :=
  let t := (s.reach ((s.port p).lastTx + us 100)).unplan p
  .next (if (s.link p = Link.UP || s.link p = Link.TRAINING || s.link p = Link.RESUMING) && (t.port p).cur.isNone then
      t.startTx p (.of (s.nullFrame false) .other)
    else s)

/-- Without the frame of LSEQ `l`, which is acknowledged or failed; its retransmission does not go out. -/
def PortSt.release (v : PortSt) (l : BitVec 16) : PortSt :=
  { v with outs := v.outs.filter (fun o => o.item.seq ≠ some l)
           queue := v.queue.filter fun i => !(i.tries ≠ 0 && i.seq = some l) }

/-- ACK: the outstanding frame with its LSEQ is complete, sent again or not (R384, R385). -/
def State.takeAck (s : State) (a : Arrival) : State :=
  match s.lineOf a with
  | .good =>
    let s := s.heard a.port a.frame
    let v := s.port a.port
    match v.outs.find? fun o => o.item.seq = some a.frame.lseq with
    | some o =>
      let s := s.setPort a.port { v.release a.frame.lseq with failRow := 0 }
      (((s.txDone o.item.use a.port).sleepIfIdle a.port).kick a.port)
    | none => s
  | l => s.discardFrame a l

def execAck (a : Arrival) (s : State) : Host.Outcome State Fault Refusal := .next (s.takeAck (a.as Ty.ACK))

/-- NAK: the frame is sent again 50 µs later (R384). -/
def State.takeNak (s : State) (a : Arrival) : State :=
  match s.lineOf a with
  | .good =>
    let s := s.heard a.port a.frame
    let later := fun (o : OutItem) =>
      if o.item.seq = some a.frame.lseq then { o with retryAt := s.now + a.frame.ticks + us 50 } else o
    s.modPort a.port fun v => { v with outs := v.outs.map later }
  | l => s.discardFrame a l

def execNak (a : Arrival) (s : State) : Host.Outcome State Fault Refusal := .next (s.takeNak (a.as Ty.NAK))

/-- Three frames failed in a row lose the link (R386); else the port may be free to sleep, or to send (R388, R409). -/
def State.afterTx (s : State) (p : Port) : State :=
  if (s.port p).failRow ≥ 3 then s.loseLink p else (s.sleepIfIdle p).kick p

/-- The outstanding frame `i` of LSEQ `l` fails under R384. -/
def State.failOut (s : State) (p : Port) (l : BitVec 16) (i : TxItem) : State :=
  (s.modPort p fun v => { v.release l with failRow := v.failRow + 1 }).txFail i.use p

/-- The frame of LSEQ `l` is being sent again, or waits to be. -/
def PortSt.again (v : PortSt) (l : BitVec 16) : Bool :=
  (v.cur.toList ++ v.queue).any fun i => i.tries ≠ 0 && i.seq = some l

/-- RETRANSMIT_TIMEOUT: the frame is sent again, or failed after five transmissions (R384, R386). -/
def State.retransmit (s : State) (p : Port) (l : BitVec 16) : State :=
  let v := s.port p
  match v.outs.find? fun o => o.item.seq = some l with
  | none => s
  | some o =>
    if v.again l then s
    else
      let s := s.reach o.retryAt
      if 5 ≤ o.item.tries then (s.failOut p l o.item).afterTx p
      else (s.modPort p fun v => { v with queue := v.queue ++ [o.item] }).kick p

def execRetransmitTimeout (p : Port) (l : BitVec 16) (s : State) : Host.Outcome State Fault Refusal :=
  .next (s.retransmit p l)

/-- The side bit of the transmission that ended is used up; after bit 0 the message is done (R398, R402). -/
def State.sideOut (s : State) (p : Port) : State :=
  match (s.port p).sideTx with
  | none => s
  | some m =>
    let rest := m.bits.tail
    if rest ≠ [] then s.modPort p fun v => { v with sideTx := some { m with bits := rest } }
    else
      let s := s.modPort p fun v => { v with
        sideTx := none
        sideProg := if m.program then none else v.sideProg
        dlyReqSent := if m.isDlyReq then some (s.now + ms 2) else v.dlyReqSent }
      if m.program then s.setFlag Reg.PORT_ST.SIDE_BUSY false p else s

/-- The frame in flight has gone out: counted, as a retransmission too if it is one (Table 9-13), its side bit used, unless it ended with
ABORT. -/
def State.txEnded (s : State) (p : Port) : State :=
  let again := (s.port p).cur.any fun i => i.tries ≠ 0
  let cut := (s.port p).cur.any fun i => i.cut.isSome
  let s := s.modPort p fun v => { v with cur := none, plan := none, lastTx := (v.cur.map fun i => i.endsAt v.curAt).getD v.curAt }
  if cut then s
  else
  let s := s.count64 Reg.PORT_FTX_LO.COUNT Reg.PORT_FTX_HI.COUNT 1 p
  let s := if again then s.count Reg.PORT_RETRY.COUNT p else s
  if s.link p = Link.UP || s.link p = Link.RESUMING then s.sideOut p else s

/-- A frame with ACKREQ has gone out: it is kept with its ACK timer of 40 µs, and so is a retransmission whose frame is still kept
(R384); on a port fenced meanwhile it fails (R41). -/
def State.keepSent (s : State) (p : Port) (i : TxItem) : State :=
  let o : OutItem := ⟨{ i with tries := i.tries + 1 }, s.now + us 40⟩
  if s.check p = 3 && !passesShut i.frame.ftype then (if i.tries = 0 then s.failItem p i else s)
  else if i.shunned s then s
  else if i.tries = 0 then s.modPort p fun v => { v with outs := v.outs ++ [o] }
  else s.modPort p fun v => { v with outs := v.outs.map fun x => if x.item.seq = i.seq then o else x }

/-- Frames kept with ACKREQ fail once 128 later LSEQs have been assigned (R384). -/
def State.failLate (s : State) (p : Port) : State :=
  let v := s.port p
  let late := fun (i : TxItem) => i.frame.ackreq && match i.seq with
    | some l => 129 ≤ (v.nextSeq - l).toNat
    | none => false
  let gone := (v.outs.map (·.item) ++ v.queue.filter fun i => i.tries = 0).filter late
  let s := s.setPort p { v with
    outs := v.outs.filter (fun o => !late o.item), queue := v.queue.filter (fun i => !late i), failRow := v.failRow + gone.length }
  forAll gone (fun i t => t.txFail i.use p) s

/-- A responder's PRIMER_ACK has gone out: its pattern starts 100 µs after the EOF (R464). -/
def State.ackSent (s : State) (p : Port) (i : TxItem) : State :=
  if i.frame.ftype = Ty.IDENT && fieldOf i.frame.payload 0 1 = 0x12 && (s.port p).primer = .acking then
    s.modPort p fun v => { v with primer := .acked, primerAt := v.lastTx + us 100 }
  else s

/-- FRAME_EOF_SENT: the frame in flight has gone out whole: without ACKREQ its tag completes, with it the ACK timer starts; the next
frame is chosen (R384, R385, R388, R398). -/
def State.eofSent (s : State) (p : Port) : State :=
  match (s.port p).cur with
  | none => s
  | some i =>
    let s := (s.reach (i.endsAt (s.port p).curAt)).txEnded p
    let s := s.ackSent p i
    let s := if i.poison || i.cut.isSome then s else if i.frame.ackreq then s.keepSent p i else s.txDone i.use p
    (s.failLate p).afterTx p

def execFrameEofSent (p : Port) (s : State) : Host.Outcome State Fault Refusal := .next (s.eofSent p)

/-- CODE_ERROR: the partial frame is discarded (R372); a disabled port's receiver is stopped (R367). -/
def execCodeError (p : Port) (s : State) : Host.Outcome State Fault Refusal :=
  .next (if s.portOn p then (s.count Reg.PORT_CODE.COUNT p).breakNulls p else s)

/-- Side bits are taken only while the port is UP or RESUMING (R398). -/
def State.takesSide (s : State) (p : Port) : Bool := s.link p = Link.UP || s.link p = Link.RESUMING

/-- SIDE_MESSAGE_RECEIVED: a complete 64-bit side message. -/
def execSideMessageReceived (p : Port) (msg : BitVec 64) (s : State) : Host.Outcome State Fault Refusal :=
  .next (if s.takesSide p then s.takeSide p msg.toNat else s)

/-- A write of PORT_SIDETX_HI with GO queues one program side message, or is discarded with SIDE_REJ (R402). -/
def State.sideGo (s : State) (p : Port) (w : Nat) : State :=
  if bitAt w 16 then
    let kind := w / 256 % 256
    if kind < 0x80 || (s.port p).sideProg.isSome then s.setFlag Reg.PORT_ST.SIDE_REJ true p
    else
      let s := (s.setFld Reg.PORT_SIDETX_HI.VALUE w p).setFld Reg.PORT_SIDETX_HI.KIND kind p
      let value := s.fld Reg.PORT_SIDETX_LO.VALUE p + 2 ^ 32 * (w % 256)
      ((s.modPort p fun v => { v with sideProg := some (kind, value) }).setFlag Reg.PORT_ST.SIDE_BUSY true p).kick p
  else (s.setFld Reg.PORT_SIDETX_HI.VALUE w p).setFld Reg.PORT_SIDETX_HI.KIND (w / 256) p

/-- DLY_REQ_RETRY: a DLY_REQ unanswered for 2 ms is sent again (R403). -/
def execDlyReqRetry (p : Port) (s : State) : Host.Outcome State Fault Refusal :=
  .next (match (s.port p).dlyReqSent with
    | some t => if s.linkAlive p then
        ((s.reach t).modPort p fun v => { v with dlyReqSent := none, dlyT1 := none }).sendDlyReq p else s
    | none => s)

/-- LINK_DELAY_MEASURE: every 10 s a port measures its link delay again (R300). -/
def execLinkDelayMeasure (p : Port) (s : State) : Host.Outcome State Fault Refusal :=
  .next (if s.link p = Link.UP then (s.reach ((s.port p).dlyAt + ms 10000)).measureDelay p else s)

/-- DLY_REQ received, its first bit now. -/
def execDlyReq (p : Port) (s : State) : Host.Outcome State Fault Refusal := .next (if s.takesSide p then s.takeDlyReq p s.now else s)

/-- DLY_RSP received with its VALUE, its first bit now. -/
def execDlyRsp (p : Port) (value : BitVec 40) (s : State) : Host.Outcome State Fault Refusal :=
  .next (if s.takesSide p then s.takeDlyRsp p s.now value.toNat else s)

/-- RESUMING_TIMEOUT: no valid frame in 400 µs: WAKE and another 400 µs, then a link start (R410), but on the cross-link of any die but
manager A (R826). -/
def execResumingTimeout (p : Port) (s : State) : Host.Outcome State Fault Refusal :=
  .next (if s.link p = Link.RESUMING then
      let s := s.reach (s.port p).deadline
      if (s.port p).resumeTry = 0 then (s.sendWake p).modPort p fun v => { v with resumeTry := 1, deadline := s.now + us 400 }
      else if p = xlink && !s.isMgrA then s.endLink p Link.DOWN .none
      else s.startLink p
    else s)

/-- Port `p`'s listener runs: not during POR (R769), its port enabled; pulses of a presence window are judged as such (R415). -/
def State.listens (s : State) (p : Port) : Bool :=
  (if p = xlink then s.portOn p else !(s.boot.inReset && bitAt s.boot.causes 0) && s.flag Reg.PORT_CTL.EN p) && (s.port p).phase ≠ .mark

/-- LIFELINE_NOISE: a group of 1 or 2 pulses, or of 6 or of 10 or more, outside a presence window (R415). -/
def execLifelineNoise (p : Port) (pulses : Nat) (s : State) : Host.Outcome State Fault Refusal :=
  .next (if !s.listens p || pulses = 0 then s
    else if pulses ≤ 2 then s.count Reg.PORT_LLNOISE.COUNT p
    else if pulses = 6 || 10 ≤ pulses then s.count Reg.PORT_LLBAD.COUNT p
    else s)

end Sys2Proof.Machine
end

