-- ==== Sys2Proof/Machine/Ladle.lean ====
section
/-! DEFINITION. The Ladle (chapter 8): shuttles, bleed switches, governor, charge accounting, what stops it. -/

namespace Sys2Proof.Machine

def State.shuttle (s : State) (k : Fin 6) : Shuttle := s.ladle.shuttles[k]

def State.modShuttle (s : State) (k : Fin 6) (f : Shuttle → Shuttle) : State :=
  { s with ladle := { s.ladle with shuttles := s.ladle.shuttles.set k.val (f (s.shuttle k)) k.isLt } }

/-- The clamp episode so far: beyond 1 s it sets CLAMPED and raises BAL, once, and its whole shortfall is in BAL_SHORT, 24,000 mA-ticks
to the µC (R347, R348). -/
def State.settleClamp (s : State) (k : Fin 6) : State :=
  let h := s.shuttle k
  if h.clampFor ≤ ms 1000 then s
  else
    let t := (s.countBy Reg.BAL_SHORT.UC (h.clampLack / 24000) k).modShuttle k fun h =>
      { h with clampLack := h.clampLack % 24000, clamped := true }
    if h.clamped then t else (t.setFlag Reg.BAL_ST.CLAMPED true k).raise Ev.BAL

/-- The clamp episode is settled, and ends with the operation, at a pause (R349), or once the bound is not below the ceiling; a
suspension, SUPPLY and a ceiling of 0 only hold it (R349, R364). -/
def State.clampStep (s : State) (k : Fin 6) : State :=
  let ceil := s.fld Reg.BAL_CEIL.MA k
  let holds := s.flag Reg.BAL_ST.SUSPENDED k || s.flag Reg.BAL_ST.SUPPLY k || ceil = 0
  let s := s.settleClamp k
  if !s.opActive k || s.flag Reg.BAL_ST.PAUSED k || (!holds && ceil ≤ s.fld Reg.BAL_CUR.BOUND k) then
    s.modShuttle k fun h => { h with clampFor := 0, clampLack := 0, clamped := false }
  else s

/-- The shuttle's present cycle goes on at the current it began with (R333). -/
def State.holdCycle (s : State) (k : Fin 6) : State :=
  match s.cycleRest k with
  | some _ => s
  | none => let i := s.opAmps k; s.modShuttle k fun h => { h with cycle := some ⟨s.nextCycle, i, false⟩ }

/-- The applied current is min(ceiling, bound), at most 100 mA while the start measurement runs, and 0 while idle,
paused or suspended (R345, R346, R352); the shuttle follows from its next cycle (R333), CLAMP_NOW and the clamp episode at once (R347). -/
def State.applyCurrent (s : State) (k : Fin 6) : State :=
  let ceil := s.fld Reg.BAL_CEIL.MA k
  let want := if (s.shuttle k).probing then min ceil 100 else ceil
  let i := if s.opActive k && !s.shuttleHeld k then min want (s.fld Reg.BAL_CUR.BOUND k) else 0
  let s := if i = s.fld Reg.BAL_CUR.APPLIED k then s else s.holdCycle k
  ((s.setFld Reg.BAL_CUR.APPLIED i k).setFlag Reg.BAL_ST.CLAMP_NOW (s.fld Reg.BAL_CUR.BOUND k < ceil) k).clampStep k

/-- The shuttle becomes idle; what its last cycle still moves has been counted. -/
def State.idleShuttle (s : State) (k : Fin 6) : State :=
  let s := ((s.setFld Reg.BAL_ST.OP 0 k).setFlag Reg.BAL_ST.PAUSED false k).setFlag Reg.BAL_ST.SUSPENDED false k
  ((s.modShuttle k fun h => { h with part := 0, probing := false }).applyCurrent k).modShuttle k fun h =>
    { h with cycle := h.cycle.map fun c => { c with counted := true } }

/-- A signed 64-bit accumulator over two registers, never wrapping (R357). -/
def State.addSigned64 (s : State) (lo hi : Fld) (d : Int) (i : Nat) : State :=
  let v := signed 64 (s.fld lo i + 2 ^ 32 * s.fld hi i) + d
  let v := unsigned 64 (max (-2 ^ 63) (min (2 ^ 63 - 1) v))
  (s.setFld lo (v % 2 ^ 32) i).setFld hi (v / 2 ^ 32) i

/-- Charge that an operation has moved, in nC, goes to BAL_DONE and BAL_QC (R357), no more than its target wants: reaching the
target ends the operation, which sets DONE (R358). -/
def State.accountShuttle (s : State) (k : Fin 6) (nc : Nat) : State :=
  if s.opActive k then
    let t := 1000 * s.fld Reg.BAL_TARGET.UC k
    let nc := if t = 0 then nc else min nc (t - (s.shuttle k).doneNc)
    let s := s.modShuttle k fun h => { h with doneNc := h.doneNc + nc }
    let s := s.setFld Reg.BAL_DONE.UC (min ((s.shuttle k).doneNc / 1000) (2 ^ 32 - 1)) k
    let d : Int := if s.fld Reg.BAL_ST.OP k = 1 then nc else -(nc : Int)
    let s := s.addSigned64 Reg.BAL_QC_LO.VALUE Reg.BAL_QC_HI.VALUE d (2 * k.val + s.fld Reg.BAL_ST.CELL k)
    if t ≠ 0 && t ≤ (s.shuttle k).doneNc then (s.idleShuttle k).setFlag Reg.BAL_ST.DONE true k else s
  else s

/-- What the shuttle has moved since it was last counted is counted: its current times the time, 24 mA-ticks to the nC. -/
def State.bookShuttle (s : State) (k : Fin 6) : State :=
  let q := (s.shuttle k).part
  (s.modShuttle k fun h => { h with part := q % 24 }).accountShuttle k (q / 24)

/-- The shuttle completes its present cycle, whose charge is the operation's that ends in it (R333, R352; log 35). -/
def State.endCycle (s : State) (k : Fin 6) : State :=
  let q := (s.cycleCharge k (s.nextCycle - s.now)).2
  s.modShuttle k fun h => { h with part := h.part + q }

/-- The operation that the registers show ends as by STOP: the charge moved is counted, what is left of the target is reported and the
shuttle is idle (R360). -/
def State.stopOp (s : State) (k : Fin 6) : State :=
  let s := s.bookShuttle k
  if s.opActive k then
    let t := s.fld Reg.BAL_TARGET.UC k
    (s.setFld Reg.BAL_LEFT.UC (if t = 0 then 0 else t - s.fld Reg.BAL_DONE.UC k) k).idleShuttle k
  else s

/-- Something ends that operation and shows `why`; one whose target is reached just then has ended by itself. -/
def State.stopOpBy (s : State) (why : Fld) (k : Fin 6) : State :=
  let s := s.bookShuttle k
  if s.opActive k then (s.stopOp k).setFlag why true k else s

/-- An operation begins in tick `at_` (R153, R334, R345, R360); a pause or suspension in force holds it, and a BAL_CEIL written in that
tick keeps the written ceiling (R15). -/
def State.beginOp (s : State) (k : Fin 6) (op cell target ceil at_ part : Nat) : State :=
  let s := ((s.setFld Reg.BAL_ST.OP op k).setFld Reg.BAL_ST.CELL ((cell + 1) % 2) k).setFld Reg.BAL_TARGET.UC target k
  let s := (s.setFld Reg.BAL_DONE.UC 0 k).update at_ Reg.BAL_CEIL.MA (min ceil 1000) k
  let s := (s.setFlag Reg.BAL_ST.PAUSED s.meas.pauseHeld k).setFlag Reg.BAL_ST.SUSPENDED (s.asleep && s.flag Reg.BAL_CFG.PARK) k
  let s := s.modShuttle k fun h => { h with part := part, zAt := at_ + ms 2, probing := true, doneNc := 0 }
  s.applyCurrent k

/-- The registers follow a next operation whose first cycle has begun: the one before it ended there, replaced (R155, R360). -/
def State.settleShuttle (s : State) (k : Fin 6) : State :=
  match s.swapped k with
  | some x =>
    (((s.modShuttle k fun h => { h with next := none }).stopOpBy Reg.BAL_ST.REPLACED k).beginOp k x.op x.cell x.target x.ceil x.due x.part).modShuttle
      k fun h => { h with cycle := none }
  | none => s

def State.settleShuttles (s : State) : State := forAll allShuttles (fun k t => t.settleShuttle k) s

/-- A next operation that waits for its cycle comes to it. -/
def State.awaitNext (s : State) (k : Fin 6) : State :=
  match (s.shuttle k).next with
  | some x => (s.reach x.due).settleShuttle k
  | none => s

/-- A next operation is dropped. -/
def State.dropNext (s : State) (k : Fin 6) : State := s.modShuttle k fun h => { h with next := none }

/-- STOP: it ends the operation, and one that waits for the next cycle does not come (R360; log 35). -/
def State.stopShuttle (s : State) (k : Fin 6) : State := (((s.settleShuttle k).dropNext k).endCycle k).stopOp k

/-- Something stops an active operation as STOP does and shows `why`. -/
def State.stopBy (s : State) (why : Fld) (k : Fin 6) : State := (((s.settleShuttle k).dropNext k).endCycle k).stopOpBy why k

/-- Sentinel bits of a cell in SENT_ST. -/
def State.ovTripped (s : State) (cell : Nat) : Bool := s.bitOf Reg.SENT_ST.OV (cell - 1)
def State.uvTripped (s : State) (cell : Nat) : Bool := s.bitOf Reg.SENT_ST.UV (cell - 1)

/-- CHARGE or DISCHARGE on a cell (R153, R155, R363): an idle shuttle begins at once, a running operation is replaced from the next
shuttle cycle. -/
def State.startShuttle (s : State) (k : Fin 6) (op cell target ceil : Nat) : State :=
  let s := s.settleShuttle k
  if (op = 1 && s.ovTripped cell) || (op = 2 && s.uvTripped cell) then s.setFlag Reg.BAL_ST.REFUSED true k
  else if s.opActive k then s.modShuttle k fun h => { h with next := some ⟨op, cell, target, min ceil 1000, s.nextCycle, 0⟩ }
  else (s.dropNext k).beginOp k op cell target ceil s.now 0

/-- A held shuttle goes on at min(ceiling, bound) (R352, Table 8-1); a start measurement begins again. -/
def State.unholdShuttle (s : State) (flag : Fld) (k : Fin 6) : State :=
  if s.flag flag k then
    ((s.setFlag flag false k).modShuttle k fun h => if h.probing then { h with zAt := s.now + ms 2 } else h).applyCurrent k
  else s

/-! ## Bleed switches (R336 to R340) -/

/-- A Study conversion is in progress (R239). -/
def State.studyRuns (s : State) : Bool :=
  s.meas.sets.any fun m => m.started && Nat.land m.left m.study ≠ 0

/-- Every switch takes the state the program and its duty want, unless a Study window defers it; a switch that closes
is noted in every conversion whose window runs, a Sketch's by then (R238, R239, R337). -/
def State.syncBleed (s : State) : State :=
  let want := Nat.land (s.fld Reg.BAL_BLEED.CLOSED) (4095 - s.ladle.dutyOff % 4096)
  if s.studyRuns then s.setFlag Reg.BAL_BLEED.HELD (s.ladle.closed ≠ want)
  else
    { s.setFlag Reg.BAL_BLEED.HELD false with
      ladle := { s.ladle with closed := want }
      meas := { s.meas with sets := s.meas.sets.map fun m =>
        if s.now < m.startedAt + 960 then { m with bleeds := Nat.lor m.bleeds want } else m } }

/-- What is left of a cell's bleed target, in nC; BAL_BT shows it in µC, 0 only when nothing is left. -/
def State.setLeft (s : State) (cell nc : Nat) : State :=
  if h : cell - 1 < 12 then
    { s with ladle := { s.ladle with leftNc := s.ladle.leftNc.set (cell - 1) nc h } }.setFld Reg.BAL_BT.LEFT
      ((nc + 999) / 1000) (cell - 1)
  else s

def State.leftOf (s : State) (cell : Nat) : Nat := s.ladle.leftNc.toList.getD (cell - 1) 0

def State.setClosedFor (s : State) (cell n : Nat) : State :=
  if h : cell - 1 < 12 then { s with ladle := { s.ladle with closedFor := s.ladle.closedFor.set (cell - 1) n h } } else s

def State.closedForOf (s : State) (cell : Nat) : Nat := s.ladle.closedFor.toList.getD (cell - 1) 0

/-- The cell's bleeding has a target. -/
def State.hasTarget (s : State) (cell : Nat) : Bool := bitAt s.ladle.targets (cell - 1)

/-- The cell's bleeding has a target, or none, of `nc` nC. -/
def State.setTarget (s : State) (cell nc : Nat) : State :=
  { s with ladle := { s.ladle with targets := withBits s.ladle.targets (cell - 1) 1 (if nc = 0 then 0 else 1) } }.setLeft cell nc

/-- The program's hold on a switch ends and its target is dropped. -/
def State.bleedOpen (s : State) (cell : Nat) : State :=
  ((s.setBitOf Reg.BAL_BLEED.CLOSED (cell - 1) false).setTarget cell 0).syncBleed

/-- A switch's charge since it was last counted, at its measured current, goes to BAL_QB and off BAL_BT (R357), 240 ticks at 0.1 mA
to the nC; a target that has counted down to 0 opens it and sets BDONE (R358). -/
def State.bookBleed (s : State) (cell : Nat) : State :=
  let nc := s.fld Reg.BAL_IB.I (cell - 1) * s.closedForOf cell / 240
  let v := min (s.fld Reg.BAL_QB_LO.VALUE (cell - 1) + 2 ^ 32 * s.fld Reg.BAL_QB_HI.VALUE (cell - 1) + nc) (2 ^ 64 - 1)
  let s := (s.setFld Reg.BAL_QB_LO.VALUE (v % 2 ^ 32) (cell - 1)).setFld Reg.BAL_QB_HI.VALUE (v / 2 ^ 32) (cell - 1)
  let s := s.setClosedFor cell 0
  if s.hasTarget cell then
    let s := s.setLeft cell (s.leftOf cell - nc)
    if s.leftOf cell = 0 then (s.bleedOpen cell).setBitOf Reg.BAL_BLEED.BDONE (cell - 1) true else s
  else s

/-- BLEED_ON: refused on a cell with an under-voltage trip; else held closed with its target (R340, R363). -/
def State.bleedOn (s : State) (cell target : Nat) : State :=
  if s.uvTripped cell then s.setFlag Reg.BAL_BLEED.REFUSED true
  else (((s.bookBleed cell).setBitOf Reg.BAL_BLEED.CLOSED (cell - 1) true).setTarget cell (1000 * target)).syncBleed

/-- BLEED_OFF: the switch opens and its target is dropped (R340). -/
def State.bleedOff (s : State) (cell : Nat) : State :=
  let s := s.bookBleed cell
  if s.bitOf Reg.BAL_BLEED.CLOSED (cell - 1) then s.bleedOpen cell else s

/-- All bleed switches open and their targets are cleared. -/
def State.bleedAllOff (s : State) : State :=
  forAll ((List.range 12).map (· + 1)) (fun n t => t.bleedOff n) s

/-! ## What stops the Ladle (R361, Table 8-1) -/

/-- A local sentinel trip stops every shuttle and opens the switches of cells with an under-voltage trip. -/
def State.ladleTrip (s : State) : State :=
  let s := forAll allShuttles (fun k t => t.stopBy Reg.BAL_ST.TRIPSTOP k) s
  forAll ((List.range 12).map (· + 1)) (fun n t => if t.uvTripped n then t.bleedOff n else t) s

/-- Entry to LOAD and a sequencer reset stop every shuttle and open every switch. -/
def State.ladleHalt (s : State) : State :=
  (forAll allShuttles (fun k t => t.stopBy Reg.BAL_ST.HALTED k) s).bleedAllOff

/-- Below DOZE with BAL_CFG.PARK the operations are suspended and the switches open. -/
def State.ladleSuspend (s : State) : State :=
  let s := forAll allShuttles (fun k t =>
    if t.opActive k then (t.setFlag Reg.BAL_ST.SUSPENDED true k).applyCurrent k else t) s.settleShuttles
  { s with ladle := { s.ladle with closed := 0, dutyOff := 4095 } }

/-- With HFO stable again, suspended operations resume; switches reclose at the next frame start. -/
def State.ladleResume (s : State) : State :=
  forAll allShuttles (fun k t => t.unholdShuttle Reg.BAL_ST.SUSPENDED k) s.settleShuttles

/-! ## Quiet windows (R235 to R237, R352, R353) -/

/-- Every shuttle pauses, or stays paused with no resume due; BAL is raised at a pause when QWEV is set. -/
def State.pauseShuttles (s : State) : State :=
  let s := s.settleShuttles
  let held := s.meas.pauseHeld
  let ran := if allShuttles.any s.shuttleRuns then some s.now else s.meas.lastRan
  let s := { s with meas := { s.meas with pauseHeld := true, resumeAt := none, lastRan := ran } }
  if held then s
  else
    let s := s.setFlag Reg.MEAS_QW.HELD true
    let s := forAll allShuttles (fun k t =>
      if t.opActive k then
        (t.setFlag Reg.BAL_ST.PAUSED true k).applyCurrent k
      else t) s
    if s.flag Reg.BAL_CFG.QWEV then s.raise Ev.BAL else s

/-- Every shuttle resumes at min(ceiling, bound). -/
def State.resumeShuttles (s : State) : State :=
  let s := s.settleShuttles
  if s.meas.pauseHeld then
    let s := { s with meas := { s.meas with pauseHeld := false, resumeAt := none } }.setFlag Reg.MEAS_QW.HELD false
    let s := forAll allShuttles (fun k t => t.unholdShuttle Reg.BAL_ST.PAUSED k) s
    if s.flag Reg.BAL_CFG.QWEV then s.raise Ev.BAL else s
  else s

/-! ## The governor (R342 to R350) -/

/-- ΔT after one millisecond at mean current `i` mA, in m°C (R343). -/
def riseStep (rise : Rat) (i : Rat) : Rat :=
  rise + (45000 * (i / 1000) * (i / 1000) - rise) / 30000

/-- B_ind at inductor temperature `t` m°C (R344). -/
def bInd (t : Rat) : Rat :=
  if t ≤ 100000 then 1000 else if t ≤ 130000 then 1000 * (130000 - t) / 30000 else 0

/-- B_die at die temperature `t` m°C (R344). -/
def bDie (t : Int) : Rat :=
  if t ≤ 110000 then 1000 else if t ≤ 125000 then 1000 * (125000 - (t : Rat)) / 15000 else 0

/-- B_z for an impedance in 0.1 mΩ and ZVMAX in mV (R345). -/
def bZ (zvmax z : Nat) : Rat := if z = 0 then 1000 else (10000 * zvmax : Rat) / z

/-- Z_used of the served cell: max(Z_meas, ZMIN), in 0.1 mΩ. -/
def State.zUsed (s : State) (k : Fin 6) : Nat :=
  if s.fld Reg.BAL_ST.CELL k = 0 then max (s.fld Reg.BAL_Z.ZMEAS0 k) (s.fld Reg.BAL_ZMIN.FLOOR0 k)
  else max (s.fld Reg.BAL_Z.ZMEAS1 k) (s.fld Reg.BAL_ZMIN.FLOOR1 k)

/-- The smallest governor term and its number (R342), the lowest number on a tie. -/
def govern (ind die z : Rat) : Rat × Nat :=
  let m := min (min 1000 ind) (min die z)
  (m, if (1000 : Rat) ≤ m then 0 else if ind ≤ m then 1 else if die ≤ m then 2 else 3)

/-- The mean current, in mA, of a shuttle over the `n` ticks since the governor's last update. -/
def Shuttle.meanOver (h : Shuttle) (n : Nat) : Rat := if n = 0 then 0 else (h.mean : Rat) / n

/-- One governor computation for one shuttle, `n` ticks after the last; `nc` is the charge it has measured since its charge was last
counted, and counts where it carried current since. -/
def State.governOne (s : State) (n nc : Nat) (k : Fin 6) : State :=
  let h := s.shuttle k
  let s := (s.modShuttle k fun h => { h with rise := riseStep h.rise (h.meanOver n), mean := 0, part := 0 }).accountShuttle k
    (if h.part = 0 then 0 else nc)
  let t : Rat := s.temp + (s.shuttle k).rise
  let g := govern (bInd t) (bDie s.temp) (bZ (s.fld Reg.BAL_ZVMAX.MV) (s.zUsed k))
  let own := (roundFree g.1).toNat
  let bound := if s.flag Reg.BAL_ST.SUPPLY k then 0 else own
  let s := s.modShuttle k fun h => { h with governed := own }
  let s := (s.setFld Reg.BAL_TIND.MC (unsigned 32 (roundFree t)) k).setFld Reg.BAL_CUR.BOUND bound k
  (s.setFld Reg.BAL_ST.LIMIT g.2 k).applyCurrent k

/-- GOVERNOR_UPDATE: every 1 ms, at the die temperature that the monitors sampled last (R343, R364, R706); `first` is the charge that
shuttle 1 has measured since it was last counted, `others` that of shuttles 2 to 6, in nC (R342, R357). -/
def execGovernorUpdate (first : Nat) (others : List Nat) (s : State) : Host.Outcome State Fault Refusal :=
  .next (if s.hasCells then
      let n := (s.reach (s.ladle.govAt + ms 1)).settleShuttles
      let n' := forAll allShuttles (fun k t => t.governOne (n.now - s.ladle.govAt) ((first :: others).getD k.val 0) k) n
      { n' with ladle := { n'.ladle with govAt := n.now } }
    else s)

/-- A measurement of the served cell, `dv` µV at the applied current: it ends a start measurement, sets Z_meas at 100 mA or more
(R351), and the next is due in 1 s. -/
def State.measureZ (s : State) (k : Fin 6) (dv : Nat) : State :=
  let i := s.fld Reg.BAL_CUR.APPLIED k
  let z := min 0xFFFF (roundFree ((10 * dv : Rat) / i)).toNat
  let s := if i < 100 then s
    else if s.fld Reg.BAL_ST.CELL k = 0 then s.setFld Reg.BAL_Z.ZMEAS0 z k else s.setFld Reg.BAL_Z.ZMEAS1 z k
  (s.modShuttle k fun h => { h with probing := false, zAt := s.now + ms 1000 }).applyCurrent k

/-- IMPEDANCE_MEASURE: the served cell's voltage at zero current and at the applied current, in µV, 2 ms after an operation's start, then
every 1 s while it runs at 100 mA or more, outside quiet windows (R345). -/
def execImpedanceMeasure (k : Fin 6) (v0 v1 : Int) (s : State) : Host.Outcome State Fault Refusal :=
  .next (let s := s.awaitNext k
    if s.shuttleActive k && !s.shuttleHeld k && ((s.shuttle k).probing || 100 ≤ s.fld Reg.BAL_CUR.APPLIED k) then
      (s.reach (s.shuttle k).zAt).measureZ k (v1 - v0).natAbs
    else s)

/-- Ticks until a running operation's charge reaches its target, if it has one. -/
def State.targetIn (s : State) (k : Fin 6) : Option Nat :=
  let h := s.shuttle k
  let i := s.opAmps k
  let need := 24 * (1000 * s.fld Reg.BAL_TARGET.UC k - h.doneNc) - h.part
  if i ≠ 0 && s.fld Reg.BAL_TARGET.UC k ≠ 0 then
    match s.cycleRest k with
    | some c =>
      let a := c.till - s.now
      let q := (s.cycleCharge k a).2
      some (if need ≤ q then (need + c.amps - 1) / c.amps else a + (need - q + i - 1) / i)
    | none => some ((need + i - 1) / i)
  else none

/-- SHUTTLE_TARGET_REACHED: a running operation's charge reaches its target in its time, DONE is set and the shuttle is idle (R358); one
that is replaced before that leaves it to the next. -/
def execShuttleTargetReached (k : Fin 6) (s : State) : Host.Outcome State Fault Refusal :=
  .next (let first := match s.targetIn k, (s.shuttle k).next with
      | some n, some x => decide (s.now + n ≤ x.due)
      | _, _ => false
    let s := if first then s else s.awaitNext k
    match s.targetIn k with
    | some n => (s.advance n).bookShuttle k
    | none => s)

/-- The effective over-voltage and under-voltage thresholds of channel `n` (cell n + 1) in µV (R260, R271). -/
def State.ovLimit (s : State) (n : Nat) : Int := 5000 * s.fld Reg.SENT_OV.CODE + 500 * s.fld Reg.MEAS_WIDEN.W n
def State.uvLimit (s : State) (n : Nat) : Int := 5000 * s.fld Reg.SENT_UV.CODE - 500 * s.fld Reg.MEAS_WIDEN.W n

/-- SHUTTLE_VOLTAGE_LIMIT: the cell that a shuttle serves, at a voltage in µV sensed during conduction, is within 50 mV of the
effective threshold that its operation moves it to; the shuttle stops as STOP does (R351). -/
def execShuttleVoltageLimit (at_ : Fin 6 × Int) (s : State) : Host.Outcome State Fault Refusal :=
  .next (let k := at_.1
    let s := s.settleShuttle k
    let v := at_.2
    let n := s.servedCell k - 1
    let near := if s.fld Reg.BAL_ST.OP k = 1 then decide (s.ovLimit n - 50000 ≤ v) else decide (v ≤ s.uvLimit n + 50000)
    if s.shuttleRuns k && near then s.stopBy Reg.BAL_ST.VLIM k else s)

/-- SHUTTLE_SUPPLY_CHANGE: the node stack's and the served cell's voltages, in µV, at least 9.0 V and 1.0 V or not (R335);
at the end of a hold the bound is again what the governor last computed (log 46). -/
def execShuttleSupplyChange (k : Fin 6) (volts : Int × Int) (s : State) : Host.Outcome State Fault Refusal :=
  .next (if s.hasCells then
      let ok := decide (9000000 ≤ volts.1) && decide (1000000 ≤ volts.2)
      let s := (s.settleShuttle k).setFlag Reg.BAL_ST.SUPPLY (!ok) k
      (s.setFld Reg.BAL_CUR.BOUND (if ok then (s.shuttle k).governed else 0) k).applyCurrent k
    else s)

/-- D of R337 at a die temperature in m°C, in %. -/
def bleedDuty (tdie : Int) : Nat :=
  if tdie ≤ 95000 then 100 else if tdie < 125000 then (roundFree (100 * (125000 - (tdie : Rat)) / 30000)).toNat else 0

/-- The bleed controller runs: its role has cells, and HFO is stable after a wake (Table 8-1). -/
def State.bleedRuns (s : State) : Bool := s.hasCells && s.hfo && !s.asleep

/-- The switches whose duty ends change. -/
def State.setDutyOff (s : State) (m : Nat) : State := { s with ladle := { s.ladle with dutyOff := m } }.syncBleed

/-- BLEED_FRAME: 100 ms after the last, a frame starts; the duty is recomputed at the die temperature sampled last and the held switches
close (R337, R706). -/
def execBleedFrame (_ : Unit) (s : State) : Host.Outcome State Fault Refusal :=
  .next (if s.bleedRuns then
      let s := s.reach (s.ladle.frameAt + ms 100)
      let s := { s with ladle := { s.ladle with frameAt := s.now } }.setFld Reg.BAL_BDUTY.DUTY (bleedDuty s.temp)
      s.setDutyOff (if bleedDuty s.temp = 0 then 4095 else 0)
    else s)

/-- BLEED_DUTY_OPEN: D × 100 ms after the frame's start the switches' duty ends (R337). -/
def execBleedDutyOpen (s : State) : Host.Outcome State Fault Refusal :=
  .next (if s.bleedRuns && s.fld Reg.BAL_BDUTY.DUTY < 100 then
      (s.reach (s.ladle.frameAt + ms (s.fld Reg.BAL_BDUTY.DUTY))).setDutyOff 4095
    else s)

/-- The highest current that a switch measures, in 0.1 mA: it limits to 120 mA (R336), read within 5 % and 1 mA (R359). -/
def bleedMost : Nat := 1270

/-- One switch is measured at `i` × 0.1 mA when it is closed, and its charge counted. -/
def State.bleedSample (s : State) (cell i : Nat) : State :=
  (if bitAt s.ladle.closed (cell - 1) then s.setFld Reg.BAL_IB.I (min i bleedMost) (cell - 1) else s).bookBleed cell

/-- BLEED_CURRENT_SAMPLE: every 1 ms each closed switch's current, in 0.1 mA, cell 1 first (R336, R357). -/
def execBleedCurrentSample (amps : List Nat) (s : State) : Host.Outcome State Fault Refusal :=
  .next (if s.hasCells then
      let s := s.reach (s.ladle.sampleAt + ms 1)
      forAll ((List.range 12).map (· + 1)) (fun n t => t.bleedSample n (amps.getD (n - 1) 0))
        { s with ladle := { s.ladle with sampleAt := s.now } }
    else s)

/-- BLEED_TARGET_REACHED: a closed switch's target counts down to 0 in its time; the switch opens and BDONE is set (R358). -/
def execBleedTargetReached (n : Fin 12) (s : State) : Host.Outcome State Fault Refusal :=
  .next (let i := s.fld Reg.BAL_IB.I n.val
    if s.hasTarget (n.val + 1) && bitAt s.ladle.closed n.val && i ≠ 0 then
      (s.advance ((240 * s.leftOf (n.val + 1) + i - 1) / i - s.closedForOf (n.val + 1))).bookBleed (n.val + 1)
    else s)

/-- A BAL_CEIL write stores min(value, 1,000) (R334). -/
def State.writeCeil (s : State) (k : Fin 6) (v : Nat) : State :=
  ((s.settleShuttle k).setFld Reg.BAL_CEIL.MA (min (v % 2048) 1000) k).applyCurrent k

end Sys2Proof.Machine
end

