-- ==== Sys2Proof/Machine/Measure.lean ====
section
/-! DEFINITION. The measuring front end (chapter 6): arming and starting conversions, results, quiet windows, the
auxiliary scan, the diagnostic comparison, open-wire and leakage tests. -/

namespace Sys2Proof.Machine

/-- Bits of a mask. -/
def maskBits (n : Nat) : List Nat := (List.range 16).filter fun i => bitAt n i

/-- Channels armed and not yet started. -/
def State.armedMask (s : State) : Nat :=
  s.meas.sets.foldl (fun a m => if m.started then a else Nat.lor a m.left) 0

/-- Channels converting; the cells during an open-wire test, channel 15 during a leakage test (R264, R265), channel 13 while the join engine
converts (R646). -/
def State.convMask (s : State) : Nat :=
  let a := s.meas.sets.foldl (fun a m => if m.started then Nat.lor a m.left else a) 0
  let a := if s.meas.owPhase = 0 then a else Nat.lor a 0xFFF
  let a := if s.meas.leakAt.isSome then Nat.lor a 0x8000 else a
  if s.joinConverts then Nat.lor a 0x2000 else a

/-- Channels Table 1-1 runs in this role (R163, R247, R261, R274); channel 15 is accepted for target 13 also with SCAN 0 (log 35). -/
def State.chanRuns (s : State) (n : Nat) : Bool :=
  if s.meas.grSince.isSome then false
  else if n = 13 then s.fld Reg.MEAS_AUXCFG.SCAN ≠ 0
  else if n = 15 then s.fld Reg.DIAG_CFG.TARGET ≠ 15 && s.fld Reg.DIAG_CFG.TARGET < 21
  else s.frontRuns

/-- Channels under a calibration source (R278), or started within 20 µs of a MEAS_CALSRC write (R282). -/
def State.calMask (s : State) : Nat :=
  match s.meas.calSince with
  | some t => if s.now ≤ t + us 20 then 0xFFFF
    else if s.fld Reg.MEAS_CALSRC.SRC = 1 || s.fld Reg.MEAS_CALSRC.SRC = 2 then s.fld Reg.MEAS_CALSRC.MASK else 0
  | none => if s.fld Reg.MEAS_CALSRC.SRC = 1 || s.fld Reg.MEAS_CALSRC.SRC = 2 then s.fld Reg.MEAS_CALSRC.MASK else 0

/-- A shuttle carries current, or did at some time in the 200 µs before the tick `lead` ticks from now (R236). -/
def State.ranWithin (s : State) (lead : Nat) : Bool :=
  allShuttles.any s.shuttleRuns || match s.meas.lastRan with
    | some t => s.now + lead < t + us 200
    | none => false

/-- A set is to start a Study conversion. -/
def MeasSet.wantsQuiet (m : MeasSet) : Bool := !m.started && Nat.land m.left m.study ≠ 0

/-- The quiet window of every set that `sel` admits begins: the shuttles stop (R235, R352). -/
def State.quietSets (s : State) (sel : MeasSet → Bool) : State :=
  let mark := fun (m : MeasSet) => if m.wantsQuiet && sel m then { m with quiet := true } else m
  if s.meas.sets.any fun m => m.wantsQuiet && !m.quiet && sel m then
    { s with meas := { s.meas with sets := s.meas.sets.map mark } }.pauseShuttles
  else s

/-- A channel's start is noted, with its grade (R262). -/
def State.noteStart (s : State) (m : MeasSet) (n : Nat) : State :=
  if h : n < 16 then { s with meas := { s.meas with starts := s.meas.starts.set n (some (s.now, bitAt m.study n)) h } } else s

/-- Armed channels start together in this tick (CONVERSION_START, R150, R228, R236, R240); SCAN is taken here (R246; log 35). -/
def State.startSet (s : State) (m : MeasSet) (late : Bool) : MeasSet × State :=
  let runs := (allShuttles.map fun k => if s.shuttleRuns k then 2 ^ k.val else 0).sum
  let study := Nat.land m.left m.study ≠ 0
  let lateStop := study && s.ranWithin 0
  let m' := { m with started := true, quiet := study, late := m.late || late, short := m.short || lateStop, startedAt := s.now,
                     shuttles := runs, bleeds := s.ladle.closed, cal := Nat.land m.left s.calMask,
                     ibSketch := Vector.replicate 12 0, ibStudy := Vector.replicate 12 0 }
  let s := forAll (maskBits m.left) (fun n t => (t.setFld Reg.MEAS_STAMP.TICK s.rackTicks n).noteStart m n) s
  let s := if study then (if lateStop then s.setFlag Reg.MEAS_QW.SHORT true else s).pauseShuttles else s
  let s := if bitAt m.left 13 then
      { s with meas := { s.meas with auxLeft := maskBits (s.fld Reg.MEAS_AUXCFG.SCAN), auxFirst := true, auxAt := s.now,
                                     auxGap := none, auxref := s.meas.auxref || s.flag Reg.MEAS_AUXCFG.BIAS } }
    else s
  let s := if bitAt m.left 15 then { s with meas := { s.meas with diagTarget := s.fld Reg.DIAG_CFG.TARGET } } else s
  (m', s)

/-- Every set that `sel` admits starts. -/
def State.startSets (s : State) (sel : MeasSet → Bool) (late : Bool) : State :=
  let r := s.meas.sets.foldl (fun (a : List MeasSet × State) m =>
    if !m.started && sel m then
      let x := a.2.startSet m late
      (a.1 ++ [x.1], x.2)
    else (a.1 ++ [m], a.2)) ([], s)
  { r.2 with meas := { r.2.meas with sets := r.1 } }

/-- Compare `k` fires: the sets tied to it start, or once HFO is stable (R150, R232, R290). -/
def State.measFire (s : State) (k : Fin 4) (late : Bool) : State :=
  if s.hfo then s.startSets (fun m => m.trig = some k) late
  else
    let held := fun (m : MeasSet) => if m.trig = some k && !m.started then { m with trig := none, late := true } else m
    { s with meas := { s.meas with sets := s.meas.sets.map held } }

/-- Compare `k`'s target, with its epoch. -/
def State.rtcTarget (s : State) (k : Nat) : Nat :=
  s.fld Reg.RTC_HI.EPOCH k * 2 ^ 48 + s.fld Reg.RTC_HI.TIME k * 2 ^ 32 + s.fld Reg.RTC_LO.TIME k

def State.rtcArmed (s : State) (k : Nat) : Bool := s.bitOf Reg.RTC_ST.ARMED k

/-- MEAS arms channels (R148 to R152): the state and the mask accepted. `study` is by channel; `trig` none starts now. SHORT follows QW_SHORT
(R236; log 35). -/
def State.measArm (s : State) (mask study : Nat) (trig : Option (Fin 4)) : State × Nat :=
  let busy := Nat.lor s.armedMask s.convMask
  let acc := (((List.range 16).filter fun n => bitAt mask n && !bitAt busy n && s.chanRuns n).map fun n => 2 ^ n).sum
  if acc = 0 then (s, 0)
  else
    let lead := match trig with
      | some k => s.ticksTo (s.rtcTarget k.val)
      | none => 0
    let soon := Nat.land acc study ≠ 0 && lead < us 200
    let short := soon && s.ranWithin lead
    let s := if soon then (if short then s.setFlag Reg.MEAS_QW.SHORT true else s).pauseShuttles else s
    let biasLate := bitAt acc 13 && s.flag Reg.MEAS_AUXCFG.BIAS && lead < 240 * s.fld Reg.MEAS_AUXCFG.SETTLE
    let s := if biasLate then
        { s.setFlag Reg.MEAS_AUXST.BIAS_SHORT true with meas := { s.meas with auxref := true } } else s
    let m : MeasSet := { trig := trig, started := false, quiet := soon, left := acc, study := Nat.land study acc, late := false,
                         short := short, shuttles := 0, bleeds := 0, cal := 0, startedAt := 0,
                         ibSketch := Vector.replicate 12 0, ibStudy := Vector.replicate 12 0 }
    let s := { s with meas := { s.meas with sets := s.meas.sets ++ [m] } }
    (if trig.isNone && s.hfo then s.startSets (fun x => x.trig.isNone) false else s, acc)

/-- A quiet window is in force: a Study set has begun its own, or an open-wire or leakage test runs (R235, R265, R268). -/
def State.quietHolds (s : State) : Bool :=
  s.meas.owPhase ≠ 0 || s.meas.leakAt.isSome || s.meas.sets.any fun m => m.quiet && Nat.land m.left m.study ≠ 0

/-- Once no quiet window is in force, the shuttles resume 200 µs after the latest end of one, `ago` ticks ago or before it was written
(R235, R237). -/
def State.scheduleResume (s : State) (ago : Nat := 0) : State :=
  if s.meas.pauseHeld && s.meas.resumeAt.isNone && !s.quietHolds then
    { s with meas := { s.meas with resumeAt := some (max s.meas.quietEnd (s.now - ago) + us 200) } }
  else s

/-- MEAS with CANCEL disarms channels armed and not yet started: the state and the mask (R148); AUXREF, once on, stays on (log 35). -/
def State.measCancel (s : State) (mask : Nat) : State × Nat :=
  let hit := Nat.land mask s.armedMask
  let sets := s.meas.sets.map fun m => if m.started then m else { m with left := m.left - Nat.land m.left hit }
  ({ s with meas := { s.meas with sets := sets.filter fun m => m.left ≠ 0 } }.scheduleResume, hit)

/-- The start tick of a set: the target of the compare that it waits for, while that is armed (R294) and rack time runs (R686). -/
def State.setTarget? (s : State) (m : MeasSet) : Option Nat :=
  m.trig.bind fun k => if s.rtcArmed k.val && !s.rackStill then some (s.rtcTarget k.val) else none

/-- Compare `k` is disarmed: a quiet window begun for it ends, as its sets have no start tick until a later arming (R235, R294). -/
def State.endQuiet (s : State) (k : Fin 4) : State :=
  let mine := fun (m : MeasSet) => !m.started && m.trig = some k && m.quiet
  if s.meas.sets.any mine then
    { s with meas := { s.meas with sets := s.meas.sets.map fun m => if mine m then { m with quiet := false } else m } }.scheduleResume
  else s

/-- The earliest target of the compares that sets admitted by `sel` wait for. -/
def State.firstTarget (s : State) (sel : MeasSet → Bool) : Option Nat :=
  ((s.meas.sets.filter sel).filterMap s.setTarget?).min?

/-- Sets whose quiet window is still to begin. -/
def MeasSet.quietDue (m : MeasSet) : Bool := m.wantsQuiet && !m.quiet

/-- Sets with an aux scan to come. -/
def MeasSet.auxDue (m : MeasSet) : Bool := !m.started && bitAt m.left 13

/-- 200 µs before target `t` the quiet windows of the Study sets that wait for it begin (R235). -/
def State.quietAt (s : State) (t : Nat) : State :=
  let s := s.reachTick (t - us 200)
  s.quietSets fun m => s.setTarget? m = some t

/-- SETTLE × 10 µs before target `t` AUXREF turns on (R248). -/
def State.auxrefAt (s : State) (t : Nat) : State :=
  let s := s.reachTick (t - 240 * s.fld Reg.MEAS_AUXCFG.SETTLE)
  { s with meas := { s.meas with auxref := true } }

/-- What the sets tied to compare `k` want before it fires, in the order of its time. -/
def State.beforeFire (s : State) (k : Fin 4) : State :=
  let t := s.rtcTarget k.val
  let due := fun (sel : MeasSet → Bool) => s.hfo && s.meas.sets.any fun m => m.trig = some k && sel m
  let quiet := fun (s : State) => if due MeasSet.quietDue then s.quietAt t else s
  let bias := fun (s : State) =>
    if due MeasSet.auxDue && s.flag Reg.MEAS_AUXCFG.BIAS && !s.meas.auxref then s.auxrefAt t else s
  if us 200 < 240 * s.fld Reg.MEAS_AUXCFG.SETTLE then quiet (bias s) else bias (quiet s)

/-! ## Results -/

/-- The least and greatest value of a channel's result in its units (R227, Table 6-1); RATIO is taken as it stands at the end (R249; log 35). -/
def State.clampOf (s : State) (n : Nat) : Int × Int :=
  if n < 12 then (-100000, 5200000)
  else if n = 12 then (-8000000, 8000000)
  else if n = 13 then (0, if s.flag Reg.MEAS_AUXCFG.RATIO then 2 ^ 23 - 1 else 2500000)
  else if n = 14 then (0, 8000000)
  else (-2 ^ 23, 2 ^ 23 - 1)

/-- The channel whose limits apply to channel `n`: a diagnostic conversion takes those of the target it started with. -/
def State.limitsOf (s : State) (n : Nat) : Int × Int :=
  if n = 15 && s.meas.diagTarget < 15 then s.clampOf s.meas.diagTarget else s.clampOf n

/-- Ib of cell channel `n` over a set's window of the grade asked for, in 0.1 mA: its bleed current averaged by the window's weights,
the time its switch was open counting as none (R354); 0 of a cell that does not exist. -/
def MeasSet.ib (m : MeasSet) (study : Bool) (n : Nat) : Rat :=
  if study then (m.ibStudy.toList.getD n 0 : Rat) / studyWeight 31200 else (m.ibSketch.toList.getD n 0 : Rat) / sketchWeight 960

/-- The IR-drop term of cell channel `n` by the bleed currents `ib` in 0.1 mA, in µV (R354). -/
def State.bleedTerm (s : State) (n : Nat) (ib : Nat → Rat) : Rat :=
  let lo : Rat := s.fld Reg.BAL_RT.R n
  let hi : Rat := s.fld Reg.BAL_RT.R (n + 1)
  let prev : Rat := if n = 0 then 0 else ib (n - 1)
  (ib n * (lo + hi) - ib (n + 1) * hi - prev * lo) / 1000

/-- The corrected result before clamping (R279, R354); one of channel 15 takes no IR-drop term, whatever its target (log 35). -/
def State.corrected (s : State) (n : Nat) (raw : Int) (ib : Nat → Rat) : Int :=
  let g : Rat := signed 24 (s.fld Reg.MEAS_CALG.GAIN n)
  let o : Rat := signed 24 (s.fld Reg.MEAS_CALO.OFFSET n)
  roundFree ((raw : Rat) * (1 + g / 10000000) + o + if n < 12 then s.bleedTerm n ib else 0)

/-- Bleed switches of cells n − 1, n, n + 1 for cell channel `n` (R355). -/
def neighbourMask (n : Nat) : Nat := ((if n = 0 then 0 else 2 ^ (n - 1)) + 2 ^ n + if n = 11 then 0 else 2 ^ (n + 1))

/-- The MEAS_RESULT word of a channel that completes (Table 6-10); SHUTTLE is set for both cells of a pair (log 35). -/
def State.resultWord (s : State) (m : MeasSet) (n : Nat) (raw : Int) : Word :=
  let v := s.corrected n raw (m.ib (bitAt m.study n))
  let lim := s.limitsOf n
  let c := max lim.1 (min lim.2 v)
  let study := bitAt m.study n
  let fl := fun (b : Bool) (k : Nat) => if b then 2 ^ k else 0
  BitVec.ofNat 32 (unsigned 24 c + fl study 24 + fl (decide (c ≠ v)) 25 +
    fl (n < 12 && s.bitOf Reg.LEAK_ST.SUSPECT n) 26 + fl (study && m.short) 27 +
    fl (n < 12 && Nat.land m.bleeds (neighbourMask n) ≠ 0) 28 + fl (n < 12 && !study && bitAt m.shuttles (n / 2)) 29 +
    fl (bitAt m.cal n) 30 + fl m.late 31)

/-- A channel's result is noted with its start and grade (R262). -/
def State.noteResult (s : State) (m : MeasSet) (n : Nat) (value : Int) : State :=
  if h : n < 16 then
    { s with meas := { s.meas with results := s.meas.results.set n (some (m.startedAt, bitAt m.study n, value)) h } }
  else s

/-- DIAG_COMPARE: channel `n` has written `value`. Channel 15 and its target are compared once both have written what they started in
one tick and grade; without such a start of its target, channel 15 is not compared (R262). A target above 15 is no channel and sets
no NOCMP (log 35). -/
def State.diagCompare (s : State) (m : MeasSet) (n : Nat) (value : Int) : State :=
  let target := s.meas.diagTarget
  let at_ := (m.startedAt, bitAt m.study n)
  if 15 ≤ target || (n ≠ 15 && n ≠ target) then s
  else
    let other := if n = 15 then target else 15
    let wrote := (s.meas.results.toList.getD other none).bind fun r => if (r.1, r.2.1) = at_ then some r.2.2 else none
    match wrote with
    | some v =>
      let s := s.setFld Reg.DIAG_ST.LAST target
      if s.fld Reg.DIAG_CFG.LIMIT < (value - v).natAbs then s.setFlag Reg.DIAG_ST.MISMATCH true else s
    | none => if n = 15 && s.meas.starts.toList.getD target none ≠ some at_ then s.setFlag Reg.DIAG_ST.NOCMP true else s

/-- The window of a grade in ticks (Table 6-2). -/
def windowOf (study : Bool) : Nat := if study then 31200 else 960

/-- The set without a completed channel, whose window ended `lag` ticks ago; the last channel raises MEAS_DONE (R230, R234). -/
def State.finishChannel (s : State) (m : MeasSet) (n lag : Nat) : State :=
  let left := m.left - 2 ^ n
  let sets := s.meas.sets.map fun x => if x = m then { m with left := left } else x
  let s := { s with meas := { s.meas with
    sets := sets.filter fun x => x.left ≠ 0
    quietEnd := if bitAt m.study n then max s.meas.quietEnd (s.now - lag) else s.meas.quietEnd } }
  let s := if left = 0 then (s.setBitOf Reg.MEAS_DONEMASK.DONE n true).raise Ev.MEAS_DONE else s
  s.syncBleed.scheduleResume lag

/-- The set in which channel `n` is converting. -/
def State.convSet (s : State) (n : Nat) : Option MeasSet := s.meas.sets.find? fun m => m.started && bitAt m.left n

/-- A channel of set `m` writes its result, `lag` ticks after the end of its window (R230, R231). Of an aux scan the lowest input is the one that a
diagnostic conversion of target 13 is compared with (R261, R262); the next starts 5 µs after the window (R246). The
word of channel 13 follows each input (log 35). -/
def State.writeResult (s : State) (m : MeasSet) (n : Nat) (raw : Int) (lag : Nat) : State :=
  let w := s.resultWord m n raw
  let s := (s.setReg (0x2804 + 0x10000 * n) w).didWork (if bitAt m.study n then 6 else 5) 1 (n = 14)
  let v := signed 24 (w.toNat % 2 ^ 24)
  let s := if n = 13 && !s.meas.auxFirst then s else (s.noteResult m n v).diagCompare m n v
  if n = 13 then
    match s.meas.auxLeft with
    | k :: rest =>
      let s := (s.setReg (0x2040 + 4 * k) w).setBitOf Reg.MEAS_AUXST.DONE k true
      if rest = [] then { s with meas := { s.meas with auxLeft := [] } }.finishChannel m n lag
      else { s with meas := { s.meas with auxLeft := rest, auxFirst := false, auxGap := some (s.now - lag + us 5) } }
    | [] => s.finishChannel m n lag
  else s.finishChannel m n lag

/-- A channel's window ends: with the last input's, AUXREF turns off (R248). -/
def State.windowEnds (s : State) (n : Nat) : State :=
  if n = 13 && s.meas.auxLeft.length ≤ 1 then { s with meas := { s.meas with auxref := false } } else s

/-- CONVERSION_DONE: the channel's window ended `lag` ticks, at most 1 µs, ago with raw value `raw` in its result units (R228, R230,
R246). -/
def State.convDone (s : State) (ch : Fin 16) (raw : Int) (lag : Nat) : State :=
  let n := ch.val
  match s.convSet n with
  | none => s
  | some m =>
    if n = 13 && s.meas.auxGap.isSome then s
    else
      let ends := (if n = 13 then s.meas.auxAt else m.startedAt) + windowOf (bitAt m.study n)
      let s := (s.windowEnds n).reach (ends + lag)
      match s.convSet n with
      | some m => s.writeResult m n raw lag
      | none => s

def execConversionDone (ch : Fin 16) (raw : Int) (lag : Fin 25) (s : State) : Host.Outcome State Fault Refusal :=
  .next (s.convDone ch raw lag.val)

/-- AUX_INPUT_START: 5 µs after a window the next scanned input starts (R246). -/
def execAuxInputStart (s : State) : Host.Outcome State Fault Refusal :=
  .next (match s.meas.auxGap with
    | some t =>
      let s := s.reach t
      { s with meas := { s.meas with auxAt := s.now, auxGap := none } }
    | none => s)

/-- AUXREF_ON: SETTLE × 10 µs before the start tick of an armed channel 13 under BIAS (R248). -/
def execAuxrefOn (s : State) : Host.Outcome State Fault Refusal :=
  .next (if s.flag Reg.MEAS_AUXCFG.BIAS && !s.meas.auxref then
      match s.firstTarget MeasSet.auxDue with
      | some t => s.auxrefAt t
      | none => s
    else s)

/-- QUIET_WINDOW_PAUSE: 200 µs before the start tick of an armed Study set (R235, R352). -/
def execQuietWindowPause (s : State) : Host.Outcome State Fault Refusal :=
  .next (match s.firstTarget MeasSet.quietDue with
    | some t => s.quietAt t
    | none => s)

/-- QUIET_WINDOW_RESUME: 200 µs after the last Study window (R235, R237). -/
def execQuietWindowResume (s : State) : Host.Outcome State Fault Refusal :=
  .next (match s.meas.resumeAt with
    | some t => (s.reach t).resumeShuttles
    | none => s)

/-! ## Open-wire and leakage tests -/

/-- OW_CTL.START (R265, R267, R276). -/
def State.owStart (s : State) : State :=
  if !s.hasCells then s
  else if Nat.land (Nat.lor s.armedMask s.convMask) 0xFFF ≠ 0 || s.meas.leakAt.isSome then s.setFlag Reg.OW_ST.REFUSED true
  else ({ s with meas := { s.meas with owPhase := 1, owAt := s.now } }.setFlag Reg.OW_CTL.BUSY true).pauseShuttles

/-- A cell changed from A to B by more than 100 mV, upward or downward. -/
def moved (up : Bool) (a b : Int) : Bool := if up then 100000 < b - a else 100000 < a - b

/-- OPEN bits of the 13 pins: pin Ck is the upper pin of cell k and the lower pin of cell k + 1; a floating pin rises
from the sinking to the sourcing phase (R265). -/
def openPins (a b : List Int) : Nat :=
  (((List.range 13).filter fun k =>
    (k = 0 || moved true (a.getD (k - 1) 0) (b.getD (k - 1) 0)) &&
    (k = 12 || moved false (a.getD k 0) (b.getD k 0))).map fun k => 2 ^ k).sum

/-- A phase of the open-wire test lasts 2,000 µs and its Sketch 40 µs, the release 2,500 µs (R265). -/
def owLength (phase : Nat) : Nat := if phase = 3 then us 2500 else us 2040

/-- OPEN_WIRE_PHASE_END: `cells` are the twelve Sketch results of the phase in µV; after the release the result stands. -/
def execOpenWirePhaseEnd (cells : List Int) (s : State) : Host.Outcome State Fault Refusal :=
  .next (match s.meas.owPhase with
    | 0 => s
    | 1 =>
      let s := (s.reach (s.meas.owAt + owLength 1)).didWork 5 12
      { s with meas := { s.meas with owPhase := 2, owAt := s.now, owFirst := cells } }
    | 2 =>
      let s := (s.reach (s.meas.owAt + owLength 2)).didWork 5 12
      { s with meas := { s.meas with owPhase := 3, owAt := s.now, owSecond := cells } }
    | _ =>
      let s := s.reach (s.meas.owAt + owLength 3)
      let s := (s.setFld Reg.OW_ST.OPEN (openPins s.meas.owFirst s.meas.owSecond)).setFlag Reg.OW_ST.DONE true
      ({ s with meas := { s.meas with owPhase := 0 } }.setFlag Reg.OW_CTL.BUSY false).scheduleResume)

/-- OPEN_WIRE_START. -/
def execOpenWireStart (s : State) : Host.Outcome State Fault Refusal := .next s.owStart

/-- The leakage test begins: shuttles pause. -/
def State.leakBegin (s : State) : State :=
  { s with meas := { s.meas with leakAt := some s.now, leakSkip := 0, leakWaiting := false } }.pauseShuttles

/-- LEAK_CTL.START (R264, R268, R273, R276). -/
def State.leakStart (s : State) : State :=
  if !s.hasCells then s
  else if s.meas.owPhase ≠ 0 || s.meas.leakAt.isSome then s.setFlag Reg.LEAK_ST.REFUSED true
  else
    let s := s.setFlag Reg.LEAK_CTL.BUSY true
    if bitAt (Nat.lor s.armedMask s.convMask) 15 then { s with meas := { s.meas with leakWaiting := true } }
    else s.leakBegin

def execLeakageStart (s : State) : Host.Outcome State Fault Refusal := .next s.leakStart

/-- LEAKAGE_DEFERRED_START: a waiting test starts once channel 15 is free (R264), and no open-wire test runs. -/
def execLeakageDeferredStart (s : State) : Host.Outcome State Fault Refusal :=
  .next (if s.meas.leakWaiting && s.meas.owPhase = 0 && !bitAt (Nat.lor s.armedMask s.convMask) 15 then s.leakBegin else s)

/-- The outcome of one leakage test on the pair of cell `n` (0-based): LEAKY and whether it was at most 150 nA. -/
def pairJudge (i0 i1 : Int) (was cleanBefore : Bool) : Bool × Bool :=
  let twice := (i1 - i0).natAbs
  if twice > 400 then (true, false)
  else if twice ≤ 300 then (if cleanBefore then false else was, true)
  else (was, false)

/-- A leakage test is judged: `v` holds V(Bk) − V(Ck) of pins 0 to 12 in µV (R268 to R271). A pin that was not tested keeps its I of
the test before, and W of its pairs follows from that (log 35); a pair that was not tested has no test before of R268 next time. -/
def State.leakJudge (s : State) (v : List Int) : State :=
  let rf := s.fld Reg.MEAS_RF.OHMS
  let skip := (List.range 13).map (bitAt s.meas.leakSkip)
  let cur := (List.range 13).map fun k =>
    if skip.getD k true then s.meas.leakI.getD k 0 else roundFree ((1000 * (v.getD k 0) : Rat) / rf)
  let was := s.fld Reg.LEAK_ST.LEAKY
  let judged := (List.range 12).map fun n =>
    if skip.getD n true || skip.getD (n + 1) true then (bitAt was n, false)
    else pairJudge (cur.getD n 0) (cur.getD (n + 1) 0) (bitAt was n) (bitAt s.meas.leakClean n)
  let toMask := fun (l : List Bool) => ((List.range l.length).map fun i => if l.getD i false then 2 ^ i else 0).sum
  let leaky := toMask (judged.map (·.1))
  let suspect := toMask ((List.range 12).map fun n =>
    bitAt leaky n || (0 < n && bitAt leaky (n - 1)) || (n < 11 && bitAt leaky (n + 1)))
  let wmax := min 100 (s.fld Reg.SENT_CFG.WMAX)
  let widen := fun n => if bitAt suspect n then
      min wmax (rf * ((cur.getD n 0).natAbs + (cur.getD (n + 1) 0).natAbs) / 500000) else 0
  let s := { s with meas := { s.meas with leakAt := none, leakI := cur, leakClean := toMask (judged.map (·.2)) } }
  let s := forAll (List.range 13) (fun k t =>
    t.setFld Reg.LEAK_PIN.I (unsigned 16 (max (-32768) (min 32767 (cur.getD k 0)))) k) s
  let s := forAll (List.range 12) (fun n t => t.setFld Reg.MEAS_WIDEN.W (widen n) n) s
  let s := (s.setFld Reg.LEAK_ST.LEAKY leaky).setFld Reg.LEAK_ST.SUSPECT suspect
  let s := (s.setFld Reg.LEAK_NT.PIN (toMask skip)).setFlag Reg.LEAK_ST.DONE true
  (s.setFlag Reg.LEAK_CTL.BUSY false).scheduleResume

/-- LEAKAGE_DONE: 650 µs after its start the test completes (R268), 50 µs to each pin; one that is left untested is not converted
(R269). -/
def State.leakDone (s : State) (v : List Int) : State :=
  match s.meas.leakAt with
  | some t =>
    let s := s.reach (t + us 650)
    (s.didWork 5 ((List.range 13).filter fun k => !bitAt s.meas.leakSkip k).length).leakJudge v
  | none => s

def execLeakageDone (v : List Int) (s : State) : Host.Outcome State Fault Refusal := .next (s.leakDone v)

/-- A write of MEAS_CFG.GR on a JUNCTION-role die (R277): discarded while a channel is armed or converting; it takes
effect 100 µs later. -/
def State.writeGr (s : State) (gr : Bool) : State :=
  let goal := match s.meas.grSince with
    | some (g, _) => g
    | none => s.flag Reg.MEAS_CFG.GR
  if s.isJunction && s.armedMask = 0 && s.convMask = 0 && goal ≠ gr then
    { s with meas := { s.meas with grSince := some (gr, s.now + us 100) } }
  else s

/-- GR_CHANGE_EFFECT: the change of GR is in effect and channels are accepted again (R277). -/
def execGrChangeEffect (s : State) : Host.Outcome State Fault Refusal :=
  .next (match s.meas.grSince with
    | some (g, t) =>
      let s := (s.reach t).setFlag Reg.MEAS_CFG.GR g
      { s with meas := { s.meas with grSince := none } }
    | none => s)

end Sys2Proof.Machine
end

