-- ==== Sys2Proof/Machine/Wake.lean ====
section
/-! DEFINITION. Waking, the wake timer's guard and drift learning, SEARCH's end (chapter 16, R680 to R701). -/

namespace Sys2Proof.Machine

/-- Banks not kept in SLEEP are words of 0 with valid ECC (R680); a bank is 16 KiB. -/
def State.loseBanks (s : State) : State :=
  let kept := fun (a : Nat) => 0x10000 ≤ a || s.bitOf Reg.CLK_RETAIN.BANKS (a / 0x4000)
  { s with mem := s.mem.filter fun c => kept c.1, eccBad := s.eccBad.filter kept }

/-- Every ASLEEP port resumes (R409). -/
def State.resumeAll (s : State) : State := forAll (xlink :: allPorts) (fun p t => t.resume p) s

/-- An entry into a state below DOZE in progress is aborted: the ports that sent SLEEP_NOTE, and no others, resume (R687). -/
def State.abortEntry (s : State) : State :=
  if s.power.entering then
    forAll s.power.noted (fun p t => t.resume p) { s with power := { s.power with entering := false, noted := [] } }
  else s

/-- DIE_WAKE: source `src` (bit of CLK_WAKESRC) takes the die from NAP or SLEEP to DOZE; HFO is not yet stable (R685,
R710). It aborts an entry in progress (R687). -/
def State.wake (s : State) (src : Nat) : State :=
  if s.power.below = 2 || s.power.below = 3 then
    let slept := s.now - s.power.enteredAt
    let s := if s.power.below = 3 then s.loseBanks else s
    let s := (s.setFld Reg.CLK_ST.LAST s.power.below).setFld Reg.CLK_SLEPT.MS (min (slept / ms 1) (2 ^ 32 - 1))
    let s := (s.setBitOf Reg.CLK_WAKESRC.SRC src true).setFlag Reg.CLK_WDST.SLPLIM false
    { s with power := { s.power with below := 0, waking := true, aim := none, target := none, slept := slept, wdAt := s.now } }
  else s.abortEntry

/-! ## The guard (R690 to R694) -/

/-- The targets of the armed compares and the snapshot unit's. -/
def State.targets (s : State) : List Nat :=
  (List.range 4).filterMap (fun k => if s.rtcArmed k then some (s.rtcTarget k) else none) ++
    (s.snap.armed.toList ++ s.snap.follow.toList).map (·.1)

/-- t_e: the earliest armed target. -/
def State.earliest (s : State) : Option Nat :=
  s.targets.foldl (fun a t => match a with
    | none => some t
    | some u => some (min u t)) none

/-- A die-temperature sample in m°C (R706); the next summary hears of it (Table 12-2). -/
def State.takeTemp (s : State) (t : Int) : State :=
  let span := match s.bbx.temps with
    | some (a, b) => (min a t, max b t)
    | none => (t, t)
  { s with bbx := { s.bbx with temps := some span } }.setFld Reg.CLK_TEMP.MC (unsigned 32 t)

/-- r_eff in 0.1 ppm (R691, R694). -/
def State.rEff (s : State) : Rat :=
  let k := binOf s.temp
  match s.nearestBin k with
  | none => 200000
  | some (_, d) =>
    let dt := (s.temp - 1000 * signed 8 (s.fld Reg.CLK_LFOBIN.TUPD k)).natAbs
    (s.fld Reg.CLK_RESID.PPM : Rat) + 200 * (dt : Rat) / 1000 + 2000 * d

/-- S in ticks: the target less the rack time of the last applied TIME; none when no TIME was ever applied (R691). -/
def State.sinceTime (s : State) (target : Nat) : Option Nat := s.power.rackHeard.map fun t => target - t

/-- G_L in µs before it saturates; with no TIME ever applied it saturates (R691). -/
def State.learnedGuard (s : State) (target : Nat) : Rat :=
  let thfo : Rat := if s.temp < -30000 then 60 else 15
  match s.sinceTime target with
  | none => 10000
  | some t => thfo + 145 + 2 * s.rEff / 10000000 * ((t : Rat) / 24)

/-- The guard is computed again and the wake timer aimed at t_e − G (R690, R691, R696, R697). -/
def State.aimGuard (s : State) : State :=
  let s := (s.setFlag Reg.CLK_ST.HFOCOLD (s.temp < -30000)).setFlag Reg.CLK_ST.UNLEARNED
    ((List.range 15).all fun k => !s.flag Reg.CLK_LFOBIN.VALID k)
  match s.earliest with
  | none => { s with power := { s.power with aim := none, target := none } }
  | some te =>
    let q := s.learnedGuard te
    let s := if 10000 ≤ q then s.setFlag Reg.CLK_ST.GSAT true else s
    let gl := if 10000 ≤ q then 10000 else (roundFree q).toNat
    let g := max (max 160 (s.fld Reg.CLK_GMIN.US)) gl
    let s := (s.setFld Reg.CLK_GUARD.LEARNED gl).setFld Reg.CLK_GUARD.EFFECTIVE g
    { s with power := { s.power with aim := some (te - us g), target := some te } }

/-! ## Learning and the end of SEARCH (R695, R701, R704) -/

/-- e of R695 in 0.1 ppm; free where no rule states it, at an S of 0 or with no TIME applied before the guard wake. -/
def learnedError (corr : Int) (since : Option Nat) : Int :=
  match since with
  | some (n + 1) => roundFree ((corr : Rat) * 10000000 / (64 * (n + 1 : Nat)))
  | _ => Config.byZero corr

/-- e is added to the present bin's RATE; CLK_RESID is the largest of the last eight (R695). -/
def State.learn (s : State) (corr : Int) (since : Option Nat) : State :=
  let e := learnedError corr since
  let k := binOf s.temp
  let rate := max (-524288) (min 524287 (signed 20 (s.fld Reg.CLK_LFOBIN.RATE k) + e))
  let errs := (e.natAbs :: s.power.errs).take 8
  let s := (s.setFld Reg.CLK_LASTERR.CORR (unsigned 32 corr)).setFld Reg.CLK_LFOBIN.RATE (unsigned 20 rate) k
  { s.setFld Reg.CLK_RESID.PPM (min 65535 (errs.foldl max 0)) with power := { s.power with errs := errs, learnS := none } }

/-- What the power unit does when a TIME frame has been applied with correction `corr`: the guard wake is answered, SEARCH
ends FOUND, learning follows. -/
def State.timeHeard (s : State) (corr : Int) : State :=
  let s := match s.power.learnS with
    | some t => s.learn corr t
    | none => s
  let s := (s.setFlag Reg.CLK_ST.SEARCH false).setFlag Reg.CLK_ST.LOST false
  { s with power := { s.power with guardAt := none, searchEnd := none, retryAt := none } }

end Sys2Proof.Machine
end

