-- ==== Sys2Proof/Machine/Snap.lean ====
section
/-! DEFINITION. Rack time and snapshots (chapter 7): compares, TIME, SCHED, snapshot latches and their banks. -/

namespace Sys2Proof.Machine

/-! ## Views the banks and the bus share -/

/-- The MEAS_BUSY word. -/
def State.measBusyWord (s : State) : Nat := s.convMask + 2 ^ 16 * s.armedMask

/-- A SCAN holds the engine: the context that holds the core is at a resumption point of one (Table 11-4). -/
def State.scanHolds (s : State) : Bool :=
  match s.holder.bind fun c => (s.ctx c).cont with
  | some (.scan _ _ _ _) => true
  | _ => false

/-- MSGOUT with a copy whose time has come (R745). -/
def State.msgOutNow (s : State) : List Word :=
  s.hostPort.msgOut ++ match s.hostPort.mout with
    | some (l, t) => if t ≤ s.now then l else []
    | none => []

/-- The words of WINOUT. -/
def State.winWords (s : State) : List Word := s.hostPort.winOut.flatMap Prod.snd

/-- HOST_ALERT (R751, Table 17-9). -/
def State.hostAlert (s : State) : Nat :=
  (if s.reg 0xB008 = 0 then 0 else 1) + (if s.reg 0xB020 = 0 then 0 else 2) + (if s.hostPort.loadOut = [] then 0 else 4)
    + (if s.msgOutNow = [] then 0 else 8) + (if s.winWords = [] then 0 else 16)
    + (if s.flag Reg.BBX_STAT.MEDIA then 32 else 0) + (if s.reg 0x9008 = 0 then 0 else 64)
    + if s.flag Reg.RACK_MST.SURVIVOR then 128 else 0

/-- ALERT_N is asserted (R751); below DOZE it keeps the level that it had on entry (R753). -/
def State.alertN (s : State) : Bool :=
  if s.asleep then s.hostPort.alertKept
  else s.flag Reg.HOST_CFG.EN && Nat.land s.hostAlert (s.reg 0xB010).toNat ≠ 0

/-- The four words of the coulomb accumulators. -/
def State.coulWord (s : State) (i : Nat) : Nat :=
  let c := unsigned 64 s.meas.coul
  match i with
  | 0 => c % 2 ^ 32
  | 1 => c / 2 ^ 32
  | 2 => s.meas.coulT % 2 ^ 32
  | _ => s.meas.coulT / 2 ^ 32 % 2 ^ 32

/-- The STATE code of a context (Table 3-1). -/
def CtxState.code : CtxState → Nat
  | .idle => 0
  | .ready => 1
  | .running => 2
  | .waiting => 3
  | .parked => 4

/-- CTX_RUN (Table 3-12): ACTIVE [7:0], PARKED [15:8], WAITING [23:16]. -/
def State.ctxRunWord (s : State) : Nat :=
  (allCtx.map fun c =>
    let v := s.ctx c
    2 ^ c.val * (if v.isRunnable then 1 else if v.state = .waiting then 1 + 2 ^ 16 else if v.state = .parked then 2 ^ 8 else 0)).sum

/-! ## Banks (Table 7-5) -/

def State.regNat (s : State) (k : Nat) : Nat := (s.reg k).toNat

/-- Register `off` of each channel in `0 … n − 1`. -/
def State.chanWords (s : State) (off n : Nat) : List Nat := (List.range n).map fun i => s.regNat (off + 0x10000 * i)

def State.seqWords (s : State) (off n : Nat) : List Nat := (List.range n).map fun i => s.regNat (off + 4 * i)

/-- Words of a block that runs; zeros of a block that is off (R327), the host port's too while it is disabled. -/
def onlyIf (b : Bool) (l : List Nat) : List Nat := if b then l else l.map fun _ => 0

/-- Words 0x010 to 0x01C: power state and role, temperature, energy ledger. -/
def State.bankLow (s : State) : List Nat :=
  [s.powerState + 2 ^ 8 * s.role, s.fld Reg.CLK_TEMP.MC, s.fld Reg.CLK_ELED_LO.VALUE, s.fld Reg.CLK_ELED_HI.VALUE]

/-- Words 0x0A8 and 0x0AC: the sentinels. -/
def State.bankSent (s : State) : List Nat := onlyIf s.hasCells [s.regNat 0x206C, s.regNat 0x2070]

/-- Words 0x020 to 0x0A4. -/
def State.bankMeas (s : State) : List Nat :=
  let cells := s.frontRuns
  let chans := fun off => onlyIf cells (s.chanWords off 13) ++ [s.regNat (off + 0x10000 * 13)]
    ++ onlyIf cells [s.regNat (off + 0x10000 * 14)] ++ [s.regNat (off + 0x10000 * 15)]
  chans 0x2804 ++ chans 0x2808 ++ [s.measBusyWord, s.regNat 0x200C]

/-- A result carries BLEED_COMP (R355). -/
def State.anyComp (s : State) : Bool := (s.chanWords 0x2804 12).any fun w => bitAt w 28

/-- Words 0x0B0 to 0x1A0. -/
def State.bankRest (s : State) : List Nat :=
  let port := fun off => s.chanWords off 4
  let fenced := ((List.range 4).map fun p => if s.flag Reg.PORT_ST.FENCED p then 2 ^ p else 0).sum
  onlyIf s.hasCells [s.regNat 0x2084] ++ onlyIf s.frontRuns ((List.range 4).map s.coulWord) ++ s.seqWords 0x2040 8
    ++ onlyIf s.hasCells (s.chanWords 0x4804 6 ++ s.chanWords 0x4814 6 ++
      [s.ladle.closed + (if allShuttles.any fun k => s.flag Reg.BAL_ST.PAUSED k then 2 ^ 16 else 0)
        + if s.anyComp then 2 ^ 17 else 0])
    ++ port 0x5808 ++ port 0x580C
    ++ [s.fld Reg.FAB_UP.ACTIVE + (if s.flag Reg.FAB_UP.ONSEC then 4 else 0) + 16 * fenced, s.ctxRunWord]
    ++ allCtx.map (fun c => (s.ctx c).pc.toNat)
    ++ (List.range 4).map (fun n => s.regNat (Reg.DMA_STAT.STATE.base + Reg.DMA_STAT.STATE.stride * n))
    ++ (List.range 4).map (fun n => s.regNat (Reg.DMA_CURN.VALUE.base + Reg.DMA_CURN.VALUE.stride * n))
    ++ [withBits (s.regNat 0x7000) 13 1 (if s.scanHolds then 1 else 0), s.regNat Reg.BBX_STAT.READY.base, (s.bbx.nextSeq - 1).toNat]
    ++ onlyIf s.hasSafety [s.safe.raw % 2 ^ 8 + 2 ^ 8 * (s.safe.accA % 2 ^ 8), s.fld Reg.SAFE_DSRC.SRC, s.regNat 0x9020,
      s.regNat 0x9034 + 2 ^ 20 * s.fld Reg.SAFE_FB.ACC, s.fld Reg.SEAL_RAW.WORD]
    ++ onlyIf (s.flag Reg.HOST_CFG.EN) [s.regNat 0xB008]

/-- Words written from offset 4·`i` on of bank `b`. -/
def State.putBank (s : State) (b i : Nat) : List Nat → State
  | [] => s
  | w :: t => (s.setReg ((if b = 0 then 0x3400 else 0x3C00) + 4 * i) (BitVec.ofNat 32 w)).putBank b (i + 1) t

/-- The first four words: SNO, STAMP, TRIPINFO. -/
def State.bankHead (s : State) (source number : Nat) (late hfoLate : Bool) : List Nat :=
  let sno := number + 2 ^ 16 * source + (if late then 2 ^ 19 else 0) + (if hfoLate then 2 ^ 20 else 0) +
    if s.flag Reg.RT_ST.LOCKED then 2 ^ 21 else 0
  let info := match s.snap.trip with
    | some (src, p, here) => src.toNat + 2 ^ 16 * (p.val % 4) + if here then 2 ^ 18 else 0
    | none => 0
  [sno, s.rackTicks % 2 ^ 32, s.rackTicks / 2 ^ 32 + 2 ^ 16 * s.epoch + 2 ^ 24 * (s.rtime % 64), info]

/-- HFO-domain words of a bank (SNAP_HFO_LATCH, R328). -/
def State.putHfo (s : State) (b : Nat) : State := (s.putBank b 8 s.bankMeas).putBank b 44 s.settleShuttles.bankRest

/-- Word 0 of a bank. -/
def bankBase (bank : Nat) : Nat := if bank = 0 then 0x3400 else 0x3C00

/-- The tick in which a bank last latched. -/
def State.bankAt (s : State) (bank : Nat) : Option Nat := if bank = 0 then s.snap.at0 else s.snap.at1

def State.setBankAt (s : State) (bank : Nat) : State :=
  { s with snap := if bank = 0 then { s.snap with at0 := some s.now } else { s.snap with at1 := some s.now } }

/-- The summary of a trip snapshot, by the words at hand at its trigger (R326). -/
def State.tripRecord (s : State) (bank : Nat) (words : List Nat × List Nat) : State :=
  s.bbxAppend 0x06 true ((words.1 ++ words.2 ++ s.seqWords (bankBase bank + 0x20) 6).flatMap (leBytes 4))

/-- The words of a bank from 0x010 on: the other bank's, when that latched in this tick (R329); else this tick's, the HFO-domain words
with HFO only (R328). -/
def State.fillBank (s : State) (bank : Nat) : State :=
  if s.bankAt (1 - bank) = some s.now then s.putBank bank 4 (s.seqWords (bankBase (1 - bank) + 0x10) 101)
  else
    let s := (s.putBank bank 4 s.bankLow).putBank bank 42 s.bankSent
    if s.hfo then s.putHfo bank else s

/-- The bank's record is handed on; off HFO the bank's HFO-domain words wait, and its record with them (R326, R328). -/
def State.recordLatch (s : State) (source bank : Nat) : State :=
  let words := (s.seqWords (bankBase bank) 4, s.seqWords (bankBase bank + 0xA8) 2)
  let record := source = 4 || source = 5
  if s.hfo then (if record then s.tripRecord bank words else s)
  else { s with snap := { s.snap with hfoLate := s.snap.hfoLate ++ [(bank, if record then some words else none)] } }

/-- The snapshot unit's status after a latch (R322, R324, R325). -/
def State.noteLatch (s : State) (number bank : Nat) : State :=
  let s := (s.setFld Reg.SNAP_ST.LAST number).setBankAt bank
  if bank = 1 then s.setFlag Reg.SNAP_ST.FROZEN true
  else { (if s.snap.acked then s else s.setFlag Reg.SNAP_ST.OVW true) with snap := { s.snap with acked := false } }

/-- SNAPSHOT_LATCH: every set latches in one cycle (R322, R324 to R328), once per bank in a tick (R329). -/
def State.latch (s : State) (source number : Nat) (bank : Nat) (late : Bool) : State :=
  if s.bankAt bank = some s.now then s
  else
    let s := (s.putBank bank 0 (s.bankHead source number late (!s.hfo))).fillBank bank
    ((s.noteLatch number bank).recordLatch source bank).raise Ev.SNAP

/-- With HFO stable the waiting HFO-domain words latch, all in one tick (R329), and the records that waited for them go out (R326, R328). -/
def State.hfoLatch (s : State) : State :=
  let late := s.snap.hfoLate
  let s := forAll late (fun e t => t.putHfo e.1) { s with snap := { s.snap with hfoLate := [] } }
  forAll late (fun e t => match e.2 with
    | some words => t.tripRecord e.1 words
    | none => t) s

/-- The next local number (R318). -/
def State.takeLocal (s : State) : Nat × State :=
  (s.snap.localNo, { s with snap := { s.snap with localNo := (s.snap.localNo + 1) % 2 ^ 15 } })

/-- The next rack number (R318). -/
def State.takeRack (s : State) : Nat × State :=
  (s.fld Reg.SNAP_NEXT.NUMBER + 2 ^ 15, s.update s.now Reg.SNAP_NEXT.NUMBER (s.fld Reg.SNAP_NEXT.NUMBER + 1))

/-- A local latch into bank 0 (sources 1 and 6). -/
def State.latchLocal (s : State) (source : Nat) : State := s.takeLocal.2.latch source s.takeLocal.1 0 false

/-- Source 4: bank 1, or bank 0 while bank 1 is frozen (R325). -/
def State.latchTrip (s : State) (src : BitVec 16) (p : Port) (here : Bool) : State :=
  let s := { s with snap := { s.snap with trip := some (src, p, here) } }
  let n := s.takeLocal
  if s.flag Reg.SNAP_ST.FROZEN then (n.2.latch 4 n.1 0 false).setFlag Reg.SNAP_ST.TRIP2 true else n.2.latch 4 n.1 1 false

/-! ## Broadcasts this die originates (R297, R319, R440) -/

/-- A frame goes out on every usable port. -/
def State.sendUsable (s : State) (f : Frame) (stamp : TimeSrc) : State :=
  forAll (allPorts.filter s.usable) (fun p t => t.enqueue p { TxItem.of f .other with stamp := stamp }) s

/-- TIME on every running port (R296, R297); its PRIO and ACKREQ no rule states (log 15). -/
def State.timeFrame (s : State) : Frame :=
  s.mkFrame Ty.TIME s.defHops (Config.hwPrio 4 % 8) (Config.hwAck 4) 0 (List.replicate 8 0)

def State.originateTime (s : State) : State := if s.isManager then s.sendUsable s.timeFrame .origin else s

/-- The SCHED frame of a rack snapshot (R319): KIND SNAP, its instant and number, no DATA. -/
def State.schedFrame (s : State) (instant number : Nat) : Frame :=
  s.mkFrame Ty.SCHED s.defHops (Config.hwPrio 3 % 8) (Config.hwAck 3) 0
    ([2] ++ leBytes 1 (instant / 2 ^ 48) ++ [0, 0] ++ leBytes 4 instant ++ leBytes 2 (instant / 2 ^ 32) ++ leBytes 2 number)

/-- The SCHED goes out on this die's side and to the partner over the cross-link. -/
def State.sendSched (s : State) (instant number : Nat) : State :=
  let f := s.schedFrame instant number
  (s.sendUsable f .fixed).enqueue xlink (.of { f with ackreq := false } .other)

/-- Source 2: a rack snapshot at compare `k`'s instant; `none` when the compare is disarmed or not later (R319). -/
def State.snapRack (s : State) (k : Fin 4) : Option (Nat × State) :=
  if s.isManager && s.rtcArmed k.val && s.rackNow < s.rtcTarget k.val then
    let n := s.takeRack
    some (n.1, { n.2.sendSched (s.rtcTarget k.val) n.1 with snap := { n.2.snap with tied := n.2.snap.tied ++ [(k, n.1)] } })
  else none

/-- SNAP_CTL.GO (R317, R319). -/
def State.snapGo (s : State) (k : Fin 4) : State :=
  if s.isManager then
    match s.snapRack k with
    | some r => r.2
    | none => s.setFlag Reg.SNAP_ST.REFUSED true
  else s.latchLocal 1

/-- This die originates rack time: a manager that does not follow its partner (R26). -/
def State.isOrigin (s : State) : Bool := s.isManager && !s.flag Reg.RT_ST.XLINK

/-- TRIP_FOLLOWUP_ARM: a TRIP that begins or arrives arms a rack snapshot, unless one is pending (R320). -/
def State.followUp (s : State) : State :=
  if s.isOrigin && s.flag Reg.RT_CFG.TSNAP && s.snap.follow.isNone then
    let n := s.takeRack
    let t := (s.rackNow + 240 * s.fld Reg.RT_CFG.TLEAD) % 2 ^ 56
    { n.2.sendSched t n.1 with snap := { n.2.snap with follow := some (t, n.1) } }
  else s

/-! ## Compares (R289 to R294) -/

def State.disarm (s : State) (k : Nat) : State := s.setBitOf Reg.RTC_ST.ARMED k false

/-- RTC_FIRE (R290, R292): compare `k` fires, by a correction when `jump`. -/
def State.rtcFire (s : State) (k : Fin 4) (jump : Bool) : State :=
  let s := (s.disarm k.val).setBitOf Reg.RTC_ST.MATCH k.val true
  let s := if jump then s.setBitOf Reg.RTC_ST.JUMP k.val true else s
  let s := (s.raise (Ev.RTC0 + k.val)).measFire k jump
  let s := forAll allDma (fun n t => if (t.dmaCh n).waitRtc = some k then
      (t.setDma n { t.dmaCh n with waitRtc := none }).setFld Reg.DMA_STAT.STATE 1 n
    else t) s
  let tied := s.snap.tied.filter fun e => e.1 = k
  let s := { s with snap := { s.snap with tied := s.snap.tied.filter fun e => e.1 ≠ k } }
  let s := forAll tied (fun e t => t.latch 2 e.2 0 jump) s
  if s.bitOf Reg.RT_CFG.TGEN k.val then s.originateTime else s

/-- Compare `k` fires now when its target has come (R290). -/
def State.fireIfDue (s : State) (k : Fin 4) (jump : Bool) : State :=
  if s.rtcArmed k.val && s.rtcTarget k.val ≤ s.rackNow then s.rtcFire k jump else s

/-- RTCk_LO: the target's low word; compare k is disarmed. A firing of this tick comes first (R293). -/
def State.writeRtcLo (s : State) (k : Fin 4) (w : Nat) : State := (((s.fireIfDue k false).setFld Reg.RTC_LO.TIME w k.val).disarm k.val).endQuiet k

/-- RTC_CTL.DISARM of compare `k` (R294). -/
def State.disarmRtc (s : State) (k : Fin 4) : State := ((s.fireIfDue k false).disarm k.val).endQuiet k

/-- RTCk_HI arms compare k, its epoch resolved, or sets PAST. A firing of this tick comes first (R293). -/
def State.writeRtcHi (s : State) (k : Fin 4) (w : Nat) : State :=
  let s := (s.fireIfDue k false).endQuiet k
  let k := k.val
  let s := (s.setReg (Reg.RTC_HI.TIME.base + Reg.RTC_HI.TIME.stride * k) (BitVec.ofNat 32 (w % 2 ^ 24 + w / 2 ^ 31 * 2 ^ 31))).disarm k
  let t48 := s.fld Reg.RTC_HI.TIME k * 2 ^ 32 + s.fld Reg.RTC_LO.TIME k
  let epoch := if s.flag Reg.RTC_HI.EPV k then s.fld Reg.RTC_HI.EPOCH k
    else if s.rackTicks < t48 then s.epoch else (s.epoch + 1) % 256
  if epoch * 2 ^ 48 + t48 ≤ s.rackNow then s.setBitOf Reg.RTC_ST.PAST k true
  else (s.setFld Reg.RTC_HI.EPOCH epoch k).setBitOf Reg.RTC_ST.ARMED k true

def allRtc : List (Fin 4) := [0, 1, 2, 3]

/-- RTC_FIRE: an armed compare's target comes; what is tied to it is made ready in its time. In SHIP rack time does not run (R686). -/
def execRtcFire (k : Fin 4) (s : State) : Host.Outcome State Fault Refusal :=
  .next (if s.rtcArmed k.val && !s.rackStill then ((s.beforeFire k).reachTick (s.rtcTarget k.val)).rtcFire k false else s)

/-- EPOCH_WRAP: the count passes its greatest value (R284). -/
def execEpochWrap (s : State) : Host.Outcome State Fault Refusal := .next (s.reachTick ((s.epoch + 1) * 2 ^ 48))

/-- The count at which EPOCH_WARN is raised: 24 h before the wrap (R285). -/
def warnCount : Nat := 0xFE1D33CF0000

/-- EPOCH_WARN, once per epoch; not while rack time stands still (R288, R686). -/
def execEpochWarn (s : State) : Host.Outcome State Fault Refusal :=
  .next (if s.snap.warned = some s.epoch || s.rackStill then s
    else
      let s := s.reachTick (s.epoch * 2 ^ 48 + warnCount)
      { s with snap := { s.snap with warned := some s.epoch } }.raise Ev.EPOCH_WARN)

/-- The period of TIME runs: on a MANAGER-role die, with HFO, while PER is not 0 (R297). -/
def State.timeRuns (s : State) : Bool := s.isManager && s.hfo && s.fld Reg.RT_CFG.PER ≠ 0

/-- TIME_ORIGINATE: every PER × 10 µs (R297). -/
def execTimeOriginate (s : State) : Host.Outcome State Fault Refusal :=
  .next (if s.timeRuns then
      let s := s.reach (s.snap.timeAt + us (10 * s.fld Reg.RT_CFG.PER))
      { s with snap := { s.snap with timeAt := s.now } }.originateTime
    else s)

/-! ## TIME applied (R302 to R306, R309) -/

/-- A signed quantity that saturates in 32 bits. -/
def sat32 (i : Int) : Nat := unsigned 32 (max (-2 ^ 31) (min (2 ^ 31 - 1) i))

/-- Rack time at the SOF's arrival, in 1/64 tick modulo 2^62, that a TIME payload and a link delay give. -/
def timeValue (b : List Byte) (delay : Nat) : Nat :=
  (fieldOf b 7 1 * 2 ^ 54 + fieldOf b 3 4 * 2 ^ 22 + fieldOf b 0 3 + delay) % 2 ^ 62

/-- `r` less the die's own rack time, as a signed correction. -/
def State.timeDiff (s : State) (r : Nat) : Int := signed 62 (unsigned 62 ((r : Int) - s.rtime))

/-- The snapshot unit's own compare fires: a SCHED's (R315), or the trip follow-up's (R320). -/
def State.snapFire (s : State) (follow late : Bool) : State :=
  if follow then
    match s.snap.follow with
    | some e => { s with snap := { s.snap with follow := none } }.latch 5 e.2 0 late
    | none => s
  else
    match s.snap.armed with
    | some e => { s with snap := { s.snap with armed := none } }.latch 3 e.2 0 late
    | none => s

/-- The snapshot unit's own instant fires if it has come, late when it was passed. -/
def State.snapIfDue (s : State) (follow : Bool) : State :=
  match if follow then s.snap.follow else s.snap.armed with
  | some e => if e.1 ≤ s.rackNow then s.snapFire follow (decide (e.1 < s.rackNow)) else s
  | none => s

/-- Compares, the snapshot unit's too, whose targets have come fire; those that a forward step carried past their targets with JUMP and
LATE (R290, R292). -/
def State.fireDue (s : State) : State :=
  ((forAll allRtc (fun k t => t.fireIfDue k (decide (t.rtcTarget k.val < t.rackNow))) s).snapIfDue true).snapIfDue false

/-- Those whose targets have come without a step fire first. -/
def State.firePast (s : State) : State :=
  let fire := fun (follow : Bool) (t : State) => if (if follow then t.snap.follow else t.snap.armed).any fun e => e.1 ≤ t.rackNow then t.snapFire follow false else t
  fire false (fire true (forAll allRtc (fun k t => t.fireIfDue k false) s))

/-- The count takes the corrected value: a step forward, a hold, a step back, or the first setting (R303, R306). -/
def State.setRack (s : State) (r : Nat) : State :=
  let d := s.timeDiff r
  let s := s.firePast
  if !s.flag Reg.RT_ST.SET then ({ s with rtime := r, rtHold := 0 }).fireDue
  else if 0 ≤ d then ({ s with rtime := r, rtHold := 0 }).fireDue
  else if -d ≤ 64 * 2400 then { s with rtHold := d.natAbs }
  else { s with rtime := r, rtHold := 0 }.setFlag Reg.RT_ST.BACK true

/-- A TIME frame is applied (R302). What an interval line test has to cross is not passed by the first setting, nor passed by a step back
and crossed again unseen (R468). -/
def State.applyTime (s : State) (p : Port) (r : Nat) : State :=
  let d := s.timeDiff r
  let was := s.flag Reg.RT_ST.LOCKED
  let set := s.flag Reg.RT_ST.SET
  let s := s.setRack r
  let s := ((s.setFlag Reg.RT_ST.SET true).setFlag Reg.RT_ST.LOCKED true).setFld Reg.RT_LASTCORR.CORR (sat32 d)
  let s := if p = xlink then s.setFlag Reg.RT_ST.XLINK true else s.setFld Reg.RT_ST.PORT p.val
  (({ s with lastTime := some s.now, lt := { s.lt with since := if set then min s.lt.since s.rackNow else s.rackNow }
             power := { s.power with rackHeard := some (r / 64), lfoAt := if was then s.power.lfoAt else s.now } }).timeHeard (signed 32 (sat32 d))).raise Ev.TIME_RX

/-- LOCK_STALE: RT_AGE passes STALE × 250 µs (R304). -/
def execLockStale (s : State) : Host.Outcome State Fault Refusal :=
  .next (match s.lastTime with
    | some t =>
      if s.flag Reg.RT_ST.LOCKED then
        ((s.reach (t + us (250 * max 1 (s.fld Reg.RT_CFG.STALE)) + 1)).setFlag Reg.RT_ST.LOCKED false).setFlag
          Reg.RT_ST.XLINK false
      else s
    | none => s)

/-! ## SCHED (R312 to R316, R780) -/

/-- The SRC of a TIME or SCHED is believed (R302, R313). -/
def State.srcTrusted (s : State) (src : BitVec 16) : Bool := !s.sealed || src = s.mgrA || src = s.mgrB

def State.schedGood (s : State) (f : Frame) : Bool :=
  12 ≤ f.payload.length && fieldOf f.payload 0 1 % 4 ≠ 0 && s.srcTrusted f.src

/-- The instant that a SCHED names. -/
def schedInstant (b : List Byte) : Nat := fieldOf b 1 1 * 2 ^ 48 + fieldOf b 8 2 * 2 ^ 32 + fieldOf b 4 4

/-- The SNAP part of a valid SCHED: the first copy of a number arms the unit's compare, or latches at once (R315, R316). -/
def State.schedSnap (s : State) (b : List Byte) : State :=
  let n := fieldOf b 10 2
  if !bitAt (fieldOf b 0 1) 1 || s.snap.lastSnap = some n then s
  else
    let t := schedInstant b
    let s := { s with snap := { s.snap with lastSnap := some n } }
    if t ≤ s.rackNow then (s.latch 3 n 0 true).setFlag Reg.SNAP_ST.MISSED true
    else { s with snap := { s.snap with armed := some (t, n) } }

/-- The SWEEP part: the first copy of a number raises SCHED_RX and enters a receive queue (R314). -/
def State.schedSweep (s : State) (f : Frame) (p : Port) : State :=
  let n := fieldOf f.payload 2 2
  if !bitAt (fieldOf f.payload 0 1) 0 || s.snap.lastSweep = some n then s
  else ({ s with snap := { s.snap with lastSweep := some n } }.raise Ev.SCHED_RX).rxPut f p

/-- The instants of SCHEDs that the die holds for later (R65; log 29), with one more. -/
def State.holdSched (s : State) (t : Nat) : State :=
  { s with snap := { s.snap with scheds := ((s.snap.scheds.filter fun u => u ≠ t) ++ [t]).filter fun u => s.rackNow < u } }

/-- A SCHED is no later copy of its sweep or snapshot number (R58, R314, R315, R780). -/
def State.schedNew (s : State) (b : List Byte) : Bool :=
  (bitAt (fieldOf b 0 1) 0 && s.snap.lastSweep ≠ some (fieldOf b 2 2)) || (bitAt (fieldOf b 0 1) 1 && s.snap.lastSnap ≠ some (fieldOf b 10 2))

/-- A delivered SCHED; the instant of a later copy is not held. -/
def State.takeSched (s : State) (f : Frame) (p : Port) : State :=
  if s.schedGood f then
    let s := { s with power := { s.power with guardAt := none } }
    ((if s.schedNew f.payload then s.holdSched (schedInstant f.payload) else s).schedSnap f.payload).schedSweep f p
  else s.count Reg.SCHED_BAD.COUNT

/-- SNAPSHOT_COMPARE_FIRE: the earlier of the unit's own instants comes and fires (R315, R320); not while rack time stands still
(R288, R686). -/
def execSnapshotCompareFire (s : State) : Host.Outcome State Fault Refusal :=
  .next (if s.rackStill then s else match s.snap.armed, s.snap.follow with
    | some e, some g => if g.1 < e.1 then (s.reachTick g.1).snapFire true false else (s.reachTick e.1).snapFire false false
    | some e, none => (s.reachTick e.1).snapFire false false
    | none, some g => (s.reachTick g.1).snapFire true false
    | none, none => s)

/-- SNAP_HFO_LATCH: with HFO stable the waiting HFO-domain words latch (R328). -/
def execSnapHfoLatch (s : State) : Host.Outcome State Fault Refusal := .next (if s.hfo then s.hfoLatch else s)

end Sys2Proof.Machine
end

