-- ==== Sys2Proof/Machine/Sentinel.lean ====
section
/-! DEFINITION. The sentinels (chapter 6, R251 to R260), the hardware TRIP frame (R394, R395), lifeline ALARM (R417). -/

namespace Sys2Proof.Machine

/-! ## Lifeline ALARM (R414, R417) -/

/-- One ALARM pattern, of eight pulses over 177 µs (Table 9-12). -/
def State.sendAlarm (s : State) (p : Port) : State :=
  (s.modPort p fun v => { v with alarmsSent := v.alarmsSent + 1, alarmAt := s.now, llUntil := s.now + us 177 }).didWork 8 8

/-- An enabled port begins to repeat ALARM (R367); a pattern goes out only while HFO runs (R414), the first once it does. -/
def State.startAlarm (s : State) (p : Port) : State :=
  if !s.portOn p then s
  else
    let s := (s.modPort p fun v => { v with alarmUntil := some (s.now + ms 10000), alarmAt := s.now - ms 1 }).setFlag
      Reg.PORT_ST.ALARM_TX true p
    if s.hfo then s.sendAlarm p else s

/-- ALARM on each of the ports that `ok` admits. -/
def State.alarmOn (s : State) (ok : Port → Bool) : State := forAll (allPorts.filter ok) (fun p t => t.startAlarm p) s

/-- ALARM_REPEAT: every 1 ms while the port repeats ALARM. -/
def execAlarmRepeat (p : Port) (s : State) : Host.Outcome State Fault Refusal :=
  .next (if (s.port p).alarmUntil.isSome && s.portOn p && s.hfo then (s.reach ((s.port p).alarmAt + ms 1)).sendAlarm p else s)

/-- ALARM_GIVE_UP: ALARM has been repeated for 10 s without a valid frame. -/
def execAlarmGiveUp (p : Port) (s : State) : Host.Outcome State Fault Refusal :=
  .next (match (s.port p).alarmUntil with
    | some t => ((s.reach t).modPort p fun v => { v with alarmUntil := none }).setFlag Reg.PORT_ST.ALARM_TX false p
    | none => s)

/-! ## The TRIP frame -/

/-- Table 9-7. -/
def State.tripPayload (s : State) (kind : Byte) : List Byte :=
  [kind] ++ leBytes 1 s.epoch ++ leBytes 2 (s.fld Reg.SENT_ST.OV) ++ leBytes 2 (s.fld Reg.SENT_ST.UV) ++ leBytes 6 s.rackTicks

/-- A TRIP this die builds is given to a port; a Primer there ends first (R467), and at a line without a link it waits until the link
runs, whoever starts it (R255; log 9). -/
def State.enqueueTrip (s : State) (p : Port) (f : Frame) : State :=
  let i := TxItem.of f .other
  if s.inPrimer p || !s.linkAlive p then
    (s.abortPrimer p).await p i
  else s.enqueue p i

/-- The TRIP of a sentinel trip goes out (R394, R395, R428). -/
def State.sendTrip (s : State) (kind : Byte) : State :=
  let mk := fun d => s.mkFrame Ty.TRIP s.defHops 0 true d (s.tripPayload kind)
  match s.primPort, s.secPort with
  | none, none =>
    let dest := if s.sealed then s.mgrA else 0
    let s := forAll (allPorts.filter fun p => s.link p = Link.UP && s.check p = 2) (fun p t => t.enqueueTrip p (mk dest)) s
    s.alarmOn fun p => s.portOn p && (s.link p = Link.ASLEEP || s.link p = Link.DOWN)
  | prim, sec =>
    let s1 := match prim with
      | some p => s.enqueueTrip p (mk (s.upDest false))
      | none => s
    match sec with
    | some p => if prim = some p then s1 else s1.enqueueTrip p (mk (s.upDest true))
    | none => s1

/-! ## Samples -/

/-- Consecutive samples to trip: 0 and 9 to 15 act as 8 (Table 6-9). -/
def State.sentCount (s : State) : Nat :=
  let c := s.fld Reg.SENT_CFG.COUNT
  if 1 ≤ c && c ≤ 8 then c else 8

/-- SENT_OV is not at least 20 codes above SENT_UV (R258). -/
def State.cfgBad (s : State) : Bool := s.fld Reg.SENT_OV.CODE < s.fld Reg.SENT_UV.CODE + 20

/-- A comparator's live bit after a sample that is beyond its threshold, or 20 mV inside it (R253). -/
def liveAfter (was beyond inside : Bool) : Bool := beyond || (was && !inside)

def countAfter (old : Nat) (beyond : Bool) : Nat := if beyond then min 9 (old + 1) else 0

def countOf (v : Vector Nat 12) (n : Nat) : Nat := v.toList.getD n 0

def setCount (v : Vector Nat 12) (n k : Nat) : Vector Nat 12 := if h : n < 12 then v.set n k h else v

/-- One comparator pair takes one sample. -/
def State.sampleCell (s : State) (n : Nat) (v : Int) : State :=
  let above := decide (s.ovLimit n < v)
  let under := decide (v < s.uvLimit n)
  let s1 := s.setBitOf Reg.SENT_LIVE.OV n (liveAfter (s.bitOf Reg.SENT_LIVE.OV n) above (decide (v ≤ s.ovLimit n - 20000)))
  let s1 := s1.setBitOf Reg.SENT_LIVE.UV n (liveAfter (s.bitOf Reg.SENT_LIVE.UV n) under (decide (s.uvLimit n + 20000 ≤ v)))
  { s1 with meas := { s1.meas with
    sentOver := setCount s1.meas.sentOver n (countAfter (countOf s1.meas.sentOver n) above)
    sentUnder := setCount s1.meas.sentUnder n (countAfter (countOf s1.meas.sentUnder n) under) } }

/-- Channels whose count has just reached COUNT. -/
def State.reached (s : State) (v : Vector Nat 12) : Nat :=
  (((List.range 12).filter fun n => s.bitOf Reg.SENT_CFG.MASK n && countOf v n = s.sentCount).map fun n => 2 ^ n).sum

/-- SENT_ST bits that a trip sets: how many go from 0 to 1. -/
def newBits (was hit : Nat) : Nat := ((List.range 12).filter fun n => bitAt hit n && !bitAt was n).length

/-- `n` TRIP frames of one kind go out. -/
def State.sendTrips (s : State) (kind : Byte) : Nat → State
  | 0 => s
  | n + 1 => (s.sendTrip kind).sendTrips kind n

/-- SENTINEL_TRIP (R254 to R256): the bits, the snapshot with its record (R326), SENTINEL, the Ladle, the wake, a TRIP frame for each
bit that has gone from 0 to 1. A TRIP originated raises TRIP_SEEN (Table 3-4). -/
def State.sentTrip (s : State) (ov uv : Nat) : State :=
  let n := newBits (s.fld Reg.SENT_ST.OV) ov + newBits (s.fld Reg.SENT_ST.UV) uv
  let low := s.power.below = 2 || s.power.below = 3
  let s := (s.strike Reg.SENT_ST.OV ov).strike Reg.SENT_ST.UV uv
  let s := s.latchTrip s.addr 0 true
  let s := ((s.raise Ev.SENTINEL).ladleTrip).wake 2
  let s := if low then s.alarmOn fun p => s.link p = Link.ASLEEP else s
  let kind : Byte := if s.flag Reg.SENT_ST.CFGERR then 4 else if uv = 0 then 1 else if ov = 0 then 2 else 3
  if n = 0 then s else (s.sendTrips kind n).raise Ev.TRIP_SEEN

/-- The sentinels run: CELL and TRAY roles, every state but SHIP (Tables 1-1, 6-3). -/
def State.sentRuns (s : State) : Bool := s.hasCells && s.power.below ≠ 4 && !s.boot.inReset && s.boot.straps

/-- A sample of the twelve cells, in µV. -/
def State.sentSample (s : State) (cells : List Int) : State :=
  if s.sentRuns then
    let on := (List.range 12).filter fun n => s.bitOf Reg.SENT_CFG.MASK n
    let bad := s.cfgBad
    let s := forAll on (fun n t => t.sampleCell n (cells.getD n 0)) s
    let s := s.setFlag Reg.SENT_ST.CFGERR bad
    let all := (on.map fun n => 2 ^ n).sum
    let ov := s.reached s.meas.sentOver
    let uv := s.reached s.meas.sentUnder
    let ov := if bad then Nat.lor ov (all - Nat.land all (s.fld Reg.SENT_ST.OV)) else ov
    let uv := if bad then Nat.lor uv (all - Nat.land all (s.fld Reg.SENT_ST.UV)) else uv
    let s := if ov = 0 && uv = 0 then s else s.sentTrip ov uv
    let waits := fun (v : Vector Nat 12) => on.any fun n => 0 < countOf v n && countOf v n < s.sentCount
    s.setFlag Reg.SENT_ST.CONFIRM (s.asleep && (waits s.meas.sentOver || waits s.meas.sentUnder))
  else s

/-- Ticks between samples (Table 6-3): 10 kHz, below DOZE 4 Hz, or 8,192 Hz to confirm. -/
def State.samplePeriod (s : State) : Nat :=
  if !s.asleep then us 100 else if s.flag Reg.SENT_ST.CONFIRM then 2930 else ms 250

/-- SENTINEL_SAMPLE: the next sample comes in its time (R251). -/
def execSentinelSample (cells : List Int) (s : State) : Host.Outcome State Fault Refusal :=
  .next (if s.sentRuns then
      let s := s.reach (s.meas.sentAt + s.samplePeriod)
      { s with meas := { s.meas with sentAt := s.now } }.sentSample cells
    else s)

/-- A write of SENT_ST: a bit whose live bit is set stays (R256), and one set in this tick (R13). -/
def State.writeSentSt (s : State) (w : Nat) : State :=
  let w := (BitVec.ofNat 32 w &&& ~~~(s.freshBits Reg.SENT_ST.OV.base)).toNat
  let clear := fun (st live hit : Nat) => st - Nat.land st (hit - Nat.land hit live)
  (s.setFld Reg.SENT_ST.OV (clear (s.fld Reg.SENT_ST.OV) (s.fld Reg.SENT_LIVE.OV) (bitsAt w 0 12))).setFld Reg.SENT_ST.UV
    (clear (s.fld Reg.SENT_ST.UV) (s.fld Reg.SENT_LIVE.UV) (bitsAt w 16 12))

/-- Every sample count restarts (R257). -/
def State.restartCounts (s : State) : State :=
  { s with meas := { s.meas with sentOver := Vector.replicate 12 0, sentUnder := Vector.replicate 12 0 } }

end Sys2Proof.Machine
end

