-- ==== Sys2Proof/Machine/Coils.lean ====
section
/-! DEFINITION. The safety block's demand sources (R529 to R535), torque pin, coils (R557 to R566), safe states (R578 to
R580) and the join engine that commands coils (R648 to R655). -/

namespace Sys2Proof.Machine

/-! ## Sources (Table 13-1) -/

namespace Src
def TPO : Nat := 4
def CHB : Nat := 5
def MODE : Nat := 6
def SEALJOB : Nat := 7
def PROG : Nat := 8
def WDOG : Nat := 9
def TRQRB : Nat := 10
def PARTOFF : Nat := 11
def COIL : Nat := 12
def XLINK : Nat := 13
def SEQRST : Nat := 14
def NOPARAM : Nat := 15
def LOAD : Nat := 16
end Src

def State.dsrc (s : State) : Nat := s.fld Reg.SAFE_DSRC.SRC

/-- State of pair `j` in a word of two bits per pair: 0 INIT, 1 RELEASED, 2 DEMAND, 3 FAULT. -/
def pairSt (w j : Nat) : Nat := bitsAt w (2 * j) 2

/-- The PAIR sources of pair states: every pair but a RELEASED one. -/
def pairMask (w : Nat) : Nat := ((List.range 4).map fun j => if pairSt w j = 1 then 0 else 2 ^ j).sum

/-- Channel B's demand word: its own pairs, and the sources that both channels see (R530, R531). -/
def State.chbWord (s : State) : Nat := pairMask s.safe.pairsB + s.dsrc / 16 * 16

/-- The safety mode (Table 13-10). -/
def State.safeMode (s : State) : Nat := s.fld Reg.SAFE_ST.MODE

/-! ## Coil phases (Table 13-4) and feedback -/

def phaseFld (n : Nat) : Fld := ⟨0x9034, 0, 4 * n, 3⟩

def State.phase (s : State) (n : Nat) : Nat := s.fld (phaseFld n)

def State.coilOn (s : State) (n : Nat) : Bool := s.bitOf Reg.SAFE_CON.ON n

/-- Hardware clears ON bit `n` (R15). -/
def State.hwOff (s : State) (n : Nat) : State := s.update s.now Reg.SAFE_CON.ON (withBits (s.fld Reg.SAFE_CON.ON) n 1 0)

def State.coilTime (s : State) (n : Nat) : Nat := s.safe.coilAt.toList.getD n 0

/-- FBn's accepted level is high: the main contact is open. -/
def State.fbHigh (s : State) (n : Nat) : Bool := s.bitOf Reg.SAFE_FB.ACC n

/-- FBn takes part in the checks (R563). -/
def State.fbUsed (s : State) (n : Nat) : Bool := n ≠ 3 || s.flag Reg.SAFE_CONCFG.FB3EN

def State.allOff (s : State) : Bool := (List.range 4).all fun n => s.phase n = 0

/-- Channel B's own demand word is 0 or not, and since when (R531). -/
def State.noteChb (s : State) : State :=
  { s with safe := { s.safe with chbAt := if s.chbWord = 0 then none else some (s.safe.chbAt.getD s.now) } }

/-- The high-side switch of coil `n` is on. -/
def State.highSide (s : State) (n : Nat) : Bool := s.flag ⟨0x9034, 0, 17 + n / 2, 1⟩

/-- CON_In of a coil in phase `ph` whose switch is on: within 10 % of the regulated current (Table 13-4), read within 3 % and 20 mA
(Table 20-8); else it carries no current. -/
def State.phaseAmps (s : State) (ph : Nat) : Nat :=
  match ph with
  | 2 => 2163 + Config.coilBand s.free 2 % 690
  | 3 => 504 + Config.coilBand s.free 3 % 196
  | _ => 0

/-- Coil `n` carries the current of its phase, its high-side switch on, or none (R557, R558). -/
def State.setAmps (s : State) (n : Nat) (on : Bool) : State :=
  { s with free := if on then s.free + 1 else s.free }.setFld Reg.CON_I.MA (if on then s.phaseAmps (s.phase n) else 0) n

/-- Coil `n` is in HOLD without current since its switch was off as a demand ended: it stays so until its ON bit is set again (R579). -/
def State.isCut (s : State) (n : Nat) : Bool := bitAt s.safe.cut n

/-- HSA or HSB is on or off, and the current of its coils follows (R557). -/
def State.putSwitch (s : State) (w : Nat) (on : Bool) : State :=
  let f : Fld := ⟨0x9034, 0, 17 + w, 1⟩
  let s1 := s.setFlag f on
  if on = s.flag f then s1 else (s1.setAmps (2 * w) (on && !s.isCut (2 * w))).setAmps (2 * w + 1) (on && !s.isCut (2 * w + 1))

/-- HSA or HSB (`w` 0 or 1): on while a coil of it is not OFF, VCOIL is there and channel B has not turned it off; it turns on
only with channel B's demand word 0 (R557, R562, R766; log 16), and for a coil that a demand has cut off not by itself (R579). -/
def State.syncSwitch (s : State) (w : Nat) : State :=
  let f : Fld := ⟨0x9034, 0, 17 + w, 1⟩
  let live := fun (n : Nat) => s.phase n ≠ 0 && !s.isCut n
  let on := (live (2 * w) || live (2 * w + 1)) && s.flag Reg.SYS_SUPPLY.COIL_OK && !s.safe.chbOff &&
    (s.flag f || s.chbWord = 0)
  s.putSwitch w on

def State.syncSwitches (s : State) : State := (s.noteChb.syncSwitch 0).syncSwitch 1

/-- Coil `n` enters phase `ph`, whose time counts from `t`, with the current of the phase while its switch is on. WAIT begins no feedback
window, so the time of the last PICKUP or OPENING stays (Table 13-5). -/
def State.setPhase (s : State) (n ph t : Nat) : State :=
  let at_ := if h : n < 4 ∧ ph ≠ 1 then s.safe.coilAt.set n t h.1 else s.safe.coilAt
  let low := if s.fbHigh n then 0 else 1
  let f := { s.safe with
    coilAt := at_
    cut := withBits s.safe.cut n 1 0
    picked := if ph = 2 then withBits s.safe.picked n 1 1 else s.safe.picked
    closed := if ph = 2 then withBits s.safe.closed n 1 low else s.safe.closed }
  ({ s with safe := f }.setFld (phaseFld n) ph).setAmps n (s.highSide n)

/-- The other coil of a coil's high-side switch. -/
def mate (n : Nat) : Nat := if n % 2 = 0 then n + 1 else n - 1

/-- Coil `n` enters phase `ph`; as it leaves PICKUP, a coil that waits for it picks up (R561). -/
def State.putPhase (s : State) (n ph t : Nat) : State :=
  let left := s.phase n = 2 && ph ≠ 2
  let s := s.setPhase n ph t
  (if left && s.phase (mate n) = 1 then s.setPhase (mate n) 2 s.now else s).syncSwitches

/-- Coil `n` goes to OPENING; a deferred opening of CON0 ends with CON1's (R559, R564). -/
def State.openCoil (s : State) (n : Nat) : State :=
  let go := fun (n : Nat) (s : State) => if s.phase n = 0 || s.phase n = 4 then s else s.putPhase n 4 s.now
  let s := go n s
  let s := if n = 0 then s.setFlag Reg.SAFE_CONST.HANDOVER false else s
  if n = 1 && s.flag Reg.SAFE_CONST.HANDOVER then (go 0 s).setFlag Reg.SAFE_CONST.HANDOVER false else s

/-- Coil `n` goes to OFF with its ON bit cleared; feedback windows count on from its pick-up. A coil that waits for it picks up (R561),
unless this begins a demand (R565). -/
def State.coilOff (s : State) (n : Nat) (inDemand : Bool) : State :=
  let t := if s.phase n = 3 then s.coilTime n - ms 50 else s.coilTime n
  let s := s.hwOff n
  let s := if inDemand then (s.setPhase n 0 t).syncSwitches else s.putPhase n 0 t
  let s := if n = 0 then s.setFlag Reg.SAFE_CONST.HANDOVER false else s
  if n = 1 && s.flag Reg.SAFE_CONST.HANDOVER then s.openCoil 0 else s

/-- COIL_OPEN or NOCLOSE takes coil `n` OFF (R563). -/
def State.killCoil (s : State) (n : Nat) : State := s.coilOff n false

/-- Coil `n` is taken OFF by a demand, or with one (R562, R563, R565). -/
def State.stopCoil (s : State) (n : Nat) : State := s.coilOff n true

/-- Every coil in HOLD goes to OPENING, its ON bit cleared (R565, R578). -/
def State.openHold (s : State) : State :=
  let hold := (List.range 4).filter fun n => s.phase n = 3
  forAll hold (fun n t => (t.hwOff n).openCoil n) s

/-! ## The torque pin (R549 to R551) -/

/-- The driven pin follows its two switches. -/
def State.syncPin (s : State) : State :=
  let on := s.flag Reg.SAFE_TRQ.DRIVES && s.flag Reg.SAFE_TRQ.PERMIT && s.dsrc = 0 && s.safeMode = 1 && s.chbWord = 0 &&
    !s.safe.chbOff
  if on = s.flag Reg.SAFE_TRQ.OWN then s
  else
    let f := { s.safe with ownHigh := if on then some s.now else none, partSeen := on && s.flag Reg.SAFE_TRQ.PART,
                           partLow := none, partMiss := 0 }
    { s.setFlag Reg.SAFE_TRQ.OWN on with safe := f }

/-- An active source leads to SD (SAFE_SDMASK). -/
def State.sdWanted (s : State) : Bool := s.isManager && Nat.land s.dsrc (s.fld Reg.SAFE_SDMASK.SRC) ≠ 0

/-- Under a source of SAFE_SDMASK TIWAIT runs from the demand's start, and SDDELAY once both torque lines read low (Table 13-11). -/
def State.syncSd (s : State) : State :=
  let low := s.sdWanted && !s.flag Reg.SAFE_TRQ.OWN && !s.flag Reg.SAFE_TRQ.PART
  let f := { s.safe with
    tiRun := s.safe.tiRun || (s.sdWanted && !s.safe.tiDone)
    sdAt := if low && !s.safe.sdDone then some (s.safe.sdAt.getD s.now) else none
    sdDone := low && s.safe.sdDone }
  { s with safe := f }

/-! ## Records (R581) -/

/-- CAUSE as SIN_ST shows it: an input's fault, else CHB while that source is set and the channels accept different levels
(R548, Table 13-18; log 27). -/
def State.causeShown (s : State) (i : Nat) : Nat :=
  let c := s.safe.cause.toList.getD i 0
  if c = 0 && bitAt s.dsrc Src.CHB && bitAt s.safe.accA i ≠ bitAt s.safe.accB i then 4 else c

/-- The causes of SIN0 to SIN7 as SAFE_DEMAND holds them. -/
def State.causeWord (s : State) : Nat := ((List.range 8).map fun i => s.causeShown i * 16 ^ i).sum

def State.demandContent (s : State) (new : Nat) : List Byte :=
  let phases := ((List.range 4).map fun n => s.phase n * 16 ^ n).sum
  let trq := (if s.flag Reg.SAFE_TRQ.OWN then 1 else 0) + (if s.flag Reg.SAFE_TRQ.PART then 2 else 0) +
    if s.flag Reg.SAFE_TRQ.PERMIT then 4 else 0
  leBytes 4 new ++ leBytes 4 s.dsrc ++ leBytes 1 s.safeMode ++ leBytes 1 (s.fld Reg.SAFE_ST.PAIRS) ++ leBytes 1 s.safe.raw
    ++ leBytes 1 s.safe.accA ++ leBytes 4 s.causeWord ++ leBytes 1 trq ++ leBytes 2 phases ++ leBytes 1 (s.fld Reg.SAFE_FB.ACC)
    ++ leBytes 4 (s.reg 0x9038).toNat ++ leBytes 4 (s.reg 0x9024).toNat ++ leBytes 4 s.chbWord

def State.lastRecord' (s : State) (n : Nat) : Option Nat := s.safe.lastRec.toList.getD n none

/-- Sources newly set are recorded; one recorded within the last second is counted in SAFE_DREP (R581). -/
def State.recordDemand (s : State) (new : Nat) : State :=
  let due := fun n => bitAt new n && match s.lastRecord' n with
    | some t => t + ms 1000 ≤ s.now
    | none => true
  let again := (List.range 17).countP fun n => bitAt new n && !due n
  let s1 := s.countBy Reg.SAFE_DREP.COUNT again
  if (List.range 17).any due then
    let last := Vector.ofFn fun (i : Fin 17) => if due i.val then some s.now else s.safe.lastRec[i]
    { s1.bbxAppend 0x01 true (s.demandContent new) with safe := { s1.safe with lastRec := last } }
  else s1

/-! ## Demand -/

/-- The join engine under demand: an attempt ends with cause DEMAND, a JOINED tray or a LEAVING one once every coil is OFF (R650, R651,
R655). -/
def State.joinDemand (s : State) : State :=
  let st := s.fld Reg.RACK_TST.STATE
  if s.isTray && 1 ≤ st && st ≤ 6 && !s.rack.aborting then
    let s := if st ≤ 4 then (s.setFld Reg.RACK_TST.CAUSE 4).setFlag Reg.RACK_TST.JOINWANT false else s
    { s with rack := { s.rack with aborting := true } }
  else s

/-- Once every coil is OFF an ended attempt enters OPEN, RETRY_WAIT or LOCKOUT (R651, R652, R655). -/
def State.joinSettle (s : State) : State :=
  if s.rack.aborting && s.allOff then
    let s := if 5 ≤ s.fld Reg.RACK_TST.STATE then s.setFld Reg.RACK_TST.CAUSE 4 else s
    let c := s.fld Reg.RACK_TST.CAUSE
    let s : State := { s with rack := { s.rack with aborting := false, preAt := none, settleAt := none, leaveAt := none } }
    if 1 ≤ c && c ≤ 3 then
      if s.fld Reg.RACK_TST.TRIES ≤ 3 then
        { s.setFld Reg.RACK_TST.STATE 7 with rack := { s.rack with retryAt := some (s.now + ms 30000) } }
      else (s.setFld Reg.RACK_TST.STATE 8).setFlag Reg.RACK_TST.JOINWANT false
    else (s.setFld Reg.RACK_TST.STATE 0).setFlag Reg.RACK_TST.JOINWANT false
  else s

/-- DEMAND_START (R551, R565, R578): PERMIT clears, the pin falls, coils in WAIT or PICKUP go OFF; TIWAIT runs from the start
of the demand. A coil in OPENING needs its ON bit set again (R579). -/
def State.demandActs (s : State) (first : Bool) : State :=
  let s := (s.setFlag Reg.SAFE_TRQ.PERMIT false).syncPin
  let f := if first then { s.safe with demandAt := s.now, tiRun := s.isTray, tiDone := false, sdAt := none, sdDone := false } else s.safe
  let s : State := { s with safe := f }
  let picking := (List.range 4).filter fun n => s.phase n = 1 || s.phase n = 2
  let opening := (List.range 4).filter fun n => s.phase n = 4
  let s := forAll opening (fun n t => t.hwOff n) s
  let s := (forAll picking (fun n t => t.stopCoil n) s).syncSwitches
  (s.joinDemand.joinSettle).syncSd

/-- Sources of a mask become set (R529, R532). -/
def State.setSources (s : State) (mask : Nat) : State :=
  let new := mask - Nat.land mask s.dsrc
  if !s.hasSafety || new = 0 then s
  else
    let first := s.dsrc = 0
    let s := (s.setFld Reg.SAFE_DSRC.SRC (Nat.lor s.dsrc new)).strike Reg.SAFE_DLATCH.SRC new
    ((s.raise Ev.SAFE).recordDemand new).demandActs first

def State.setSource (s : State) (n : Nat) : State := s.setSources (2 ^ n)

/-- SAFE_CTL.DEMAND becomes 1. -/
def State.demandOn (s : State) : State :=
  if s.hasSafety then (s.setFlag Reg.SAFE_CTL.DEMAND true).setSource Src.PROG else s

/-- Hardware sets SAFE_CTL.DEMAND (R596, R617, R634), unless a write of this tick has changed it (R15). -/
def State.setDemand (s : State) : State := if s.writeGoverns Reg.SAFE_CTL.DEMAND then s else s.demandOn

/-! ## Commanding coils (R559, R561, R564, R566) -/

/-- A coil picks up, waits for the other coil of its switch, or is rejected. -/
def State.pickUp (s : State) (n : Nat) : State :=
  let m := mate n
  if s.phase m = 2 then
    if s.coilTime m + ms 50 - s.now ≤ ms 40 then s.putPhase n 1 s.now
    else (s.setBitOf Reg.SAFE_CON.ON n false).setBitOf Reg.CON_ERR.OVERLAP n true
  else s.putPhase n 2 s.now

/-- A 0-to-1 change of ON bit `n`. -/
def State.turnOn (s : State) (n : Nat) : State :=
  if s.dsrc ≠ 0 || s.safeMode ≠ 1 then s.setBitOf Reg.CON_ERR.REFUSED n true
  else
    let s := s.setBitOf Reg.SAFE_CON.ON n true
    if n = 0 && s.flag Reg.SAFE_CONST.HANDOVER then s.setFlag Reg.SAFE_CONST.HANDOVER false
    else if s.phase n = 0 then s.pickUp n else s

/-- CON0's opening is deferred: CON1 is in PICKUP or HOLD and FB1 was not accepted low 20 ms ago (R564). -/
def State.handsOver (s : State) : Bool :=
  (s.phase 1 = 2 || s.phase 1 = 3) && match s.safe.fb1Low with
    | some t => s.now < t + ms 20
    | none => true

/-- A 1-to-0 change of ON bit `n`. -/
def State.turnOff (s : State) (n : Nat) : State :=
  let s := s.setBitOf Reg.SAFE_CON.ON n false
  if n = 0 && (s.phase 0 = 2 || s.phase 0 = 3) && s.handsOver then s.setFlag Reg.SAFE_CONST.HANDOVER true else s.openCoil n

/-- A write of SAFE_CON.ON. -/
def State.writeCon (s : State) (v : Nat) : State :=
  forAll (List.range 4) (fun n t =>
    if bitAt v n = t.coilOn n then t else if bitAt v n then t.turnOn n else t.turnOff n) s

/-- The engine sets or clears an ON bit, unless a write of this tick has changed ON (R15). -/
def State.engineOn (s : State) (n : Nat) : State := if s.coilOn n || s.writeGoverns Reg.SAFE_CON.ON then s else s.turnOn n
def State.engineOff (s : State) (n : Nat) : State := if s.coilOn n && !s.writeGoverns Reg.SAFE_CON.ON then s.turnOff n else s

/-! ## The join engine (R648 to R654) -/

/-- ON bit 2 of an ended attempt clears when the precharge and main contactors are open; in a demand, whenever it began, the safe state
governs the coils (R651, R655). -/
def State.abortStep (s : State) : State :=
  if s.rack.aborting && s.dsrc = 0 then
    let s := if (s.fbHigh 0 && s.fbHigh 1) || (s.phase 0 = 0 && s.phase 1 = 0) then s.engineOff 2 else s
    s.joinSettle
  else s.joinSettle

/-- The demand has ended before the join engine entered OPEN: a JOINED or LEAVING tray whose coils all stayed in HOLD goes on; what else
the demand ended the engine opens as after any abort (R651, R655; log 48). -/
def State.joinFreed (s : State) : State :=
  if !s.rack.aborting then s
  else if 5 ≤ s.fld Reg.RACK_TST.STATE && s.phase 1 = 3 && s.phase 2 = 3 && !s.isCut 1 && !s.isCut 2 then
    { s with rack := { s.rack with aborting := false } }
  else ((s.engineOff 1).engineOff 0).abortStep

/-- Coils in HOLD whose switch is off carry no current by themselves from now on (R579). -/
def State.cutCoils (s : State) : State :=
  let n := fun (k : Nat) => if s.isCut k || (s.phase k = 3 && !s.highSide k) then 2 ^ k else 0
  { s with safe := { s.safe with cut := n 0 + n 1 + n 2 + n 3 } }

/-- Sources end; with the last of them the demand ends and no output leaves its safe state (R579). -/
def State.endSources (s : State) (mask : Nat) : State :=
  let left := s.dsrc - Nat.land s.dsrc mask
  let s := ((if left = 0 && s.dsrc ≠ 0 then s.cutCoils else s).setFld Reg.SAFE_DSRC.SRC left).syncSwitches
  if left = 0 then { s with safe := { s.safe with tiRun := false, sdAt := none, sdDone := false } }.joinFreed else s.syncSd

def State.endSource (s : State) (n : Nat) : State := s.endSources (2 ^ n)

/-- JOIN_ABORT with a cause other than DEMAND (R650 to R652). -/
def State.joinAbort (s : State) (cause : Nat) : State :=
  let st := s.fld Reg.RACK_TST.STATE
  if s.isTray && 1 ≤ st && st ≤ 4 && !s.rack.aborting then
    let s := s.setFld Reg.RACK_TST.CAUSE cause
    let s := if cause ≤ 3 then s.setFld Reg.RACK_TST.TRIES (s.fld Reg.RACK_TST.TRIES + 1) else s
    let s : State := { s with rack := { s.rack with aborting := true, preAt := none, settleAt := none } }
    ((s.engineOff 1).engineOff 0).abortStep
  else s

/-- MAIN is entered: CON1 picks up, CON0 hands over. -/
def State.enterMain (s : State) : State :=
  let s : State := { s.setFld Reg.RACK_TST.STATE 4 with rack := { s.rack with settleAt := none, preAt := none } }
  (s.engineOn 1).engineOff 0

/-- The settle time has run out and HOLD is 0. -/
def State.settleDone (s : State) : Bool :=
  match s.rack.settleAt with
  | some t => t + ms (10 * s.fld Reg.RACK_JTIME.SETTLE) ≤ s.now && !s.flag Reg.RACK_TST.HOLD
  | none => false

/-- ΔV of the last samples is at most VWIN (R649). -/
def State.dvNear (s : State) : Bool :=
  let b := s.fld Reg.RACK_VBUS.V
  let t := s.fld Reg.RACK_VTRAY.V
  max b t - min b t ≤ s.fld Reg.RACK_VWIN.V

/-- FB0 accepted low starts the precharge timer, in PRECHARGE or SETTLE. -/
def State.startPre (s : State) : State :=
  if !s.fbHigh 0 && s.phase 0 ≠ 0 && s.rack.preAt.isNone then
    let held := match s.rack.holdUntil with
      | some t => t - s.now
      | none => 0
    { s with rack := { s.rack with preAt := some s.now, preHeld := held } }
  else s

/-- The tray current is above its cap, since when (R661). -/
def State.watchCap (s : State) : State :=
  let above := s.rack.itray < (signed 16 (s.fld Reg.RACK_ITRAY.A)).natAbs
  let since := if above && s.fld Reg.RACK_TST.STATE = 5 then some (s.rack.overSince.getD s.now) else none
  { s with rack := { s.rack with overSince := since } }

/-- In PRECHARGE with ΔV at most VWIN the engine enters SETTLE and starts the settle timer (R649). -/
def State.trySettle (s : State) : State :=
  if s.fld Reg.RACK_TST.STATE = 2 && s.dvNear then
    { s.setFld Reg.RACK_TST.STATE 3 with rack := { s.rack with settleAt := some s.now } }
  else s

/-- JOIN_FEEDBACK: the transition that the levels now allow (R649, R654). -/
def State.joinStep (s : State) : State :=
  if s.rack.aborting then s.abortStep
  else match s.fld Reg.RACK_TST.STATE with
    | 1 => if !s.fbHigh 2 && s.phase 2 ≠ 0 && !s.flag Reg.RACK_TST.HOLD then ((s.setFld Reg.RACK_TST.STATE 2).engineOn 0).startPre.trySettle else s
    | 2 => s.startPre.trySettle
    | 3 =>
      if !s.dvNear && !s.flag Reg.RACK_TST.HOLD then
        { s.setFld Reg.RACK_TST.STATE 2 with rack := { s.rack with settleAt := none } }.startPre
      else if s.settleDone then s.startPre.enterMain else s.startPre
    | 4 =>
      if s.phase 1 = 3 && s.phase 0 = 0 then
        { (s.setFld Reg.RACK_TST.STATE 5).setFld Reg.RACK_TST.TRIES 0 with rack := { s.rack with preAt := none } }.watchCap
      else s
    | 6 =>
      if s.coilOn 1 then s
      else
        let s := if s.fbHigh 1 then s.engineOff 2 else s
        if s.fbHigh 2 && !s.coilOn 2 then
          ((s.setFld Reg.RACK_TST.STATE 0).setFld Reg.RACK_TST.CAUSE 5).setFlag Reg.RACK_TST.JOINWANT false
        else s
    | _ => s

/-- What lets a join start (R648); `seq` is the CAPSEQ it must find applied. -/
def State.joinReady (s : State) (seq : Nat) : Bool :=
  s.safeMode = 1 && s.dsrc = 0 && s.allOff && s.flag Reg.RACK_TCAP.VALID && s.fld Reg.RACK_TCAP.SEQ = seq &&
    !s.flag Reg.BBX_STAT.UNFIT

/-- An attempt begins: NEG, with ON bit 2 set. -/
def State.joinStart (s : State) : State :=
  let s := ((s.setFld Reg.RACK_TST.STATE 1).setFlag Reg.RACK_TST.JOINWANT true).setFld Reg.RACK_IPEAK.A 0
  let s : State := { s with rack := { s.rack with
    preAt := none, preHeld := 0, settleAt := none, retryAt := none, voltsFrom := s.now, ampsAt := s.now } }
  (s.engineOn 2).joinStep

/-- RACK_JCTL.JOIN (R648, R653, R656). -/
def State.join (s : State) (seq : Nat) : State :=
  if !s.isTray then s
  else match s.fld Reg.RACK_TST.STATE with
    | 0 => if s.joinReady seq then s.joinStart else s.setFld Reg.RACK_TST.CAUSE 6
    | 8 => s.setFlag Reg.RACK_TST.JREFUSED true
    | _ => s

/-- A LEAVE while an aborted attempt that would be repeated waits for its coils ends the JOIN (R652, R654). -/
def State.leaveAborted (s : State) : State :=
  if 1 ≤ s.fld Reg.RACK_TST.CAUSE && s.fld Reg.RACK_TST.CAUSE ≤ 3 && s.fld Reg.RACK_TST.TRIES ≤ 3 then
    (s.setFld Reg.RACK_TST.CAUSE 5).setFlag Reg.RACK_TST.JOINWANT false
  else s

/-- RACK_JCTL.LEAVE (R650, R654). -/
def State.leave (s : State) : State :=
  if !s.isTray then s
  else match s.fld Reg.RACK_TST.STATE with
    | 5 =>
      { s.setFld Reg.RACK_TST.STATE 6 with
        rack := { s.rack with
          leaveAt := some (s.now + ms (100 * s.fld Reg.RACK_OPEN.OPENT)), voltsFrom := s.now } }
    | 7 =>
      let s := ((s.setFld Reg.RACK_TST.STATE 0).setFld Reg.RACK_TST.CAUSE 5).setFlag Reg.RACK_TST.JOINWANT false
      { s with rack := { s.rack with retryAt := none } }
    | st => if s.rack.aborting && 1 ≤ st && st ≤ 4 then s.leaveAborted else s.joinAbort 5

/-- RACK_JCTL.UNLOCK (R653). -/
def State.unlock (s : State) : State :=
  if s.isTray && s.fld Reg.RACK_TST.STATE = 8 then (s.setFld Reg.RACK_TST.STATE 0).setFld Reg.RACK_TST.TRIES 0 else s

end Sys2Proof.Machine
end

