-- ==== Sys2Proof/Machine/Safety.lean ====
section
/-! DEFINITION. Safety inputs, test pulses, channel B, torque lines, coil checks and safe states (chapter 13). -/

namespace Sys2Proof.Machine

/-! ## Input pairs (R536 to R542) -/

/-- The mode of pair `j` (Table 13-2). -/
def State.pairMode (s : State) (j : Nat) : Nat :=
  if j < 2 then bitsAt (s.fld Reg.SEAL_ACC.WORD) (2 * j) 2
  else if j = 2 then s.fld Reg.SAFE_PMODE.MODE2 else s.fld Reg.SAFE_PMODE.MODE3

/-- Input `n` with accepted levels `acc` indicates demand in `mode`. -/
def indicates (mode acc n : Nat) : Bool := mode ≠ 3 && bitAt acc n ≠ !(mode = 1 && n % 2 = 1)

/-- The discrepancy time in ticks (R540). -/
def State.discTime (s : State) : Nat := ms ([20, 50, 100, 500].getD (bitsAt (s.fld Reg.SEAL_ACC.WORD) 4 2) 20)

/-- SEAL8: automatic restart. -/
def State.autoRestart (s : State) : Bool := bitAt (s.fld Reg.SEAL_ACC.WORD) 8

def State.causeOf (s : State) (i : Nat) : Nat := countOf s.safe.cause i

def State.setCause (s : State) (i c : Nat) : State := { s with safe := { s.safe with cause := setCount s.safe.cause i c } }

def State.setCause2 (s : State) (i c : Nat) : State := { s with safe := { s.safe with cause2 := setCount s.safe.cause2 i c } }

/-- An input's DISCREPANCY, or its other fault, has ended; one of the other kind found meanwhile goes on (R547). -/
def State.endCause (s : State) (i : Nat) (disc : Bool) : State :=
  let second := countOf s.safe.cause2 i
  let s := if decide (second = 3) = disc then s.setCause2 i 0 else s
  if s.causeOf i ≠ 0 && decide (s.causeOf i = 3) = disc then (s.setCause i (countOf s.safe.cause2 i)).setCause2 i 0 else s

def State.setPasses (s : State) (i k : Nat) : State := { s with safe := { s.safe with passes := setCount s.safe.passes i k } }

/-- The next state of a pair (Table 13-3; FAULT is left by PAIRACK alone): 0 INIT, 1 RELEASED, 2 DEMAND, 3 FAULT. -/
def pairNext (st : Nat) (fault any period restart : Bool) : Nat :=
  if fault then 3
  else match st with
    | 0 => if !any && period && restart then 1 else 0
    | 1 => if any then 2 else 1
    | 2 => if !any && restart then 1 else 2
    | _ => 3

/-- Pair `j` with accepted levels `acc` indicates demand: one of its inputs does, or both test-pulse outputs are low and the pair is not
EQUIV_EXT, once a level can have been accepted of it, 3.0 ms later (R537, R544, R812; log 30). -/
def State.pairDemands (s : State) (j acc : Nat) : Bool :=
  let m := s.pairMode j
  indicates m acc (2 * j) || indicates m acc (2 * j + 1) || (s.safe.bothLow.any (fun t => t + ms 3 ≤ s.now) && m ≠ 2)

/-- One pair moves in both channels. -/
def State.evalPair (s : State) (j : Nat) : State :=
  let m := s.pairMode j
  let fault := s.causeOf (2 * j) ≠ 0 || s.causeOf (2 * j + 1) ≠ 0
  let period := bitAt s.safe.full (2 * j) && bitAt s.safe.full (2 * j + 1)
  let a := s.pairDemands j
  let both := indicates m s.safe.accA (2 * j) && indicates m s.safe.accA (2 * j + 1)
  let any := a s.safe.accA || a s.safe.accB
  let restart := s.autoRestart || bitAt s.safe.restart j
  let stA := pairNext (pairSt (s.fld Reg.SAFE_ST.PAIRS) j) fault (a s.safe.accA) period restart
  let stB := pairNext (pairSt s.safe.pairsB j) fault (a s.safe.accB) period restart
  let f := { s.safe with
    pairsB := withBits s.safe.pairsB (2 * j) 2 stB
    bothSeen := if both then withBits s.safe.bothSeen j 1 1 else s.safe.bothSeen
    restart := if any || (stA = 1 && stB = 1) then withBits s.safe.restart j 1 0 else s.safe.restart }
  { s with safe := f }.setFld Reg.SAFE_ST.PAIRS (withBits (s.fld Reg.SAFE_ST.PAIRS) (2 * j) 2 stA)

/-- The PAIR sources follow the pair states; a change of channel B's word reaches its outputs. -/
def State.syncPairs (s : State) : State :=
  let m := pairMask (s.fld Reg.SAFE_ST.PAIRS)
  (((s.setSources m).endSources (15 - Nat.land 15 m)).syncPin).syncSwitches

/-- PAIR_TRANSITION. -/
def State.evalPairs (s : State) : State := (forAll (List.range 4) (fun j t => t.evalPair j) s).syncPairs

/-- An input fault: counted, SAFE raised (R532, Table 13-18); the meeting of both inputs is awaited anew (R538). A DISCREPANCY and a fault
of the test pulses may stand together, the first found shown, and a DISCREPANCY is no failed check of a period (R547). -/
def State.inputFault (s : State) (i c : Nat) : State :=
  let s := if c = 3 then s else s.setPasses i 0
  let s : State := if c = 3 then s else { s with safe := { s.safe with full := withBits s.safe.full i 1 0 } }
  let other := s.causeOf i ≠ 0 && countOf s.safe.cause2 i = 0 && decide (s.causeOf i = 3) ≠ decide (c = 3)
  if s.causeOf i ≠ 0 && !other then s
  else
    let s := if other then s.setCause2 i c else s.setCause i c
    let s : State := { s with safe := { s.safe with bothSeen := withBits s.safe.bothSeen (i / 2) 1 0 } }
    (if i < 8 then s.count Reg.SIN_ST.FAULTS i else s).raise Ev.SAFE

def State.discOf (s : State) (j : Nat) : Option (Nat × Nat) := s.safe.disc.toList.getD j none

def State.setDisc (s : State) (j : Nat) (d : Option (Nat × Nat)) : State :=
  if h : j < 4 then { s with safe := { s.safe with disc := s.safe.disc.set j d h } } else s

/-- The agreement of a pair's inputs after input `n` changed: a late agreement faults the input that did not change (R540,
R541), and agreement ends a DISCREPANCY (R547). -/
def State.watchDisc (s : State) (n : Nat) : State :=
  let j := n / 2
  let m := s.pairMode j
  if m = 3 then s.setDisc j none
  else if indicates m s.safe.accA (2 * j) ≠ indicates m s.safe.accA (2 * j + 1) then
    match s.discOf j with
    | some _ => s
    | none => s.setDisc j (some (s.now, if n % 2 = 0 then n + 1 else n - 1))
  else
    let s := match s.discOf j with
      | some (t, u) => if t + s.discTime < s.now then (s.inputFault u 3).evalPairs else s
      | none => s
    ((s.endCause (2 * j) true).endCause (2 * j + 1) true).setDisc j none

/-- Pair `j` under a new mode or discrepancy time: inputs that agree end a DISCREPANCY, and inputs that disagree are timed from
now, the one without demand as the one that does not change (log 30). -/
def State.rewatch (s : State) (j : Nat) : State :=
  let m := s.pairMode j
  let one := indicates m s.safe.accA (2 * j)
  if m ≠ 3 && one ≠ indicates m s.safe.accA (2 * j + 1) then
    match s.discOf j with
    | some _ => s
    | none => s.setDisc j (some (s.now, if one then 2 * j + 1 else 2 * j))
  else
    ((s.endCause (2 * j) true).endCause (2 * j + 1) true).setDisc j none

/-- The pairs follow the modes of the seal and of SAFE_PMODE (R536). -/
def State.remode (s : State) : State :=
  if s.safe.running then (forAll (List.range 4) (fun j t => t.rewatch j) s).evalPairs else s

/-- A level of SINn accepted by channel A, channel B or both; a low level of an UNUSED pair is an OPEN fault (R546). -/
def State.acceptSin (s : State) (n : Nat) (level a b : Bool) : State :=
  let v := if level then 1 else 0
  let s : State := { s with safe := { s.safe with
    raw := withBits s.safe.raw n 1 v
    accA := if a then withBits s.safe.accA n 1 v else s.safe.accA
    accB := if b then withBits s.safe.accB n 1 v else s.safe.accB
    known := if a || b then withBits s.safe.known n 1 1 else s.safe.known } }
  let s := if (a || b) && !level && s.pairMode (n / 2) = 3 then s.inputFault n 5 else s
  ((if a then s.watchDisc n else s).evalPairs)

/-! ## Coils: ends of phases and feedback (R560 to R566) -/

/-- OPENING ends: OFF, and a coil whose ON bit was set again picks up (R566); in demand it stays OFF. -/
def State.openingOff (s : State) (n : Nat) : State :=
  let s := s.putPhase n 0 (s.coilTime n)
  if s.coilOn n then
    if s.dsrc = 0 && s.safeMode = 1 then s.pickUp n else s.hwOff n
  else s

/-- Coil `n` has been OPENING for 80 ms without FBn accepted high: a checked one is WELD (R563). -/
def State.openingLate (s : State) (n : Nat) : State :=
  let s := s.reach (s.coilTime n + ms 80)
  let s := if s.fbUsed n then ((s.setBitOf Reg.CON_ERR.WELD n true).putPhase n 0 (s.coilTime n)).setSource Src.COIL else s
  s.openingOff n

/-- 80 ms after coil `n`, in PICKUP or HOLD, began to pick up. -/
def State.closeBy (s : State) (n : Nat) : Nat := s.coilTime n + if s.phase n = 3 then ms 30 else ms 80

/-- FB_UNEXP of coil `n`: an accepted level changes outside the two 80 ms windows (Table 13-5). -/
def State.fbUnexp (s : State) (n : Nat) : Bool :=
  s.fbUsed n && ((s.phase n = 3 && s.closeBy n < s.now) ||
    (s.phase n = 0 && (!bitAt s.safe.picked n || s.coilTime n + ms 80 < s.now)))

/-- 50 ms of PICKUP end in HOLD; a coil that waits picks up (R560, R561, Table 13-4). -/
def State.pickupEnd (s : State) (n : Nat) : State :=
  if s.phase n = 2 then
    let t := s.coilTime n + ms 50
    ((s.reach t).putPhase n 3 t).joinStep
  else s

/-- Coil `n`, in PICKUP or HOLD, is checked, and its FBn has not been accepted low since it began to pick up. -/
def State.opens (s : State) (n : Nat) : Bool :=
  (s.phase n = 2 || s.phase n = 3) && s.fbUsed n && !bitAt s.safe.closed n

/-- NOCLOSE: 80 ms after PICKUP began FBn has not been accepted low; its PICKUP has ended by then (R563). -/
def State.noclose (s : State) (n : Nat) : State :=
  let s := s.pickupEnd n
  let s := s.reach (s.closeBy n)
  let s := (s.setBitOf Reg.CON_ERR.NOCLOSE n true).killCoil n
  (if n < 3 then s.joinAbort 3 else s).joinStep

/-- A level of FBn accepted (channel A's shows in SAFE_FB); the first one after reset changes none. A check of the coil whose 80 ms are
over is judged first (R563). -/
def State.acceptFb (s : State) (n : Nat) (level a b : Bool) : State :=
  let v := if level then 1 else 0
  let s := if s.phase n = 4 && s.coilTime n + ms 80 < s.now then s.openingLate n
    else if s.opens n && s.closeBy n < s.now then s.noclose n else s
  let first := bitAt s.safe.known (8 + n)
  let s : State := { s with safe := { s.safe with
    accA := if a then withBits s.safe.accA (8 + n) 1 v else s.safe.accA
    accB := if b then withBits s.safe.accB (8 + n) 1 v else s.safe.accB
    known := if a then withBits s.safe.known (8 + n) 1 1 else s.safe.known
    fb1Low := if a && n = 1 then (if level then none else some (s.safe.fb1Low.getD s.now)) else s.safe.fb1Low
    closed := if a && !level && (s.phase n = 2 || s.phase n = 3) && s.now ≤ s.closeBy n then withBits s.safe.closed n 1 1
      else s.safe.closed } }
  let s := s.setBitOf Reg.SAFE_FB.RAW n level
  if !a || s.fbHigh n = level then s
  else
    let bad := first && s.fbUnexp n
    let s := s.setBitOf Reg.SAFE_FB.ACC n level
    let s := if s.phase n = 4 && level && s.fbUsed n then s.openingOff n else s
    let s := if bad then (s.setBitOf Reg.CON_ERR.FB_UNEXP n true).setSource Src.COIL else s
    s.joinStep

/-- Samples of input `n` are masked by the test pulses: every input but those of EQUIV_EXT pairs (R537; FBn log 30). -/
def State.masked (s : State) (n : Nat) : Bool := 8 ≤ n || s.pairMode (n / 2) ≠ 2

/-- A test pulse is in progress: one of the outputs is low. -/
def State.pulsing (s : State) : Bool := s.safe.pulseA ≠ s.safe.pulseB

/-- The channels named are to accept a level of input `n`: where it is another than they last accepted, 3.0 ms after that one at the
earliest, and of a masked input not before 200 µs after a test pulse (R537). -/
def State.showLevel (s : State) (n : Fin 12) (level a b : Bool) : State :=
  let new := fun (acc : Nat) => (n.val < 8 && !bitAt s.safe.known n.val) || bitAt acc n.val ≠ level
  let newA := a && new s.safe.accA
  let newB := b && new s.safe.accB
  let clear := if s.masked n.val && s.safe.pulse.isSome then s.safe.pulseEnd + us 200 else 0
  let s := s.reach (max clear (max (if newA then s.safe.sinA[n] + ms 3 else 0) (if newB then s.safe.sinB[n] + ms 3 else 0)))
  { s with safe := { s.safe with
    sinA := if newA then s.safe.sinA.set n.val s.now n.isLt else s.safe.sinA
    sinB := if newB then s.safe.sinB.set n.val s.now n.isLt else s.safe.sinB } }

/-- SIN_LEVEL_ACCEPTED: input `n` (0 to 7 SINn, 8 to 11 FB0 to FB3) has shown a level for 3.0 ms to the channels named; during a test
pulse no sample of a masked input is taken. -/
def execSinLevelAccepted (n : Fin 12) (level a b : Bool) (s : State) : Host.Outcome State Fault Refusal :=
  .next (if !s.safe.running || (s.masked n.val && s.pulsing) then s
    else
      let s := s.showLevel n level a b
      if n.val < 8 then s.acceptSin n.val level a b else s.acceptFb (n.val - 8) level a b)

/-- DISCREPANCY_EXPIRY: the inputs of pair `j` have disagreed for longer than the discrepancy time (R540). -/
def execDiscrepancyExpiry (j : Fin 4) (s : State) : Host.Outcome State Fault Refusal :=
  .next (match s.discOf j.val with
    | some (t, u) => if s.safe.running then (((s.reach (t + s.discTime + 1)).inputFault u 3).evalPairs) else s
    | none => s)

/-- SAFE_CTL.PAIRACK for pair `j`, discarded while an input indicates demand (R538, R539, R542). -/
def State.pairAckOne (s : State) (j : Nat) : State :=
  let any := s.pairDemands j s.safe.accA || s.pairDemands j s.safe.accB
  let ended := s.causeOf (2 * j) = 0 && s.causeOf (2 * j + 1) = 0
  let st := pairSt (s.fld Reg.SAFE_ST.PAIRS) j
  if any || st = 1 then s
  else
    let s : State := { s with safe := { s.safe with restart := withBits s.safe.restart j 1 1 } }
    if st = 3 && ended && bitAt s.safe.bothSeen j then
      { s with safe := { s.safe with pairsB := withBits s.safe.pairsB (2 * j) 2 2 } }.setFld Reg.SAFE_ST.PAIRS
        (withBits (s.fld Reg.SAFE_ST.PAIRS) (2 * j) 2 2)
    else s

def State.pairAck (s : State) (mask : Nat) : State :=
  if s.safe.running then
    (forAll ((List.range 4).filter (bitAt mask ·)) (fun j t => t.pairAckOne j) s).evalPairs
  else s

/-! ## Test pulses (R543 to R547) -/

/-- What one pulse's checks say of input `i` to a channel that has accepted the levels `acc`: its fault cause, or 0 (an input without an
accepted level yet is not OPEN). `b` says that TPOB pulsed; `low` are the inputs low from 100 µs into the pulse to its end, `high` those
high throughout it. -/
def State.channelCheck (s : State) (acc : Nat) (b : Bool) (low high : Nat) (i : Nat) : Nat :=
  let m := if i < 8 then s.pairMode (i / 2) else 0
  if m = 2 then 0
  else if bitAt acc i then
    if decide (i % 2 = 1) = b then (if bitAt low i then 0 else 1) else if bitAt high i then 0 else 2
  else if m = 3 && bitAt s.safe.known i then 5 else 0

/-- The checks of both channels: channel A's finding, else channel B's. -/
def State.pulseCheck (s : State) (b : Bool) (low high : Nat) (i : Nat) : Nat :=
  let c := s.channelCheck s.safe.accA b low high i
  if c ≠ 0 then c else s.channelCheck s.safe.accB b low high i

/-- The checks of one pulse: a fault, or one more pulse passed. -/
def State.pulseInput (s : State) (b : Bool) (low high : Nat) (i : Nat) : State :=
  match s.pulseCheck b low high i with
  | 0 => s.setPasses i (min 2 (countOf s.safe.passes i + 1))
  | c => s.inputFault i c

/-- A pulse begins after two that input `i` has passed, one of each output: a full period has passed for it, and its fault but DISCREPANCY
ends (R538, R547). -/
def State.periodPassed (s : State) (i : Nat) : State :=
  if 2 ≤ countOf s.safe.passes i then
    let s : State := { s with safe := { s.safe with full := withBits s.safe.full i 1 1 } }
    s.endCause i false
  else s

/-- Both test-pulse outputs are held low, or released while the block runs, as TPO and VCOIL have it (R544, R766); the pulses passed before
are no part of a period after (R543, R547). -/
def State.holdPulses (s : State) : State :=
  let low := bitAt s.dsrc Src.TPO || !s.flag Reg.SYS_SUPPLY.COIL_OK
  let s : State := { s with safe := { s.safe with
    pulseA := low || (!s.safe.running && s.safe.pulseA)
    pulseB := low || (!s.safe.running && s.safe.pulseB)
    pulse := none
    bothLow := if low then some (s.safe.bothLow.getD s.now) else none
    passes := Vector.replicate 12 0 } }
  if s.safe.running then s.evalPairs else s

/-- TPO_READBACK_FAIL: both outputs stay low (R544). -/
def State.tpoFail (s : State) : State := (s.setSource Src.TPO).holdPulses

/-- The pulse that comes next is `b`'s: the outputs take turns (R543), and the pulse before has ended. -/
def State.pulseTurn (s : State) (b : Bool) : Bool :=
  !s.pulsing && match s.safe.pulse with
  | some (last, _) => last ≠ b
  | none => true

/-- A low pulse begins, 5 ms after the other output's, less 3 %. -/
def State.pulseStart (s : State) (b : Bool) : State :=
  if s.pulseTurn b then
    let s := match s.safe.pulse with
      | some (_, t) => s.reach (t + us 4850)
      | none => s
    let s := forAll (List.range 12) (fun i t => t.periodPassed i) s
    { s with safe := { s.safe with pulse := some (b, s.now), pulseA := !b, pulseB := b } }.evalPairs
  else s

/-- A low pulse ends, 300 µs after it began, less 3 %, and the inputs are checked. -/
def State.pulseEnd (s : State) (b : Bool) (low high : Nat) : State :=
  match s.safe.pulse with
  | some (last, t) =>
    if last = b && (if b then s.safe.pulseB else s.safe.pulseA) then
      let s := s.reach (t + us 291)
      let s : State := { s with safe := { s.safe with pulseA := false, pulseB := false, pulseEnd := s.now } }
      (forAll (List.range 12) (fun i t => t.pulseInput b low high i) s).evalPairs
    else s
  | none => s

/-- TEST_PULSE: TPOA (or TPOB) starts its low pulse, or ends it and the inputs are checked; `ok` is the output's own
read-back (R543 to R546). Under TPO, or without VCOIL (R766), both outputs are low and nothing is checked. -/
def State.testPulse (s : State) (b ending ok : Bool) (low high : Nat) : State :=
  if !s.safe.running || bitAt s.dsrc Src.TPO || !s.flag Reg.SYS_SUPPLY.COIL_OK then s
  else if !ok then s.tpoFail
  else if ending then s.pulseEnd b low high
  else s.pulseStart b

def execTestPulse (b ending ok : Bool) (low high : BitVec 12) (s : State) : Host.Outcome State Fault Refusal :=
  .next (s.testPulse b ending ok low.toNat high.toNat)

/-! ## Channel B (R530, R531) -/

/-- The channels' pair results differ. -/
def State.chDiffer (s : State) : Bool := s.fld Reg.SAFE_ST.PAIRS ≠ s.safe.pairsB

/-- CHB_COMPARE, every 1 ms: a difference that has lasted 5 ms raises CHB. Outputs that have been low long enough are found then, too
(R544; log 30). -/
def execChbCompare (s : State) : Host.Outcome State Fault Refusal :=
  .next (if !s.safe.running then s
    else
      let s := s.reach (s.safe.cmpAt + ms 1)
      let s := if s.safe.bothLow.isSome then s.evalPairs else s
      let t := s.safe.chbSince.getD s.now
      let s : State := { s with safe := { s.safe with cmpAt := s.now, chbSince := if s.chDiffer then some t else none } }
      if s.chDiffer && t + ms 5 ≤ s.now then s.setSource Src.CHB else s)

/-- CHB_HEARTBEAT_MISS: no heartbeat for 1 ms: channel B's outputs turn off at once. -/
def execChbHeartbeatMiss (s : State) : Host.Outcome State Fault Refusal :=
  .next (if s.safe.running then
      let s : State := { s with safe := { s.safe with chbOff := true, chbMiss := some s.now } }
      ((s.syncPin).syncSwitches).setSource Src.CHB
    else s)

/-! ## Torque lines (R549 to R556) -/

/-- Which pin this die drives (R549). -/
def State.syncDrives (s : State) : State :=
  let a := s.isManager && s.sealed && s.flag Reg.FAB_ADDR.VALID && s.fld Reg.FAB_ADDR.ADDR = s.mgrA.toNat
  let b := s.isManager && s.sealed && s.flag Reg.FAB_ADDR.VALID && s.fld Reg.FAB_ADDR.ADDR = s.mgrB.toNat
  ((s.setFlag Reg.SAFE_TRQ.DRIVES (a || b)).setFlag Reg.SAFE_TRQ.WHICH (b && !a)).syncPin

/-- A write of SAFE_TRQ.PERMIT (R550, R551); only a MANAGER-role die has torque lines (R23). -/
def State.permit (s : State) (v : Bool) : State :=
  if !s.isManager then s
  else if v then
    if s.dsrc ≠ 0 then s.setFlag Reg.SAFE_TRQERR.REFUSED true else (s.setFlag Reg.SAFE_TRQ.PERMIT true).syncPin
  else (s.setFlag Reg.SAFE_TRQ.PERMIT false).syncPin

/-- The off-pulse period T in ticks (R552). -/
def State.offPeriod (s : State) : Nat := ms ([100, 50, 200, 1000].getD (bitsAt (s.fld Reg.SEAL_ACC.WORD) 6 2) 100)

/-- When in a period a manager's pulse begins: A at 0, B at T/2. -/
def State.offPhase (s : State) (own : Bool) : Nat := if s.flag Reg.SAFE_TRQ.WHICH = own then s.offPeriod / 2 else 0

/-- TRQ_OFF_PULSE: the next off-pulse comes and is read back; `ok` is the read-back (R552, R553). -/
def execTrqOffPulse (ok : Bool) (s : State) : Host.Outcome State Fault Refusal :=
  .next (if s.flag Reg.SAFE_TRQ.OWN then
      let s := s.reachTick (s.nextPhase s.offPeriod (s.offPhase true))
      let s := s.advance (us 300)
      if ok then s else (s.setFlag Reg.SAFE_TRQERR.OWN true).setSource Src.TRQRB
    else s)

/-- PARTOFF. -/
def State.partOff (s : State) : State := (s.setFlag Reg.SAFE_TRQERR.PARTOFF true).setSource Src.PARTOFF

/-- The partner's off-pulse may begin now: within 200 µs of its nominal time. -/
def State.inWindow (s : State) : Bool :=
  let t := s.offPeriod
  let d := (s.rackTicks + t - s.offPhase false) % t
  d ≤ us 200 || t - d ≤ us 200

/-- The partner line falls, rises, or is still low. -/
def State.partLine (s : State) (level : Bool) : State :=
  let was := s.flag Reg.SAFE_TRQ.PART
  let s := s.setFlag Reg.SAFE_TRQ.PART level
  let s :=
    if !s.flag Reg.SAFE_TRQ.OWN then s
    else if level then
      let late := match s.safe.partLow, s.safe.ownHigh with
        | some t, _ => decide (t + us 400 < s.now)
        | none, some t => !s.safe.partSeen && t + ms 20 < s.now
        | none, none => false
      let s : State := { s with safe := { s.safe with partSeen := true, partLow := none } }
      if late then s.partOff else s
    else if !s.safe.partSeen then s
    else if was then
      if s.inWindow then { s with safe := { s.safe with partLow := some s.now, partMiss := 0, partAt := s.now } } else s.partOff
    else match s.safe.partLow with
      | some t => (s.reach (t + us 400 + 1)).partOff
      | none => s
  s.syncSd

/-- PARTNER_LINE_CHANGE: the partner line's level; a low that is still there is judged at 400 µs (R554). -/
def execPartnerLineChange (level : Bool) (s : State) : Host.Outcome State Fault Refusal :=
  .next (if s.isManager && s.safe.running then s.partLine level else s)

/-- Rack time, with its epoch, when the window of the partner's next missing pulse is over: the one that now runs or comes next, but for
a window in which its pulse has begun. -/
def State.windowEnd (s : State) : Nat :=
  let t := s.offPeriod
  let e := s.rackNow + 1 + (s.offPhase false + us 200 + 1 + t - (s.rackTicks + 1) % t) % t
  if s.safe.partMiss = 0 && s.now + (e - s.rackNow) ≤ s.safe.partAt + us 400 + 1 then e + t else e

/-- PARTNER_PULSE_MISSING: a period's off-pulse of the partner did not begin in its window (R554). -/
def execPartnerPulseMissing (s : State) : Host.Outcome State Fault Refusal :=
  .next (if s.flag Reg.SAFE_TRQ.OWN then
      let s := s.reachTick s.windowEnd
      let k := s.safe.partMiss + 1
      let s : State := { s with safe := { s.safe with partMiss := k } }
      if 2 ≤ k then (s.setFlag Reg.SAFE_TRQERR.PART_NOPULSE true).setSource Src.TRQRB else s
    else s)

/-- PARTNER_RISE_TIMEOUT: the partner line has not gone high within 20 ms of the own pin (R554). -/
def execPartnerRiseTimeout (s : State) : Host.Outcome State Fault Refusal :=
  .next (match s.safe.ownHigh with
    | some t => if s.flag Reg.SAFE_TRQ.OWN && !s.safe.partSeen then (s.reach (t + ms 20)).partOff else s
    | none => s)

/-! ## Coil events -/

/-- PICKUP_END. -/
def execPickupEnd (n : Fin 4) (s : State) : Host.Outcome State Fault Refusal := .next (s.pickupEnd n.val)

/-- COIL_OPEN_CHECK: the coil current in mA, 10 ms into PICKUP (R563). -/
def execCoilOpenCheck (n : Fin 4) (amps : Nat) (s : State) : Host.Outcome State Fault Refusal :=
  .next (if s.phase n.val = 2 then
      let s := s.reach (s.coilTime n.val + ms 10)
      let amps := if s.highSide n.val then min amps 0xFFFF else 0
      let s := s.setFld Reg.CON_I.MA amps n.val
      if amps < 1500 then
        let s := (s.setBitOf Reg.CON_ERR.COIL_OPEN n.val true).killCoil n.val
        (if n.val < 3 then s.joinAbort 3 else s).joinStep
      else s
    else s)

/-- COIL_SHORT: the low-side current in mA, held for 50 µs (R563). -/
def execCoilShort (n : Fin 4) (amps : Nat) (s : State) : Host.Outcome State Fault Refusal :=
  .next (if (s.phase n.val = 2 || s.phase n.val = 3) && s.highSide n.val && !s.isCut n.val && 3500 < amps then
      let s := (s.setFld Reg.CON_I.MA (min amps 0xFFFF) n.val).setBitOf Reg.CON_ERR.COIL_SHORT n.val true
      ((s.stopCoil n.val).setSource Src.COIL).joinStep
    else s)

/-- HS_OVER: a high-side switch has carried more than 4.4 A for 100 µs (R562). -/
def execHsOver (w : Fin 2) (s : State) : Host.Outcome State Fault Refusal :=
  .next (if s.flag ⟨0x9034, 0, 17 + w.val, 1⟩ then
      let s := (s.stopCoil (2 * w.val + 1)).stopCoil (2 * w.val)
      ((s.setBitOf Reg.CON_ERR.HS_OVER w.val true).setSource Src.COIL).joinStep
    else s)

/-- NOCLOSE: 80 ms after PICKUP began. -/
def execNoclose (n : Fin 4) (s : State) : Host.Outcome State Fault Refusal :=
  .next (if s.opens n.val then s.noclose n.val else s)

/-- OPENING_END: OPENING ends with FBn high, or 80 ms after it began: then a checked coil is WELD (R563). -/
def execOpeningEnd (n : Fin 4) (s : State) : Host.Outcome State Fault Refusal :=
  .next (if s.phase n.val = 4 then
      if s.fbUsed n.val && s.fbHigh n.val then (s.openingOff n.val).joinStep
      else (s.openingLate n.val).joinStep
    else s)

/-- HANDOVER_END: 20 ms after FB1 was accepted low CON0 opens (R564). -/
def execHandoverEnd (s : State) : Host.Outcome State Fault Refusal :=
  .next (match s.safe.fb1Low with
    | some t => if s.flag Reg.SAFE_CONST.HANDOVER then ((s.reach (t + ms 20)).openCoil 0).joinStep else s
    | none => s)

/-! ## Safe states (R578 to R580) -/

/-- TIWAIT in ticks; 0 acts as 1. -/
def State.tiWait (s : State) : Nat := ms (10 * max 1 (s.fld Reg.SAFE_TIMING.TIWAIT))

/-- SAFE_CTL.TRCONF. -/
def State.trconf (s : State) : State :=
  if s.isTray && s.dsrc ≠ 0 then
    { s with safe := { s.safe with tiRun := false, tiDone := true } }.openHold
  else s

/-- TIWAIT_EXPIRY: coils in HOLD go to OPENING (Table 13-11); on a manager a source of SAFE_SDMASK that comes later finds it due at once. -/
def execTiwaitExpiry (s : State) : Host.Outcome State Fault Refusal :=
  .next (if s.safe.tiRun then
      let s := s.reach (s.safe.demandAt + s.tiWait)
      let acts := s.isTray || s.sdWanted
      let s : State := { s with safe := { s.safe with tiRun := false, tiDone := acts } }
      if acts then s.openHold else s
    else s)

/-- SDDELAY_EXPIRY: SDDELAY after both torque lines read low. -/
def execSddelayExpiry (s : State) : Host.Outcome State Fault Refusal :=
  .next (match s.safe.sdAt with
    | some t =>
      let s := s.reach (t + ms (10 * s.fld Reg.SAFE_TIMING.SDDELAY))
      { s with safe := { s.safe with sdAt := none, sdDone := true } }.openHold
    | none => s)

/-- CHB_OUTPUT_CUTOFF: on a tray, and on a manager in a demand that leads to SD, channel B turns HSA and HSB off TIWAIT + 10 ms after its own
demand word became other than 0; they stay off while it is (R531, R557, R578; log 16). -/
def execChbOutputCutoff (s : State) : Host.Outcome State Fault Refusal :=
  .next (match s.safe.chbAt with
    | some t =>
      if s.isTray || Nat.land s.chbWord (s.fld Reg.SAFE_SDMASK.SRC) ≠ 0 then
        let s := s.reach (t + s.tiWait + ms 10)
        (s.putSwitch 0 false).putSwitch 1 false
      else s
    | none => s)

/-- A write of SAFE_CTL.DEMAND (PROG). -/
def State.writeDemand (s : State) (v : Bool) : State :=
  if v then s.demandOn else (s.setFlag Reg.SAFE_CTL.DEMAND false).endSource Src.PROG

end Sys2Proof.Machine
end

