-- ==== Sys2Proof/Machine/Seal.lean ====
section
/-! DEFINITION. The seal reader, the Varnish digest, safety modes and sealed parameters (R567 to R577). -/

namespace Sys2Proof.Machine

/-! ## Registers by key -/

/-- The register whose key is `k`. -/
def descOf (k : Nat) : Option RegDesc :=
  (Reg.page (k % 0x10000 / 0x1000)).find? fun r =>
    r.off ≤ k && (if r.stride = 0 then k = r.off else (k - r.off) % r.stride = 0 && (k - r.off) / r.stride < r.count)

/-- The bits of a register's fields that `p` admits. -/
def fieldMask (p : Access → Bool) (r : RegDesc) : Nat :=
  (r.fields.map fun f => if p f.acc then 2 ^ f.lo * (2 ^ f.width - 1) else 0).sum

/-- The RS bits of register `k`. -/
def rsMask (k : Nat) : Nat :=
  match descOf k with
  | some r => fieldMask (· = .rs) r
  | none => 0

def insertNat (k : Nat) : List Nat → List Nat
  | [] => [k]
  | a :: t => if k ≤ a then k :: a :: t else a :: insertNat k t

/-- The keys of every register that holds an RS field, ascending. -/
def rsKeys : List Nat :=
  let ks := (List.range 16).flatMap fun p => (Reg.page p).flatMap fun r =>
    if fieldMask (· = .rs) r = 0 then [] else (List.range r.count).map fun i => r.off + r.stride * i
  ks.foldr insertNat []

/-! ## The Varnish (R569) -/

/-- The 20 bytes of Table 13-9 for a seal word and the word at 0x1001_DFFC. -/
def State.varnishInput (s : State) (word crc : Nat) : List Byte :=
  leBytes 2 (withBits (word % 2 ^ 12) 9 1 0) ++ [BitVec.ofNat 8 s.role, 0] ++ leBytes 4 (s.fld Reg.SYS_UID_LO.UID)
    ++ leBytes 4 (s.fld Reg.SYS_UID_HI.UID) ++ leBytes 4 crc ++ leBytes 4 (if s.sealed then s.fld Reg.FAB_PLANDIG.DIG else 0)

def State.varnishOf (s : State) (word crc : Nat) : Nat := crc32c (s.varnishInput word crc)

/-- SAFE_VARNISH, SAFE_VEXP and MATCH are formed anew. -/
def State.revarnish (s : State) : State :=
  let v := s.varnishOf (s.fld Reg.SEAL_ACC.WORD) (s.num 0x1001DFFC 4)
  let e := s.num 0x1001C0F0 4
  ((s.setFld Reg.SAFE_VARNISH.DIG v).setFld Reg.SAFE_VEXP.DIG e).setFlag Reg.SEAL_ST.MATCH (v = e)

/-! ## Safety modes (R570, R571) -/

/-- A SEAL_CHANGE record (Table 13-13). -/
def State.sealRecord (s : State) (old cause before after : Nat) : State :=
  s.bbxAppend 0x05 true (leBytes 2 old ++ leBytes 2 (s.fld Reg.SEAL_ACC.WORD) ++ leBytes 1 cause ++ leBytes 1 before ++
    leBytes 1 after ++ [0] ++ leBytes 4 (s.fld Reg.SAFE_VARNISH.DIG) ++ leBytes 4 (s.fld Reg.SAFE_VEXP.DIG) ++
    leBytes 4 (s.num 0x1001DFFC 4))

/-- The MODE source follows the mode. -/
def State.syncMode (s : State) : State :=
  if s.safeMode = 1 then s.endSource Src.MODE else s.setSource Src.MODE

/-- SAFETY_MODE_CHANGE with its record. -/
def State.setMode (s : State) (m old cause : Nat) : State :=
  let before := s.safeMode
  ((s.setFld Reg.SAFE_ST.MODE m).sealRecord old cause before m).syncMode

/-- The mode after a word is accepted (Table 13-10), and the record's CAUSE. -/
def modeAfter (mode old new : Nat) (matches' : Bool) : Nat × Nat :=
  let on := bitAt new 9
  match mode with
  | 0 => if on then (2, 2) else if matches' then (1, 1) else (3, 6)
  | 1 => if on then (2, 2) else if new ≠ old then (3, 1) else (1, 1)
  | 2 => if on then (2, 1) else (3, 3)
  | _ => if on then (2, 2) else (3, 1)

/-- A seal word is accepted. -/
def State.acceptWord (s : State) (w : Nat) : State :=
  let old := s.fld Reg.SEAL_ACC.WORD
  let first := !s.safe.sealTaken
  let s : State := { s.setFld Reg.SEAL_ACC.WORD w with safe := { s.safe with sealTaken := true, sealEver := true } }
  let s := (if w ≠ old || first then s.setFlag Reg.SEAL_ST.CHANGED true else s).revarnish
  let r := modeAfter s.safeMode old w (s.flag Reg.SEAL_ST.MATCH)
  let s := if r.1 ≠ s.safeMode then s.setMode r.1 old r.2
    else if w ≠ old then s.sealRecord old r.2 s.safeMode s.safeMode else s
  if w ≠ old then s.remode else s

/-- One scan of the matrix; `ghost` says that a column read high with no row driven (R567, R577). -/
def State.sealScan (s : State) (w : Nat) (ghost : Bool) : State :=
  let s := s.setFld Reg.SEAL_RAW.WORD w
  if ghost then
    let s : State := { s.setFlag Reg.SEAL_ST.MATRIX true with
      safe := { s.safe with sealMatrix := true, sealClean := 0, sealLast := none } }
    if s.safeMode = 3 then s else s.setMode 3 (s.fld Reg.SEAL_ACC.WORD) 5
  else
    let clean := min 2 (s.safe.sealClean + 1)
    let still := s.safe.sealMatrix && clean < 2
    let same := s.safe.sealLast = some w
    let s : State := { s with safe := { s.safe with sealMatrix := still, sealClean := clean, sealLast := some w } }
    if same && !still then s.acceptWord w else s

/-- SEAL_SCAN: 10 ms after the scan before, less 3 % (R567). -/
def execSealScan (w : BitVec 12) (ghost : Bool) (s : State) : Host.Outcome State Fault Refusal :=
  .next (if s.safe.running then
      let s := s.reach (s.safe.scanAt + us 9700)
      { s with safe := { s.safe with scanAt := s.now } }.sealScan w.toNat ghost
    else s)

/-! ## Acknowledgement (R535, R544, R570, R612) -/

/-- The heartbeat is back: 100 µs have passed since channel B last missed it (R530; log 30). -/
def State.beats (s : State) : Bool :=
  match s.safe.chbMiss with
  | some t => t + us 100 ≤ s.now
  | none => true

/-- A latching source whose condition has ended clears. -/
def State.ackSources (s : State) : State :=
  let tpo := bitAt s.dsrc Src.TPO
  let agree := !s.chDiffer && s.beats
  let s : State := if agree then { s with safe := { s.safe with chbOff := false, chbSince := none } } else s
  let x := 4 ≤ s.fld Reg.SFU_XST.AGREERUN
  let ends := 2 ^ Src.TPO + (if agree then 2 ^ Src.CHB else 0) + 2 ^ Src.WDOG + 2 ^ Src.TRQRB + 2 ^ Src.PARTOFF +
    2 ^ Src.COIL + if x then 2 ^ Src.XLINK else 0
  let s := ((s.endSources ends).syncPin).syncSwitches
  if tpo then s.holdPulses else s

/-- SAFE_CTL.ACK. -/
def State.safeAck (s : State) : State :=
  let ready := s.safeMode = 3 && !bitAt (s.fld Reg.SEAL_ACC.WORD) 9 && !s.safe.sealMatrix && s.flag Reg.SEAL_ST.MATCH
  let s := if ready then s.setMode 1 (s.fld Reg.SEAL_ACC.WORD) 7 else s
  s.ackSources

/-! ## Sealed parameters (R572 to R575) -/

def sealBase : Nat := 0x1001C400

/-- The sealed safety parameter area is valid. -/
def State.sealValid (s : State) : Bool :=
  s.num sealBase 4 = 0x52415053 && s.num (sealBase + 4) 4 ≤ 894 && s.num 0x1001DFFC 4 = crc32c (s.bytes sealBase 7164)

/-- One entry sets the RS fields of its register. -/
def State.applyEntry (s : State) (addr value : Nat) : State :=
  let k := addr - 0x40000000
  let m := if 0x40000000 ≤ addr && k < 0x10000 then rsMask k else 0
  if m = 0 then s.count Reg.SAFE_ST.PWARN
  else s.setReg k (BitVec.ofNat 32 (Nat.lor (Nat.land value m) ((s.reg k).toNat - Nat.land (s.reg k).toNat m)))

/-- The entries are applied at reset; without a valid area NOPARAM is set where the safety block runs (R573). -/
def State.applySealed (s : State) : State :=
  if s.sealValid then
    forAll (List.range (s.num (sealBase + 4) 4))
      (fun i t => t.applyEntry (s.num (sealBase + 8 + 8 * i) 4) (s.num (sealBase + 12 + 8 * i) 4)) s
  else s.setSource Src.NOPARAM

/-- The area's 7,164 bytes for the registers' present values. -/
def State.sealImage (s : State) : List Byte :=
  padTo 7164 (leBytes 4 0x52415053 ++ leBytes 4 rsKeys.length ++
    rsKeys.flatMap fun k => leBytes 4 (0x40000000 + k) ++ leBytes 4 (s.reg k).toNat)

/-- Bytes from `a` on, written one sector at a time. -/
def State.nvmSectors (s : State) (a n : Nat) (b : List Byte) (w : NvmWriter) : State :=
  forAll (List.range n) (fun i t => t.nvmWrite (a + 512 * i) ((b.drop (512 * i)).take 512) w) s

/-- The sealed area is written: the entries in their order, then COUNT and MAGIC, then the CRC word (R574 steps 1 and 2). -/
def State.writeSealArea (s : State) (all : List Byte) : State :=
  let first := s.nvmWrite (sealBase + 8) ((all.drop 8).take 504) .sealedWrite
  let rest := (first.nvmSectors (sealBase + 512) 12 (all.drop 512) .sealedWrite).nvmWrite 0x1001DE00 ((all.drop 6656).take 508) .sealedWrite
  let head := (rest.nvmWrite (sealBase + 4) ((all.drop 4).take 4) .sealedWrite).nvmWrite sealBase (all.take 4) .sealedWrite
  head.nvmWrite 0x1001DFFC (all.drop 7164) .sealedWrite

/-- A write of SAFE_SEALWR with GO that is discarded. -/
def State.sealRefused (s : State) (key : Nat) : Bool := key ≠ 0x5EA1 || s.safeMode ≠ 2 || s.safe.sealing.isSome

/-- SAFE_SEALWR with GO (R574). -/
def State.sealWrite (s : State) (key : Nat) : State :=
  if s.sealRefused key then s.setFlag Reg.SAFE_SEALWR.ERR true
  else
    let area := s.sealImage
    let crc := crc32c area
    let all := area ++ leBytes 4 crc
    let v := leBytes 4 (s.varnishOf (s.fld Reg.SEAL_ACC.WORD) crc)
    let s := (s.writeSealArea all).nvmWrite 0x1001C0F0 v .sealedWrite
    { s with safe := { s.safe with sealing := some [(sealBase, all), (0x1001C0F0, v)] } }.setFlag Reg.SAFE_SEALWR.BUSY true

/-- SEALED_WRITE_DONE: once its sectors are written, everything is read back and compared (R574). Job 1 is judged
against the new word (Table 11-2). -/
def execSealedWriteDone (s : State) : Host.Outcome State Fault Refusal :=
  .next (match s.safe.sealing with
    | some l =>
      if s.nvmQ.any fun w => w.writer = .sealedWrite then s
      else
        let good := l.all fun e => decide (s.bytes e.1 e.2.length = e.2)
        let s : State := { s with safe := { s.safe with sealing := none } }
        let s := (s.setFlag Reg.SAFE_SEALWR.BUSY false).setFld Reg.CVU_JOB_EXPECT.VALUE (s.num 0x1001DFFC 4) 1
        let s := s.revarnish
        if good then
          (s.setFlag Reg.SAFE_SEALWR.DONE true).sealRecord (s.fld Reg.SEAL_ACC.WORD) 4 s.safeMode s.safeMode
        else s.setFlag Reg.SAFE_SEALWR.FAIL true
    | none => s)

end Sys2Proof.Machine
end

