-- ==== Sys2Proof/Machine/Sfu.lean ====
section
/-! DEFINITION. The safety-frame unit, the tray table, the manager pair's exchanges (chapter 14, R638 to R641, R669), and the
start of the safety block (R528). -/

namespace Sys2Proof.Machine

/-! ## Safety payloads (R583, R584) -/

/-- Rack time [31:0]. -/
def State.rack32 (s : State) : Nat := s.rackTicks % 2 ^ 32

/-- The CRC-32C of a safety payload, loaded with the CID. -/
def safetyCrc (cid : Nat) (b : List Byte) : Nat := Nat.xor (crcBytes 3 cid b) 0xFFFFFFFF

/-- The payload of a safety frame. -/
def safetyPayload (kind cn stamp cid : Nat) (data : List Byte) : List Byte :=
  let b := leBytes 1 kind ++ leBytes 2 cn ++ leBytes 3 stamp ++ data
  b ++ leBytes 4 (safetyCrc cid b)

/-- Kinds that a slot may have (Table 14-2). -/
def kindAllowed (k : Nat) : Bool := (1 ≤ k && k ≤ 3) || 0x40 ≤ k

/-- SEAL[11:10] (Table 13-8). -/
def State.sealClass (s : State) : Nat := bitsAt (s.fld Reg.SEAL_ACC.WORD) 10 2

def State.maxAge (s : State) : Nat := ms ([4, 8, 2, 16].getD s.sealClass 4)
def State.deadline (s : State) : Nat := ms ([10, 20, 5, 40].getD s.sealClass 10)

/-! ## Receiving ends -/

/-- One receiving end: a slot, a tray entry or XRX. -/
structure RxEnd where
  armed : Bool
  peer : Nat
  kind : Nat
  cid : Nat
  l : Fld
  valid : Fld
  crc : Fld
  age : Fld
  seq : Fld
  lost : Fld
  i : Nat
  jump : Option (BitVec 16)
  deriving DecidableEq, Repr

/-- A received SAFE frame as the unit reads it. -/
structure SafeFrame where
  type : Nat
  src : Nat
  payload : List Byte
  deriving DecidableEq, Repr

namespace Verdict
def ACCEPT : Nat := 1
def RESYNC : Nat := 2
def SLOT : Nat := 3
def LENGTH : Nat := 4
def SOURCE : Nat := 5
def CRC : Nat := 6
def KIND : Nat := 7
def AGE : Nat := 8
def OLD : Nat := 9
def JUMP : Nat := 10
def FORMED : Nat := 11
def FORMERR : Nat := 12
def BADBUF : Nat := 13
end Verdict

/-- The age of a frame stamped `stamp`, in ticks (R592). -/
def State.ageOf (s : State) (stamp : Nat) : Int := signed 32 (unsigned 32 ((s.rack32 : Int) - stamp * 256))

/-- The checks of Table 14-3 in order, with the window of R593 and R594: the verdict. -/
def State.checkFrame (s : State) (e : RxEnd) (f : SafeFrame) : Nat :=
  let n := f.payload.length
  let cn := fieldOf f.payload 1 2
  let d := (cn + 65536 - s.fld e.l e.i) % 65536
  let age := s.ageOf (fieldOf f.payload 3 3)
  if !e.armed then Verdict.SLOT
  else if f.type ≠ 1 || n < 10 || 46 < n then Verdict.LENGTH
  else if f.src ≠ e.peer then Verdict.SOURCE
  else if fieldOf f.payload (n - 4) 4 ≠ safetyCrc e.cid (f.payload.take (n - 4)) then Verdict.CRC
  else if fieldOf f.payload 0 1 ≠ e.kind then Verdict.KIND
  else if age < -24000 || (s.maxAge : Int) < age then Verdict.AGE
  else if !s.flag e.valid e.i then Verdict.ACCEPT
  else if 1 ≤ d && d ≤ 8 then Verdict.ACCEPT
  else if d = 0 || 65528 ≤ d then Verdict.OLD
  else if e.jump = some (BitVec.ofNat 16 (cn + 65535)) then Verdict.RESYNC
  else Verdict.JUMP

def accepts (v : Nat) : Bool := v = Verdict.ACCEPT || v = Verdict.RESYNC

/-- What a verdict leaves at the end: L and VALID of an accepted frame with its gap, or the count of an error (R593,
R595). -/
def State.noteVerdict (s : State) (e : RxEnd) (f : SafeFrame) (v : Nat) : State :=
  if accepts v then
    let cn := fieldOf f.payload 1 2
    let d := (cn + 65536 - s.fld e.l e.i) % 65536
    let s := if v = Verdict.ACCEPT && s.flag e.valid e.i then s.countBy e.lost (d - 1) e.i else s
    (s.setFld e.l cn e.i).setFlag e.valid true e.i
  else if v = Verdict.CRC then s.count e.crc e.i
  else if v = Verdict.AGE then s.count e.age e.i
  else if v = Verdict.OLD || v = Verdict.JUMP then s.count e.seq e.i
  else s

/-- EXP becomes the later of its value and STAMP × 256 + DEADLINE (R595). -/
def State.noteExpiry (s : State) (exp : Fld) (i : Nat) (f : SafeFrame) : State :=
  let new : Nat := (fieldOf f.payload 3 3 * 256 + s.deadline) % 2 ^ 32
  if 0 < signed 32 (unsigned 32 ((new : Int) - s.fld exp i)) then s.setFld exp new i else s

/-- The SAFE frame in a RECV buffer (R162). -/
def State.frameAt (s : State) (a : Nat) : SafeFrame :=
  ⟨s.num a 4 / 2 ^ 28, s.num (a + 4) 2, s.bytes (a + 12) (s.num (a + 8) 1)⟩

/-- SFU_BUF. -/
def State.sfuBuf (s : State) : Nat := 4 * s.fld Reg.SFU_BUF.ADDR

/-- The whole buffer lies in SRAM (R588). -/
def State.sfuBufGood (s : State) : Bool := s.sfuBuf + 58 ≤ 0x10000

/-! ## Slots (R586 to R602) -/

def State.slotOn (s : State) (k : Nat) (tx : Bool) : Bool :=
  s.flag Reg.SCON_CFG.EN k && s.flag Reg.SCON_CFG.DIR k = tx && kindAllowed (s.fld Reg.SCON_CFG.KIND k)

/-- The torque-release bit: the own pin and the partner line read low. -/
def State.trLow (s : State) : Bool := !s.flag Reg.SAFE_TRQ.OWN && !s.flag Reg.SAFE_TRQ.PART

/-- D data bytes of the buffer, DATA[0] bit 0 written by hardware where the end carries the TR bit. -/
def State.formData (s : State) (d : Nat) (tr : Bool) : List Byte :=
  match s.bytes (s.sfuBuf + 6) d with
  | [] => []
  | b :: t => (if tr && s.isManager then BitVec.ofNat 8 (withBits b.toNat 0 1 (if s.trLow then 1 else 0)) else b) :: t

/-- The unit forms a payload in the buffer. -/
def State.formAt (s : State) (kind cn cid d : Nat) (tr : Bool) : State :=
  s.setBytes s.sfuBuf (safetyPayload kind cn (s.rack32 / 256) cid (s.formData d tr))

/-- SFU_RES after an operation on slot `k`. -/
def State.sfuRes (s : State) (k verdict : Nat) (paired : Bool) : State :=
  ((s.setFld Reg.SFU_RES.VERDICT verdict).setFld Reg.SFU_RES.SLOT k).setFlag Reg.SFU_RES.PAIRED paired

/-- FORM on slot `k` (R586, R587). -/
def State.sfuForm (s : State) (k d : Nat) : State :=
  if !s.slotOn k true || 36 < d || !s.sfuBufGood then s.sfuRes k Verdict.FORMERR false
  else
    let cn := s.fld Reg.SCON_CN.CN k
    let s := s.formAt (s.fld Reg.SCON_CFG.KIND k) cn (s.fld Reg.SCON_CID.CID k) d (s.flag Reg.SCON_CFG.TRBIT k)
    ((s.setFld Reg.SCON_CN.CN (cn + 1) k).sfuRes k Verdict.FORMED false).setFld Reg.SFU_RES.CN cn

/-- The receiving end of slot `k`. -/
def State.slotEnd (s : State) (k : Nat) : RxEnd where
  armed := s.slotOn k false && s.bitOf Reg.SFU_ARM.SLOTS k
  peer := s.fld Reg.SCON_CFG.PEER k
  kind := s.fld Reg.SCON_CFG.KIND k
  cid := s.fld Reg.SCON_CID.CID k
  l := Reg.SCON_CN.CN
  valid := Reg.SCON_CN.VALID
  crc := Reg.SCON_ERR.CRC
  age := Reg.SCON_ERR.AGE
  seq := Reg.SCON_ERR.SEQ
  lost := Reg.SCON_ERR.LOST
  i := k
  jump := s.sfu.jump.toList.getD k none

def State.keptOf (s : State) (k : Nat) : Option (Nat × Nat × List Byte) := s.sfu.kept.toList.getD k none

/-- The other slot of the pair that slot `k` belongs to (R602). -/
def State.pairOf (s : State) (k : Nat) : Option Nat :=
  let m := k / 2 * 2
  if s.flag Reg.SCON_CFG.PAIR m then some (if k = m then m + 1 else m) else none

/-- The other slot accepted the same KIND and DATA within the last 2 ms. -/
def State.pairsWith (s : State) (k : Nat) (f : SafeFrame) : Bool :=
  let data := (f.payload.drop 6).take (f.payload.length - 10)
  match s.pairOf k with
  | some j => match s.keptOf j with
    | some (t, kind, d) => s.now ≤ t + ms 2 && kind = fieldOf f.payload 0 1 && d = data
    | none => false
  | none => false

/-- CHECK on slot `k` (R591 to R595, R602). -/
def State.sfuCheck (s : State) (k : Nat) : State :=
  if !s.sfuBufGood then s.sfuRes k Verdict.BADBUF false
  else
    let f := s.frameAt s.sfuBuf
    let e := s.slotEnd k
    let v := s.checkFrame e f
    let cn := fieldOf f.payload 1 2
    let paired := accepts v && s.pairsWith k f
    let s := s.noteVerdict e f v
    let s := if accepts v then s.noteExpiry Reg.SCON_EXP.TICK k f else s
    let data := (f.payload.drop 6).take (f.payload.length - 10)
    let s : State := if h : k < 16 then { s with sfu := { s.sfu with
        kept := if accepts v then s.sfu.kept.set k (some (s.now, fieldOf f.payload 0 1, data)) h else s.sfu.kept
        jump := if v = Verdict.JUMP then s.sfu.jump.set k (some (BitVec.ofNat 16 cn)) h else s.sfu.jump } } else s
    let s := s.sfuRes k v paired
    if v = Verdict.SLOT || v = Verdict.LENGTH then s else s.setFld Reg.SFU_RES.CN cn

/-- A write of SFU_ARM (R597). -/
def State.sfuArm (s : State) (w : Nat) : State :=
  forAll (List.range 16) (fun k t =>
    if bitAt w k then
      ((t.setBitOf Reg.SFU_ARM.SLOTS k true).setFld Reg.SCON_EXP.TICK (t.rack32 + t.deadline) k).setFlag Reg.SCON_CN.VALID false k
    else if t.flag Reg.SCON_CFG.ACT k && (t.flag Reg.SAFE_TRQ.PERMIT || !t.allOff) then t
    else t.setBitOf Reg.SFU_ARM.SLOTS k false) s

/-! ## The tray table (R638 to R641) -/

/-- The receiving end of tray entry `t`. -/
def State.trayEnd (s : State) (t : Nat) : RxEnd where
  armed := s.flag Reg.TRAY_CFG.EN t && s.bitOf Reg.RACK_TARM.ENTRIES (t % 32) (t / 32)
  peer := s.fld Reg.TRAY_CFG.TADDR t
  kind := 1
  cid := s.fld Reg.TRAY_STCID.STCID t
  l := Reg.TRAY_RX.L
  valid := Reg.TRAY_RX.VALID
  crc := ⟨0xA81C, 0x20, 0, 8⟩
  age := ⟨0xA81C, 0x20, 8, 8⟩
  seq := ⟨0xA81C, 0x20, 16, 8⟩
  lost := ⟨0xA81C, 0x20, 24, 8⟩
  i := t
  jump := s.sfu.tJump.toList.getD t none

def State.trayRes (s : State) (t verdict : Nat) : State :=
  (s.setFld Reg.RACK_TRES.VERDICT verdict).setFld Reg.RACK_TRES.ENTRY t

/-- FORM_RS and FORM_CMD on entry `t`. -/
def State.trayForm (s : State) (t d kind : Nat) (cid cnf : Fld) (tr : Bool) : State :=
  if !s.flag Reg.TRAY_CFG.EN t then s.trayRes t Verdict.SLOT
  else if 36 < d || !s.sfuBufGood then s.trayRes t Verdict.FORMERR
  else
    let cn := s.fld cnf t
    let s := s.formAt kind cn (s.fld cid t) d tr
    ((s.setFld cnf (cn + 1) t).trayRes t Verdict.FORMED).setFld Reg.RACK_TRES.CN cn

def State.formRs (s : State) (t d : Nat) : State := s.trayForm t d 2 Reg.TRAY_RSCID.STCID Reg.TRAY_CN.RSCN true
def State.formCmd (s : State) (t d : Nat) : State := s.trayForm t d 3 Reg.TRAY_CMCID.STCID Reg.TRAY_CN.CMCN false

/-- CHECK_ST on entry `t`. -/
def State.checkSt (s : State) (t : Nat) : State :=
  if !s.flag Reg.TRAY_CFG.EN t then s.trayRes t Verdict.SLOT
  else if !s.sfuBufGood then s.trayRes t Verdict.BADBUF
  else
    let f := s.frameAt s.sfuBuf
    let e := s.trayEnd t
    let v := s.checkFrame e f
    let cn := fieldOf f.payload 1 2
    let s := s.noteVerdict e f v
    let s := if accepts v then s.noteExpiry Reg.TRAY_EXP.EXP t f else s
    let s : State := if h : t < 64 then { s with sfu := { s.sfu with
        tJump := if v = Verdict.JUMP then s.sfu.tJump.set t (some (BitVec.ofNat 16 cn)) h else s.sfu.tJump } } else s
    let s := s.trayRes t v
    if v = Verdict.SLOT || v = Verdict.LENGTH then s else s.setFld Reg.RACK_TRES.CN cn

/-- A write of RACK_TARM word `w` (R597, R640). -/
def State.trayArm (s : State) (w : Nat) (v : Nat) : State :=
  forAll (List.range 32) (fun b t =>
    let k := 32 * w + b
    if bitAt v b then
      ((t.setBitOf Reg.RACK_TARM.ENTRIES b true w).setFld Reg.TRAY_EXP.EXP (t.rack32 + t.deadline) k).setFlag
        Reg.TRAY_RX.VALID false k
    else if t.flag Reg.TRAY_CFG.ACT k && t.flag Reg.SAFE_TRQ.PERMIT then t
    else t.setBitOf Reg.RACK_TARM.ENTRIES b false w) s

/-! ## Operations in progress (R586, R589, R591, R638, R639) -/

def SfuOp.onTray : SfuOp → Bool
  | .form _ _ => false
  | .check _ => false
  | .formRs _ _ => true
  | .formCmd _ _ => true
  | .checkSt _ => true

/-- The greatest time an operation takes: 3 µs to form, 4 µs to check. -/
def SfuOp.limit : SfuOp → Nat
  | .check _ => us 4
  | .checkSt _ => us 4
  | .form _ _ => us 3
  | .formRs _ _ => us 3
  | .formCmd _ _ => us 3

/-- What an operation does. -/
def State.sfuDo (s : State) : SfuOp → State
  | .form k d => s.sfuForm k d
  | .check k => s.sfuCheck k
  | .formRs t d => s.formRs t d
  | .formCmd t d => s.formCmd t d
  | .checkSt t => s.checkSt t

/-- BUSY of SFU_RES or RACK_TRES. -/
def State.setSfuBusy (s : State) (o : SfuOp) (b : Bool) : State :=
  if o.onTray then s.setFlag Reg.RACK_TRES.BUSY b else s.setFlag Reg.SFU_RES.BUSY b

/-- An operation in progress whose time has come ends. -/
def State.sfuSettle (s : State) : State :=
  match s.sfu.op with
  | some (o, t) =>
    if t ≤ s.now then ({ s with sfu := { s.sfu with op := none } }.sfuDo o).setSfuBusy o false else s
  | none => s

/-- A write of SFU_OP or RACK_TOP starts an operation that ends within its time; while one is in progress it is discarded
(R589, R639). -/
def State.sfuStart (s : State) (o : SfuOp) : State :=
  let s := s.sfuSettle
  if s.sfu.op.isSome then s
  else { s with sfu := { s.sfu with op := some (o, s.now + Config.opTicks s.free % (o.limit + 1)) }, free := s.free + 1 }.setSfuBusy o true

/-- An operation that no other is in the way of, from its write to its end. -/
def State.sfuRun (s : State) (o : SfuOp) : State :=
  let s := s.sfuSettle
  if s.sfu.op.isSome then s else s.sfuDo o

/-! ## Expiry (R596, R634, R640) -/

/-- An EXP has passed. -/
def State.expired (s : State) (exp : Fld) (i : Nat) : Bool := 0 ≤ signed 32 (unsigned 32 ((s.rack32 : Int) - s.fld exp i))

def State.expireSlot (s : State) (k : Nat) : State :=
  if s.slotOn k false && s.bitOf Reg.SFU_ARM.SLOTS k && s.expired Reg.SCON_EXP.TICK k then
    let arm := withBits (s.fld Reg.SFU_ARM.SLOTS) k 1 0
    let s := ((s.update s.now Reg.SFU_ARM.SLOTS arm).setBitOf Reg.SFU_EXPIRED.SLOTS k true).raise Ev.SAFE
    let s := if s.flag Reg.SCON_CFG.ACT k then s.setDemand else s
    if s.isTray && s.flag Reg.RACK_CFG.RSBOTH && s.bitOf Reg.SFU_EXPIRED.SLOTS 0 && s.bitOf Reg.SFU_EXPIRED.SLOTS 1 && k < 2
    then s.setDemand else s
  else s

def State.expireTray (s : State) (k : Nat) : State :=
  if s.bitOf Reg.RACK_TARM.ENTRIES (k % 32) (k / 32) && s.expired Reg.TRAY_EXP.EXP k then
    let arm := withBits (s.fld Reg.RACK_TARM.ENTRIES (k / 32)) (k % 32) 1 0
    let s := (s.update s.now Reg.RACK_TARM.ENTRIES arm (k / 32)).setBitOf Reg.RACK_TEXP.ENTRIES (k % 32) true (k / 32)
    let s := s.raise Ev.SAFE
    if s.flag Reg.TRAY_CFG.ACT k then s.setDemand else s
  else s

/-- SFU_EXPIRY_EXAMINE: the next rack time that is a multiple of 12,000 ticks. -/
def execSfuExpiryExamine (s : State) : Host.Outcome State Fault Refusal :=
  .next (if s.hasSafety then
      let s := s.reachTick (s.nextPhase 12000 0)
      let s := forAll (List.range 16) (fun k t => t.expireSlot k) s
      if s.isManager then forAll (List.range 64) (fun k t => t.expireTray k) s else s
    else s)

/-! ## The manager pair (R606 to R616, R826) -/

/-- The partner's address in the sealed plan. -/
def State.partner (s : State) : BitVec 16 := if s.isMgrA then s.mgrB else s.mgrA

/-- The die exchanges votes: it has a sealed plan and an SFU_XCID (R613). -/
def State.exchanges (s : State) : Bool := s.sealed && s.fld Reg.SFU_XCID.CID ≠ 0

/-- STATE of Table 14-5. -/
def State.xchgState (s : State) : Nat :=
  s.dsrc + (if s.flag Reg.SAFE_TRQ.PERMIT then 2 ^ 17 else 0) + (if s.flag Reg.SAFE_TRQ.OWN then 2 ^ 18 else 0) +
    (if s.flag Reg.SAFE_TRQ.PART then 2 ^ 19 else 0) + 2 ^ 20 * s.safeMode

/-- The partner's frame of the exchange at `t`, when it was accepted before the instant's own step. -/
def State.gotAt (s : State) (t : Nat) : Option (List Word) :=
  match s.sfu.early with
  | some (a, v) => if t ≤ a && a ≤ t + 2400 then some v else none
  | none => none

/-- The exchange instant `t`: a waiting COMMIT takes effect, manager A's TIME goes out, then the XCHG (R606, R609, R613). -/
def State.exchangeAt (s : State) (t : Nat) : State :=
  let live := if s.sfu.commit then Vector.ofFn fun (i : Fin 8) => s.reg (0x9140 + 4 * i.val) else s.sfu.live
  let s : State := { s with sfu := { s.sfu with live := live, commit := false, instant := some t, judged := false,
                                                sent := live, got := s.gotAt t, early := none } }
  let s := if s.isMgrA then s.enqueue xlink { TxItem.of s.timeFrame .other with
      frame := { s.timeFrame with ackreq := false }, stamp := .origin } else s
  if !s.exchanges then s
  else
    let cn := s.fld Reg.SFU_XST.TXCN
    let data := leBytes 4 s.xchgState ++ live.toList.flatMap fun w => leBytes 4 w.toNat
    let pay := safetyPayload 0x10 cn (t % 2 ^ 32 / 256) (s.fld Reg.SFU_XCID.CID) data
    let f := s.mkFrame Ty.SAFE s.defHops (Config.hwPrio 1 % 8) false s.partner pay
    (s.setFld Reg.SFU_XST.TXCN (cn + 1)).enqueue xlink (.of f .other)

/-- EXCHANGE_INSTANT: the next multiple of 12,000 ticks, or at once the last one that the count has passed since the block
started (R606, R614). -/
def execExchangeInstant (s : State) : Host.Outcome State Fault Refusal :=
  .next (if s.isManager && s.safe.running then
      let last := s.rackNow - s.rackTicks % 12000
      let due := match s.sfu.instant with
        | some t => decide (t < last)
        | none => decide (s.sfu.since ≤ last)
      let next := s.nextMultiple 12000
      if due then s.exchangeAt last else (s.reachTick next).exchangeAt next
    else s)

/-- The cross-link receive end XRX (R608); without a sealed plan no SRC is the partner's. -/
def State.xrxEnd (s : State) : RxEnd where
  armed := s.flag Reg.SFU_XRX.ARMED
  peer := if s.sealed then s.partner.toNat else 2 ^ 16
  kind := 0x10
  cid := s.fld Reg.SFU_XCID.CID
  l := Reg.SFU_XRX.L
  valid := Reg.SFU_XRX.VALID
  crc := Reg.SFU_XERR.CRC
  age := Reg.SFU_XERR.AGE
  seq := Reg.SFU_XERR.SEQ
  lost := Reg.SFU_XERR.LOST
  i := 0
  jump := s.sfu.xJump

/-- An XCHG accepted at rack time `t` after an instant whose own step has not come: the first within 100 µs of it waits for it (R607). -/
def State.keepVotes (s : State) (t : Nat) (votes : List Word) : State :=
  let m := t - t % 2 ^ 48 % 12000
  let held := match s.sfu.early with
    | some (a, _) => decide (m ≤ a)
    | none => false
  let later := match s.sfu.instant with
    | some u => decide (u < m)
    | none => true
  if later && t ≤ m + 2400 && !held then { s with sfu := { s.sfu with early := some (t, votes) } } else s

/-- An XCHG accepted at its EOF, rack time `at_`: the partner's votes, and the first within 100 µs of an instant is the exchange's (R607). -/
def State.takeVotes (s : State) (b : List Byte) (at_ : Nat) : State :=
  let votes := (List.range 8).map fun i => BitVec.ofNat 32 (fieldOf b (10 + 4 * i) 4)
  let s := forAll (List.range 8) (fun i t => t.setFld Reg.SFU_PVOTE.VALUE (fieldOf b (10 + 4 * i) 4) i) s
  match s.sfu.instant with
  | some t =>
    if !s.sfu.judged && s.sfu.got.isNone && t ≤ at_ && at_ ≤ t + 2400 then { s with sfu := { s.sfu with got := some votes } }
    else s.keepVotes at_ votes
  | none => s.keepVotes at_ votes

/-- XRX's EXP follows an accepted XCHG as a slot's does (R595, R608). -/
def State.noteXExp (s : State) (f : SafeFrame) : State :=
  let new : Nat := (fieldOf f.payload 3 3 * 256 + s.deadline) % 2 ^ 32
  if 0 < signed 32 (unsigned 32 ((new : Int) - s.sfu.xExp)) then { s with sfu := { s.sfu with xExp := new } } else s

/-- An operation in progress ends before an XCHG is checked (R608). -/
def State.sfuFinish (s : State) : State :=
  match s.sfu.op with
  | some (o, _) => ({ s with sfu := { s.sfu with op := none } }.sfuDo o).setSfuBusy o false
  | none => s

/-- XCHG: a SAFE frame arrives on the cross-link, its SOF now; it is checked and accepted at its EOF (R607, R608). -/
def State.takeXchg (s : State) (a : Arrival) : State :=
  match s.lineOf a with
  | .good =>
    let s := s.heard xlink a.frame
    if s.link xlink ≠ Link.UP then s
    else
      let s := s.sfuFinish
      let f : SafeFrame := ⟨1, a.frame.src.toNat, a.frame.payload⟩
      let e := s.xrxEnd
      let eof := s.advance a.frame.ticks
      let v := eof.checkFrame e f
      let s := s.noteVerdict e f v
      if accepts v then (s.noteXExp f).takeVotes a.frame.payload eof.rackNow
      else if v = Verdict.JUMP then
        { s with sfu := { s.sfu with xJump := some (BitVec.ofNat 16 (fieldOf a.frame.payload 1 2)) } }
      else s
  | l => s.countLine xlink l

def execXchg (a : Arrival) (s : State) : Host.Outcome State Fault Refusal :=
  .next (s.takeXchg { a with port := xlink, frame := { a.frame with ftype := Ty.SAFE } })

/-- XLINK_SET and SURVIVOR_SET (R610, R611, R669); a survivor's CAPOUT is low at once (R662, R670). `verdict` is 0 AGREE, 1 MISMATCH, 2 MISSING. Each judged
exchange raises XLINK to CTX0 (Table 3-4; DEDUCED, log 32). -/
def State.judgeExchange (s : State) (verdict : Nat) : State :=
  let was := s.flag Reg.SFU_XST.LAST_MISMATCH
  let missing := if verdict = 2 then s.sfu.missing + 1 else 0
  let run := if verdict = 0 then min 15 (s.fld Reg.SFU_XST.AGREERUN + 1) else 0
  let s : State := { s with sfu := { s.sfu with judged := true, missing := min 4 missing } }
  let s := ((s.setFlag Reg.SFU_XST.LAST_MISMATCH (verdict = 1)).setFlag Reg.SFU_XST.LAST_MISSING (verdict = 2)).setFld
    Reg.SFU_XST.AGREERUN run
  let bad := (was && verdict ≠ 0) || 4 ≤ missing
  let s := s.setFlag Reg.SFU_XST.XLINK bad
  let s := if bad then s.setSource Src.XLINK else s
  let s := if 4 ≤ missing then (s.setFlag Reg.RACK_MST.SURVIVOR true).setFld Reg.RACK_CAPOUT.DUTY 0 else s
  (if 4 ≤ run then s.setFlag Reg.RACK_MST.SURVIVOR false else s).raise Ev.XLINK

/-- EXCHANGE_JUDGE: 100 µs after the instant; MISSING without a sealed plan or SFU_XCID (R610, R613). -/
def execExchangeJudge (s : State) : Host.Outcome State Fault Refusal :=
  .next (match s.sfu.instant with
    | some t =>
      if s.sfu.judged || !s.safe.running then s
      else
        let s := s.reachTick (t + 2400)
        s.judgeExchange (if !s.exchanges then 2 else match s.sfu.got with
          | some v => if v = s.sfu.sent.toList then 0 else 1
          | none => 2)
    | none => s)

/-- SFU_VOTECTL.COMMIT (R609). -/
def State.voteCommit (s : State) : State := { s with sfu := { s.sfu with commit := true } }

/-- CROSS_LINK_START: manager A starts the cross-link at reset and after every loss; between attempts the pauses of R408 hold (R826). -/
def execCrossLinkStart (s : State) : Host.Outcome State Fault Refusal :=
  .next (if s.isMgrA && s.link xlink = Link.DOWN && (s.port xlink).phase = .none then s.startLink xlink else s)

/-! ## The block's start and stop (R528, R608) -/

/-- The safety block starts in safety mode START with every pair in INIT. -/
def State.safeStart (s : State) : State :=
  if !s.hasSafety then s
  else
    let armed := s.isManager && s.fld Reg.SFU_XCID.CID ≠ 0
    let low := bitAt s.dsrc Src.TPO || !s.flag Reg.SYS_SUPPLY.COIL_OK
    let f := { s.safe with
      running := true
      known := s.safe.known / 2 ^ 8 * 2 ^ 8
      cause := Vector.replicate 12 0
      cause2 := Vector.replicate 12 0
      passes := Vector.replicate 12 0
      full := 0
      pairsB := 0
      disc := Vector.replicate 4 none
      bothSeen := 0
      restart := 0
      pulseA := low
      pulseB := low
      bothLow := if low then some (s.safe.bothLow.getD s.now) else none
      chbSince := none
      chbMiss := none
      sealLast := none
      sealClean := 0
      sealTaken := false
      partSeen := false
      partLow := none
      partMiss := 0
      sinA := Vector.replicate 12 s.now
      sinB := Vector.replicate 12 s.now
      pulse := none
      cmpAt := s.now
      scanAt := s.now - us 9700 }
    let s : State := { s with safe := f, sfu := { s.sfu with
      instant := none, judged := true, got := none, early := none, missing := 0, since := s.rackNow } }
    let s := (s.setFld Reg.SAFE_ST.MODE 0).setFld Reg.SAFE_ST.PAIRS 0
    let s := (s.setSources 0x4F).syncDrives
    if armed then
      ({ s with sfu := { s.sfu with xExp := (s.rack32 + s.deadline) % 2 ^ 32 } }.setFlag Reg.SFU_XRX.ARMED true).setFlag Reg.SFU_XRX.VALID false
    else s

/-- The block stops below DOZE: SFU_ARM and RACK_TARM clear and XRX is disarmed (R597, R608, R638). -/
def State.safeStop (s : State) : State :=
  if s.safe.running then
    let s : State := { s with safe := { s.safe with running := false } }
    (((s.setFld Reg.SFU_ARM.SLOTS 0).setFld Reg.RACK_TARM.ENTRIES 0).setFld Reg.RACK_TARM.ENTRIES 0 1).setFlag Reg.SFU_XRX.ARMED false
  else s

end Sys2Proof.Machine
end

