-- ==== Sys2Proof/Machine/Rack.lean ====
section
/-! DEFINITION. The join engine's measurements and timers, and the power cap (chapter 15, R646 to R668). -/

namespace Sys2Proof.Machine

def State.joinState (s : State) : Nat := s.fld Reg.RACK_TST.STATE

/-- AUX6 or AUX7 in µV as 0.1 V of bus or tray, saturating in its field (R646). -/
def State.auxVolts (s : State) (uv : Nat) : Nat :=
  min 0xFFFF (roundFree ((uv * s.fld Reg.RACK_DIV.RATIO : Nat) / (100000 : Rat))).toNat

/-- AUX6 and AUX7 in µV are written, and what PRECHARGE and SETTLE make of them (R649). -/
def State.joinVolts (s : State) (aux6 aux7 : Nat) : State :=
  if s.isTray && s.joinRuns then
    let vb := s.auxVolts aux6
    let vt := s.auxVolts aux7
    let s := (s.setFld Reg.RACK_VBUS.V vb).setFld Reg.RACK_VTRAY.V vt
    if s.rack.aborting then s
    else if s.joinState = 3 then (if s.dvNear then s else s.joinStep)
    else s.trySettle
  else s

/-- JOIN_VOLTAGE_SAMPLE: two Sketch windows with an auxiliary input's gap between them end; the next begin 1 ms after these (R646). -/
def execJoinVoltageSample (aux6 aux7 : Nat) (s : State) : Host.Outcome State Fault Refusal :=
  .next (if s.isTray && s.joinRuns then
      let t := s.rack.voltsFrom
      let s := s.reach (t + us 85)
      ({ s with rack := { s.rack with voltsFrom := max (t + ms 1) s.now } }.joinVolts aux6 aux7).didWork 5 2
    else s)

/-- SETTLE_END: the settle timer reaches SETTLE (R649). -/
def execSettleEnd (s : State) : Host.Outcome State Fault Refusal :=
  .next (match s.rack.settleAt with
    | some t => if s.joinState = 3 then (s.reach (t + ms (10 * s.fld Reg.RACK_JTIME.SETTLE))).joinStep else s
    | none => s)

/-- PRECHARGE_TIMEOUT: the precharge timer reaches PRE, less the time spent with HOLD at 1, before MAIN (R650). -/
def execPrechargeTimeout (s : State) : Host.Outcome State Fault Refusal :=
  .next (match s.rack.preAt with
    | some t =>
      if s.joinState = 2 || s.joinState = 3 then
        ((s.reach (t + ms (10 * s.fld Reg.RACK_JTIME.PRE) + s.rack.preHeld)).joinAbort 2)
      else s
    | none => s)

/-- A mean shunt voltage in nV as 0.1 A, saturating in its field (R647). -/
def State.shuntAmps (s : State) (nv : Int) : Int :=
  let r := s.fld Reg.RACK_RSHUNT.UOHM
  let i := if r = 0 then Config.byZero nv else roundFree ((nv : Rat) / (100 * (r : Rat)))
  max (-32767) (min 32767 i)

/-- TRAY_CURRENT_SAMPLE: the mean shunt voltage of 100 µs, in nV: RACK_ITRAY and IPEAK, then inrush, opening and cap. -/
def State.trayAmps (s : State) (nv : Int) : State :=
  if s.isTray && 1 ≤ s.joinState && s.joinState ≤ 6 then
    let i := s.shuntAmps nv
    let a := i.natAbs
    let s := (s.setFld Reg.RACK_ITRAY.A (unsigned 16 i)).setFld Reg.RACK_IPEAK.A (max a (s.fld Reg.RACK_IPEAK.A))
    let s := s.watchCap
    if 2 ≤ s.joinState && s.joinState ≤ 4 && s.fld Reg.RACK_ILIM.A < a then s.joinAbort 1
    else if s.joinState = 6 && !s.rack.aborting && s.rack.leaveAt.isSome && a ≤ s.fld Reg.RACK_OPEN.OPENI then
      ({ s with rack := { s.rack with leaveAt := none } }.engineOff 1).joinStep
    else s
  else s

def execTrayCurrentSample (nv : Int) (s : State) : Host.Outcome State Fault Refusal :=
  .next (if s.isTray && 1 ≤ s.joinState && s.joinState ≤ 6 then
      let s := s.reach (s.rack.ampsAt + us 100)
      { s with rack := { s.rack with ampsAt := s.now } }.trayAmps nv
    else s)

/-- JOIN_RETRY: 30 s in RETRY_WAIT end with a new attempt, or PRECOND (R652). -/
def execJoinRetry (s : State) : Host.Outcome State Fault Refusal :=
  .next (match s.rack.retryAt with
    | some t =>
      if s.joinState = 7 then
        let s := s.reach t
        if s.joinReady (s.fld Reg.RACK_TCAP.SEQ) then s.joinStart
        else
          let s : State := { s with rack := { s.rack with retryAt := none } }
          ((s.setFld Reg.RACK_TST.STATE 0).setFld Reg.RACK_TST.CAUSE 6).setFlag Reg.RACK_TST.JOINWANT false
      else s
    | none => s)

/-- OPENING_WAIT_END: OPENT has passed in LEAVING (R654); in a demand the safe state governs the coils (R655). -/
def execOpeningWaitEnd (s : State) : Host.Outcome State Fault Refusal :=
  .next (match s.rack.leaveAt with
    | some t =>
      if s.joinState = 6 && !s.rack.aborting then
        let s := s.reach t
        ({ s with rack := { s.rack with leaveAt := none } }.engineOff 1).joinStep
      else s
    | none => s)

/-- HOLD for 2 ms from a change of the applied cap in NEG, PRECHARGE or SETTLE (R665). -/
def State.capHold (s : State) : State :=
  if 1 ≤ s.joinState && s.joinState ≤ 3 then
    let old := max s.now (s.rack.holdUntil.getD 0)
    let till := s.now + ms 2
    let held := if s.rack.preAt.isSome then s.rack.preHeld + (till - old) else s.rack.preHeld
    { s with rack := { s.rack with holdUntil := some till, preHeld := held } }.setFlag Reg.RACK_TST.HOLD true
  else s

/-- A cap is applied. -/
def State.applyCap (s : State) (seq cap itray : Nat) : State :=
  let same := s.flag Reg.RACK_TCAP.VALID && s.fld Reg.RACK_TCAP.CAP = cap && s.rack.itray = itray
  let s := ((s.setFld Reg.RACK_TCAP.SEQ seq).setFld Reg.RACK_TCAP.CAP cap).setFlag Reg.RACK_TCAP.VALID true
  let s := { s with rack := { s.rack with itray := itray } }.watchCap
  if same then s else s.capHold

/-- RACK_CAPIN1 with GO: the written CAP is judged (R660, R668). -/
def State.capinGo (s : State) : State :=
  if !s.isTray then s
  else
    let seq := s.fld Reg.RACK_CAPIN0.CAPSEQ
    let raw := s.fld Reg.RACK_CAPIN0.CAP
    let itray := s.fld Reg.RACK_CAPIN1.ITRAY
    let cap := min 1000 raw
    let s := if 1000 < raw then s.setFlag Reg.RACK_TST.CAPDIFF true else s
    let d := (seq + 65536 - s.fld Reg.RACK_TCAP.SEQ) % 65536
    let s :=
      if !s.flag Reg.RACK_TCAP.VALID || (1 ≤ d && d < 32768) then s.applyCap seq cap itray
      else if d = 0 then
        if cap = s.fld Reg.RACK_TCAP.CAP && itray = s.rack.itray then s.count Reg.RACK_CAPCNT.CAPDUP
        else
          (s.applyCap seq (min cap (s.fld Reg.RACK_TCAP.CAP)) (min itray s.rack.itray)).setFlag Reg.RACK_TST.CAPDIFF true
      else s.count Reg.RACK_CAPCNT.CAPOLD
    s.setFld Reg.RACK_CAPIN1.ITRAY s.rack.itray

/-- CAP_HOLD_END. -/
def execCapHoldEnd (s : State) : Host.Outcome State Fault Refusal :=
  .next (match s.rack.holdUntil with
    | some t =>
      let s := s.reach t
      ({ s with rack := { s.rack with holdUntil := none } }.setFlag Reg.RACK_TST.HOLD false).joinStep
    | none => s)

/-- OVERCAP_TIMER: over the applied ITRAY for OCT × 10 ms without a break (R661). -/
def execOvercapTimer (s : State) : Host.Outcome State Fault Refusal :=
  .next (match s.rack.overSince with
    | some t =>
      if s.joinState = 5 then
        (s.reach (t + ms (10 * max 1 (s.fld Reg.RACK_CFG.OCT)))).setFlag Reg.RACK_TST.OVERCAP true
      else s
    | none => s)

/-- CAPOUT_PERIOD: rack time crosses a multiple of 2,400 ticks, or has done so since the last period began, and a period begins (R662). -/
def execCapoutPeriod (s : State) : Host.Outcome State Fault Refusal :=
  .next (if s.isManager then
      let s := s.reachTick (multipleAfter 2400 (min s.rack.capFrom s.rackNow))
      { s with rack := { s.rack with capFrom := s.rackNow } }.setFld Reg.RACK_CAPOUT.DUTY (if s.flag Reg.RACK_MST.SURVIVOR then 0 else min 1000 (s.fld Reg.RACK_CAPSET.CAP))
    else s)

end Sys2Proof.Machine
end

