-- ==== Sys2Proof/Machine/Seq.lean ====
section
/-! DEFINITION. The sequencer: stopping and starting contexts (R75, R76), DMA halts (R206, R209), taking a trap and returning
(R84, R85), parking and the sequencer reset (R86, R87, R220, R222), images and program starts (R100 to R104, R823). -/

namespace Sys2Proof.Machine

/-! ## Memory writes -/

/-- Bytes written at `a`; the words they reach have valid ECC again. -/
def State.putMem (s : State) (a : Nat) (b : List Byte) : State :=
  let hit := fun (w : Nat) => a < w + 4 && w < a + b.length
  { s.setBytes a b with eccBad := s.eccBad.filter fun w => !hit w }

/-! ## DMA channels that end -/

def State.dmaState (s : State) (n : Fin 4) : Nat := s.fld Reg.DMA_STAT.STATE n
def State.dmaOwner (s : State) (n : Fin 4) : Nat := s.fld Reg.DMA_CFG.OWNER n

/-- A descriptor that lies in SRAM, word-aligned (R201). -/
def descInSram (a : Nat) : Bool := a % 4 = 0 && a + 24 ≤ 0x10000

/-- STAT is written back to the descriptor (Table 5-4) and CODE to DMA_STATn. -/
def State.dmaBack (s : State) (n : Fin 4) (code cause : Nat) : State :=
  let d := s.fld Reg.DMA_CURD.VALUE n
  let st := s.fld Reg.DMA_CURN.VALUE n % 2 ^ 16 + 2 ^ 16 * code + 2 ^ 24 * cause
  (if descInSram d then s.putMem (d + 20) (leBytes 4 st) else s).setFld Reg.DMA_STAT.CODE code n

/-- No channel that context `c` owns is at work: none is ACTIVE or waits for its compare (R139). -/
def State.dmaIdle (s : State) (c : Cid) : Bool :=
  allDma.all fun n => s.dmaOwner n ≠ c.val || (s.dmaState n ≠ 1 && s.dmaState n ≠ 2)

/-- The work of a FENCE's classes is complete (R139): stores are, as they retire; a remote store is outstanding until its answer. -/
def State.fenceOver (s : State) (c : Cid) (cls : BitVec 3) : Bool :=
  let all := cls = 0
  let remote := match (s.ctx c).req with
    | some r => r.write
    | none => false
  (!(all || cls.getLsbD 1) || !remote) && (!(all || cls.getLsbD 2) || s.dmaIdle c)

/-- Contexts whose FENCE is over become READY (R71). -/
def State.wakeFences (s : State) : State :=
  s.modAll fun c v => match v.state, v.wait with
    | .waiting, some (.fence cls) => if s.fenceOver c cls then v.wake else v
    | _, _ => v

/-- A channel halts: what it does ends, STAT is written back, and it is HALTED. -/
def State.dmaHalt (s : State) (n : Fin 4) (code cause : Nat) : State :=
  ((s.dmaBack n code cause).setFld Reg.DMA_STAT.STATE 3 n).setDma n { s.dmaCh n with
    desc := none, stopping := none, req := none, ans := none, waitRtc := none } |>.wakeFences

/-- A channel at work is stopped at its next beat boundary, or when its remote transfer has ended (R209, R210); a stop already waiting for
that keeps its code (log 17). -/
def State.dmaStop (s : State) (n : Fin 4) (code : Nat) : State :=
  let v := s.dmaCh n
  if s.dmaState n = 1 && (v.req.isSome || v.ans.isSome || v.inBeat) then s.setDma n { v with stopping := some (v.stopping.getD code) }
  else if s.dmaState n = 1 || s.dmaState n = 2 then s.dmaHalt n code 0
  else s

/-- DMA_OWNER_STOPPED: the channels of context `c` stop (R209). -/
def State.stopOwned (s : State) (c : Cid) : State :=
  forAll allDma (fun n t => if t.dmaOwner n = c.val then t.dmaStop n 4 else t) s

/-! ## Contexts -/

/-- CTX_STOP of one context (R75): its registers stay. -/
def State.stopCtx (s : State) (c : Cid) : State :=
  let v := s.ctx c
  if v.isRunnable || v.state = .waiting then
    ((s.setCtx c { v with state := .idle, wait := none, yielded := false, cont := none }).yieldSees c).stopOwned c
  else s

/-- CTX_START of one context (R76). -/
def State.startCtx (s : State) (c : Cid) : State :=
  let v := s.ctx c
  match v.state with
  | .idle => s.setCtx c { v with state := .ready }
  | .parked => s.setCtx c { v with state := .ready, status := v.status &&& ~~~(0x10 : Word) }
  | _ => s

/-- What a double fault leaves in its record (Table 12-2). -/
def faultContent (c : Cid) (v : Ctx) (first : Word) : List Byte :=
  [BitVec.ofNat 8 c.val, BitVec.ofNat 8 first.toNat, BitVec.ofNat 8 v.cause.toNat, 0] ++ leBytes 4 v.epc.toNat ++
    leBytes 4 v.pc.toNat ++ leBytes 4 v.tval.toNat ++ leBytes 4 first.toNat ++ leBytes 4 v.cause.toNat

/-- CONTEXT_PARK (R86, R220): the context's registers are already those of the double fault. -/
def State.park (s : State) (c : Cid) (first : Word) : State :=
  let v := s.ctx c
  let s := (s.setCtx c { v with state := .parked, wait := none, yielded := false, cont := none }).yieldSees c
  ((s.stopOwned c).raise 29).bbxAppend 0x02 true (faultContent c v first)

/-- The source SEQRST of a manager (Table 13-1): torque is released until the programs start again (R87). -/
def State.seqSource (s : State) : State := if s.isManager then s.setSource Src.SEQRST else s

/-- The sequencer is reset (R87, R110): DMA halts, slots and staging buffers are emptied, and the programs are to be started again. -/
def State.seqStop (s : State) : State :=
  let s := forAll allDma (fun n t => if t.dmaState n = 1 || t.dmaState n = 2 then t.dmaHalt n 6 0 else t) s
  let s := s.modAll fun _ v => { v with
    state := .idle, wait := none, yielded := false, slot := none, req := none, stage := [], cont := none }
  let s := s.setFld Reg.SYS_RSTCNT.SEQ (min 0xFFFF (s.fld Reg.SYS_RSTCNT.SEQ + 1))
  { s.ladleHalt with holder := none, boot := { s.boot with started := false } }

/-- SEQUENCER_RESET (R87, R222), with the content of its record, which is handed off while a commit in progress goes on (log 39). -/
def State.seqReset (s : State) (content : List Byte) : State := (s.seqStop.bbxAppend 0x03 true content).seqSource

/-- A trap of context `c` (TRAP_ENTRY, R84): `back` is what EPC takes, `detail` CAUSE[23:8]. With STATUS.TRAP at 1 it is a double
fault: EPC and ESTATUS keep the first fault, and the context is parked, or for CTX0 a snapshot of source 6 latches (Table 7-4) and the sequencer is reset. -/
def State.trap (s : State) (c : Cid) (cause detail tval back : Nat) : State :=
  let v := s.ctx c
  let w := BitVec.ofNat 32 (cause + 256 * (detail % 2 ^ 16))
  if v.status.getLsbD 4 then
    let v' := { v with cause := w, tval := BitVec.ofNat 32 tval }
    let s := s.setCtx c v'
    if c = 0 then (s.latchLocal 6).seqReset (faultContent c v' v.cause) else s.park c v.cause
  else
    s.setCtx c { v with estatus := v.status, epc := BitVec.ofNat 32 back, cause := w, tval := BitVec.ofNat 32 tval,
                        status := v.status ||| 0x10, pc := v.tvec }

/-! ## Images (R100 to R102, R823) -/

def progBase : Nat := 0x10000000

/-- `n` bytes at offset `a` of the stored image, as a number. -/
def State.img (s : State) (a n : Nat) : Nat := s.num (progBase + a) n

/-- One entry of the section table (R101). -/
structure Section where
  type : Nat
  flags : Nat
  zero : Nat
  offset : Nat
  dest : Nat
  len : Nat
  deriving DecidableEq, Repr

def State.sectionAt (s : State) (i : Nat) : Section :=
  let a := s.img 0x18 4 + 16 * i
  ⟨s.img a 1, s.img (a + 1) 1, s.img (a + 2) 2, s.img (a + 4) 4, s.img (a + 8) 4, s.img (a + 12) 4⟩

def State.sections (s : State) : List Section := (List.range (s.img 0x15 1)).map s.sectionAt

/-- A section entry obeys R823. -/
def sectionGood (len : Nat) (e : Section) : Bool :=
  1 ≤ e.type && e.type ≤ 6 && e.flags = 0 && e.zero = 0 && e.offset % 4 = 0 && e.dest % 4 = 0 && e.len % 4 = 0 &&
    (if e.type = 3 then decide (e.offset = 0) else 64 ≤ e.offset && e.offset + e.len ≤ len - 4) &&
    (match e.type with
      | 1 | 6 => decide (e.dest = 0)
      | 2 | 3 => decide (e.dest + e.len ≤ 0x10000)
      | 4 => decide (e.dest + e.len ≤ 7168)
      | _ => decide (e.dest + e.len ≤ 8192))

/-- Two byte ranges do not overlap. -/
def apart (a n b m : Nat) : Bool := a + n ≤ b || b + m ≤ a

/-- Reserved bits of a window entry's four words (Tables 5-10, 5-11). -/
def windowGood (v l p c : Nat) : Bool :=
  v % 64 = 0 && l % 64 = 0 && p % 64 = 0 && Nat.land c 0xFC80 = 0

/-- The stored image has a valid header and tables (R823) with this identity and version. -/
def State.imageGood (s : State) (id ver : Nat) : Bool :=
  let len := s.img 0x08 4
  let n := s.img 0x15 1
  let so := s.img 0x18 4
  let co := s.img 0x1C 4
  let wo := s.img 0x20 4
  let tableIn := fun (a m : Nat) => a % 4 = 0 && 64 ≤ a && a + m ≤ len - 4
  s.img 0 4 = 0x4F565342 && s.img 4 2 = 1 && s.img 6 2 = 64 && s.img 0x3C 4 = crc32c (s.bytes progBase 60) &&
    (s.bytes (progBase + 0x28) 20).all (· = 0) && s.img 0x14 1 < 16 && s.img 0x17 1 < 2 &&
    len % 4 = 0 && len ≤ 65536 && s.img 0x0C 4 = id && s.img 0x10 4 = ver && 1 ≤ n && n ≤ 16 &&
    tableIn so (16 * n) && tableIn co 128 && tableIn wo 1024 &&
    apart so (16 * n) co 128 && apart so (16 * n) wo 1024 && apart co 128 wo 1024 &&
    s.sections.all (sectionGood len) &&
    (decide (s.img 0x17 1 = 1) == s.sections.any fun e => e.type = 4 || e.type = 5) &&
    ((List.range 8).all fun c => s.img (co + 16 * c) 4 % 4 = 0 && s.img (co + 16 * c + 8) 4 % 4 = 0 && s.img (co + 16 * c + 12) 4 < 2) &&
    (List.range 64).all fun w => windowGood (s.img (wo + 16 * w) 4) (s.img (wo + 16 * w + 4) 4) (s.img (wo + 16 * w + 8) 4)
      (s.img (wo + 16 * w + 12) 4)

/-! ## Program start (R103, R104, R822) -/

/-- The image-valid marker of the program directory. -/
def State.markerSet (s : State) : Bool := s.num 0x1001C200 4 = 0x5A5AA5A5

/-- LOAD_ST.VALID, LOAD_IMGID and LOAD_IMGVER follow the directory. -/
def State.directory (s : State) : State :=
  ((s.setFlag Reg.LOAD_ST.VALID s.markerSet).setFld Reg.LOAD_IMGID.VALUE (s.num 0x1001C204 4)).setFld Reg.LOAD_IMGVER.VALUE
    (s.num 0x1001C208 4)

/-- One INIT or ZERO section is applied. -/
def State.applySection (s : State) (e : Section) : State :=
  if e.type = 2 then s.putMem e.dest (s.bytes (progBase + e.offset) e.len)
  else if e.type = 3 then s.putMem e.dest (List.replicate e.len 0)
  else s

/-- The windows of the image. -/
def State.loadWindows (s : State) : State :=
  let wo := s.img 0x20 4
  forAll (List.range 64) (fun w t => forAll (List.range 4) (fun k t =>
    t.setReg (0xE804 + 4 * k + 0x10000 * w) (BitVec.ofNat 32 (s.img (wo + 16 * w + 4 * k) 4))) t) s

/-- A context at program start. -/
def State.bootCtx (s : State) (c : Cid) (v : Ctx) : Ctx :=
  let co := s.img 0x1C 4 + 16 * c.val
  { v with
    x := Vector.replicate 16 0, status := (Ctx.reset c).status, evmask := BitVec.ofNat 32 (s.img (co + 4) 4),
    tvec := BitVec.ofNat 32 (s.img (co + 8) 4), evpend := 0, epc := 0, estatus := 0, cause := 0, tval := 0, cycle := 0,
    scratch0 := 0, scratch1 := 0, sel := Vector.replicate 6 0, slot := none, stage := [], wait := none, yielded := false, cont := none,
    pc := BitVec.ofNat 32 (s.img co 4), state := if s.img (co + 12) 4 = 1 then .ready else .idle }

/-- The watchdog starts with the programs (R708). -/
def State.wdStart (s : State) : State := { s with power := { s.power with wdOn := true, wdAt := s.now } }

/-- The watchdog does not run on a NOIMAGE die. -/
def State.wdStop (s : State) : State := { s with power := { s.power with wdOn := false } }

/-- The steps of R103. -/
def State.runPrograms (s : State) : State :=
  let i := s
  let s := forAll s.sections (fun e t => t.applySection e) s.loadWindows
  let s := (s.modAll fun c v => i.bootCtx c v).setFlag Reg.LOAD_ST.NOIMAGE false
  ({ s with holder := none }.endSource Src.SEQRST).wdStart

/-- The conditions of R104, and of R774 in SYS_BIST. -/
def State.mayStart (s : State) : Bool :=
  s.markerSet && s.fld Reg.CVU_JOB_STAT.OUTCOME 0 = 1 && s.reg 0x18 = 0 && s.imageGood (s.num 0x1001C204 4) (s.num 0x1001C208 4)

/-- A start waits: neither started nor found without an image, and what R104 makes it wait for has come, the black box's READY with it
(Table 18-7). -/
def State.startDue (s : State) : Bool :=
  !s.boot.inReset && s.boot.march && s.boot.refs && !s.boot.started && s.load.isNone && s.flag Reg.BBX_STAT.READY &&
    (!s.markerSet || s.boot.scanned)

/-- The die is NOIMAGE, with every context IDLE (R104, R113). -/
def State.noImage (s : State) : State :=
  let s := forAll allCtx (fun c t => t.stopCtx c) s
  let s := s.modAll fun _ v => { v with state := .idle, wait := none, yielded := false, cont := none }
  { (s.setFlag Reg.LOAD_ST.NOIMAGE true).wdStop with boot := { s.boot with started := true } }

/-- PROGRAM_START: the waiting start is made, or the die is NOIMAGE (R103, R104). -/
def State.programStart (s : State) : State :=
  if s.startDue then
    if s.mayStart then { s with boot := { s.boot with started := true } }.runPrograms else s.noImage
  else s

def execProgramStart (s : State) : Host.Outcome State Fault Refusal := .next s.programStart

end Sys2Proof.Machine
end

