-- ==== Sys2Proof/Machine/Power.lean ====
section
/-! DEFINITION. Power states, HFO, SEARCH, relayed WAKE, monitors, the watchdog and the energy ledger (chapter 16). -/

namespace Sys2Proof.Machine

/-! ## Entering a state below DOZE (R681 to R689) -/

/-- Torque counts as permitted (R683). -/
def State.torquePermitted (s : State) : Bool :=
  if s.isManager then s.flag Reg.SAFE_TRQ.PERMIT || s.flag Reg.SAFE_TRQ.OWN else s.flag Reg.CLK_CFG.STAYUP

/-- The deepest state that a WAITING context permits (R137); none for a context that does not wait. -/
def Ctx.permits (v : Ctx) : Option Nat :=
  match v.state, v.wait with
  | .waiting, some (.sleep k) => some k
  | .waiting, _ => some 1
  | _, _ => none

/-- The shallowest permission of the WAITING contexts; DOZE with none (R682), or while torque is permitted (R142). -/
def State.permitted (s : State) : Nat :=
  let l := allCtx.filterMap fun c => (s.ctx c).permits
  if l = [] || s.torquePermitted then 1 else l.foldl min 4

/-- Port `p` holds the die at DOZE or above; an UP port first empties its transmitter, as SLEEP_NOTE yields to every
frame, and no frame may be arriving (R65; log 36). -/
def State.portHolds (s : State) (p : Port) : Bool :=
  let l := s.link p
  let v := s.port p
  l = 1 || l = 2 || l = 3 || l = 6 || v.outs ≠ [] || decide (s.now < v.lastRx) || (l = 4 && (v.cur.isSome || v.queue ≠ []))

/-- A remote request of this die is outstanding. -/
def State.ownRequest (s : State) : Bool :=
  allCtx.any (fun c => (s.ctx c).req.isSome) || allDma.any fun n => (s.dmaCh n).req.isSome

/-- A condition of Table 16-4 holds; a Primer holds the die from its acknowledgement on, since its pattern follows within 100 µs (R464,
R471; log 36). -/
def State.heldAwake (s : State) : Bool :=
  allCtx.any (fun c => (s.ctx c).isRunnable) || allDma.any (fun n => s.dmaState n = 1) || s.convMask ≠ 0 ||
    (!s.flag Reg.BAL_CFG.PARK && (allShuttles.any (fun k => s.shuttleActive k || (s.shuttle k).next.isSome) || s.fld Reg.BAL_BLEED.CLOSED ≠ 0)) ||
    !s.allOff || s.flag Reg.SAFE_TRQ.OWN || allPorts.any s.primerTaken || s.load.isSome || s.flag Reg.CLK_ST.SEARCH ||
    s.flag Reg.CLK_CFG.STAYUP || s.bbx.queue ≠ [] || s.bbx.redo ≠ [] || s.bbx.early ≠ [] || s.bbx.commit.isSome || s.bbx.burning ≠ [] ||
    s.nvmQ ≠ [] || s.serving ≠ [] || s.ownRequest || allPorts.any s.portHolds || s.portHolds xlink ||
    (s.hostPort.selected && s.flag Reg.HOST_CFG.EN) || (s.power.relay.isSome && !s.power.relayed)

/-- The guard leaves time for a state below DOZE (R689). -/
def State.targetFar (s : State) : Bool :=
  match s.power.target with
  | some t => s.rackNow + us (s.fld Reg.CLK_GUARD.EFFECTIVE + 20) ≤ t
  | none => true

/-- Jobs that ran are abandoned and start again with HFO (R481). -/
def State.abandonJobs (s : State) : State :=
  let run := fun (k : Nat) => s.flag Reg.CVU_JOB_STAT.RUNNING k
  let t := forAll ((List.range 8).filter run) (fun k t => t.setFlag Reg.CVU_JOB_STAT.RUNNING false k
    |>.setFld Reg.CVU_JOB_STAT.POS 0 k) s
  { t.setFld Reg.CVU_ST.BUSY 0 with cvu := { s.cvu with
    dropped := ((List.range 8).map fun k => if run k || bitAt s.cvu.dropped k then 2 ^ k else 0).sum
    started := Vector.ofFn fun k => if run k.val then none else s.cvu.started[k] } }

/-- One NULL with SLEEP_NOTE goes out whole. -/
def State.sendNote (s : State) (p : Port) : State := (s.startTx p (.of (s.nullFrame true) .other)).txEnded p

/-- SLEEP_NOTE goes out in three consecutive NULL frames, of 104 bit times each with their idle, on every UP port, which is ASLEEP
then (R409, R684). -/
def State.noteSleep (s : State) : State :=
  match (xlink :: allPorts).filter fun p => s.link p = Link.UP with
  | [] => s
  | l => forAll l (fun p t => t.relink p Link.ASLEEP)
      (forAll l (fun p t => ((t.sendNote p).sendNote p).sendNote p) s |>.advance (3 * 104))

/-- The watchdog counts (R708). -/
def State.wdRuns (s : State) : Bool := s.power.wdOn && (s.hasSafety || s.flag Reg.CLK_WDCFG.EN)

/-- The ports sleep, HFO stops and the state of code `k` is entered (R684). -/
def State.enterBelow (s : State) (k : Nat) : State :=
  let s := (s.setFlag Reg.RT_ST.LOCKED false).setFlag Reg.RT_ST.XLINK false
  let s := if s.flag Reg.MEAS_CFG.ICONT then s.setFlag Reg.MEAS_CFG.COUL_GAP true else s
  let s := (if s.flag Reg.BAL_CFG.PARK then s.ladleSuspend else s).safeStop.abandonJobs
  let s := s.setFlag Reg.CLK_WDST.SLPLIM (s.wdRuns && s.power.target.isSome)
  { s with hfo := false, hostPort := { s.hostPort with alertKept := s.alertN }
           power := { s.power with below := k, entering := false, noted := [], enteredAt := s.now } }

/-- A SCHED for a later instant is held and a compare is armed for that instant (R65). -/
def State.heldSched (s : State) : Bool := s.snap.scheds.any fun t => decide (s.rackNow < t) && s.targets.contains t

/-- The state that the die enters: the deepest permitted, but NAP where SLEEP is and no SCHED is held for it (R65, R681; log 29). -/
def State.entryState (s : State) : Nat := if s.permitted = 3 && !s.heldSched then 2 else s.permitted

/-- Nothing holds the die awake, and the state that its contexts permit lies below DOZE (R681). -/
def State.mayEnter (s : State) : Bool :=
  s.hfo && !s.asleep && !s.boot.inReset && s.boot.refs && !s.heldAwake && 2 ≤ s.permitted

/-- POWER_STATE_ENTRY. With a port UP the entry's SLEEP_NOTEs go out first; the entry's next command ends it, unless a wake source or
a condition of Table 16-4, as a context that the ports' own PORT event has made runnable, has come meanwhile: that aborts it (R684,
R687, log 28). -/
def State.powerEntry (s : State) : State :=
  if !s.mayEnter then s.abortEntry
  else if s.power.entering then s.enterBelow s.entryState
  else
    let s := s.aimGuard
    if !s.targetFar then s
    else if (xlink :: allPorts).all fun p => s.link p ≠ Link.UP then s.enterBelow s.entryState
    else
      let noted := (xlink :: allPorts).filter fun p => s.link p = Link.UP
      let s := s.noteSleep
      let s : State := { s with power := { s.power with entering := true, noted := noted } }
      if s.mayEnter then s else s.abortEntry

def execPowerStateEntry (s : State) : Host.Outcome State Fault Refusal := .next s.powerEntry

/-! ## Waking -/

/-- WAKE_TIMER_FIRE: at the last LFO edge not later than the aim, `early` ticks before it (R690); a guard wake (R699). It aborts an
entry in progress (R687). -/
def execWakeTimerFire (early : Fin 733) (s : State) : Host.Outcome State Fault Refusal :=
  .next (match s.power.aim, s.power.target with
    | some a, some t =>
      if s.power.below = 2 || s.power.below = 3 then
        let s := s.reachTick (a - early.val)
        let since := s.sinceTime t
        let s := s.wake 0
        { s with power := { s.power with guardAt := some s.now, learnS := some since } }
      else if s.power.entering then (s.reachTick (a - early.val)).abortEntry
      else s
    | _, _ => s)

/-- GUARD_RECOMPUTE: a 4 Hz sample of the die temperature, in m°C, below DOZE (R691). -/
def execGuardRecompute (temp : Int) (s : State) : Host.Outcome State Fault Refusal :=
  .next (if s.power.below = 2 || s.power.below = 3 then
      let s := s.reach (s.power.guardSampled + ms 250)
      ({ s with power := { s.power with guardSampled := s.now } }.takeTemp temp).aimGuard
    else s)

/-- LFO_RATE_MEASURE: the LFO's deviation over one second of locked rack time, in 0.1 ppm (R693). -/
def execLfoRateMeasure (dev : Int) (s : State) : Host.Outcome State Fault Refusal :=
  .next (if s.flag Reg.RT_ST.LOCKED && s.hfo then
      let s := s.reach (s.power.lfoAt + 24000000)
      let s : State := { s with power := { s.power with lfoAt := s.now } }
      let k := binOf s.temp
      let t := roundFree ((s.temp : Rat) / 1000)
      let s := s.setFld Reg.CLK_LFOBIN.RATE (unsigned 20 (max (-524288) (min 524287 dev))) k
      (s.setFld Reg.CLK_LFOBIN.TUPD (unsigned 8 (max (-128) (min 127 t))) k).setFlag Reg.CLK_LFOBIN.VALID true k
    else s)

/-! ## SEARCH (R699 to R705) -/

/-- Ports that SEARCH sends WAKE on: default upstreams ASLEEP or DOWN, or every enabled port without any. -/
def State.searchPorts (s : State) : List Port :=
  match s.upPorts with
  | [] => allPorts.filter s.portOn
  | l => l.filter fun p => s.link p = Link.ASLEEP || s.link p = Link.DOWN

def portMask (l : List Port) : Nat := (l.map fun p => 2 ^ p.val).sum

/-- LATE_WAKE content (Table 16-6). -/
def State.lateWake (s : State) (woke : Nat) : List Byte :=
  let since := match s.power.learnS with
    | some (some t) => min (t / 24) (2 ^ 32 - 1)
    | _ => 2 ^ 32 - 1
  let states := ((List.range 4).map fun p => s.fld Reg.PORT_ST.STATE p * 16 ^ p).sum
  leBytes 4 since ++ leBytes 4 (min (s.power.slept / ms 1) (2 ^ 32 - 1)) ++ leBytes 2 (s.fld Reg.CLK_GUARD.EFFECTIVE) ++
    leBytes 2 (s.fld Reg.CLK_GUARD.LEARNED) ++ leBytes 4 (s.fld Reg.CLK_RESID.PPM) ++ leBytes 4 (s.fld Reg.CLK_LASTERR.CORR) ++
    leBytes 4 (s.fld Reg.CLK_TEMP.MC) ++ [BitVec.ofNat 8 (binOf s.temp), BitVec.ofNat 8 woke] ++ leBytes 2 states

/-- SEARCH begins, to end at `till`; a LOST die's retry hands no record (R700, R702). -/
def State.enterSearch (s : State) (till : Nat) (lost : Bool) : State :=
  let ports := s.searchPorts
  let s := (s.setFlag Reg.CLK_ST.SEARCH true).resumeAll
  let s := forAll ports (fun p t => t.sendWake p) s
  let s := if lost then s else s.bbxAppend 0x0C false (s.lateWake (portMask ports))
  { s with power := { s.power with guardAt := none, searchEnd := some till, lostSearch := lost } }

/-- SEARCH_ENTRY: G + 160 µs after a guard wake without TIME or SCHED. -/
def execSearchEntry (s : State) : Host.Outcome State Fault Refusal :=
  .next (match s.power.guardAt with
    | some t =>
      if s.flag Reg.CLK_CFG.SRCH && !s.asleep then
        let s := s.reach (t + us (s.fld Reg.CLK_GUARD.EFFECTIVE + 160))
        s.enterSearch (s.now + max (ms 10) (min (2 * s.power.slept) (ms (1000 * max 1 (s.fld Reg.CLK_SRCHCFG.MAX))))) false
      else s
    | none => s)

def State.retryTicks (s : State) : Nat := ms (1000 * max 1 (s.fld Reg.CLK_SRCHCFG.RETRY))

/-- SEARCH_EXPIRED: the die is LOST (R701). -/
def execSearchExpired (s : State) : Host.Outcome State Fault Refusal :=
  .next (match s.power.searchEnd with
    | some t =>
      let s := s.reach t
      let s := (s.setFlag Reg.CLK_ST.SEARCH false).setFlag Reg.CLK_ST.LOST true
      let again := if s.power.lostSearch then s.power.retryAt else some (s.now + s.retryTicks)
      { s with power := { s.power with searchEnd := none, lostSearch := false, retryAt := again } }
    | none => s)

/-- LOST_RETRY: RETRY seconds have passed: a further SEARCH of 10 ms (R702). -/
def execLostRetry (s : State) : Host.Outcome State Fault Refusal :=
  .next (match s.power.retryAt with
    | some t =>
      if s.flag Reg.CLK_ST.LOST && s.power.below ≠ 4 then
        let s := (s.reach t).wake 0
        let s : State := { s with power := { s.power with retryAt := some (s.now + s.retryTicks) } }
        if s.flag Reg.CLK_ST.SEARCH then s else s.enterSearch (s.now + ms 10) true
      else s
    | none => s)

/-- WAKE_RELAY: 400 µs after the wake without a TIME frame (R703); the relay is over with a TIME already sent on, or a die asleep again. -/
def execWakeRelay (s : State) : Host.Outcome State Fault Refusal :=
  .next (match s.power.relay with
    | some (p, t, false) =>
      if s.asleep then { s with power := { s.power with relay := none } }
      else
      let s := s.reach (t + us 400)
      let heard := match s.lastTime with
        | some u => decide (t ≤ u)
        | none => false
      let s : State := { s with power := { s.power with relay := if s.power.relayed then none else some (p, t, true) } }
      match s.activeUp with
      | some up => if !heard && (s.link up = Link.ASLEEP || s.link up = Link.DOWN) then s.sendWake up else s
      | none => s
    | _ => s)

/-- RELAY_HOLD_END: 50 ms have passed (R703). -/
def execRelayHoldEnd (s : State) : Host.Outcome State Fault Refusal :=
  .next (match s.power.relay with
    | some (_, t, _) =>
      let s := s.reach (t + ms 50)
      { s with power := { s.power with relay := none } }
    | none => s)

/-! ## Monitors (R706) -/

/-- A monitor bit after a sample: beyond its threshold, or beyond it less the hysteresis. -/
def monitorBit (was beyond within : Bool) : Bool := beyond || (was && !within)

/-- A monitor sample: die temperature in m°C and VSTK in mV; below DOZE only the temperature is sampled. -/
def State.monitor (s : State) (temp : Int) (vstk : Nat) : State :=
  let hi := 1000 * signed 8 (s.fld Reg.CLK_MONCFG.THI)
  let lo := 1000 * signed 8 (s.fld Reg.CLK_MONCFG.TLO)
  let v := 10 * s.fld Reg.CLK_MONCFG.VLO
  let was := s.fld Reg.CLK_MONST.NOW
  let a := monitorBit (bitAt was 0) (decide (hi < temp)) (decide (temp ≤ hi - 2000))
  let b := monitorBit (bitAt was 1) (decide (temp < lo)) (decide (lo + 2000 ≤ temp))
  let c := if s.asleep then bitAt was 2 else monitorBit (bitAt was 2) (decide (vstk < v)) (decide (v + 200 ≤ vstk))
  let new := (if a then 1 else 0) + (if b then 2 else 0) + if c then 4 else 0
  let rise := new - Nat.land new was
  let s := (s.takeTemp temp).setFld Reg.CLK_MONST.NOW new
  let s : State := if s.asleep then s else { s with power := { s.power with vstk := vstk } }
  if rise = 0 then s
  else ((s.strike Reg.CLK_MONST.CROSSED rise).raise Ev.MONITOR).wake 3

/-- MONITOR_SAMPLE: every 1 ms in DOZE and RUN, at 4 Hz below. -/
def execMonitorSample (temp : Int) (vstk : Nat) (s : State) : Host.Outcome State Fault Refusal :=
  .next (if s.rackStill then s
    else
      let s := s.reach (s.power.monAt + if s.asleep then ms 250 else ms 1)
      { s with power := { s.power with monAt := s.now } }.monitor temp vstk)

/-! ## Watchdog (R708 to R711, R534) -/

/-- The class timeout of a TRAY or MANAGER in ms (Table 13-8). -/
def State.classTimeout (s : State) : Nat := [16, 32, 8, 100].getD s.sealClass 16

/-- The timeout in ticks; no rule states what a TMO of 0 means, and it acts at once. -/
def State.wdTimeout (s : State) : Nat := ms (if s.hasSafety then s.classTimeout else s.fld Reg.CLK_WDCFG.TMO)

/-- The SEQ_RESET record of a watchdog: its cause bytes read 0xFE (R711). -/
def State.wdContent (s : State) : List Byte :=
  let c := faultContent 0 (s.ctx 0) (s.ctx 0).cause
  [c.headD 0, 0xFE, 0xFE] ++ c.drop 3

/-- The watchdog expires. -/
def State.wdExpire (s : State) : State :=
  let s := s.wdStop
  (if s.hasSafety then s.setSource Src.WDOG else s).seqReset s.wdContent

/-- A write of CLK_WDKICK; while the watchdog does not count there is no count to restart or to expire. -/
def State.wdKick (s : State) (key : Nat) : State :=
  if !s.wdRuns then s
  else if key = 0x6B1D then { s with power := { s.power with wdAt := s.now } }
  else s.wdExpire

/-- WDOG_WARN: 75 % of the timeout, once in a count. -/
def execWdogWarn (s : State) : Host.Outcome State Fault Refusal :=
  .next (if s.wdRuns && !s.asleep && s.power.wdWarned ≠ some s.power.wdAt then
      let s := s.reach (s.power.wdAt + 3 * s.wdTimeout / 4)
      ({ s with power := { s.power with wdWarned := some s.power.wdAt } }.setFlag Reg.CLK_WDST.WARN true).raise Ev.WDOG_WARN
    else s)

/-- WATCHDOG_EXPIRY. -/
def execWatchdogExpiry (s : State) : Host.Outcome State Fault Refusal :=
  .next (if s.wdRuns && !s.asleep then (s.reach (s.power.wdAt + s.wdTimeout)).wdExpire else s)

/-- SLEEP_LIMIT_EXPIRY: still below DOZE SLPMAX × 100 ms after the wake-timer target (R710). -/
def execSleepLimitExpiry (s : State) : Host.Outcome State Fault Refusal :=
  .next (match s.power.target with
    | some t =>
      if s.wdRuns && (s.power.below = 2 || s.power.below = 3) then
        ((s.reachTick (t + ms (100 * max 1 (s.fld Reg.CLK_WDCFG.SLPMAX)))).wake 5).wdExpire
      else s
    | none => s)

/-! ## The energy ledger (R712, R713) -/

/-- A 64-bit accumulator that never wraps. -/
def State.addLedger (s : State) (lo hi : Fld) (n : Nat) : State :=
  let v := min (s.fld lo + 2 ^ 32 * s.fld hi + n) (2 ^ 64 - 1)
  (s.setFld lo (v % 2 ^ 32)).setFld hi (v / 2 ^ 32)

/-- The maximum of Table 20-4, which a fused value is within: 10⁻¹⁸ J, and 10⁻¹⁸ C for a lifeline pulse (R803). -/
def ledgerMax (i : Nat) : Nat :=
  match i with
  | 5 => 52000000000
  | 6 => 450000000000
  | 7 => 28000000
  | 8 => 4200000000
  | _ => 3500000000000

/-- The charge of one unit of work of kind `i` at `mv` mV of VSTK, in 10⁻¹⁸/24 C: a tick of RUN, DOZE, NAP, SLEEP, of a further bank kept in
SLEEP at the currents of Table 16-3 and its text, and what else the ledger counts at fused values (R713). A fused energy is drawn from the
stack as it stands, which is taken as no less than the 9 V of Table 20-2 (log 36). -/
def workCharge (mv i : Nat) : Nat :=
  match i with
  | 0 => 3100000000
  | 1 => 900000000
  | 2 => 7000000
  | 3 => 1600000
  | 4 => 1400000
  | 8 => 24 * min (Config.ledgerCost 8) (ledgerMax 8)
  | _ => 24000 * min (Config.ledgerCost i) (ledgerMax i) / max 9000 mv

/-- The charge of the work done since the last update, in 10⁻¹⁸/24 C, with what that left over (R713). -/
def Power.drawn (p : Power) : Nat := (List.range 10).foldl (fun a i => a + p.work.toList.getD i 0 * workCharge p.vstk i) p.ledgerRem

/-- 1 nC in 10⁻¹⁸/24 C. -/
def nanoCoulomb : Nat := 24000000000

/-- The longest time between two updates of the ledger (R713). -/
def State.ledgerPeriod (s : State) : Nat := if s.asleep then ms 250 else ms 1

/-- LEDGER_UPDATE, `n` ticks after the last, and no later than it must come: the charge of the work done since, in nC, and its energy at
the latest VSTK, in nJ. -/
def execLedgerUpdate (n : Nat) (s : State) : Host.Outcome State Fault Refusal :=
  .next (if s.power.below = 4 then s
    else
      let s := s.reach (s.power.ledgerAt + min n s.ledgerPeriod)
      let q := s.power.drawn
      let nc := q / nanoCoulomb
      let s := (s.addLedger Reg.CLK_QLED_LO.VALUE Reg.CLK_QLED_HI.VALUE nc).addLedger Reg.CLK_ELED_LO.VALUE Reg.CLK_ELED_HI.VALUE
        (roundFree ((nc * s.power.vstk : Nat) / (1000 : Rat))).toNat
      { s with power := { s.power with work := Vector.replicate 10 0, ledgerRem := q % nanoCoulomb, ledgerAt := s.now } })

end Sys2Proof.Machine
end

