-- ==== Sys2Proof/Machine/Cvu.lean ====
section
/-! DEFINITION. The check-value unit (chapter 11): jobs, sealed jobs, alive counters. -/

namespace Sys2Proof.Machine

/-! ## Jobs (R476 to R482) -/

def State.jobPoly (s : State) (k : Nat) : Nat := s.fld Reg.CVU_JOB_CTRL.POLY k
def State.jobFrom (s : State) (k : Nat) : Nat := s.fld Reg.CVU_JOB_START.ADDR k
def State.jobLen (s : State) (k : Nat) : Nat := s.fld Reg.CVU_JOB_LEN.BYTES k
def State.jobRuns (s : State) (k : Nat) : Bool := s.flag Reg.CVU_JOB_STAT.RUNNING k

/-- The default period of a sealed job in 100 ms units (Table 11-2). -/
def defaultPeriod (k : Nat) : Nat := [100, 10, 600].getD k 0

/-- A job's period in ticks; 0 for a job that starts only on GO (R479, R487). -/
def State.jobPeriod (s : State) (k : Nat) : Nat :=
  let p := s.fld Reg.CVU_JOB_CTRL.PERIOD k
  ms (100 * if p = 0 then defaultPeriod k else p)

def State.jobStarted (s : State) (k : Nat) : Option Nat := s.cvu.started.toList.getD k none

def State.setStarted (s : State) (k : Nat) (t : Option Nat) : State :=
  if h : k < 8 then { s with cvu := { s.cvu with started := s.cvu.started.set k t h } } else s

/-- R476. -/
def State.jobRangeGood (s : State) (k : Nat) : Bool :=
  let a := s.jobFrom k
  let b := a + s.jobLen k
  a % 4 = 0 && b % 4 = 0 && ((a < 0x10000 && b ≤ 0x10000) || (isNvm a && b ≤ 0x10020000))

/-- An NVM write in progress or waiting reaches addresses from `a` below `b`. -/
def State.writtenIn (s : State) (a b : Nat) : Bool := s.nvmQ.any fun w => sectorOf w.addr < b && a < sectorOf w.addr + 512

/-- Words done in the job's present run, and the address of the next (R474). -/
def State.jobPos (s : State) (k : Nat) : Nat := s.fld Reg.CVU_JOB_STAT.POS k
def State.jobAt (s : State) (k : Nat) : Nat := s.jobFrom k + 4 * s.jobPos k

/-- Words of the job's range still to be read. -/
def State.jobLeft (s : State) (k : Nat) : Nat := s.jobLen k / 4 - s.jobPos k

/-- The next `n` words wait for an NVM write: to their sectors, or for a sealed job to any part of its range (R475, R485). -/
def State.jobWaits (s : State) (k n : Nat) : Bool :=
  if k < 3 then s.writtenIn (s.jobFrom k) (s.jobFrom k + s.jobLen k) else s.writtenIn (s.jobAt k) (s.jobAt k + 4 * n)

/-- The box's position scan, which job 0 follows, ends 741 µs after the straps have been read (Table 18-7). -/
def State.positionsAt (s : State) : Nat := s.boot.stepAt + us 741

/-- That scan is over. -/
def State.positionsRead (s : State) : Bool := s.flag Reg.BBX_STAT.READY || decide (s.positionsAt ≤ s.now)

/-- The job may start: enabled, and a sealed job while Table 11-2 lets it run, job 0 after the position scan (R773). -/
def State.jobAllowed (s : State) (k : Nat) : Bool :=
  s.flag Reg.CVU_JOB_CTRL.EN k && s.hfo && !s.asleep && !s.boot.inReset && s.boot.refs &&
    (if k = 0 then s.markerSet && s.load.isNone && s.positionsRead else if k < 3 then !s.flag Reg.LOAD_ST.BLANK else true)

/-- A job's present run ends with an outcome: events, and a program start that waited for job 0 (R104, R478, R493). -/
def State.jobClose (s : State) (k outcome err : Nat) : State :=
  let s := (s.setFlag Reg.CVU_JOB_STAT.RUNNING false k).setBitOf Reg.CVU_ST.BUSY k false
  let s := ((s.setFld Reg.CVU_JOB_STAT.OUTCOME outcome k).setFld Reg.CVU_JOB_STAT.ERR err k).setFld Reg.CVU_JOB_LAST.TICK
    s.rackTicks k
  let s := if s.flag Reg.CVU_JOB_CTRL.DEV k then s.raise Ev.CVU_DONE else s
  let s := if outcome = 1 then s else s.raise Ev.CVU_MISMATCH
  if k = 0 then { s with boot := { s.boot with scanned := true } } else s

/-- SEALED_JOB_FAIL: the second run failed too (R486; log 20). -/
def State.sealFail (s : State) (k outcome : Nat) : State :=
  ((s.setFlag Reg.CVU_ST.SEALFAIL true).bbxAppend 0x09 true ([BitVec.ofNat 8 k, BitVec.ofNat 8 outcome] ++
    leBytes 4 (s.fld Reg.CVU_JOB_RESULT.VALUE k) ++ leBytes 4 (s.fld Reg.CVU_JOB_EXPECT.VALUE k))).setSource Src.SEALJOB

/-- A run begins: RESULT is reloaded and POS is 0 (R479). -/
def State.jobBegin (s : State) (k : Nat) : State :=
  let s := (s.setFld Reg.CVU_JOB_RESULT.VALUE (s.fld Reg.CVU_JOB_INIT.VALUE k) k).setFld Reg.CVU_JOB_STAT.POS 0 k
  (((s.setFlag Reg.CVU_JOB_STAT.RUNNING true k).setBitOf Reg.CVU_ST.BUSY k true)).setStarted k (some s.now)

/-- The run's outcome, and what follows it: a sealed job that fails runs once more at once (R486). -/
def State.jobEnd (s : State) (k outcome err : Nat) : State :=
  let s := s.jobClose k outcome err
  if k < 3 then
    let second := bitAt s.cvu.second k
    let mark := fun (b : Bool) (t : State) =>
      { t with cvu := { t.cvu with second := withBits t.cvu.second k 1 (if b then 1 else 0) } }
    if outcome = 1 then mark false s
    else if second then (mark false s).sealFail k outcome
    else (mark true s).jobBegin k
  else s

/-- A job starts; one whose range breaks R476 ends at once. -/
def State.jobStart (s : State) (k : Nat) : State :=
  let s := s.jobBegin k
  if s.jobRangeGood k then s else s.jobEnd k 3 1

/-- HFO runs again: the jobs abandoned when it stopped restart from their START (R481). -/
def State.restartDropped (s : State) : State :=
  forAll (List.range 8) (fun k t => if bitAt s.cvu.dropped k && !t.jobRuns k && t.jobAllowed k then t.jobStart k else t)
    { s with cvu := { s.cvu with dropped := 0 } }

/-- CVU_JOB_START: its period elapses; elapsed again during its run, it is OVERDUE (R479, R480). A job that has not run since
reset, or job 0 since a commit, starts at once, job 0 once the box's position scan is over. -/
def State.jobDue (s : State) (k : Nat) : State :=
  if s.jobPeriod k = 0 then s
  else
    let s := match s.jobStarted k with
      | some t => s.reach (t + s.jobPeriod k)
      | none => if k = 0 && s.boot.refs && !s.positionsRead then s.reach s.positionsAt else s
    if s.jobRuns k then
      let s := (s.setFlag Reg.CVU_JOB_STAT.OVERDUE true k).setFlag Reg.CVU_ST.OVERDUE true
      { s with cvu := { s.cvu with again := withBits s.cvu.again k 1 1 } }
    else if s.jobAllowed k then s.jobStart k
    else s

def execCvuJobStart (k : Fin 8) (s : State) : Host.Outcome State Fault Refusal := .next (s.jobDue k.val)

/-- CVU_CTL.GO: jobs named and not running start (R479, R482). -/
def State.cvuGo (s : State) (mask : Nat) : State :=
  forAll (List.range 8) (fun k t => if bitAt mask k && !t.jobRuns k && t.jobAllowed k then t.jobStart k else t) s

/-! ## The scan engine (R474, R475) -/

/-- Job `k` runs and has a word that may be read now. -/
def State.jobReady (s : State) (k : Nat) : Bool :=
  s.jobRuns k && s.jobAllowed k && !s.jobWaits k 1 && s.jobLeft k ≠ 0

/-- The job that the engine serves next: a sealed job in its second run, else the lowest number (R474, R486). -/
def State.jobNext (s : State) : Option Nat :=
  let ready := (List.range 8).filter s.jobReady
  match ready.find? fun k => k < 3 && bitAt s.cvu.second k with
  | some k => some k
  | none => ready.head?

/-- Job `k` takes its next word. -/
def State.jobWord (s : State) (k : Nat) : State :=
  let r := crcBytes (s.jobPoly k) (s.fld Reg.CVU_JOB_RESULT.VALUE k) (s.bytes (s.jobAt k) 4) % 2 ^ crcWidth (s.jobPoly k)
  (s.setFld Reg.CVU_JOB_RESULT.VALUE r k).setFld Reg.CVU_JOB_STAT.POS (s.jobPos k + 1) k

/-- Job `k` takes words up to `n`, or to its first word with an uncorrectable ECC error, which it does not use (R477). -/
def State.jobWords (s : State) (k : Nat) : Nat → State
  | 0 => s
  | n + 1 => if s.eccBad.contains (s.jobAt k) then s else (s.jobWord k).jobWords k n

/-- A job's run reaches its end, or its first bad word (R477, R478): when it is the one to be served, it takes the words left, one a
cycle. -/
def State.jobFinish (s : State) (k : Nat) : State :=
  let left := s.jobLeft k
  if !s.jobRuns k || !s.jobAllowed k || s.jobWaits k left || s.scanHolds || s.flag Reg.CVU_ST.AVBUSY ||
      (s.jobNext.any fun j => j ≠ k && left ≠ 0) then s
  else
    let s := (s.advance left).jobWords k left
    let s := if s.jobLeft k ≠ 0 then (s.jobEnd k 3 2).eccInNvm (s.jobAt k) else
      let poly := s.jobPoly k
      let r := s.fld Reg.CVU_JOB_RESULT.VALUE k % 2 ^ crcWidth poly
      let r := if s.flag Reg.CVU_JOB_CTRL.FINAL k then Nat.xor r (crcFinal poly) else r
      let same := r = s.fld Reg.CVU_JOB_EXPECT.VALUE k % 2 ^ crcWidth poly
      (s.setFld Reg.CVU_JOB_RESULT.VALUE r k).jobEnd k (if s.flag Reg.CVU_JOB_CTRL.CMP k && !same then 2 else 1) 0
    if bitAt s.cvu.again k then
      let s : State := { s with cvu := { s.cvu with again := withBits s.cvu.again k 1 0 } }
      if s.jobRuns k then s else s.jobStart k
    else s

/-- CVU_JOB_DONE. -/
def execCvuJobDone (k : Fin 8) (s : State) : Host.Outcome State Fault Refusal := .next (s.jobFinish k.val)

/-- CVU_JOB_ERROR: the word at `addr`, of those a running job still has to read, reads with an uncorrectable ECC error (R477). -/
def execCvuJobError (k : Fin 8) (addr : BitVec 32) (s : State) : Host.Outcome State Fault Refusal :=
  let w := addr.toNat / 4 * 4
  let k := k.val
  .next (if s.jobRuns k && s.jobAllowed k && s.jobAt k ≤ w && w < s.jobFrom k + s.jobLen k then
      { s with eccBad := insertNat w (s.eccBad.filter (· ≠ w)) }.jobFinish k
    else s)

/-- The expected values of the sealed jobs, as NVM holds them (R484, Table 11-2). -/
def State.cvuExpect (s : State) : State :=
  ((s.setFld Reg.CVU_JOB_EXPECT.VALUE (s.num 0x1001C20C 4) 0).setFld Reg.CVU_JOB_EXPECT.VALUE (s.num 0x1001DFFC 4) 1).setFld
    Reg.CVU_JOB_EXPECT.VALUE (s.num 0x1001E124 4) 2

/-! ## Alive counters (R488 to R492) -/

/-- One value is judged against its slot in tick `t`; what a write has put into AVLAST or AVARM in that tick stays (R15). -/
def State.aliveJudge (s : State) (t slot v : Nat) : State :=
  let w := slot / 32
  let b := slot % 32
  let last := s.fld Reg.CVU_AVLAST.VALUE slot
  let s' := s.update t Reg.CVU_AVLAST.VALUE v slot
  if !s.bitOf Reg.CVU_AVARM.SLOTS b w then s'.update t Reg.CVU_AVARM.SLOTS (withBits (s'.fld Reg.CVU_AVARM.SLOTS w) b 1 1) w
  else if v = (last + 1) % 2 ^ 16 then s'.setBitOf Reg.CVU_AVOK.SLOTS b true w
  else if v = last then (s'.setBitOf Reg.CVU_AVREP.SLOTS b true w).raise Ev.CVU_MISMATCH
  else (s'.setBitOf Reg.CVU_AVSKIP.SLOTS b true w).raise Ev.CVU_MISMATCH

/-- A write of CVU_AVIN. -/
def State.avin (s : State) (w : Nat) : State :=
  if s.flag Reg.CVU_ST.AVBUSY then s.setFlag Reg.CVU_ST.AVWERR true
  else s.aliveJudge s.now (w / 2 ^ 16 % 64) (w % 2 ^ 16)

/-- A write of CVU_AVCFG, with GO or without. -/
def State.avcfg (s : State) (w : Nat) : State :=
  if s.flag Reg.CVU_ST.AVBUSY then s.setFlag Reg.CVU_ST.AVWERR true
  else
    let s := ((s.setFld Reg.CVU_AVCFG.STRIDE w).setFld Reg.CVU_AVCFG.COUNT (w / 2 ^ 8)).setFld Reg.CVU_AVCFG.FIRST (w / 2 ^ 16)
    if bitAt w 31 then { s.setFlag Reg.CVU_ST.AVBUSY true with cvu := { s.cvu with batchAt := 0, batchSetup := 2 } } else s

/-- Address of the halfword that a batch check judges next. -/
def State.batchAddr (s : State) : Nat := s.fld Reg.CVU_AVBASE.ADDR + s.cvu.batchAt * s.fld Reg.CVU_AVCFG.STRIDE

/-- The batch check judges nothing (R490). -/
def State.batchBad (s : State) : Bool :=
  let a := s.fld Reg.CVU_AVBASE.ADDR
  let stride := s.fld Reg.CVU_AVCFG.STRIDE
  let n := s.fld Reg.CVU_AVCFG.COUNT
  a % 2 = 1 || stride = 0 || stride % 2 = 1 || 64 < s.fld Reg.CVU_AVCFG.FIRST + n ||
    (n ≠ 0 && 0x10000 < a + (n - 1) * stride + 2)

/-- Halfwords of a batch check still to be judged. -/
def State.batchLeft (s : State) : Nat := s.fld Reg.CVU_AVCFG.COUNT - s.cvu.batchAt

/-- The next `n` halfwords of a batch check are judged from tick `t` on, one a cycle, up to the first with an ECC error. -/
def State.batch (s : State) (t : Nat) : Nat → State
  | 0 => s
  | n + 1 =>
    if s.eccBad.contains (s.batchAddr / 4 * 4) then s
    else
      let u := s.aliveJudge t (s.fld Reg.CVU_AVCFG.FIRST + s.cvu.batchAt) (s.num s.batchAddr 2)
      { u with cvu := { u.cvu with batchAt := u.cvu.batchAt + 1 } }.batch (t + 1) n

/-- The engine cycles that a batch check takes before its first halfword are over (R489). -/
def State.batchReady (s : State) : State := { s with cvu := { s.cvu with batchSetup := 0 } }

/-- CVU_BATCH_DONE: the check's engine cycles still to come, two at its start and one for each halfword left (R474, R489, R490, R493). -/
def execCvuBatchDone (s : State) : Host.Outcome State Fault Refusal :=
  .next (if s.flag Reg.CVU_ST.AVBUSY && s.hfo && !s.asleep && !s.scanHolds then
      let s := if s.batchBad then s.setFlag Reg.CVU_ST.AVERR true
        else
          let s := (s.advance s.cvu.batchSetup).batchReady
          let t := (s.advance s.batchLeft).batch s.now s.batchLeft
          if t.batchLeft = 0 then t else t.setFlag Reg.CVU_ST.AVERR true
      (s.setFlag Reg.CVU_ST.AVBUSY false).raise Ev.CVU_DONE
    else s)

/-! ## Background service (R474, R475, R483) -/

/-- One word boundary in tick `t`: with no SCAN on the engine, the batch check, else the job due; `claimed` says that another master takes
the bank or port of an address in that tick (R475). What a run ends with is left to the command of its end. -/
def State.cvuWord (s : State) (claimed : Nat → Nat → Bool) (t : Nat) : State :=
  if s.scanHolds || s.cvu.scanAt = some t || !s.hfo || s.asleep then s
  else if s.flag Reg.CVU_ST.AVBUSY then
    (if s.batchBad then s
    else if s.cvu.batchSetup ≠ 0 then { s with cvu := { s.cvu with batchSetup := s.cvu.batchSetup - 1 } }
    else if claimed t s.batchAddr then s
    else s.batch t (min 1 s.batchLeft))
  else match s.jobNext with
    | some k => if claimed t (s.jobAt k) then s else s.jobWords k 1
    | none => s

/-- The last `n` cycles up to now, each a word boundary. -/
def State.cvuWords (s : State) (claimed : Nat → Nat → Bool) : Nat → State
  | 0 => s
  | n + 1 => (s.cvuWord claimed (s.now - (n + 1))).cvuWords claimed n

/-- Background work is under way. -/
def State.cvuBusy (s : State) : Bool := s.flag Reg.CVU_ST.AVBUSY || s.fld Reg.CVU_ST.BUSY ≠ 0

/-- Background work in `n` cycles: no word in a tick in which its memory is claimed, and how many of the other ticks are used is free, as no
rate is guaranteed (R475; log 22). -/
def State.cvuServe (s : State) (claimed : Nat → Nat → Bool) (n : Nat) : State :=
  if s.cvuBusy then { s with free := s.free + 1 }.cvuWords claimed (min n (Config.scanWords s.free)) else s

end Sys2Proof.Machine
end

