-- ==== Sys2Proof/Machine/Loader.lean ====
section
/-! DEFINITION. The sealed extract (R420, R453 to R455), the loader (R105 to R117), NVM sector writes (R95). -/

namespace Sys2Proof.Machine

/-! ## The wiring-plan extract -/

def planBase : Nat := 0x1001E000

/-- The extract passes the checks of R455. -/
def State.planGood (s : State) : Bool :=
  s.num planBase 4 = 0x4E4C5057 && s.num (planBase + 4) 2 = 1 && s.num (planBase + 6) 2 = 32 &&
    s.num (planBase + 0x124) 4 = crc32c (s.bytes planBase 292) && s.num (planBase + 0x18) 1 < 64 &&
    s.num (planBase + 0x20) 8 = s.fld Reg.SYS_UID_LO.UID + 2 ^ 32 * s.fld Reg.SYS_UID_HI.UID

/-- A default upstream byte of the record: port and valid bit. -/
def State.takeUpByte (s : State) (port valid : Fld) (v : Nat) : State := (s.setFld port v).setFlag valid (bitAt v 7)

/-- One routing entry from eight bytes: BASE, MASK, PORT (Tables 10-8, 10-5). -/
def State.takeRoute (s : State) (k base mask port : Nat) : State :=
  (((s.setFld Reg.FAB_RT_A.BASE base k).setFld Reg.FAB_RT_A.MASK mask k).setFld Reg.FAB_RT_B.PORT port k).setFlag
    Reg.FAB_RT_B.VALID (bitAt port 7) k

/-- The active default upstream starts at the primary, not usable until a link is (Table 10-13). -/
def State.freshUp (s : State) : State :=
  { ((s.setFld Reg.FAB_UP.ACTIVE (s.fld Reg.FAB_UP.PRIM)).setFlag Reg.FAB_UP.ONSEC false).setFlag Reg.FAB_UP.NONE true with
    primSince := none }

/-- The fabric state taken from the extract, or a blank die's (R420, R455). -/
def State.takePlan (s : State) : State :=
  if s.planGood then
    let r := planBase + 0x20
    let s := ((s.setFlag Reg.LOAD_ST.BLANK false).setFlag Reg.FAB_ST.PLANERR false).setFld Reg.FAB_ADDR.ADDR (s.num (r + 8) 2)
    let s := ((s.setFlag Reg.FAB_ADDR.VALID true).setFlag Reg.FAB_ADDR.SOURCE false).setFld Reg.FAB_RACKID.ID (s.num (planBase + 8) 4)
    let s := (s.setFld Reg.FAB_CFG.DEFHOPS (s.num (planBase + 0x18) 1)).setFld Reg.FAB_PLANDIG.DIG (s.num (planBase + 0x120) 4)
    let s := (s.takeUpByte Reg.FAB_UP.PRIM Reg.FAB_UP.PRIMV (s.num (r + 12) 1)).takeUpByte Reg.FAB_UP.SEC Reg.FAB_UP.SECV
      (s.num (r + 13) 1)
    (forAll (List.range 16) (fun k t => t.takeRoute k (s.num (r + 0x50 + 8 * k) 2) (s.num (r + 0x52 + 8 * k) 2)
      (s.num (r + 0x54 + 8 * k) 1)) s).freshUp
  else
    let blank := isErased (s.bytes planBase 296)
    let s := ((s.setFlag Reg.LOAD_ST.BLANK true).setFlag Reg.FAB_ST.PLANERR (!blank)).setReg 0x6000 0
    let s := ((s.setFld Reg.FAB_RACKID.ID 0).setFld Reg.FAB_CFG.DEFHOPS 63).setFld Reg.FAB_PLANDIG.DIG 0
    let s := (s.takeUpByte Reg.FAB_UP.PRIM Reg.FAB_UP.PRIMV 0).takeUpByte Reg.FAB_UP.SEC Reg.FAB_UP.SECV 0
    (forAll (List.range 16) (fun k t => t.takeRoute k 0 0 0) s).freshUp

/-! ## LOAD_STATUS (R117) -/

/-- The die's own SEAL9 is on; CELL and JUNCTION dies have no seal reader (R112). -/
def State.seal9 (s : State) : Bool := s.hasSafety && bitAt (s.fld Reg.SEAL_ACC.WORD) 9

/-- Chunks of an image. -/
def Load.count (l : Load) : Nat := (l.imglen + 31) / 32

/-- The lowest chunk not yet received. -/
def Load.firstMiss (l : Load) : Nat := ((List.range l.count).find? fun k => !l.chunks.contains k).getD l.count

/-- Bytes as words, the lowest first (R78). -/
def wordsOf : Nat → List Byte → List Word
  | 0, _ => []
  | n + 1, b => BitVec.ofNat 32 (leNat (b.take 4)) :: wordsOf n (b.drop 4)

/-- A message of an output stream: its header and its bytes (R740). -/
def streamMessage (kind : Nat) (b : List Byte) : List Word :=
  BitVec.ofNat 32 (b.length + 256 * kind) :: wordsOf ((b.length + 3) / 4) b

/-- The LOAD_STATUS payload of a code; outside LOAD its IMGID is the directory's word whatever the marker says (log 19). -/
def State.statusBytes (s : State) (code : Nat) : List Byte :=
  let r := match s.load with
    | some l => (l.firstMiss, l.imgid.toNat, l.chunks.length)
    | none => (0, s.num 0x1001C204 4, 0)
  [0x81, BitVec.ofNat 8 code] ++ leBytes 2 r.1 ++ leBytes 4 r.2.1 ++ leBytes 2 r.2.2 ++ [0, 0]

/-- A LOAD_STATUS reply (R117, R743; log 15). -/
def State.reply (s : State) (dst : ReplyTo) (code : Nat) : State :=
  let b := s.statusBytes code
  let s := s.setFld Reg.LOAD_ST.LAST code
  match dst with
  | .host =>
    if s.hostPort.loadOut.length + 4 ≤ 16 then
      { s with hostPort := { s.hostPort with loadOut := s.hostPort.loadOut ++ streamMessage 0 b } }
    else s.count Reg.HOST_LOST.COUNT
  | .fabric src => s.sendRouted (s.mkFrame Ty.PROG s.defHops (Config.hwPrio 5 % 8) (Config.hwAck 5) src b) .other

/-- The code that LOAD_QUERY answers. -/
def State.queryCode (s : State) : Nat :=
  match s.load with
  | some l => l.lastFail.getD 1
  | none => if s.markerSet then 0 else 10

/-! ## Entering and leaving LOAD (R107, R113) -/

/-- The write is one of the loader's. -/
def NvmWrite.isLoader (w : NvmWrite) : Bool :=
  match w.writer with
  | .program _ => true
  | .directory => true
  | .sealedByLoader => true
  | _ => false

/-- The write that clears the image-valid marker (R107, R822). -/
def markerClear : NvmWrite := ⟨0x1001C200, [0, 0, 0, 0], .directory⟩

/-- A load ends or another begins: its writes not begun are dropped, but for a clearing of the marker; one in progress goes on and brings
nothing (log 19). -/
def State.dropLoaderWrites (s : State) : State :=
  let head := (s.nvmQ.take 1).map fun w => if w.isLoader && w ≠ markerClear then { w with writer := .dropped } else w
  { s with nvmQ := head ++ (s.nvmQ.drop 1).filter fun w => !w.isLoader || w = markerClear }

/-- A new load of a LOAD_BEGIN payload begins (R107); `host` says that it came through the host port (R112). -/
def State.enterLoad (s : State) (b : List Byte) (host : Bool) : State :=
  let s := s.dropLoaderWrites
  let s := forAll allCtx (fun c t => t.stopCtx c) s
  let s := forAll allDma (fun n t => t.dmaStop n 3) s
  let s := s.ladleHalt.setSource Src.LOAD
  let s : State := { s with nvmQ := s.nvmQ ++ [markerClear] }
  let s := s.bbxAppend 0x07 false b
  let l : Load := {
    rolemask := BitVec.ofNat 8 (fieldOf b 1 1), imglen := fieldOf b 4 4, imgid := BitVec.ofNat 32 (fieldOf b 8 4),
    imgver := BitVec.ofNat 32 (fieldOf b 12 4), imgcrc := BitVec.ofNat 32 (fieldOf b 16 4), host := host, chunks := [],
    staged := [], lastFail := none, commit := none, committed := false, deadline := s.now + ms 10000 }
  let s := (s.setFlag Reg.LOAD_ST.IN_LOAD true).setFld Reg.LOAD_ST.CHUNKS 0
  { s.wdStop with load := some l, holder := none }

/-- LOAD ends; LOAD_ST and the demand source follow. -/
def State.quitLoad (s : State) : State :=
  let s := (s.setFlag Reg.LOAD_ST.IN_LOAD false).setFld Reg.LOAD_ST.CHUNKS 0
  { s with load := none }.endSource Src.LOAD

/-- LOAD ends as NOIMAGE (R113), after a commit without RESTART too, whose marker stays set (log 19). -/
def State.leaveLoad (s : State) : State :=
  s.dropLoaderWrites.quitLoad.noImage

/-- LOAD_TIMEOUT: no PROG message for 10 s. -/
def execLoadTimeout (s : State) : Host.Outcome State Fault Refusal :=
  .next (match s.load with
    | some l => (s.reach l.deadline).leaveLoad
    | none => s)

/-! ## The messages (R105, R107 to R117) -/

/-- R105: the source may load this die. -/
def State.loadAllowed (s : State) (src : ReplyTo) : Bool :=
  match src with
  | .host => !s.sealed || s.seal9
  | .fabric a => !s.sealed || a = s.mgrA || a = s.mgrB

/-- LOAD_BEGIN: refused, the continuation of the load in progress, or a new load, which is not answered (R107, R117; log 19). -/
def State.takeBegin (s : State) (src : ReplyTo) (b : List Byte) : State :=
  let len := fieldOf b 4 4
  let same := s.load.any fun l => l.rolemask.toNat = fieldOf b 1 1 && l.imglen = len && l.imgid.toNat = fieldOf b 8 4 &&
    l.imgver.toNat = fieldOf b 12 4 && l.imgcrc.toNat = fieldOf b 16 4
  if !bitAt (fieldOf b 1 1) s.role then s
  else if 65536 < len || len % 4 ≠ 0 then s.reply src 8
  else if same then s.reply src 1
  else s.enterLoad b (src = .host)

/-- Sectors staged or being written: each takes 16 of bank 3's places (R108). -/
def Load.slots (l : Load) : List Nat := (l.staged.map fun e => e.1 / 16).eraseDups

/-- The bytes of bank 3's place `i` start here (R108). -/
def stagePlace (i : Nat) : Nat := 0xC000 + 32 * i

/-- Places of bank 3 that hold no staged chunk. -/
def Load.freePlaces (l : Load) : List Nat := (List.range 512).filter fun i => l.staged.all fun e => e.2 ≠ i

/-- Bytes of the store's sector `k`: its chunks as bank 3 holds them, and free bytes beyond the image. -/
def State.sectorBytes (s : State) (l : Load) (k : Nat) : List Byte :=
  (List.range 512).map fun i =>
    let a := 512 * k + i
    if a < l.imglen then
      match l.staged.find? fun e => e.1 = a / 32 with
      | some e => s.byte (stagePlace e.2 + a % 32)
      | none => 0
    else Config.tornByte s.free (progBase + a)

/-- LOAD_DATA in LOAD (R108, R114). DESIGN CHOICE (log 19): a chunk wholly at or beyond IMGLEN is dropped and not counted in CHUNKS, and the
image's last sector is written once its chunks below IMGLEN are staged, fewer than 16 though they be. -/
def State.takeChunk (s : State) (l : Load) (b : List Byte) : State :=
  let c := fieldOf b 2 2
  let k := c / 16
  if l.count ≤ c || l.chunks.contains c || (32 ≤ l.slots.length && !l.slots.contains k) then s
  else
    let data := (b.drop 4).take 32
    let i := l.freePlaces.getD (Config.stageAt s.free c % l.freePlaces.length) 0
    let s := s.putMem (stagePlace i) data
    let l := { l with chunks := insertNat c l.chunks, staged := (c, i) :: l.staged }
    let s : State := { s with free := s.free + 1, load := some l }.setFld Reg.LOAD_ST.CHUNKS l.chunks.length
    let whole := (List.range 16).all fun i => l.count ≤ 16 * k + i || l.chunks.contains (16 * k + i)
    if whole then { s.nvmWrite (progBase + 512 * k) (s.sectorBytes l k) (.program k) with free := s.free + 1 } else s

/-- The stored image as the checks of LOAD_COMMIT find it, `s` being settled: the first code that fails, or none (R109, R111). A host
load counts as authorised only while the die's own SEAL9 is on, a manager's always (R112). -/
def State.commitCode (s : State) (l : Load) : Option Nat :=
  if l.firstMiss < l.count then some 2
  else if crc32c (s.bytes progBase l.imglen) ≠ l.imgcrc.toNat then some 3
  else if !(s.imageGood l.imgid.toNat l.imgver.toNat && s.img 8 4 = l.imglen) then some 11
  else if !bitAt (s.img 0x14 1) s.role then some 4
  else if s.fld Reg.SYS_ID.REV < s.img 0x16 1 then some 9
  else if s.img 0x17 1 = 1 && s.sealed && l.host && !s.seal9 then some 6
  else none

/-- A sealed area with the sections of type `t` laid over it. -/
def State.overlay (s : State) (t base : Nat) : State :=
  forAll (s.sections.filter fun e => e.type = t) (fun e u => u.setBytes (base + e.dest) (s.bytes (progBase + e.offset) e.len)) s

/-- The sectors in which an area differs from `old` are written. -/
def State.writeArea (s old new : State) (base n : Nat) : State :=
  forAll (List.range n) (fun k t =>
    let b := new.bytes (base + 512 * k) 512
    if b = old.bytes (base + 512 * k) 512 then t else t.nvmWrite (base + 512 * k) b .sealedByLoader) s

/-- The seal word that the loader's Varnish uses (R575). -/
def State.loaderWord (s : State) : Nat := if s.hasSafety && s.safe.sealEver then s.fld Reg.SEAL_ACC.WORD else 0

/-- The writes of a commit that passed its checks: sealed areas, the directory with its zeros, MARKER last (R109, R575, R822). -/
def State.commitWrites (s : State) : State :=
  let old := s.settled
  let has := fun (t : Nat) => old.sections.any fun e => e.type = t
  let s := if has 4 then
      let u := old.overlay 4 sealBase
      let crc := crc32c (u.bytes sealBase 7164)
      let u := u.setBytes 0x1001DFFC (leBytes 4 crc)
      (s.writeArea old u sealBase 14).nvmWrite 0x1001C0F0 (leBytes 4 (s.varnishOf s.loaderWord crc)) .sealedByLoader
    else s
  let s := if has 5 then s.writeArea old (old.overlay 5 planBase) planBase 16 else s
  let s := s.nvmWrite 0x1001C204 (leBytes 4 (old.img 0x0C 4) ++ leBytes 4 (old.img 0x10 4) ++
    leBytes 4 (crc32 (old.bytes progBase 65536)) ++ List.replicate 496 0) .directory
  s.nvmWrite 0x1001C200 (leBytes 4 0x5A5AA5A5) .directory

/-- A commit fails: the die is in LOAD with the marker clear (R116). -/
def State.failCommit (s : State) (l : Load) (dst : ReplyTo) (code : Nat) : State :=
  let q := if s.settled.markerSet then s.nvmQ ++ [markerClear] else s.nvmQ
  { s with nvmQ := q, load := some { l with lastFail := some code, commit := none, committed := false } }.reply dst code

/-- LOAD_COMMIT in LOAD. -/
def State.takeCommit (s : State) (l : Load) (src : ReplyTo) (restart : Bool) : State :=
  match s.settled.commitCode l with
  | some c => s.failCommit l src c
  | none => { s.commitWrites with load := some { l with commit := some (src, restart) } }

/-- A PROG message with its OP and length right (Table 3-10). DESIGN CHOICE (log 19): its zero bytes, and the bits of LOAD_COMMIT's FLAGS
other than RESTART, are not looked at. -/
def progOp (b : List Byte) : Nat :=
  let op := fieldOf b 0 1
  if b.length = (match op with
    | 1 => 20
    | 2 => 36
    | 3 | 4 | 5 => 4
    | _ => 0) then op else 0

/-- The 10 s of R113 begin anew. -/
def State.progHeard (s : State) : State :=
  { s with load := s.load.map fun l => { l with deadline := s.now + ms 10000 } }

/-- A PROG message reaches the loader; LOAD_ABORT in LOAD is not answered (log 19). -/
def State.takeProg (s : State) (src : ReplyTo) (b : List Byte) : State :=
  let s := s.progHeard
  match progOp b with
  | 0 => s
  | 5 => s.reply src s.queryCode
  | op =>
    if !s.loadAllowed src then s.reply src 5
    else match op, s.load with
      | 1, _ => s.takeBegin src b
      | 2, some l => if l.commit.isSome then s else s.takeChunk l b
      | 3, some l => if l.commit.isSome then s.reply src 1 else s.takeCommit l src (bitAt (fieldOf b 1 1) 0)
      | 4, some _ => s.leaveLoad
      | 2, none => s
      | _, _ => s.reply src s.queryCode

/-! ## NVM sector writes (R95) -/

/-- Every enabled port's link ends, all at once as at reset, so that none takes over as default upstream; then each starts its link (R420,
R674). -/
def State.startEnabled (s : State) : State :=
  let on := allPorts.filter s.portOn
  let s := forAll on (fun p t => (t.failAll p true false).setLink p Link.RESET) s
  forAll on (fun p t => t.ctlStart p) s

/-- A commit's last write is made: the load has succeeded (R109, R110, R674; a blank die's plan, log 19). A run of job 0 that LOAD held up
goes on, its period counted from its start (R479). -/
def State.commitEnd (s : State) (l : Load) (dst : ReplyTo) (restart : Bool) : State :=
  let s : State := { s with load := some { l with commit := none, committed := true } }
  let s := s.directory.cvuExpect
  let s := (if s.jobRuns 0 then s else s.setStarted 0 none).revarnish
  let s := s.bbxAppend 0x08 false (s.bytes 0x1001C204 12)
  let s : State := { s with boot := { s.boot with scanned := false } }
  let s := s.reply dst 0
  if restart then
    let s := s.quitLoad.seqStop
    if s.sections.any fun e => e.type = 5 then s.takePlan.syncDrives.startEnabled else s
  else s

/-- A write that a commit itself asked for. -/
def NvmWrite.isCommit (w : NvmWrite) : Bool := w.writer = .directory || w.writer = .sealedByLoader

/-- A write by the loader has ended during a commit: it fails the commit, whose other writes are dropped, or was the last (log 19). -/
def State.afterLoader (s : State) (ok : Bool) : State :=
  match s.load with
  | some l =>
    match l.commit with
    | some (dst, restart) =>
      if !ok then
        let s : State := { s with nvmQ := (s.nvmQ.filter fun w => !w.isCommit) ++ [markerClear] }
        s.failCommit l dst 7
      else if s.nvmQ.any NvmWrite.isLoader then s
      else s.commitEnd l dst restart
    | none => s
  | none => s

/-- What an NVM write's end brings. -/
def State.afterWrite (s : State) (w : NvmWrite) (ok : Bool) : State :=
  match w.writer with
  | .program k =>
    let s : State := { s with load := s.load.map fun l => { l with staged := l.staged.filter fun e => e.1 / 16 ≠ k } }
    s.afterLoader ok
  | .directory => s.directory.afterLoader ok
  | .sealedByLoader => s.afterLoader ok
  | .sealedWrite => s
  | .commit => s
  | .dropped => s.directory
  | .bbxMap => if ok then s else s.mapFailure
  | .shadow area pos =>
    if ok then s else s.shadowFailure ((if area = 1 then 0 else 16) + pos / 8)

/-- The sealed jobs whose range the write reached start again from their START (R485). -/
def State.restartJobs (s : State) (a : Nat) : State :=
  forAll (List.range 3) (fun k t =>
    if t.jobRuns k && a < t.jobFrom k + t.jobLen k && t.jobFrom k < a + 512 then t.jobBegin k else t) s

/-- The head of the NVM's queue is written; failed, its bytes are free. The engine's commit ends with a command of its own. -/
def State.nvmDone (s : State) (ok : Bool) : State :=
  match s.nvmQ with
  | [] => s
  | w :: rest =>
    if w.writer = .commit then s else
    let s := s.didWork 9
    let b := if ok then w.bytes else (List.range w.bytes.length).map fun i => Config.tornByte s.free (w.addr + i)
    let s : State := { s with nvmQ := rest, free := s.free + 1 }.putMem w.addr b
    ((s.restartJobs (sectorOf w.addr)).afterWrite w ok).wakeNvm

end Sys2Proof.Machine
end

