-- ==== Sys2Proof/Machine/Reset.lean ====
section
/-! DEFINITION. Die resets, start-up, supplies, lifeline groups (R415 to R418, R686, R703, R707, R761 to R776). -/

namespace Sys2Proof.Machine

/-! ## Entering a reset (R767 to R771) -/

/-- Registers kept through every reset but POR and SHIP_WAKE (Table 18-6). -/
def keptKeys : List Nat := [0x14, 0x1050, 0x1054, 0x1058, 0x105C] ++ (List.range 15).map fun k => 0x1100 + 4 * k

/-- The tombstone rows, which are fuses. -/
def fuseKeys : List Nat := (List.range 8).flatMap fun r => [0x8030 + 8 * r, 0x8034 + 8 * r]

/-- The engine's copy of the map, which a commit in progress needs at its end. -/
def mapKeys : List Nat := [Reg.BBX_BADMAP_LO.BAD.base, Reg.BBX_BADMAP_HI.BAD.base, Reg.BBX_SHBAD.BAD.base]

/-- Registers of `s` are taken over. -/
def State.takeKeys (t s : State) (ks : List Nat) : State := forAll ks (fun k u => u.setReg k (s.reg k)) t

/-- A word that phase 2 of a commit leaves when it is cut off: free, but not the COMMIT word (R510). -/
def tornCommit (w commit : List Byte) : List Byte := if w = commit then commit.map (~~~ ·) else w

/-- `n` free bytes at `a` that a cut write leaves, by the counter `k`. -/
def tornBytes (k a n : Nat) : List Byte := (List.range n).map fun i => Config.tornByte k (a + i)

/-- What a write leaves that is cut off. The two phases of a record's store (R506, R514): cut in the first its bytes are free, in the second
they stand, and its COMMIT word is not there; which phase it is in is free. Of any other write all bytes are free. -/
def NvmWrite.cutBytes (w : NvmWrite) (k : Nat) : List Byte :=
  match w.writer with
  | .shadow _ (_ + 1) =>
    if isCommitted w.bytes then
      let b := if bitAt (Config.tornByte (k + 1) w.addr).toNat 0 then w.bytes.take 60 else tornBytes k w.addr 60
      b ++ tornCommit (tornBytes k (w.addr + 60) 4) (commitWord b)
    else tornBytes k w.addr w.bytes.length
  | _ => tornBytes k w.addr w.bytes.length

/-- NVM bytes of a write that a reset cut off are free; waiting writes are lost, but for the engine's commit (R507). A reset in LOAD
leaves the marker clear unless a commit has succeeded (R113). -/
def State.cutWrite (s : State) : State :=
  let kept := s.nvmQ.filter fun w => w.writer = .commit && s.bbx.commit.isSome
  let t := match s.nvmQ with
    | [] => s
    | w :: _ => { s with free := s.free + 2 }.putMem w.addr (w.cutBytes s.free)
  let t : State := { t with nvmQ := kept }
  if s.load.any fun l => !l.committed then t.putMem 0x1001C200 [0, 0, 0, 0] else t

/-- A free row that is not 0 and fails its CRC-8 (R765). -/
def tornRow (v : Nat) : Nat :=
  let bad := fun (v : Nat) => v ≠ 0 && crc8 (beBytes 7 (v / 256)) ≠ v % 256
  if bad v then v else if bad (Nat.xor v 1) then Nat.xor v 1 else Nat.xor v 2

/-- A power-on reset cuts a commit that the NVM has begun in its phase 2, the reserve having carried it through phase 1 (R507, R510), and
a burn in progress (R765). -/
def State.cutCommit (s : State) : State :=
  let s := match s.bbx.commit with
    | some (r, q) =>
      let w := (List.range 4).map fun i => Config.tornByte s.free (ringAddr q + 60 + i)
      let t : State := { s with bbx := { s.bbx with commit := none, moving := none }, free := s.free + 1 }
      if s.commitTurn then t.putMem (ringAddr q) (r.bytes ++ tornCommit w (commitWord r.bytes)) else t
    | none => s
  match s.bbx.burning with
  | (r, _) :: _ =>
    if s.bbx.burnOn then
      let v := tornRow (Config.tornRow s.free).toNat
      ({ s with bbx := { s.bbx with burnOn := false }, free := s.free + 1 }.setFld Reg.BBX_TOMB_LO.ROW v r).setFld Reg.BBX_TOMB_HI.ROW
        (v / 2 ^ 32) r
    else s
  | [] => s

/-- The engine after a reset: a commit and a burn in progress go on (R769), all else is at its reset value. -/
def Bbx.afterReset (b : Bbx) : Bbx :=
  { Bbx.reset with
    commit := b.commit, moving := b.moving, burnOn := b.burnOn, mapGen := b.mapGen
    burning := if b.burnOn then b.burning.take 1 else []
    pins := if b.commit.isSome then b.pins else [] }

/-- The periodic acts begin anew at `n`, the instant of a reset: each comes first its period after it (log 1). -/
def State.periodsFrom (s : State) (n : Nat) : State :=
  { s with
    meas := { s.meas with sentAt := n }
    power := { s.power with monAt := n, guardSampled := n, lfoAt := n, ledgerAt := n }
    ladle := { s.ladle with govAt := n, sampleAt := n, frameAt := n }
    snap := { s.snap with timeAt := n }
    bbx := { s.bbx with summaryAt := n } }

/-- Every state at its reset value but what Table 18-6 keeps. A commit or burn in progress goes on except on POR. -/
def State.resetTo (s : State) (code : Nat) : State :=
  let s := if code = 1 then s.cutCommit else s
  let s := s.cutWrite
  let t : State := { State.reset with
    pending := s.pending, now := s.now, free := s.free, boot := s.boot, nvmQ := s.nvmQ
    mem := s.mem.filter fun c => 0x10000 ≤ c.1
    eccBad := s.eccBad.filter fun w => 0x10000 ≤ w
    bbx := s.bbx.afterReset }
  let t := ((t.periodsFrom s.now).takeKeys s fuseKeys).noteBusy
  let t := if s.bbx.commit.isSome then t.takeKeys s mapKeys else t
  if code ≤ 2 then t else t.takeKeys s keptKeys

/-- The lowest code of a set of sources. -/
def lowestCode (causes : Nat) : Nat := ((List.range 7).find? fun i => bitAt causes i).elim 0 (· + 1)

/-- The die stays in reset while a fuse load or a strap reading is to be repeated (R772, Table 18-8). -/
def State.stillReset (s : State) : Bool := s.boot.inReset || s.boot.held

/-- Source `code` is asserted: the die enters reset, or the source joins those of the reset it is in (R767). -/
def State.resetBy (s : State) (code : Nat) : State :=
  let bit := 2 ^ (code - 1)
  let old := if s.stillReset then s.boot.causes else 0
  let causes := Nat.lor old bit
  let t := s.resetTo code
  let t := if s.stillReset || code ≤ 2 then t else t.count Reg.SYS_RSTCNT.DIE
  let t := (t.setFld Reg.SYS_RSTCAUSE.CAUSES causes).setFld Reg.SYS_RSTCAUSE.PRIMARY (lowestCode causes)
  { t with boot := { Boot.reset with active := Nat.lor s.boot.active bit, causes := causes, inReset := true, fused := s.boot.fused, tap := s.boot.tap } }

/-- Source `code` ends; with the last one the 10 µs of R768 begin. -/
def State.resetOff (s : State) (code : Nat) : State :=
  if bitAt s.boot.active (code - 1) then
    let left := withBits s.boot.active (code - 1) 1 0
    { s with boot := { s.boot with active := left, quietAt := s.now } }
  else s

/-- A source that holds while asserted. -/
def State.resetLevel (s : State) (code : Nat) (asserted : Bool) : State :=
  if asserted then s.resetBy code else s.resetOff code

/-- A source that strikes at one moment. -/
def State.resetPulse (s : State) (code : Nat) : State := (s.resetBy code).resetOff code

/-- POR_RESET: VAON is below 0.85 V, or no longer. -/
def execPorReset (asserted : Bool) (s : State) : Host.Outcome State Fault Refusal := .next (s.resetLevel 1 asserted)

/-- SHIP_WAKE: a lifeline group in SHIP (R686). -/
def State.shipWake (s : State) : State := if s.power.below = 4 then s.resetPulse 2 else s

def execShipWake (s : State) : Host.Outcome State Fault Refusal := .next s.shipWake

/-- BROWNOUT: a rail is below its threshold for 2 µs, or no longer. -/
def execBrownout (asserted : Bool) (s : State) : Host.Outcome State Fault Refusal := .next (s.resetLevel 3 asserted)

/-- PIN_RESET: RESET_N is low for 1 µs or TESTEN high, or neither any longer. -/
def execPinReset (asserted : Bool) (s : State) : Host.Outcome State Fault Refusal := .next (s.resetLevel 5 asserted)

/-- An instruction that leaves the die running (R776). -/
def tapRuns (i : TapInstr) : Bool := i = .bypass || i = .idcode || i = .samplePreload

/-- TAP_RESET: the test-access port's instruction register takes an instruction, IDCODE when TRST_N is low or at a TAP reset; any but
BYPASS, IDCODE and SAMPLE/PRELOAD holds the die in reset (R776). -/
def execTapReset (i : TapInstr) (s : State) : Host.Outcome State Fault Refusal :=
  .next ({ s with boot := { s.boot with tap := i } }.resetLevel 6 (!tapRuns i))

/-- A write of SYS_CTL (Table 18-11). -/
def State.writeSysCtl (s : State) (w : Nat) : State := if bitAt w 0 && w / 2 ^ 16 = 0xD1E5 then s.resetPulse 7 else s

/-- CLOCK_MONITOR: HFO's deviation in 0.1 %, against SFO while the safety block runs, else against WDO (R707). -/
def execClockMonitor (dev : Int) (s : State) : Host.Outcome State Fault Refusal :=
  .next (if s.hfo && (if s.safe.running then 60 else 150) < dev.natAbs then s.resetPulse 4 else s)

/-- RESET_END: 10 µs after the last source ended, start-up begins (R768, R773). -/
def execResetEnd (s : State) : Host.Outcome State Fault Refusal :=
  .next (if s.boot.inReset && s.boot.active = 0 then
      let s := s.reach (s.boot.quietAt + us 10)
      { s with boot := { s.boot with inReset := false } }
    else s)

/-! ## Start-up (R772 to R774, Table 18-7) -/

/-- What the die's fuses hold: `burnt`, or what the first load that came through found, as fuses keep through every reset (Table 18-6;
log 31). -/
def State.fuseBits (s : State) (burnt : BitVec 64 × BitVec 8 × BitVec 24) : BitVec 64 × BitVec 8 × BitVec 24 := s.boot.fused.getD burnt

/-- FUSE_LOAD_DONE: 100 µs after HFO is stable UID, revision and TREF are loaded; `ok` says that the CRC holds, else the die stays in
reset and the load is repeated 100 ms later (Table 18-8). -/
def execFuseLoadDone (ok : Bool) (uid : BitVec 64) (rev : BitVec 8) (tref : BitVec 24) (s : State) :
    Host.Outcome State Fault Refusal :=
  .next (if !s.boot.inReset && s.hfo && !s.boot.fuses then
      let s := s.reach (s.boot.stepAt + us 100)
      if !ok then { s with rtime := 0, rtHold := 0, boot := { s.boot with stepAt := s.boot.stepAt + ms 100, held := true } }
      else
      let f := s.fuseBits (uid, rev, tref)
      let s := (s.setFld Reg.SYS_UID_LO.UID f.1.toNat).setFld Reg.SYS_UID_HI.UID (f.1.toNat / 2 ^ 32)
      let s := (s.setFld Reg.SYS_ID.REV f.2.1.toNat).setFld Reg.MEAS_TREF.VALUE f.2.2.toNat
      { s with boot := { s.boot with fuses := true, held := false, stepAt := s.now, fused := some f } }
    else s)

/-- The role is taken, and what the NVM holds for it: role-dependent reset values, directory, sealed parameters, extract, the
sealed jobs' expected values, the expected Varnish digest (R1, R420, R484, R569, R573, Table 18-7). The first sentinel sample comes
400 µs later, at the ledger's +535 µs. -/
def State.takeRole (s : State) (role : Nat) : State :=
  let s := s.setFld Reg.SYS_ROLE.ROLE role
  let m := role = roleManager
  let s := (s.setFlag Reg.MEAS_CFG.GR m).setFlag Reg.HOST_CFG.EN m
  let s := (s.takePlan).directory
  let s := ((s.applySealed).cvuExpect).setFld Reg.SAFE_VEXP.DIG (s.num 0x1001C0F0 4)
  let s : State := { s with meas := { s.meas with sentAt := s.now + us 300 } }
  { s.syncDrives with boot := { s.boot with straps := true, held := false, stepAt := s.now } }

/-- STRAP_READ: after two phases of 10 µs each pin's level, none for an open pin: the die then stays in reset, and reads again 100 ms later
(R772). -/
def execStrapRead (role0 role1 : Option Bool) (s : State) : Host.Outcome State Fault Refusal :=
  .next (if !s.boot.inReset && s.boot.fuses && !s.boot.straps then
      let s := s.reach (s.boot.stepAt + us 20)
      match role0, role1 with
      | some a, some b => s.takeRole ((if a then 1 else 0) + if b then 2 else 0)
      | _, _ => { s with rtime := 0, rtHold := 0, boot := { s.boot with stepAt := s.boot.stepAt + ms 100, held := true } }
    else s)

/-- SRAM_MARCH_DONE: 45,056 cycles after the straps; `bad` names the banks that misread; every bank is cleared. -/
def execSramMarchDone (bad : BitVec 4) (s : State) : Host.Outcome State Fault Refusal :=
  .next (if !s.boot.inReset && s.boot.straps && !s.boot.march then
      let s := (s.reach (s.boot.stepAt + 45056)).setFld Reg.SYS_BIST.SRAM bad.toNat
      { s with mem := s.mem.filter fun c => 0x10000 ≤ c.1, eccBad := s.eccBad.filter fun w => 0x10000 ≤ w,
               boot := { s.boot with march := true } }
    else s)

/-- REFERENCE_CHECK_DONE: 500 µs after the straps (Table 18-7); `bad` says that VREF and SREF differ by more than 1 %; then ports and the safety block start. -/
def execReferenceCheckDone (bad : Bool) (s : State) : Host.Outcome State Fault Refusal :=
  .next (if !s.boot.inReset && s.boot.straps && !s.boot.refs then
      let s := (s.reach (s.boot.stepAt + us 500)).didWork 5 2
      let s : State := { s.setFlag Reg.SYS_BIST.REF bad with boot := { s.boot with refs := true } }
      (forAll allPorts (fun p t => if t.autoStart p then t.startLink p else t) s).safeStart
    else s)

/-! ## HFO (R677) -/

/-- HFO_STABLE: what waited for HFO goes on: held conversions (R232), the Ladle (Table 8-1), ports (R409), the safety
block (R528), abandoned jobs (R481); in start-up the fuses load next. -/
def State.hfoStable (s : State) : State :=
  if s.hfo || s.asleep || s.boot.inReset then s
  else
    let s : State := { s with hfo := true, power := { s.power with waking := false } }
    let s := s.hfoLatch
    if !s.boot.refs then { s with boot := { s.boot with stepAt := s.now } }
    else
      let s := s.startSets (fun m => m.trig.isNone) true
      (s.ladleResume.safeStart).resumeAll.sendWaiting.restartDropped

def execHfoStable (s : State) : Host.Outcome State Fault Refusal := .next s.hfoStable

/-! ## Supplies (R761, R764, R766) -/

/-- SUPPLY_SWITCHOVER: V5IN in mV; between the thresholds nothing changes. -/
def execSupplySwitchover (mv : Nat) (s : State) : Host.Outcome State Fault Refusal :=
  .next (if 4400 ≤ mv then s.setFlag Reg.SYS_SUPPLY.V5 true
    else if mv < 4200 then s.setFlag Reg.SYS_SUPPLY.V5 false else s)

/-- VCOIL_LOW: VCOIL falls below 10.8 V. -/
def execVcoilLow (s : State) : Host.Outcome State Fault Refusal :=
  .next (s.setFlag Reg.SYS_SUPPLY.COIL_OK false).holdPulses.syncSwitches

/-- VCOIL_RETURN: VCOIL is at 10.8 V or above again. -/
def execVcoilReturn (s : State) : Host.Outcome State Fault Refusal :=
  .next (s.setFlag Reg.SYS_SUPPLY.COIL_OK true).holdPulses.syncSwitches

/-- HOLDUP_OK_CHANGE: VHOLD in mV. -/
def execHoldupOkChange (mv : Nat) (s : State) : Host.Outcome State Fault Refusal :=
  .next ((s.setFld Reg.SYS_SUPPLY.VHOLD (min (mv / 10) 4095)).setFlag Reg.BBX_STAT.HOLDUP_OK (7000 ≤ mv)).noteBusy

/-! ## Lifeline groups (R415 to R418, R686, R703) -/

/-- Port `p` of the fabric hears groups of pulses (R415). -/
def State.hears (s : State) (p : Port) : Bool := p ≠ xlink && s.listens p

/-- A WAKE from a node that is not upstream wakes an unlocked die, which then relays it (R703). -/
def State.relayStart (s : State) (p : Port) : State :=
  if s.upPorts.contains p || s.flag Reg.RT_ST.LOCKED then s
  else { s.setFlag Reg.CLK_ST.RELAY true with power := { s.power with relay := some (p, s.now, false), relayed := false } }

/-- LIFELINE_WAKE. -/
def execLifelineWake (p : Port) (s : State) : Host.Outcome State Fault Refusal :=
  .next (if !s.hears p then s
    else if s.power.below = 4 then s.shipWake
    else
      let slept := s.asleep
      let s := (s.setFlag Reg.PORT_ST.LL_WAKE true p).raise Ev.LIFELINE
      let s := (s.wake 1).resume p
      if slept then s.relayStart p else s)

/-- LIFELINE_ALARM. -/
def execLifelineAlarm (p : Port) (s : State) : Host.Outcome State Fault Refusal :=
  .next (if !s.hears p then s
    else if s.power.below = 4 then s.shipWake
    else
      let up := s.upPorts.filter fun q => q ≠ p && (s.link q = Link.ASLEEP || s.link q = Link.DOWN)
      let s := (s.setFlag Reg.PORT_ST.LL_ALARM true p).raise Ev.LIFELINE
      let s := (s.wake 1).resume p
      forAll up (fun q t => t.startAlarm q) s)

/-- PORT_RESUME: an ASLEEP port that is to send or has heard its far end resumes (R409). -/
def execPortResume (p : Port) (s : State) : Host.Outcome State Fault Refusal :=
  .next (if s.portOn p then s.resume p else s)

end Sys2Proof.Machine
end

