-- ==== Sys2Proof/Machine/Fabric.lean ====
section
/-! DEFINITION. Fabric operations of this node: directed frames and ENUM (R446 to R452), Primers (R464 to R467), interval
line tests (R468 to R470). -/

namespace Sys2Proof.Machine

/-! ## Directed frames (R446 to R449) -/

/-- Entry `i` of the PATH of a directed header. -/
def pathEntry (b : List Byte) (i : Nat) : Port := portOf (fieldOf b (4 + i / 4) 1 / 4 ^ (i % 4))

/-- A directed frame goes on its PATH (DIRECTED_FORWARD, R448). -/
def State.forwardDirected (s : State) (p : Port) (f : Frame) : State :=
  let n := fieldOf f.payload 1 1
  let q := pathEntry f.payload (n - f.hops)
  if n ≤ f.hops then s.count Reg.FAB_HOPDROP.COUNT
  else if q = p then s.count Reg.FAB_UTURN.COUNT
  else if !s.linkAlive q then s.count Reg.FAB_NOROUTE.COUNT
  else s.sendCopy p q f false .fixed

/-- The 36-byte header of a reply (R449). -/
def replyHeader (b : List Byte) (op : Byte) (p : Port) : List Byte :=
  let r := (b.drop 20).take 16
  let r0 := BitVec.ofNat 8 ((r.headD 0).toNat / 4 * 4 + p.val % 4)
  [op] ++ (b.drop 1).take 3 ++ (r0 :: r.drop 1) ++ (b.drop 4).take 16

/-- A reply leaves on the arrival port (R449; log 15). -/
def State.sendReply (s : State) (p : Port) (b : List Byte) (op : Byte) (body : List Byte) : State :=
  s.enqueue p (.of (s.mkFrame Ty.IDENT (fieldOf b 1 1 - 1) (Config.hwPrio 8 % 8) (Config.hwAck 8) Config.replyDest
    (replyHeader b op p ++ body)) .other)

def State.uid (s : State) : Nat := s.fld Reg.SYS_UID_LO.UID + 2 ^ 32 * s.fld Reg.SYS_UID_HI.UID

/-- INFO (Table 10-6). -/
def State.sendInfo (s : State) (p : Port) (b : List Byte) (status : Nat) : State :=
  let flags := s.idFlags + (if s.flag Reg.LOAD_ST.NOIMAGE then 16 else 0) + if s.flag Reg.FAB_ST.PLANERR then 32 else 0
  let ports := ((List.range 4).map fun q => (s.fld Reg.PORT_ST.STATE q + if s.flag Reg.PORT_ST.FENCED q then 8 else 0) * 16 ^ q).sum
  s.sendReply p b 0x81 (leBytes 8 s.uid ++ leBytes 4 (s.fld Reg.FAB_RACKID.ID) ++ leBytes 2 s.addr.toNat ++
    [BitVec.ofNat 8 flags, BitVec.ofNat 8 p.val] ++ leBytes 2 ports ++ [BitVec.ofNat 8 status, 0] ++
    leBytes 4 (s.fld Reg.FAB_PLANDIG.DIG))

/-- LTINFO (Table 10-6). -/
def State.sendLtInfo (s : State) (p : Port) (b : List Byte) (q : Nat) : State :=
  s.sendReply p b 0x85 (leBytes 8 s.uid ++ [BitVec.ofNat 8 q, BitVec.ofNat 8 (s.reg (0x634C + 16 * q)).toNat, 0, 0] ++
    leBytes 6 (s.lineCounts (portOf q)).1 ++ [0, 0] ++ leBytes 4 (s.lineCounts (portOf q)).2.1)

/-! ## Primers (R464 to R467) -/

/-- A Primer's message on port `p`, link-local (Table 10-6; log 15). -/
def State.sendPrimer (s : State) (p : Port) (op arg : Nat) : State :=
  s.enqueue p (.of (s.mkFrame Ty.IDENT 0 (Config.hwPrio 8 % 8) (Config.hwAck 8) 0 [BitVec.ofNat 8 op, BitVec.ofNat 8 arg, 0, 0]) .other)

/-- The port is in a Primer, or about to be: asked, acknowledged, or in the pattern. -/
def State.primerBusy (s : State) (p : Port) : Bool := (s.port p).primer ≠ .none

/-- A port asks for a Primer as initiator; the answer is awaited for 2 ms, on a port that cannot send too (R464). -/
def State.primerAsk (s : State) (p : Port) (minutes : Nat) : State :=
  if s.primerBusy p then s
  else
    (s.modPort p fun v => { v with
      primer := .asked, primerInit := true, primerMinutes := minutes, primerDelay := none, primerAt := s.now + ms 2 }).sendPrimer p
      0x11 minutes

/-- LT_CTL.PRIMER: Primers of LT_CFG.MINUTES. -/
def State.ltPrimer (s : State) (mask : Nat) : State :=
  let m := s.fld Reg.LT_CFG.MINUTES
  let m := if m = 0 then 10 else min m 60
  forAll allPorts (fun p t => if bitAt mask p.val then t.primerAsk p m else t) s

/-- A PRIMER_REQ is answered. -/
def State.takePrimerReq (s : State) (p : Port) (b : List Byte) : State :=
  let m := fieldOf b 1 1
  if s.sealed && !s.flag Reg.FAB_CFG.PRIMER_EN then s.sendPrimer p 0x13 1
  else if s.primerTaken p then s.sendPrimer p 0x13 2
  else (s.modPort p fun v => { v with primer := .acking, primerInit := false, primerMinutes := m }).sendPrimer p 0x12 m

/-- A PRIMER_ACK of `ticks` bit times: the pattern starts 100 µs after its EOF. -/
def State.takePrimerAck (s : State) (p : Port) (ticks : Nat) : State :=
  if (s.port p).primer = .asked then s.modPort p fun v => { v with primer := .acked, primerAt := s.now + ticks + us 100 } else s

/-- REFUSED: a NAK, or no answer. -/
def State.primerRefused (s : State) (p : Port) : State :=
  if (s.port p).primer = .asked then
    (s.modPort p fun v => { v with primer := .none }).setFld Reg.LT_RES.RESULT 4 p
  else s

/-- PRIMER_NO_ANSWER: 2 ms have passed. -/
def execPrimerNoAnswer (p : Port) (s : State) : Host.Outcome State Fault Refusal :=
  .next (if (s.port p).primer = .asked then (s.reach (s.port p).primerAt).primerRefused p else s)

/-- TRIP frames waiting on the port, or cut off as it enters a Primer: they are sent anew on its next link (R467). -/
def PortSt.tripsDue (v : PortSt) : List TxItem :=
  ((v.cur.toList ++ v.queue).filter fun i => i.frame.ftype = Ty.TRIP).map fun i => { i with seq := none, tries := 0 }

/-- Without those frames, and the outstanding ones that wait to be sent again. -/
def PortSt.withoutTrips (v : PortSt) : PortSt :=
  let trip := fun (i : TxItem) => i.frame.ftype = Ty.TRIP
  { v with cur := v.cur.filter fun i => !trip i, queue := v.queue.filter fun i => !trip i,
           outs := v.outs.filter fun o => !((v.cur.toList ++ v.queue).any fun i => trip i && i.tries ≠ 0 && i.seq = o.item.seq) }

/-- The port enters the raw pattern: its link ends and its counters clear (R465, R466); a TRIP that waits ends it at once and is sent on the
link started then (R467). -/
def State.patternStart (s : State) (p : Port) : State :=
  let trips := (s.port p).tripsDue
  let s := (s.modPort p PortSt.withoutTrips).endLink p Link.RESET .observing
  let s := s.modPort p fun v => { v with queue := trips }
  let s := ((s.setFld Reg.LT_BITS_LO.BITS 0 p).setFld Reg.LT_BITS_HI.BITS 0 p).setFld Reg.LT_ERRS.ERRS 0 p
  let s := (s.setFld Reg.LT_RES.SYNCLOSS 0 p).setFlag Reg.LT_RES.INIT (s.port p).primerInit p
  let s := (s.setBitOf Reg.LT_ST.PRIMER p.val true).modPort p fun v => { v with
    phase := .none, primer := .running, relinkAt := none, primerFrom := s.now, primerErrs := 0, primerLoss := 0, primerAt := s.now + ms (60000 * v.primerMinutes) }
  let s := s.updateUp
  if trips = [] then s else s.abortPrimer p

/-- PRIMER_PATTERN_START: 100 µs after the EOF of PRIMER_ACK, on a port that is still enabled, in DOZE or above (R471). -/
def execPrimerPatternStart (p : Port) (s : State) : Host.Outcome State Fault Refusal :=
  .next (if (s.port p).primer = .acked && s.portOn p && !s.asleep && p ≠ xlink then (s.reach (s.port p).primerAt).patternStart p else s)

/-- What a checker that stood as `v` at `now` has counted by `t`, when its counters then read `errs` errors and `syncloss` losses of
synchronisation: the bits of its window, and so many errors and losses as the bits checked since `now` can have brought, none once the
window has closed (R465, R782). -/
def PortSt.checkerCounts (v : PortSt) (now t errs syncloss : Nat) : Nat × Nat × Nat :=
  let c := v.foundBy now t (errs - v.primerErrs) (syncloss - v.primerLoss)
  saturated (v.checkedAt t, c.1, c.2)

/-- PRIMER_END: the checker's bit errors and losses of synchronisation, the bits being those of its window; the initiator starts a link 2 s later (R465, R466). -/
def execPrimerEnd (p : Port) (_bits errs syncloss : Nat) (s : State) : Host.Outcome State Fault Refusal :=
  let v := s.port p
  .next (if v.primer = .running then
      let c := v.checkerCounts s.now (max s.now v.primerAt) errs syncloss
      let s := s.reach v.primerAt
      let s := (s.modPort p fun v => { v with primer := .none }).putCounts p c
      (s.endPrimer p (if c.2.1 = 0 && c.2.2 = 0 then 1 else 2)).relinkLater p
    else s)

/-- PRIMER_RELINK: 2 s after the end of its Primer the initiator starts a link (R466). -/
def execPrimerRelink (p : Port) (s : State) : Host.Outcome State Fault Refusal :=
  .next (match (s.port p).relinkAt with
    | some t => ((s.reach t).modPort p fun v => { v with relinkAt := none }).startLink p
    | none => s)

/-- LT_CTL.STOP. -/
def State.ltStop (s : State) (mask : Nat) : State :=
  forAll allPorts (fun p t => if bitAt mask p.val then t.stopPrimer p else t) s

/-- ENUM_PRIMER_DELAY_END: a port that is in a Primer by then starts no other. -/
def execEnumPrimerDelayEnd (p : Port) (s : State) : Host.Outcome State Fault Refusal :=
  .next (match (s.port p).primerDelay with
    | some t => ((s.reach t).modPort p fun v => { v with primerDelay := none }).primerAsk p (s.port p).primerMinutes
    | none => s)

/-! ## ENUM operations (R451, Table 10-5) -/

def State.enumAssign (s : State) (b : List Byte) : State :=
  let s := (s.setFld Reg.FAB_RACKID.ID (fieldOf b 44 4)).setFld Reg.FAB_ADDR.ADDR (fieldOf b 48 2)
  let s := (s.setFlag Reg.FAB_ADDR.VALID true).setFlag Reg.FAB_ADDR.SOURCE true
  let s := (s.takeUpByte Reg.FAB_UP.PRIM Reg.FAB_UP.PRIMV (fieldOf b 50 1)).takeUpByte Reg.FAB_UP.SEC Reg.FAB_UP.SECV (fieldOf b 51 1)
  ((s.setFld Reg.FAB_CFG.DEFHOPS (fieldOf b 52 1)).setFlag Reg.FAB_ST.ASSIGNED true).freshUp.updateUp

def State.enumRoute (s : State) (b : List Byte) : State :=
  (s.takeRoute (fieldOf b 44 1) (fieldOf b 46 2) (fieldOf b 48 2) (fieldOf b 45 1)).setFlag Reg.FAB_ST.ASSIGNED true

/-- PRIMER on each port of PORTS, DELAY ms after the ENUM's EOF. -/
def State.enumPrimer (s : State) (b : List Byte) : State :=
  forAll allPorts (fun p t =>
    if bitAt (fieldOf b 44 1) p.val then
      t.modPort p fun v => { v with primerDelay := some (s.now + 92 + 8 * b.length + ms (fieldOf b 46 2)), primerMinutes := fieldOf b 45 1 }
    else t) s

/-- LEN of an ENUM operation. -/
def enumLen (op : Nat) : Nat :=
  match op with
  | 1 => 36
  | 2 => 56
  | 3 => 52
  | 4 => 48
  | 5 => 48
  | _ => 0

/-- The target performs an ENUM and answers; an operation or length that Table 10-5 does not give is BAD_ARG (log 21). -/
def State.enumTarget (s : State) (p : Port) (b : List Byte) : State :=
  let op := fieldOf b 0 1
  let mine := fieldOf b 36 8 = s.uid
  if b.length < 36 then s
  else if b.length ≠ enumLen op then s.sendInfo p b 3
  else if op = 1 then s.sendInfo p b 0
  else if !mine then s.sendInfo p b 1
  else match op with
    | 2 => if s.sealed then s.sendInfo p b 2
      else if 63 < fieldOf b 52 1 then s.sendInfo p b 3 else s.enumAssign b |>.sendInfo p b 0
    | 3 => if s.sealed then s.sendInfo p b 2
      else if 15 < fieldOf b 44 1 then s.sendInfo p b 3 else s.enumRoute b |>.sendInfo p b 0
    | 4 => if 15 < fieldOf b 44 1 || fieldOf b 45 1 = 0 || 60 < fieldOf b 45 1 then s.sendInfo p b 3
      else if allPorts.any fun q => bitAt (fieldOf b 44 1) q.val && (s.primerBusy q || (s.port q).primerDelay.isSome) then s.sendInfo p b 4
      else s.enumPrimer b |>.sendInfo p b 0
    | _ => if 3 < fieldOf b 44 1 then s.sendInfo p b 3 else s.sendLtInfo p b (fieldOf b 44 1)

/-! ## Interval line tests (R468 to R470) -/

/-- The next usable port's turn begins, or the cycle ends. -/
def State.nextTurn (s : State) : State :=
  let left := s.lt.left.dropWhile fun p => !s.usable p
  let s := s.setFld Reg.LT_ST.TESTING 0
  match left with
  | [] => { s with lt := { s.lt with turn := none, left := [] } }
  | p :: rest =>
    { s with lt := { s.lt with turn := some (p, s.now + ms (1000 * max 1 (s.fld Reg.LT_CFG.SECS))), left := rest } }.setBitOf Reg.LT_ST.TESTING p.val true

/-- A cycle begins; while one runs, another start is dropped (log 21). -/
def State.ltCycle (s : State) : State :=
  if s.lt.turn.isSome then s else { s with lt := { s.lt with left := allPorts } }.nextTurn

/-- INTERVAL_CYCLE_START: rack time crosses, or has crossed, a multiple of PERIOD hours; in SHIP there is no rack time (R686). -/
def execIntervalCycleStart (s : State) : Host.Outcome State Fault Refusal :=
  .next (if s.flag Reg.LT_CFG.AUTO && s.flag Reg.RT_ST.SET && !s.rackStill then
      let due := multipleAfter (86400000000 * max 1 (s.fld Reg.LT_CFG.PERIOD)) s.lt.since
      let s := s.reachTick due
      { s with lt := { s.lt with since := due } }.ltCycle
    else s)

/-- INTERVAL_TURN_END. -/
def execIntervalTurnEnd (s : State) : Host.Outcome State Fault Refusal :=
  .next (match s.lt.turn with
    | some (_, t) => (s.reach t).nextTurn
    | none => s)

/-- TEST_FRAME_SEND: during a turn, when the port's queue holds no other frame and no TEST frame is on its way (R469, R471). -/
def execTestFrameSend (s : State) : Host.Outcome State Fault Refusal :=
  .next (match s.lt.turn with
    | some (p, _) =>
      if (s.port p).queue = [] && !((s.port p).cur.any fun i => i.frame.ftype = Ty.TEST) then
        s.enqueue p (.of (s.mkFrame Ty.TEST 0 7 false 0 testPayload) .other)
      else s
    | none => s)

/-- A TEST frame's payload is compared with the pattern. -/
def State.takeTest (s : State) (p : Port) (b : List Byte) : State :=
  if b.length = 64 then
    (s.count64 Reg.LT_BITS_LO.BITS Reg.LT_BITS_HI.BITS 512 p).countBy Reg.LT_ERRS.ERRS (bitDiff b testPayload) p
  else s

end Sys2Proof.Machine
end

