-- ==== Sys2Proof/Machine/Bus.lean ====
section
/-! DEFINITION. The register bus: selectors (R96 to R98), reads with their views and latches (R16, R81), and writes with the
judgement of R18, R24 and R72 and what a write of each register does (R10 to R18). -/

namespace Sys2Proof.Machine

/-! ## Masters and selectors -/

/-- The context whose privilege and selectors an access has: its own, or a DMA channel's owner's. -/
def State.masterCtx (s : State) (m : Master) : Option Nat :=
  match m with
  | .ctx c => some c.val
  | .dma n => some (s.dmaOwner n)
  | .host => none
  | .served => none

/-- Whether a write of a CTX0-only register is reserved from this master (R72). -/
def State.unprivileged (s : State) (m : Master) : Bool :=
  match s.masterCtx m with
  | some c => c ≠ 0
  | none => false

/-- The copy of selector `n` that master `m` uses (R97). -/
def State.selOf (s : State) (m : Master) (n : Nat) : Nat :=
  let v := match m with
    | .ctx c => (s.ctx c).sel
    | .dma d => (s.ctx (Fin.ofNat 8 (s.dmaOwner d))).sel
    | .host => s.hostSel
    | .served => s.servedSel
  v.toList.getD n 0

def putSel (v : Vector Nat 6) (n x : Nat) : Vector Nat 6 := if h : n < 6 then v.set n x h else v

def State.setSel (s : State) (m : Master) (n x : Nat) : State :=
  match m with
  | .ctx c => s.modCtx c fun v => { v with sel := putSel v.sel n x }
  | .dma d => s.modCtx (Fin.ofNat 8 (s.dmaOwner d)) fun v => { v with sel := putSel v.sel n x }
  | .host => { s with hostSel := putSel s.hostSel n x }
  | .served => { s with servedSel := putSel s.servedSel n x }

/-- The selector of a page: its number in R135, the width of its channel field, and its channel count. -/
def selectorOf (page : Nat) : Option (Nat × Nat × Nat) :=
  match page with
  | 0x2 => some (0, 4, 16)
  | 0x5 => some (1, 2, 4)
  | 0xD => some (2, 3, 8)
  | 0xE => some (3, 3, 8)
  | 0x9 => some (4, 3, 8)
  | 0x4 => some (5, 3, 6)
  | _ => none

/-- Channels of selector `n`. -/
def selCount (n : Nat) : Nat := [16, 4, 8, 8, 8, 6].getD n 0

/-- The selector at this page offset, if it is one. -/
def selectorAt (off : Nat) : Option (Nat × Nat × Nat) := if off % 0x1000 = 0x800 then selectorOf (off / 0x1000) else none

/-- The key of the register at page offset `off` as master `m` sees it (R96, R97, R225). -/
def State.keyOf (s : State) (m : Master) (off : Nat) : Nat :=
  match selectorOf (off / 0x1000) with
  | some (n, _) =>
    if off % 0x1000 ≤ 0x800 then off
    else if n = 3 then off + 0x10000 * (8 * s.selOf m 2 + s.selOf m 3)
    else off + 0x10000 * s.selOf m n
  | none => off

/-! ## Pages of blocks that are off (R24) -/

/-- Register `k` belongs to a block that Table 1-1 marks Off in this role: converters of a JUNCTION that is not ground-referenced
(R274), sentinels and leakage with what they alone use, the Ladle, the safety block with its torque lines and cross-link, the join
engine, the tray table. On the shared MEAS page that is theirs and no other register (log 44). -/
def State.keyOff (s : State) (k : Nat) : Bool :=
  let off := k % 0x10000
  let ch := k / 0x10000
  match off / 0x1000 with
  | 0x2 =>
    if 0x2804 ≤ off && off ≤ 0x2810 then (ch ≤ 12 || ch = 14) && !s.frontRuns
    else if 0x20F0 ≤ off && off < 0x2100 then !s.frontRuns
    else ((0x2060 ≤ off && off < 0x20E0) || off = 0x2814) && !s.hasCells
  | 0x4 => !s.hasCells
  | 0x9 => !s.hasSafety || ((off = 0x9020 || off = 0x9024 || (0x9118 ≤ off && off < 0x9180)) && !s.isManager)
  | 0xA => if off < 0xA080 then !s.isTray else !s.isManager
  | _ => false

/-- What master `m` sees at page offset `off` is Off (R24). -/
def State.pageOff (s : State) (m : Master) (off : Nat) : Bool := s.keyOff (s.keyOf m off)

/-- The page offset lies in the HOST page of a disabled port. -/
def State.hostOff (s : State) (off : Nat) : Bool := 0xB000 ≤ off && off < 0xC000 && !s.flag Reg.HOST_CFG.EN

/-- A write at page offset `off` is one to a block that is Off (R24); of the HOST page of a disabled port a context can write HOST_CFG,
which enables it (R721; log 26). -/
def State.writeOff (s : State) (m : Master) (off : Nat) : Bool :=
  s.pageOff m off || (s.hostOff off && match m with
    | .ctx _ => off ≠ 0xB000
    | _ => true)

/-- The reset value of register `k`. -/
def resetWord (k : Nat) : Word := look regDefault Reg.resetWords k

/-! ## Views: words that follow the rest of the state -/

def bit (b : Bool) (n : Nat) : Nat := if b then 2 ^ n else 0

def bitsWhere (l : List Nat) (p : Nat → Bool) : Nat := (l.map fun i => bit (p i) i).sum

/-- PORT_SUMMARY. -/
def State.portSummary (s : State) : Nat :=
  bitsWhere (List.range 4) (fun p => s.fld Reg.PORT_ST.STATE p = 4)
    + 2 ^ 4 * bitsWhere (List.range 4) (fun p => s.fld Reg.PORT_ST.STATE p = 5)
    + 2 ^ 8 * bitsWhere (List.range 4) (fun p => s.fld Reg.PORT_ST.STATE p = 0)
    + 2 ^ 12 * bitsWhere (List.range 4) (fun p => s.flag Reg.PORT_ST.FENCED p)

/-- BAL_ACTIVE. -/
def State.balActive (s : State) : Nat :=
  bitsWhere (List.range 6) (fun k => s.shuttleActive (Fin.ofNat 6 k)) + 2 ^ 8 * bitsWhere (List.range 6) (fun k => s.flag Reg.BAL_ST.PAUSED k)

/-- DMA_ACTIVE. -/
def State.dmaActive (s : State) : Nat :=
  bitsWhere (List.range 4) (fun n => s.fld Reg.DMA_STAT.STATE n = 1) + 2 ^ 4 * bitsWhere (List.range 4) (fun n => s.fld Reg.DMA_STAT.STATE n = 2)

/-- SIN_ST of input `n`. -/
def State.sinSt (s : State) (n : Nat) : Nat :=
  bit (bitAt s.safe.raw n) 0 + bit (bitAt s.safe.accA n) 1 + bit (bitAt s.safe.accB n) 2
    + bit (indicates (s.pairMode (n / 2)) s.safe.accA n) 3 + 2 ^ 4 * s.causeShown n
    + 2 ^ 8 * pairSt (s.fld Reg.SAFE_ST.PAIRS) (n / 2) + 2 ^ 16 * s.fld Reg.SIN_ST.FAULTS n

/-- A copy of a record is on its way to a partner (Table 16-2). -/
def State.mirrors (s : State) : Bool :=
  allPorts.any fun p => ((s.port p).queue ++ (s.port p).cur.toList ++ (s.port p).outs.map (·.item)).any TxItem.isMrec

/-- The clock domains running while a master reads CLK_DOM (Table 16-2): domains whose running is momentary are free, and CD03 runs in every
role (log 37). -/
def State.domains (s : State) : Nat :=
  let run := s.hfo && !s.asleep
  let free := (Config.momentary s.free).toNat
  let conv := Nat.lor s.convMask (if s.meas.owPhase = 0 && s.meas.leakAt.isNone then 0 else 0xFFFF)
  let soon := s.meas.sets.foldl (fun a m => match s.setTarget? m with
    | some t => if !m.started && t ≤ s.rackNow + us 10 then Nat.lor a m.left else a
    | none => a) (if s.isTray && s.joinRuns && s.rack.voltsFrom ≤ s.now + us 10 then 0x2000 else 0)
  let st := fun p => s.fld Reg.PORT_ST.STATE p
  bit true 0 + bit (s.power.below ≠ 4) 1 + bit ((List.range 4).any fun p => s.flag Reg.PORT_CTL.EN p) 2
    + bit (s.power.below ≠ 4) 3 + bit (s.power.below ≠ 4 && s.wdRuns) 4 + bit run 5
    + bit (allCtx.any fun c => (s.ctx c).isRunnable) 6 + 2 ^ 7 * (free % 16)
    + bit (allDma.any fun n => s.dmaState n = 1) 11 + bit run 12
    + bit (s.fld Reg.CVU_ST.BUSY ≠ 0 || s.flag Reg.CVU_ST.AVBUSY || s.scanHolds) 13 + bit (s.nvmQ ≠ [] || bitAt free 4) 14
    + bit (s.bbx.queue ≠ [] || s.bbx.redo ≠ [] || s.bbx.commit.isSome || s.bbx.burnOn || s.mirrors) 15
    + 2 ^ 16 * Nat.lor conv soon
    + 2 ^ 32 * bitsWhere (List.range 6) (fun k => s.shuttleActive (Fin.ofNat 6 k) && !s.shuttleHeld (Fin.ofNat 6 k))
    + bit (s.fld Reg.BAL_BLEED.CLOSED ≠ 0) 38 + bit run 39
    + 2 ^ 40 * bitsWhere (List.range 4) (fun p => laneRuns (st p) || s.now < (s.port (portOf p)).llUntil)
    + 2 ^ 44 * bitsWhere (List.range 4) (fun p => laneRuns (st p) || (st p = 5 && run))
    + bit (s.fld Reg.LT_ST.PRIMER ≠ 0 || s.lt.turn.isSome) 48
    + bit s.safe.running 49 + bit s.safe.running 50 + bit s.safe.running 51 + bit (!s.allOff) 52 + bit s.safe.running 53
    + bit (s.flag Reg.HOST_CFG.EN && s.hostPort.selected) 54 + bit (s.isManager && run) 55 + bit (s.isManager && run) 56
    + bit run 57 + bit (s.boot.inReset || (s.hfo && !s.boot.fuses) || s.bbx.burnOn) 58 + bit (bitAt free 5) 59

/-- A word of LT_BITSp, LT_ERRSp or LT_RESp: the counters of a running Primer read as they stand (R465). -/
def State.lineWord (s : State) (k w : Nat) : Option Nat :=
  let p := portOf ((k - 0x6340) / 16)
  let c := s.lineCounts p
  match k % 16 with
  | 0 => some (c.1 % 2 ^ 32)
  | 4 => some (withBits w 0 16 (c.1 / 2 ^ 32))
  | 8 => some c.2.1
  | 12 => some (withBits w 16 16 c.2.2)
  | _ => none

/-- The word of register `k` that a view replaces, if it is one. -/
def State.view (s : State) (k : Nat) : Option Nat :=
  let w := (s.reg k).toNat
  match k % 0x10000 with
  | 0x1030 => some (if s.hasSafety then withBits (withBits w 8 8 (min 255 s.classTimeout)) 0 1 1 else w)
  | 0x1038 => some (withBits w 0 16 (if s.wdRuns then
      min 0xFFFF (((if s.asleep then s.power.enteredAt else s.now) - s.power.wdAt) / 24000) else 0))
  | 0x1060 => some (s.domains % 2 ^ 32)
  | 0x1064 => some (s.domains / 2 ^ 32)
  | 0x2000 => some (if s.joinRuns then withBits w 1 1 1 else w)
  | 0x2004 => some s.measBusyWord
  | 0x20F0 => some (s.coulWord 0)
  | 0x20F4 => some (s.coulWord 1)
  | 0x20F8 => some (s.coulWord 2)
  | 0x20FC => some (s.coulWord 3)
  | 0x3000 => some (s.rackTicks % 2 ^ 32)
  | 0x3004 => some (s.rackTicks / 2 ^ 32 + 2 ^ 16 * s.epoch + 2 ^ 24 * (s.rtime % 64))
  | 0x300C => some (withBits w 2 1 (if s.isOrigin then 1 else 0))
  | 0x3014 => some (match s.lastTime with
    | some t => min 0xFFFFFFFF (s.now - t)
    | none => 0xFFFFFFFF)
  | 0x3064 => some (withBits w 21 1 (if s.snap.armed.isSome || s.snap.follow.isSome || s.snap.tied ≠ [] then 1 else 0))
  | 0x4004 => some s.balActive
  | 0x5008 => some s.portSummary
  | 0x7000 => some (withBits w 13 1 (if s.scanHolds then 1 else 0))
  | 0x9000 => some (withBits (withBits (withBits w 3 1 (if s.dsrc = 0 then 0 else 1)) 4 1
      (if s.safe.tiRun || s.safe.sdAt.isSome then 1 else 0)) 5 1 (if s.chbWord = 0 then 0 else 1))
  | 0x9804 => some (s.sinSt (k / 0x10000))
  | 0xB004 => some (withBits w 1 1 (if s.hostPort.waiting = [] then 0 else 1))
  | 0xB00C => some s.hostAlert
  | 0xB028 => some (if s.hostPort.mout.any fun e => e.2 ≤ s.now then withBits w Reg.HOST_MOUT_CTL.BUSY.lo 1 0 else w)
  | 0xB030 => some ((64 - s.hostPort.loadIn.length) + 2 ^ 8 * (128 - s.hostPort.msgIn.length) + 2 ^ 16 * (128 - s.hostPort.winIn.length))
  | 0xB034 => some (s.hostPort.loadOut.length + 2 ^ 8 * s.msgOutNow.length + 2 ^ 16 * s.winWords.length)
  | 0xC100 => some s.dmaActive
  | 0xD000 => some s.ctxRunWord
  | j =>
    if 0x6340 ≤ j && j < 0x6380 then s.lineWord j w
    else if 0x4000 ≤ j && j < 0x5000 && allShuttles.any fun n => (s.swapped n).isSome then some (s.settleShuttles.reg k).toNat
    else none

/-! ## The selected registers of the CTX page (Tables 3-17, 3-18) -/

def regNo (n : Nat) : RegNo := Fin.ofNat 16 n

/-- The word at offset `o` (0x804 to 0x87C) of context `v`. -/
def Ctx.selected (v : Ctx) (o : Nat) : Word :=
  match o with
  | 0x804 => BitVec.ofNat 32 (v.state.code + bit v.werr 8)
  | 0x808 => v.pc
  | 0x80C => v.status
  | 0x810 => v.evmask
  | 0x814 => v.evpend
  | 0x818 => v.cause
  | 0x81C => v.tval
  | 0x820 => v.epc
  | 0x824 => v.tvec
  | 0x828 => v.cycle
  | _ => if 0x840 ≤ o && o ≤ 0x87C && o % 4 = 0 then v.getX (regNo ((o - 0x840) / 4)) else 0

/-- STATUS with only its writable bits [4:0] taken from `w` (Table 3-2, R82). -/
def statusWith (old w : Word) : Word := old &&& 0xFFFFFFE0 ||| w &&& 0x1F

/-- A write at offset `o` while the context is IDLE or PARKED. -/
def Ctx.putSelected (v : Ctx) (o : Nat) (w : Word) : Ctx :=
  match o with
  | 0x808 => { v with pc := w }
  | 0x80C => { v with status := statusWith v.status w }
  | 0x810 => { v with evmask := w }
  | 0x820 => { v with epc := w }
  | 0x824 => { v with tvec := w &&& 0xFFFFFFFC }
  | _ => if 0x844 ≤ o && o ≤ 0x87C && o % 4 = 0 then v.setX (regNo ((o - 0x840) / 4)) w else v

/-- The offset holds a register whose write needs the context IDLE or PARKED. -/
def needsHalt (o : Nat) : Bool :=
  o = 0x808 || o = 0x80C || o = 0x810 || o = 0x820 || o = 0x824 || (0x844 ≤ o && o ≤ 0x87C && o % 4 = 0)

/-- A write of a selected CTX register in tick `t`; W1C bits set in that tick stay (R13, R88). -/
def Ctx.writeSelected (v : Ctx) (t o : Nat) (w : Word) : Ctx :=
  if o = 0x804 then { v with werr := v.werr && (!w.getLsbD 8 || v.werrAt = some t) }
  else if o = 0x814 then v.clearEvents t w
  else if needsHalt o then
    if v.state = .idle || v.state = .parked then v.putSelected o w else { v with werr := true, werrAt := some t }
  else v

/-- The context shown to master `m` in the CTX page. -/
def State.shownCtx (s : State) (m : Master) : Cid := Fin.ofNat 8 (s.selOf m 2)

/-! ## Reads -/

/-- LO words whose read latches the HI word that follows them (R81, R245, R357, R712, Tables 7-7, 9-14, 10-15; log 23). -/
def latchesHi (off : Nat) : Bool :=
  off = 0x20F0 || off = 0x20F8 || off = 0x3000 || off = 0x5830 || off = 0x5838 || off = 0x1050 || off = 0x1058
    || (0x4100 ≤ off && off < 0x41C0 && off % 8 = 0) || (off = 0x6340 || off = 0x6350 || off = 0x6360 || off = 0x6370)

/-- HI words that a read takes from the reader's holding register. -/
def isLatched (off : Nat) : Bool := 4 ≤ off && latchesHi (off - 4)

/-- A master's number among the readers that hold latched words. -/
def masterNo : Master → Nat
  | .ctx c => c.val
  | .host => 8
  | .served => 9
  | .dma n => 10 + n.val

/-- The key of a reader's holding register. -/
def holdKey (m : Master) (k : Nat) : Nat := k + 2 ^ 24 * masterNo m

/-- The word of register `k` as it stands: a view, or what it holds. -/
def State.regWord (s : State) (k : Nat) : Word :=
  match s.view k with
  | some n => BitVec.ofNat 32 n
  | none => s.reg k

/-- HOST registers read their reset values while the port is disabled, but for RSTSEEN. -/
def State.hostPageWord (s : State) (k : Nat) : Word :=
  if s.flag Reg.HOST_CFG.EN then s.regWord k
  else if k = 0xB004 then s.reg k &&& 1
  else if k = 0xB000 then (if s.isManager then 1 else 0)
  else resetWord k

/-- What a read at page offset `off` returns to master `m`, without its effects. -/
def State.readWord (s : State) (m : Master) (off : Nat) : Word :=
  let k := s.keyOf m off
  match selectorAt off with
  | some (n, _) => if s.pageOff m off then 0 else BitVec.ofNat 32 (s.selOf m n)
  | none =>
    if s.pageOff m off then resetWord k
    else if 0xD804 ≤ off && off < 0xE000 then (s.ctx (s.shownCtx m)).selected (off - 0xD000)
    else if 0xB000 ≤ off && off < 0xC000 then s.hostPageWord off
    else if isLatched off then look regDefault s.latches (holdKey m k)
    else if (descOf k).isSome || off = 0xD000 then s.regWord k
    else 0

/-- The RC bits of register `k`. -/
def rcMask (k : Nat) : Nat :=
  match descOf k with
  | some r => fieldMask (· = .rc) r
  | none => 0

/-- What a read leaves behind (R16, R81): RC fields cleared, the HI word held; a read of CLK_DOM draws its free values. -/
def State.readEffect (s : State) (m : Master) (off : Nat) : State :=
  let k := s.keyOf m off
  if s.pageOff m off then s
  else if latchesHi off then { s with latches := put regDefault s.latches (holdKey m (k + 4)) (s.regWord (k + 4)) }
  else if off = 0x1060 || off = 0x1064 then s.draw.2
  else if rcMask k = 0 || (0xB000 ≤ off && off < 0xC000 && !s.flag Reg.HOST_CFG.EN) then s
  else s.setReg k (s.reg k &&& ~~~(BitVec.ofNat 32 (rcMask k)))

/-! ## Writes -/

/-- A write of the access code's bits takes effect now, in this role. -/
def State.codeWrites (s : State) (sealOn : Bool) : Access → Bool
  | .rw => true
  | .rs => sealOn
  | .rwCellJunction => !s.hasSafety
  | .rwJunction => s.isJunction
  | .rwManager => s.isManager
  | _ => false

/-- The word that a write of `w` leaves in a register of old word `old` (R10); W1C bits of `fresh` stay set (R13). -/
def State.written (s : State) (r : RegDesc) (fresh old w : Word) : Word :=
  let take := BitVec.ofNat 32 (fieldMask (s.codeWrites s.seal9) r)
  let clear := BitVec.ofNat 32 (fieldMask (· = .w1c) r) &&& w &&& ~~~fresh
  let set := BitVec.ofNat 32 (fieldMask (· = .w1s) r) &&& w
  (old &&& ~~~(take ||| clear)) ||| (take &&& w) ||| set

/-- R18: with SEAL9 off, the write would change an RS field, and is discarded whole. -/
def State.rsDiscards (s : State) (k : Nat) (w : Word) : Bool :=
  !s.seal9 && (s.reg k ^^^ w) &&& BitVec.ofNat 32 (rsMask k) ≠ 0

/-- The write as the access codes alone give it. -/
def State.plainWrite (s : State) (k : Nat) (w : Word) : State :=
  match descOf k with
  | some r => s.setReg k (s.written r (s.freshBits k) (s.reg k) w)
  | none => s

/-- What a write left in register `k`, `old` before: the RW fields that it changed keep their value through this tick (R15). -/
def State.noteWritten (s : State) (k : Nat) (old : Word) : State :=
  match descOf k with
  | some r =>
    let changed := r.fields.filter fun f => bitsAt old.toNat f.lo f.width ≠ bitsAt (s.reg k).toNat f.lo f.width
    let m := fieldMask (s.codeWrites s.seal9) { r with fields := changed }
    if m = 0 then s else { s with wrote := noteIn s.wrote s.now k (BitVec.ofNat 32 m) }
  | none => s

/-- The effect of a write of register `k`: fields that this and earlier writes of the tick changed keep their values through it (R15); the
write's own effect is not held by them. -/
def State.writing (s : State) (k : Nat) (effect : State → State) : State :=
  let t := effect { s with wrote := (s.now, []) }
  { t with wrote := if t.wrote.1 = s.now then s.wrote else t.wrote }.noteWritten k (s.reg k)

/-- R208: the master may write DMA_DESCn and DMA_GOn. -/
def State.mayDma (s : State) (m : Master) (n : Fin 4) : Bool :=
  match s.masterCtx m with
  | some c => c = 0 || c = s.dmaOwner n
  | none => true

def State.dmaWerr (s : State) (n : Fin 4) : State := s.setFlag Reg.DMA_STAT.WERR true n

/-- DMA_CFGn (R211). -/
def State.writeDmaCfg (s : State) (n : Fin 4) (w : Word) : State :=
  if s.dmaOwner n ≠ bitsAt w.toNat 1 3 && s.dmaState n ≠ 0 then s.dmaWerr n
  else s.plainWrite (0xC000 + 0x40 * n.val) w

/-- A DMA fault: STAT is written back with FAULT and the cause, the channel halts, DMAn is raised (DMA_FAULT, R206). -/
def State.dmaFault (s : State) (n : Fin 4) (cause : Nat) : State :=
  ((s.dmaHalt n 2 cause).setFlag Reg.DMA_STAT.FAULT true n).raise (Ev.DMA0 + n.val)

/-- The words of a descriptor break Table 5-4. -/
def descBad (c : Word) (src dst len next : Nat) : Bool :=
  !c.getLsbD 0 || c.toNat / 2 ^ 8 ≠ 0 || src % 4 ≠ 0 || dst % 4 ≠ 0 || len % 4 ≠ 0 || len < 4 || 65532 < len ||
    (c.getLsbD 7 && !descInSram next)

/-- The channel takes the descriptor at `d`, of which `done` bytes are moved (R202, R212; ECC in its words, log 17). -/
def State.startDesc (s : State) (n : Fin 4) (d done : Nat) : State :=
  let s := (s.setFld Reg.DMA_CURD.VALUE d n).setFld Reg.DMA_CURN.VALUE done n
  if !descInSram d then s.dmaHalt n 5 0
  else if (List.range 6).any fun i => s.eccBad.contains (d + 4 * i) then s.dmaFault n 7
  else
    let c := s.word d
    let src := s.num (d + 4) 4
    let dst := s.num (d + 8) 4
    let len := s.num (d + 12) 4
    let next := s.num (d + 16) 4
    if descBad c src dst len next then s.dmaHalt n 5 0
    else
      let wait : Option (Fin 4) := if c.getLsbD 4 && done = 0 then some (Fin.ofNat 4 (bitsAt c.toNat 5 2)) else none
      let s := s.setDma n { s.dmaCh n with desc := some ⟨c, src, dst, len, next⟩, waitRtc := wait, stopping := none }
      s.setFld Reg.DMA_STAT.STATE (if wait.isSome then 2 else 1) n

/-- START and RESUME (R202, R207, R211): an error on a channel at work; else they need EN. -/
def State.dmaStart (s : State) (n : Fin 4) (resume : Bool) : State :=
  if s.dmaState n = 1 || s.dmaState n = 2 then s.dmaWerr n
  else if !s.flag Reg.DMA_CFG.EN n then s
  else
    let d := if resume then s.fld Reg.DMA_CURD.VALUE n else 4 * s.fld Reg.DMA_DESC.ADDR n
    s.startDesc n d (if resume then s.num (d + 20) 2 else 0)

/-- DMA_GOn (R208, R210). -/
def State.writeDmaGo (s : State) (m : Master) (n : Fin 4) (w : Word) : State :=
  if !s.mayDma m n then s.dmaWerr n
  else
    let s := if w.getLsbD 0 then s.dmaStart n false else s
    let s := if w.getLsbD 1 then s.dmaStart n true else s
    if w.getLsbD 2 then s.dmaStop n 3 else s

def cidsOf (w : Word) : List Cid := allCtx.filter fun c => w.getLsbD c.val

/-- CTX_START (R76). -/
def State.ctxStartWrite (s : State) (w : Word) : State := forAll (cidsOf w) (fun c t => t.startCtx c) s

/-- CTX_STOP; CTX0's bit is ignored (R75). -/
def State.ctxStopWrite (s : State) (w : Word) : State := forAll ((cidsOf w).filter (· ≠ 0)) (fun c t => t.stopCtx c) s

/-- EV_RAISE: SOFT in each context named (Table 3-13). -/
def State.evRaiseWrite (s : State) (w : Word) : State := forAll (cidsOf w) (fun c t => t.modCtx c fun v => v.raise t.now Ev.SOFT) s

/-- SNAP_CTL: release, acknowledgement, then GO (Table 7-8; log 24). -/
def State.writeSnapCtl (s : State) (w : Nat) : State :=
  let s := if bitAt w 3 then s.setFlag Reg.SNAP_ST.FROZEN false else s
  let s : State := if bitAt w 4 then { s with snap := { s.snap with acked := true } } else s
  if bitAt w 0 then s.snapGo (Fin.ofNat 4 (bitsAt w 1 2)) else s

/-- LT_CTL (Table 10-15). -/
def State.writeLtCtl (s : State) (w : Nat) : State :=
  let s := (s.ltStop (bitsAt w 8 4)).ltPrimer (bitsAt w 0 4)
  if bitAt w 4 then s.ltCycle else s

/-- SAFE_CTL: DEMAND, PAIRACK, TRCONF, then ACK (Table 13-15; log 24). -/
def State.writeSafeCtl (s : State) (w : Nat) : State :=
  let s := s.writeDemand (bitAt w 2)
  let s := if bitsAt w 8 4 = 0 then s else s.pairAck (bitsAt w 8 4)
  let s := if bitAt w 1 then s.trconf else s
  if bitAt w 0 then s.safeAck else s

/-- SFU_OP: FORM or CHECK; together they act as neither (Table 14-12). -/
def State.writeSfuOp (s : State) (w : Nat) : State :=
  match bitAt w 12, bitAt w 13 with
  | true, false => s.sfuStart (.form (bitsAt w 0 4) (bitsAt w 4 6))
  | false, true => s.sfuStart (.check (bitsAt w 0 4))
  | _, _ => s

/-- RACK_JCTL. -/
def State.writeJctl (s : State) (w : Nat) : State :=
  let s := if bitAt w 0 then s.join (bitsAt w 16 16) else s
  let s := if bitAt w 1 then s.leave else s
  if bitAt w 2 then s.unlock else s

/-- RACK_TOP (R638, R641). -/
def State.writeTop (s : State) (w : Nat) : State :=
  match bitsAt w 8 2 with
  | 1 => s.sfuStart (.formRs (bitsAt w 0 6) (bitsAt w 10 6))
  | 2 => s.sfuStart (.formCmd (bitsAt w 0 6) (bitsAt w 10 6))
  | 3 => s.sfuStart (.checkSt (bitsAt w 0 6))
  | _ => s

/-- RACK_CAPIN1: the words, then GO (R660). -/
def State.writeCapin (s : State) (w : Word) : State :=
  let s := s.plainWrite 0xA044 w
  if w.getLsbD 31 then s.capinGo else s

/-- Register `k` is CTRL, START, LEN, INIT or EXPECT of a running job (R482). -/
def State.jobGuards (s : State) (k : Nat) : Bool :=
  (k - 0x7100) % 0x20 ≤ 0x10 && s.flag Reg.CVU_JOB_STAT.RUNNING ((k - 0x7100) / 0x20)

/-- A register of a running job is not written (R482). -/
def State.writeJob (s : State) (k : Nat) (w : Word) : State :=
  if s.jobGuards k then s.setFlag Reg.CVU_JOB_STAT.WERR true ((k - 0x7100) / 0x20) else s.plainWrite k w

/-- HOST_BELL (R747). -/
def State.hostBell (s : State) (m : Master) (code : Nat) : State :=
  if m = .host then
    let old := s.fld Reg.HOST_BELLIN.CODE
    let s := if old = 0 then s else s.setFlag Reg.HOST_BELLIN.OVR true
    (s.setFld Reg.HOST_BELLIN.CODE (Nat.lor old (code % 2 ^ 16))).raise Ev.DOORBELL
  else s

/-- HOST_BELLOUT (R748); another master's write rings nothing. -/
def State.hostBellout (s : State) (m : Master) (code : Nat) : State :=
  match s.masterCtx m with
  | some _ =>
    let old := s.fld Reg.HOST_BELLRD.CODE
    let s := if old = 0 then s else s.setFlag Reg.HOST_BELLRD.OVR true
    s.setFld Reg.HOST_BELLRD.CODE (Nat.lor old (code % 2 ^ 16))
  | none => s

/-- HOST_MOUT_CTL with GO: the copy begins, or FULL is set; during a copy it is discarded (R718, R745). -/
def State.mout (s : State) : State :=
  let a := 4 * s.fld Reg.HOST_MOUT_ADDR.ADDR
  let n := s.fld Reg.HOST_MOUT_CTL.LEN
  if s.hostPort.mout.isSome then s
  else if !s.isManager || 64 < n || 0x10000 < a + n || 128 < s.hostPort.msgOut.length + 1 + (n + 3) / 4 then
    s.setFlag Reg.HOST_MOUT_CTL.FULL true
  else
    let t := s.now + Config.opTicks s.free % (us 5 + 1)
    { s with free := s.free + 1, hostPort := { s.hostPort with
      mout := some (streamMessage (s.fld Reg.HOST_MOUT_CTL.KIND) (s.bytes a n), t) } }.setFlag
      Reg.HOST_MOUT_CTL.BUSY true

/-- A copy to MSGOUT ends: the message is appended whole. -/
def State.moutEnd (s : State) : State :=
  match s.hostPort.mout with
  | some (l, _) =>
    { s with hostPort := { s.hostPort with mout := none, msgOut := s.hostPort.msgOut ++ l } }.setFlag
      Reg.HOST_MOUT_CTL.BUSY false
  | none => s

/-- A copy to MSGOUT whose time has come ends (R745). -/
def State.moutSettle (s : State) : State := if s.hostPort.mout.any fun e => e.2 ≤ s.now then s.moutEnd else s

def State.writeMout (s : State) (w : Word) : State :=
  let s := s.moutSettle.plainWrite 0xB028 w
  if w.getLsbD 16 then s.mout else s

/-- A write with GO that no copy is in the way of, and its copy to the end. -/
def State.runMout (s : State) (w : Word) : State :=
  let s := s.moutSettle
  if s.hostPort.mout.isSome then s.writeMout w else (s.writeMout w).moutEnd

/-- HOST_CFG: the host's own clearing of EN waits for the end of its transaction (R721). -/
def State.writeHostCfg (s : State) (m : Master) (w : Word) : State :=
  if w.getLsbD 0 then s.plainWrite 0xB000 w
  else if m = .host then { s.plainWrite 0xB000 (w ||| 1) with hostPort := { s.hostPort with disable := true } }
  else { s.plainWrite 0xB000 w with hostPort := { s.hostPort with selected := false, trans := none } }

/-- What a write of a register with key `k` does, beyond its page's and R18's judgement. -/
def State.writeKey (s : State) (m : Master) (k : Nat) (w : Word) : State :=
  let n := w.toNat
  let ch := k / 0x10000
  match k % 0x10000 with
  | 0x0020 => s.writeSysCtl n
  | 0x1030 =>
    let was := s.flag Reg.CLK_WDCFG.EN
    let s := s.plainWrite k w
    if !was && s.flag Reg.CLK_WDCFG.EN then { s with power := { s.power with wdAt := s.now } } else s
  | 0x1034 => s.wdKick (n % 2 ^ 16)
  | 0x2000 =>
    let gap := s.flag Reg.MEAS_CFG.COUL_GAP && (!bitAt n 2 || (s.freshBits k).getLsbD 2)
    ((s.setFlag Reg.MEAS_CFG.ICONT (bitAt n 1)).setFld Reg.MEAS_CFG.COUL_GAP (if gap then 1 else 0)).writeGr (bitAt n 0)
  | 0x2010 => { s.plainWrite k w with meas := { s.meas with calSince := some s.now } }
  | 0x2060 => (s.plainWrite k w).restartCounts
  | 0x2064 => (s.plainWrite k w).restartCounts
  | 0x2068 => (s.plainWrite k w).restartCounts
  | 0x206C => s.writeSentSt n
  | 0x2080 => if bitAt n 0 then s.leakStart else s
  | 0x20D0 => if bitAt n 0 then s.owStart else s
  | 0x3034 => forAll (List.range 4) (fun i t => if bitAt n i then t.disarmRtc (Fin.ofNat 4 i) else t) s
  | 0x3040 => s.writeRtcLo 0 n
  | 0x3044 => s.writeRtcHi 0 n
  | 0x3048 => s.writeRtcLo 1 n
  | 0x304C => s.writeRtcHi 1 n
  | 0x3050 => s.writeRtcLo 2 n
  | 0x3054 => s.writeRtcHi 2 n
  | 0x3058 => s.writeRtcLo 3 n
  | 0x305C => s.writeRtcHi 3 n
  | 0x3060 => s.writeSnapCtl n
  | 0x4818 => s.writeCeil (Fin.ofNat 6 ch) n
  | 0x3008 =>
    let t := s.plainWrite k w
    if t.fld Reg.RT_CFG.PER = s.fld Reg.RT_CFG.PER then t else { t with snap := { t.snap with timeAt := t.now } }
  | 0x5804 => s.portCtl (portOf ch) n
  | 0x5818 => s.sideGo (portOf ch) n
  | 0x6008 => (s.plainWrite k w).updateUp
  | 0x6304 =>
    let t := s.plainWrite k w
    if s.flag Reg.LT_CFG.AUTO && s.fld Reg.LT_CFG.PERIOD = t.fld Reg.LT_CFG.PERIOD then t else { t with lt := { t.lt with since := t.rackNow } }
  | 0x6018 => s.recheck (n % 16)
  | 0x6300 => s.writeLtCtl n
  | 0x7004 => s.cvuGo (n % 256)
  | 0x7010 => s.avin n
  | 0x7018 => s.avcfg n
  | 0x8010 => s.bbxAck (BitVec.ofNat 16 n) (bitAt n 16)
  | 0x8014 =>
    let s := if bitAt n 0 then s.release 1 else s
    if bitAt n 1 then s.release 2 else s
  | 0x8080 =>
    let s := s.plainWrite k w
    if bitAt n 31 then s.rdreqGo else s
  | 0x900C => s.writeSafeCtl n
  | 0x9020 => s.permit (bitAt n 0)
  | 0x9030 => s.writeCon (n % 16)
  | 0x9074 =>
    let key := n / 2 ^ 16
    if bitAt n 0 && s.sealRefused key then s.sealWrite key
    else
      let s := s.plainWrite k w
      if bitAt n 0 then s.sealWrite key else s
  | 0x9080 => (s.plainWrite k w).remode
  | 0x9084 => (s.plainWrite k w).syncSd
  | 0x9108 => s.writeSfuOp n
  | 0x9110 => s.sfuArm (n % 2 ^ 16)
  | 0x9120 => if bitAt n 0 then s.voteCommit else s
  | 0xA008 => s.writeJctl n
  | 0xA044 => s.writeCapin w
  | 0xA0C0 => s.writeTop n
  | 0xA0C8 => s.trayArm 0 n
  | 0xA0CC => s.trayArm 1 n
  | 0xB000 => s.writeHostCfg m w
  | 0xB014 => s.hostBell m n
  | 0xB01C => s.hostBellout m n
  | 0xB028 => s.writeMout w
  | 0xD004 => s.ctxStartWrite w
  | 0xD008 => s.ctxStopWrite w
  | 0xD00C => s.evRaiseWrite w
  | j =>
    if 0x7100 ≤ j && j < 0x7200 then s.writeJob k w
    else if 0xC000 ≤ j && j < 0xC100 then
      let d : Fin 4 := Fin.ofNat 4 ((j - 0xC000) / 0x40)
      match j % 0x40 with
      | 0x0 => s.writeDmaCfg d w
      | 0x4 => if s.mayDma m d then s.plainWrite k w else s.dmaWerr d
      | 0x8 => s.writeDmaGo m d w
      | _ => s.plainWrite k w
    else s.plainWrite k w

/-- A write that R18 discards: of a running job's register, it is one all the same (R482). -/
def State.writeRefused (s : State) (k : Nat) : State :=
  let j := (k - 0x7100) / 0x20
  if 0x7100 ≤ k && k < 0x7200 && s.jobGuards k then s.setFlag Reg.CVU_JOB_STAT.WERR true j else s

/-- A write of a selector's register image (R98); out of range it is discarded. -/
def State.writeSelector (s : State) (m : Master) (n width w : Nat) : State :=
  if w % 2 ^ width < selCount n then s.setSel m n (w % 2 ^ width) else s

/-- A write at page offset `off` that no trap prevents (R10 to R18, R24, R820). -/
def State.writeWord (s : State) (m : Master) (off : Nat) (w : Word) : State :=
  if s.writeOff m off then s
  else match selectorAt off with
  | some (n, width, _) => s.writeSelector m n width w.toNat
  | none =>
    let k := s.keyOf m off
    if 0xD804 ≤ off && off < 0xE000 then s.modCtx (s.shownCtx m) fun v => v.writeSelected s.now (off - 0xD000) w
    else if 0xD000 ≤ off && off < 0xD010 then s.writeKey m off w
    else if (descOf k).isNone || s.rsDiscards k w then s.writeRefused k
    else s.writing k fun t => t.writeKey m k w

/-- The offset lies in the TEST page (R821). -/
def onTestPage (off : Nat) : Bool := 0xF000 ≤ off && off < 0x10000

/-- A register is listed at this page offset; at any other a write is discarded without a trap, for every master (R820). -/
def isListed (off : Nat) : Bool :=
  (descOf off).isSome || (selectorAt off).isSome || (0xD000 ≤ off && off < 0xD010) ||
    (0xD804 ≤ off && off ≤ 0xD828) || (0xD840 ≤ off && off ≤ 0xD87C)

/-- The write is one that R72 reserves to CTX0 and the host: of the registers of the CTX and WIN pages, of the SAFE page but SIN_SEL, and
those that their chapters mark. -/
def ctx0Only (off : Nat) : Bool :=
  isListed off && (0xD000 ≤ off && off < 0xF000 || (off / 0x1000 = 9 && off ≠ 0x9800) || match descOf off with
    | some r => r.ctx0
    | none => false)

/-- The trap of a context's register write: cause and detail (R72, R98). -/
def State.writeTrap (s : State) (m : Master) (off : Nat) (w : Word) : Option (Nat × Nat) :=
  if s.unprivileged m && ctx0Only off then some (2, 0)
  else match selectorAt off with
    | some (n, width, _) => if selCount n ≤ w.toNat % 2 ^ width && !s.pageOff m off then some (0xA, n) else none
    | none => none

end Sys2Proof.Machine
end

