-- ==== Sys2Proof/Machine/Remote.lean ====
section
/-! DEFINITION. Memory windows and the order of checks (R179 to R187), remote requests, what a node serves, and answers (R188 to
R200, R824). -/

namespace Sys2Proof.Machine

/-! ## Windows -/

/-- One window of a context. -/
structure Win where
  vbase : Nat
  limit : Nat
  pbase : Nat
  ctrl : Nat
  deriving DecidableEq, Repr

def State.win (s : State) (c w : Nat) : Win :=
  let at_ := fun o => (s.reg (o + 0x10000 * (8 * c + w))).toNat
  ⟨at_ 0xE804, at_ 0xE808, at_ 0xE80C, at_ 0xE810⟩

def Win.right (w : Win) (i : Nat) : Bool := bitAt w.ctrl i
def Win.isRemote (w : Win) : Bool := bitAt w.ctrl 5
def Win.isHost (w : Win) : Bool := bitAt w.ctrl 6
def Win.node (w : Win) : BitVec 16 := BitVec.ofNat 16 (w.ctrl / 2 ^ 16)

/-- The timeout TMO names (R192). -/
def Win.timeout (w : Win) : Nat := [us 500, ms 2, ms 10, ms 50].getD (bitsAt w.ctrl 8 2) 0

/-- The window covers `va` (R90, R179). -/
def Win.covers (w : Win) (va : Nat) : Bool :=
  w.right 0 && w.vbase ≤ va && va < w.limit &&
    if w.isRemote then 0x20000000 ≤ w.vbase && w.limit ≤ 0x30000000 else w.limit ≤ 0x20000000 || 0x30000000 ≤ w.vbase

/-- The window that serves `va` (R180). -/
def State.windowAt (s : State) (c va : Nat) : Option Nat := (List.range 8).find? fun w => (s.win c w).covers va

/-- One access through a context's windows: `kind` is 0 load, 1 store, 2 fetch, 3 long-instruction operand (R183); `local` marks
the words that a REMOTE window may not serve (R160, R162). -/
structure Reach where
  va : Nat
  width : Nat
  store : Bool
  kind : Nat
  dma : Bool
  atHome : Bool
  deriving DecidableEq, Repr

/-- Where an access goes: a trap's cause and window number, a physical address, or a window to another node or the host. -/
inductive Place where
  | stop (cause win : Nat)
  | here (pa win : Nat)
  | away (win : Nat)
  deriving DecidableEq, Repr

/-- Steps 1 and 3 to 8 of Table 5-1; a DMA write to a page that is Off is no trap (R24). -/
def State.place (s : State) (c : Nat) (a : Reach) : Place :=
  if a.va % a.width ≠ 0 then .stop 3 0xF
  else match s.windowAt c a.va with
  | none => .stop 4 0xF
  | some i =>
    let w := s.win c i
    let right := if a.kind = 2 then w.right 3 && !w.isRemote else if a.store then w.right 2 else w.right 1
    if !right || (a.dma && !w.right 4) || (w.isRemote && a.atHome) || (w.isHost && !s.isManager) then .stop 5 i
    else if w.isRemote then .away i
    else
      let pa := (w.pbase + (a.va - w.vbase)) % 2 ^ 32
      if !(isSram pa || isNvm pa || (isPage pa && !isTestPage pa)) || (a.kind = 2 && isPage pa) then .stop 6 i
      else if isPage pa && a.width ≠ 4 then .stop 3 i
      else if a.store && isNvm pa then .stop 0xB i
      else if a.store && isPage pa && c ≠ 0 && ctx0Only (pa - 0x40000000) &&
          !(a.dma && (s.pageOff (.ctx (Fin.ofNat 8 c)) (pa - 0x40000000) || s.hostOff (pa - 0x40000000))) then .stop 2 i
      else .here pa i

/-- CAUSE[23:8] of a trap of Table 5-1 (R183). -/
def trapDetail (win kind reason : Nat) : Nat := win + 2 ^ 4 * kind + 2 ^ 8 * reason

/-- The data of `width` bytes at `pa` has an uncorrectable error. -/
def State.eccHit (s : State) (pa : Nat) : Bool := s.eccBad.contains (pa / 4 * 4)

/-! ## Reading and writing at a physical address -/

/-- A value read at `pa`, and what the read leaves behind; the address is SRAM, NVM or a register page. -/
def State.readAt (s : State) (m : Master) (pa width : Nat) : Nat × State :=
  if isPage pa then ((s.readWord m (pa - 0x40000000)).toNat, s.readEffect m (pa - 0x40000000))
  else (s.num pa width, s)

/-- A store at `pa`. -/
def State.writeAt (s : State) (m : Master) (pa width v : Nat) : State :=
  if isPage pa then s.writeWord m (pa - 0x40000000) (BitVec.ofNat 32 v)
  else s.putMem pa (leBytes width v)

/-! ## Requests (R188 to R193) -/

/-- A request's payload (Table 5-2). -/
def Request.payload (r : Request) : List Byte :=
  [if r.write then 0x22 else 0x21, BitVec.ofNat 8 r.len] ++ leBytes 2 r.tag.toNat ++ leBytes 4 r.addr ++
    if r.write then r.data else []

/-- A CONFIG frame of the window unit (R188, R190, R428). -/
def State.configFrame (s : State) (dest : BitVec 16) (prio : Nat) (b : List Byte) : Frame :=
  s.mkFrame Ty.CONFIG s.defHops prio true dest b

/-- The answer that bytes `b`, whose EOF comes at `eof`, give a request; none where they are none of its (R191, R192). -/
def answerFits (r : Request) (b : List Byte) (eof : Nat) : Option Answer :=
  let len := fieldOf b 1 1
  if b.length < 4 || fieldOf b 2 2 ≠ r.tag.toNat || r.deadline ≤ eof then none
  else match fieldOf b 0 1 with
  | 0xA1 => if !r.write && len = r.len && b.length = 4 + r.len then some (.data (b.drop 4)) else none
  | 0xA2 => if r.write && len = r.len && b.length = 4 then some .done else none
  | 0xAF => if b.length = 4 then some (.refused len) else none
  | _ => none

/-- A context's request has ended: its answer fills the slot, and the context that waits for it is READY (R71, R147). -/
def State.endCtxRequest (s : State) (c : Cid) (r : Request) (a : Answer) : State :=
  let wake := fun (v : Ctx) => if v.state = .waiting && v.wait = some .remote then v.wake else v
  (s.modCtx c fun v => wake { v with req := none, slot := some (r, a) }).wakeFences

/-- A channel that was to stop once its transfer ended stops (R209, R210). -/
def State.dmaStopNow (s : State) (n : Fin 4) : State :=
  match (s.dmaCh n).stopping with
  | some code => s.dmaHalt n code 0
  | none => s

/-- A DMA transfer was refused or timed out (R206): the channel faults, or stops as it was to. -/
def State.dmaFailed (s : State) (n : Fin 4) (cause : Nat) : State :=
  match (s.dmaCh n).stopping with
  | some code => s.dmaHalt n code 0
  | none => s.dmaFault n cause

/-- A channel's request has ended; data and acknowledgements wait for DMA_REMOTE_DONE. -/
def State.endDmaRequest (s : State) (n : Fin 4) (r : Request) (a : Answer) : State :=
  let s := s.setDma n { s.dmaCh n with req := none }
  match a with
  | .refused _ => s.dmaFailed n 8
  | .timeout => s.dmaFailed n 9
  | _ => s.setDma n { s.dmaCh n with ans := some (r, a) }

/-- An answer with its EOF at `eof` is taken for the request it ends, or counted in WIN_LATE (R191). -/
def State.takeAnswer (s : State) (eof : Nat) (b : List Byte) : State :=
  let late := s.count Reg.WIN_LATE.COUNT
  let who := fieldOf b 2 2 % 16
  if b.length < 4 || 12 ≤ who then late
  else if who < 8 then
    match (s.ctx (Fin.ofNat 8 who)).req with
    | some r => match answerFits r b eof with
      | some a => s.endCtxRequest (Fin.ofNat 8 who) r a
      | none => late
    | none => late
  else match (s.dmaCh (Fin.ofNat 4 who)).req with
    | some r => match answerFits r b eof with
      | some a => s.endDmaRequest (Fin.ofNat 4 who) r a
      | none => late
    | none => late

/-! ## Serving (R194 to R199, R824) -/

/-- An answer leaves for `dest`; one to this node itself is taken at once (R197). -/
def State.sendAnswer (s : State) (dest : BitVec 16) (prio : Nat) (b : List Byte) : State :=
  if s.isMine dest then s.takeAnswer s.now b else s.sendRouted (s.configFrame dest prio b) .other

/-- A refusal is counted and answered. -/
def State.refuse (s : State) (f : Frame) (reason : Nat) : State :=
  (s.count Reg.WIN_REFUSED.COUNT).sendAnswer f.src f.prio ([0xAF, BitVec.ofNat 8 reason] ++ (f.payload.drop 2).take 2)

/-- The export entry that governs a range. -/
def State.exportOf (s : State) (a n : Nat) : Option Nat :=
  (List.range 4).find? fun k => s.flag Reg.WIN_EXP_CTRL.VALID k && 4 * s.fld Reg.WIN_EXP_BASE.ADDR k ≤ a &&
    a + n ≤ 4 * s.fld Reg.WIN_EXP_LIMIT.ADDR k

/-- A byte that a served access may reach (check 4). -/
def servedByte (write : Bool) (a : Nat) : Bool :=
  isSram a || (isNvm a && !write) || (isPage a && !isTestPage a && !(write && [0x0, 0x9, 0xD, 0xE].contains (a / 0x1000 % 16)))

/-- LEN and ADDR obey R189, and a register-page access is whole words (check 5). -/
def rangeFormed (a n : Nat) : Bool :=
  ((n = 1 || n = 2 || n = 4) && a % n = 0 || (n % 4 = 0 && n ≤ 48 && a % 4 = 0)) && !(isPage a && n % 4 ≠ 0)

/-- The reason of the first check of Table 5-3 that fails, or 0; a NOIMAGE die refuses every request (R199). -/
def State.refusal (s : State) (f : Frame) : Nat :=
  let write := fieldOf f.payload 0 1 = 0x22
  let n := fieldOf f.payload 1 1
  let a := fieldOf f.payload 4 4
  if s.flag Reg.LOAD_ST.NOIMAGE then 1 else
  match s.exportOf a n with
  | none => 1
  | some k =>
    if s.flag Reg.WIN_EXP_CTRL.MGR_ONLY k && !s.isMgrAddr f.src then 2
    else if !(if write then s.flag Reg.WIN_EXP_CTRL.W k else s.flag Reg.WIN_EXP_CTRL.R k) then 3
    else if s.load.isSome || !((List.range n).all fun i => servedByte write (a + i)) then 4
    else if !rangeFormed a n then 5
    else if !write && (List.range n).any fun i => s.eccHit (a + i) then 6
    else if 4 ≤ s.serving.length then 7
    else 0

/-- The words of a served read, in ascending order, with the effects of R16. -/
def State.readRange (s : State) (m : Master) (a : Nat) : Nat → List Byte × State
  | 0 => ([], s)
  | n + 1 =>
    let r := s.readAt m a 4
    let t := r.2.readRange m (a + 4) n
    (leBytes 4 r.1 ++ t.1, t.2)

/-- Data written in ascending address order, word by word. -/
def State.writeRange (s : State) (m : Master) (a : Nat) (b : List Byte) : Nat → State
  | 0 => s
  | n + 1 => (s.writeAt m a 4 (leNat (b.take 4))).writeRange m (a + 4) (b.drop 4) n

/-- A request that passed every check is served and answered (R194, R195). -/
def State.serveNow (s : State) (f : Frame) : State :=
  let n := fieldOf f.payload 1 1
  let a := fieldOf f.payload 4 4
  let head := fun (op : Byte) => [op, BitVec.ofNat 8 n] ++ (f.payload.drop 2).take 2
  if fieldOf f.payload 0 1 = 0x22 then
    let data := f.payload.drop 8
    let s := if isPage a then s.writeRange .served a data (n / 4) else s.putMem a data
    s.sendAnswer f.src f.prio (head 0xA2)
  else
    let r := if isPage a then s.readRange .served a (n / 4) else (s.bytes a n, s)
    r.2.sendAnswer f.src f.prio (head 0xA1 ++ r.1)

/-- The read reaches a sector with a write in progress or waiting (R95). -/
def State.readWaits (s : State) (f : Frame) : Bool :=
  let n := fieldOf f.payload 1 1
  let a := fieldOf f.payload 4 4
  fieldOf f.payload 0 1 = 0x21 && isNvm a && (s.sectorBusy a || s.sectorBusy (a + n - 1))

/-- An RREAD or RWRITE of this node (R194, R824). -/
def State.takeRequest (s : State) (f : Frame) : State :=
  let b := f.payload
  let n := fieldOf b 1 1
  if b.length < 4 then s.count Reg.WIN_REFUSED.COUNT
  else if n = 0 || b.length ≠ 8 + (if fieldOf b 0 1 = 0x22 then n else 0) then s.refuse f 5
  else match s.refusal f with
    | 0 => if s.readWaits f then { s with serving := s.serving ++ [f] } else s.serveNow f
    | r => (if r = 6 then s.eccReport (fieldOf b 4 4) n else s).refuse f r

/-- Requests whose sector has been written are served, in order. -/
def State.serveWaiting (s : State) : State :=
  forAll s.serving (fun f t => if t.readWaits f then t else
    { t with serving := t.serving.erase f }.serveNow f) s

/-- A CONFIG message for the window unit (R188). -/
def windowMessage (b : List Byte) : Bool := [0x21, 0x22, 0xA1, 0xA2, 0xAF].contains (fieldOf b 0 1) && b ≠ []

/-- One whose SOF comes now. -/
def State.takeConfig (s : State) (f : Frame) : State :=
  if fieldOf f.payload 0 1 < 0x80 then s.takeRequest f else s.takeAnswer (s.now + f.ticks) f.payload

/-- NVM_SECTOR_WRITE_DONE; `ok` says that the write verified. -/
def execNvmSectorWriteDone (ok : Bool) (s : State) : Host.Outcome State Fault Refusal := .next (s.nvmDone ok).serveWaiting

/-- BBX_COMMIT_DONE; `ok` says that the record verified. -/
def execBbxCommitDone (ok : Bool) (s : State) : Host.Outcome State Fault Refusal := .next (s.commitDone ok).serveWaiting

/-! ## Sending -/

/-- The request of this TAG is outstanding. -/
def State.outstanding (s : State) (tag : BitVec 16) : Bool :=
  (allCtx.any fun c => (s.ctx c).req.any (·.tag = tag)) || allDma.any fun n => (s.dmaCh n).req.any (·.tag = tag)

/-- The newest messages that `n` words hold. -/
def newestFit (n : Nat) : List (BitVec 16 × List Word) → List (BitVec 16 × List Word)
  | [] => []
  | e :: t => if ((e :: t).flatMap Prod.snd).length ≤ n then e :: t else newestFit n t

/-- The messages of WINOUT that hold its first `n` words, and the others. -/
def splitWords : Nat → List (BitVec 16 × List Word) → List (BitVec 16 × List Word) × List (BitVec 16 × List Word)
  | _, [] => ([], [])
  | 0, l => ([], l)
  | n + 1, e :: t =>
    let r := splitWords (n + 1 - e.2.length) t
    (e :: r.1, r.2)

/-- Words of WINOUT that an SREAD under way has taken: the stream gives them up at its completion and no sooner (R741). -/
def State.winTaken (s : State) : Nat :=
  match s.hostPort.trans with
  | some t => if t.op = .sread && t.stream = 10 then t.taken else 0
  | none => 0

/-- Of the first `n` words of these messages, those of the messages of which `p` holds. -/
def wordsKept (p : BitVec 16 → Bool) : Nat → List (BitVec 16 × List Word) → Nat
  | _, [] => 0
  | n, e :: t => (if p e.1 then min n e.2.length else 0) + wordsKept p (n - e.2.length) t

/-- A request enters WINOUT, which holds every outstanding one; where it has no room left, requests that have ended leave it, and those whose
words an SREAD under way has taken only if there is none without them either (R741, R746; log 26). -/
def State.toWinOut (s : State) (r : Request) : State :=
  let m := (r.tag, streamMessage 0 r.payload)
  let put := fun (l : List (BitVec 16 × List Word)) (u : State) => { u with hostPort := { u.hostPort with winOut := newestFit 192 (l ++ [m]) } }
  let fits := fun (l : List (BitVec 16 × List Word)) => decide ((l.flatMap Prod.snd).length + m.2.length ≤ 192)
  let l := splitWords s.winTaken s.hostPort.winOut
  let live := l.1 ++ l.2.filter fun e => s.outstanding e.1
  if fits s.hostPort.winOut then put s.hostPort.winOut s
  else if fits live then put live s
  else put (s.hostPort.winOut.filter fun e => s.outstanding e.1) { s with hostPort := { s.hostPort with
    trans := s.hostPort.trans.map fun t =>
      if t.op = .sread && t.stream = 10 then { t with taken := wordsKept s.outstanding t.taken s.hostPort.winOut } else t } }

/-- A request goes to the host's mailbox, to this node itself, or to its node (R188, R193, R197). -/
def State.sendRequest (s : State) (r : Request) (prio : Nat) : State :=
  if r.host then s.toWinOut r
  else if s.isMine r.node then s.takeRequest { s.configFrame r.node prio r.payload with src := r.node }
  else s.sendRouted (s.configFrame r.node prio r.payload) .other

/-- A context's request for an access of the instruction `word` through its window `i` (R190, R192); it empties the slot (R147). -/
def State.ctxRequest (s : State) (c : Cid) (i : Nat) (word : Word) (va opnd : Nat) (write : Bool) (len : Nat) (data : List Byte) : State :=
  let v := s.ctx c
  let w := s.win c i
  let r : Request := {
    word := word, win := i, va := va, opnd := opnd, write := write, node := w.node, host := w.isHost, addr := (w.pbase + (va - w.vbase)) % 2 ^ 32,
    len := len, tag := BitVec.ofNat 16 (c.val + 16 * v.tagCount.toNat), data := data, deadline := s.now + w.timeout }
  (s.setCtx c { v with req := some r, slot := none, tagCount := v.tagCount + 1 }).sendRequest r c.val

/-- A channel's request (R190). -/
def State.dmaRequest (s : State) (n : Fin 4) (w : Win) (va : Nat) (write : Bool) (len : Nat) (data : List Byte) : State :=
  let v := s.dmaCh n
  let r : Request := {
    word := 0, win := 0, va := va, opnd := 0, write := write, node := w.node, host := w.isHost, addr := (w.pbase + (va - w.vbase)) % 2 ^ 32,
    len := len, tag := BitVec.ofNat 16 (8 + n.val + 16 * v.tagCount.toNat), data := data, deadline := s.now + w.timeout }
  (s.setDma n { v with req := some r, ans := none, tagCount := v.tagCount + 1 }).sendRequest r (s.dmaOwner n)

/-- REMOTE_TIMEOUT of requester `r`, CTX0 to CTX7 or DMA0 to DMA3 (R192). -/
def execRemoteTimeout (r : Fin 12) (s : State) : Host.Outcome State Fault Refusal :=
  .next (if r.val < 8 then
      match (s.ctx (Fin.ofNat 8 r.val)).req with
      | some q => (s.reach q.deadline).endCtxRequest (Fin.ofNat 8 r.val) q .timeout
      | none => s
    else match (s.dmaCh (Fin.ofNat 4 r.val)).req with
      | some q => (s.reach q.deadline).endDmaRequest (Fin.ofNat 4 r.val) q .timeout
      | none => s)

end Sys2Proof.Machine
end

