-- ==== Sys2Proof/Machine/Receive.lean ====
section
/-! DEFINITION. What becomes of a frame that arrives on a port: acceptance, Table 10-1, broadcasts, Table 10-2, forwarding. -/

namespace Sys2Proof

open Machine

/-- The OP byte of a payload. -/
def Frame.op (f : Frame) : Nat := fieldOf f.payload 0 1

/-- A broadcast type (R436). -/
def Frame.isBroadcast (f : Frame) : Bool :=
  f.ftype = Ty.TIME || f.ftype = Ty.SCHED || f.ftype = Ty.BCAST || (f.ftype = Ty.PROG && f.dest = f.src)

/-- A directed frame (R446). -/
def Frame.isDirected (f : Frame) : Bool := f.ftype = Ty.ENUM || (f.ftype = Ty.IDENT && (f.op = 0x81 || f.op = 0x85))

/-- The scope is malformed (R437, Table 10-3). -/
def Frame.scopeBad (f : Frame) : Bool :=
  let d := f.dest.toNat
  if f.ftype = Ty.PROG then false
  else (f.ftype = Ty.TIME && d ≠ 0) || match d / 2 ^ 14 with
    | 0 => d ≠ 0
    | 1 => d % 2 ^ 14 / 16 ≠ 0
    | 2 => d % 2 ^ 14 / 256 ≠ 0
    | _ => true

end Sys2Proof

namespace Sys2Proof.Machine

/-! ## Table 10-1 -/

/-- The rows of Table 10-1 after step 1. -/
inductive Way where
  | linkLocal | directed | broadcast | deliver | dead | routed
  deriving DecidableEq, Repr

/-- The first row whose condition holds. -/
def State.wayOf (s : State) (f : Frame) : Way :=
  if f.ftype = Ty.TEST || (f.ftype = Ty.IDENT && 0x10 ≤ f.op && f.op ≤ 0x13) then .linkLocal
  else if f.isDirected then .directed
  else if f.isBroadcast then .broadcast
  else if s.isMine f.dest || (f.ftype = Ty.TRIP && s.isManager) then .deliver
  else if f.hops = 0 then .dead
  else .routed

/-- Step 1 discards the frame: its port is fenced or its check pending. -/
def State.shutTo (s : State) (p : Port) (f : Frame) : Bool :=
  s.check p ≠ 2 && !(f.ftype = Ty.ENUM || f.ftype = Ty.IDENT)

/-! ## Broadcasts (R436 to R440) -/

/-- The node lies in the scope (Table 10-3). -/
def State.inScope (s : State) (f : Frame) : Bool :=
  let d := f.dest.toNat
  f.ftype = Ty.PROG || match d / 2 ^ 14 with
    | 0 => true
    | 1 => bitAt d s.role
    | 2 => s.flag Reg.FAB_ADDR.VALID && s.fld Reg.FAB_ADDR.ADDR / 256 = d % 256
    | _ => false

/-- The node takes a broadcast from this port (R438). -/
def State.takesFrom (s : State) (p : Port) : Bool := !s.isManager && s.upPorts.contains p

/-- The ports a broadcast is forwarded to (R439). -/
def State.spreadTo (s : State) (p : Port) : List Port :=
  allPorts.filter fun q => s.usable q && if s.isJunction then !s.upPorts.contains q else q ≠ p

/-! ## Forwarding -/

/-- A broadcast is forwarded; with HOPS 0 it is counted once instead (R439). -/
def State.spread (s : State) (p : Port) (f : Frame) (stamp : TimeSrc) : State :=
  if s.spreadTo p = [] then s
  else if f.hops = 0 then s.count Reg.FAB_HOPDROP.COUNT
  else forAll (s.spreadTo p) (fun q t => t.sendCopy p q f false stamp) s

/-- A TRIP that begins or passes here latches source 4 and raises TRIP_SEEN (Table 7-4). -/
def State.passTrip (s : State) (p : Port) (f : Frame) : State :=
  if f.ftype = Ty.TRIP then (s.latchTrip f.src p false).raise Ev.TRIP_SEEN else s

/-- Step 7: the frame leaves where R429 and R430 say, but never on its arrival port (R431). -/
def State.forward (s : State) (p : Port) (f : Frame) : State :=
  match s.route f.dest with
  | none => s.count Reg.FAB_NOROUTE.COUNT
  | some (q, up) => if q = p then s.count Reg.FAB_UTURN.COUNT else (s.sendCopy p q f up .fixed).passTrip p f

/-- The ports that copies of the frame would leave on, each with whether it is the default upstream; a TIME goes on only with a valid
link delay (R301). -/
def State.copyPorts (s : State) (p : Port) (f : Frame) : List (Port × Bool) :=
  if s.shutTo p f || f.hops = 0 || (f.ftype = Ty.TIME && (s.linkDelay p).isNone) then []
  else match s.wayOf f with
    | .broadcast => if f.scopeBad || !s.takesFrom p then [] else (s.spreadTo p).map fun q => (q, false)
    | .routed => match s.route f.dest with
      | some e => if e.1 = p then [] else [e]
      | none => []
    | .directed =>
      let n := fieldOf f.payload 1 1
      let q := pathEntry f.payload (n - f.hops)
      if f.payload.length < 36 || n ≤ f.hops || q = p || !s.linkAlive q then [] else [(q, false)]
    | _ => []

/-- The port is idle 1.5 µs after the SOF that comes now and may send the copy `i`, so that it is begun before the frame has arrived whole
(R389): what is ready only later does not keep it from being idle. -/
def State.cutsThrough (s : State) (q : Port) (i : TxItem) : Bool :=
  let v := s.port q
  let t := s.now + 36
  s.link q = Link.UP && !s.inPrimer q && s.mayLeave q i && !(v.queue.any fun j => s.mayLeave q j && j.ready ≤ t) &&
    v.lastTx + 4 ≤ t && match v.cur with
      | some c => t < v.curAt || (c.endsAt v.curAt + 4 ≤ t && !v.sideMore)
      | none => true

/-- Copies already begun of a frame found bad end with the complement of their CRC (R308, R378, R379). -/
def State.spoilCopies (s : State) (p : Port) (f : Frame) : State :=
  forAll ((s.copyPorts p f).filter fun e => s.cutsThrough e.1 (s.copyOf p e.1 f e.2 .fixed)) (fun e t =>
    t.enqueue e.1 { t.copyOf p e.1 f e.2 .fixed with poison := true }) s

/-! ## Takers (Table 10-2) -/

/-- The frame's taker is a receive queue. -/
def State.takerQueues (s : State) (f : Frame) : Bool :=
  if f.ftype = Ty.CONFIG then !windowMessage f.payload
  else if f.ftype = Ty.PROG then !(1 ≤ f.op && f.op ≤ 5)
  else if f.ftype = Ty.SCHED then s.schedGood f && bitAt f.op 0 && s.snap.lastSweep ≠ some (fieldOf f.payload 2 2)
  else if f.ftype = Ty.IDENT then f.op = 0x20 || f.op = 0x81 || f.op = 0x85
  else f.ftype = Ty.DATA || f.ftype = Ty.SAFE || f.ftype = Ty.BCAST || f.ftype = Ty.TRIP

/-- A delivered frame goes to its taker (R422). A FENCE_REPORT at a manager is also logged (R42); a TRIP there may arm the follow-up
snapshot (R320) and waits for TRIP_DELIVER (R617). A PROG for the program is heard in LOAD all the same (R113); an
IDENT or MIRROR that no table gives a meaning is discarded. -/
def State.deliver (s : State) (f : Frame) (p : Port) : State :=
  if f.ftype = Ty.TRIP then
    let s := if s.isManager then { s with trips := s.trips ++ [f] }.followUp else s
    s.rxPut f p
  else if f.ftype = Ty.CONFIG && windowMessage f.payload then s.takeConfig f
  else if f.ftype = Ty.SCHED then s.takeSched f p
  else if f.ftype = Ty.PROG && 1 ≤ f.op && f.op ≤ 5 then s.takeProg (.fabric f.src) f.payload
  else if f.ftype = Ty.MIRROR then s.takeMirror p f
  else if s.takerQueues f then
    let s := if f.ftype = Ty.PROG then s.progHeard else s
    let s := if f.ftype = Ty.IDENT && f.op = 0x20 && s.isManager then s.bbxAppend 0x04 true (padTo 48 f.payload) else s
    s.rxPut f p
  else s

/-- TIME from a port (R301, R302, R305): `spreads` says that it goes on, on the chain. -/
def State.takeTime (s : State) (p : Port) (f : Frame) : State :=
  match s.linkDelay p with
  | none => s
  | some d =>
    let r := timeValue f.payload d
    let s := if p = xlink then s else s.spread p f (.relay s.now (fieldOf f.payload 0 3 + d))
    let s := match s.power.relay with
      | some (q, t, sent) => if p ≠ xlink && f.hops ≠ 0 && (s.spreadTo p).contains q then
          { s with power := { s.power with relay := if sent then none else some (q, t, sent), relayed := true } } else s
      | none => s
    if !s.srcTrusted f.src then s
    else
      if p = xlink || s.activeUp = some p then { s with power := { s.power with guardAt := none } }.applyTime p r
      else s.setFld Reg.RT_XDIFF.DIFF (sat32 (s.timeDiff r))

/-- Step 4 of Table 10-1. -/
def State.takeBroadcast (s : State) (p : Port) (f : Frame) : State :=
  if f.scopeBad then s.count Reg.FAB_SCOPEBAD.COUNT
  else if !s.takesFrom p then s.count Reg.FAB_BCEND.COUNT
  else if f.ftype = Ty.TIME then s.takeTime p f
  else
    let s := s.spread p f .fixed
    if s.inScope f then s.deliver f p else s

/-- Step 2: link-local messages of the fabric unit; TEST frames were compared as they came (R470). -/
def State.takeLinkLocal (s : State) (p : Port) (f : Frame) : State :=
  if f.ftype ≠ Ty.IDENT then s
  else if f.op = 0x10 then s.takeAnnounce p f.payload
  else if f.payload.length ≠ 4 then s
  else if f.op = 0x11 then s.takePrimerReq p f.payload
  else if f.op = 0x12 then s.takePrimerAck p f.ticks
  else s.primerRefused p

/-- Step 3: a directed frame is forwarded on its PATH, or has reached its target (R448, R449). -/
def State.takeDirected (s : State) (p : Port) (f : Frame) : State :=
  if f.hops ≠ 0 then s.forwardDirected p f
  else if f.ftype = Ty.ENUM then s.enumTarget p f.payload
  else s.deliver f p

/-- An accepted frame (R421). -/
def State.takeFrame (s : State) (p : Port) (f : Frame) : State :=
  match s.wayOf f with
  | .linkLocal => s.takeLinkLocal p f
  | .directed => s.takeDirected p f
  | .broadcast => s.takeBroadcast p f
  | .deliver => (s.deliver f p).passTrip p f
  | .dead => s.count Reg.FAB_HOPDROP.COUNT
  | .routed => s.forward p f

/-- The frame is to enter a receive queue of this node. -/
def State.entersQueue (s : State) (p : Port) (f : Frame) : Bool :=
  s.takerQueues f && match s.wayOf f with
    | .deliver => true
    | .directed => f.hops = 0
    | .broadcast => !f.scopeBad && s.takesFrom p && s.inScope f
    | _ => false

/-! ## Acceptance (R381 to R383) -/

/-- The shared buffers that a frame needs: one for each copy that goes on and one for this node's queue, at least one (R390; log 18). -/
def State.needs (s : State) (p : Port) (f : Frame) : Nat :=
  max 1 ((s.copyPorts p f).length + if s.entersQueue p f then 1 else 0)

/-- A valid frame on an UP port of the chain: its LSEQ, step 1, room, acknowledgement, Table 10-1. What step 1 discards on a fenced
port is not acknowledged (R383). -/
def State.acceptFrame (s : State) (p : Port) (f : Frame) : State :=
  let shut := s.shutTo p f
  let ack := fun (t : State) => if f.ackreq && !(shut && t.check p = 3) then t.sendAck p f.lseq else t
  let full := s.entersQueue p f && 8 ≤ (s.ctx (s.qmap f.ftype)).rx.length
  let v := s.judgeSeq p f.lseq
  if v = .dup then ack (s.count Reg.PORT_DUP.COUNT p)
  else if v = .stale then s.count Reg.PORT_STALE.COUNT p
  else if shut then (ack (s.noteSeq p f.lseq (v = .new))).count Reg.FAB_FENCEDROP.COUNT
  else if full || !s.hasBuffer f.ftype (s.needs p f) then
    let s := if full then s.count Reg.FAB_QFULL.COUNT else s
    if f.ackreq then s.sendNak p f.lseq else s
  else (ack (s.noteSeq p f.lseq (v = .new))).takeFrame p f

/-- A valid frame on the cross-link, which carries TIME from manager A and the SCHED frames it passes on (R298, R319). -/
def State.takeCross (s : State) (f : Frame) : State :=
  if f.ftype = Ty.TIME then (if s.isMgrA then s else s.takeTime xlink f)
  else if f.ftype = Ty.SCHED then
    let ok := s.schedGood f
    let s := s.takeSched f xlink
    if ok then s.sendUsable f .fixed else s
  else s

/-- A frame arrives on a port. -/
def State.arrive (s : State) (a : Arrival) : State :=
  match s.lineOf a with
  | .good =>
    let s := s.heard a.port a.frame
    if s.link a.port ≠ Link.UP then s
    else if a.port = xlink then s.takeCross a.frame
    else s.acceptFrame a.port a.frame
  | .off => s
  | l =>
    let s := s.discardFrame a l
    let s := if a.frame.ftype = Ty.SCHED && l ≠ .badForm && s.linkAlive a.port then s.count Reg.SCHED_BAD.COUNT else s
    if a.port = xlink || s.link a.port ≠ Link.UP then s else s.spoilCopies a.port a.frame

/-- A frame arrives on a port, its SOF now; what answers it is ready once it has come whole (R382). -/
def State.receive (s : State) (a : Arrival) : State :=
  { { s with replyAt := s.now + a.frame.ticks }.arrive a with replyAt := 0 }

/-! ## The commands: a frame of each kind arrives -/

def execData (a : Arrival) (s : State) : Host.Outcome State Fault Refusal := .next (s.receive (a.as Ty.DATA))
def execSafe (a : Arrival) (s : State) : Host.Outcome State Fault Refusal := .next (s.receive (a.as Ty.SAFE))
def execConfig (a : Arrival) (s : State) : Host.Outcome State Fault Refusal := .next (s.receive (a.as Ty.CONFIG))
def execBcast (a : Arrival) (s : State) : Host.Outcome State Fault Refusal := .next (s.receive (a.as Ty.BCAST))
def execTrip (a : Arrival) (s : State) : Host.Outcome State Fault Refusal := .next (s.receive (a.as Ty.TRIP))
def execTime (a : Arrival) (s : State) : Host.Outcome State Fault Refusal := .next (s.receive (a.as Ty.TIME))
def execSched (a : Arrival) (s : State) : Host.Outcome State Fault Refusal := .next (s.receive (a.as Ty.SCHED))

/-- TRIP_DELIVER: a delivered TRIP sets DEMAND while TRIPDEM is 1 (R617). -/
def execTripDeliver (s : State) : Host.Outcome State Fault Refusal :=
  .next (match s.trips with
    | [] => s
    | _ :: rest =>
      let s : State := { s with trips := rest }
      if s.flag Reg.SFU_CFG.TRIPDEM then s.setDemand else s)

/-- DIRECTED_FORWARD: an ENUM, or a directed IDENT, arrives. -/
def execDirectedForward (a : Arrival) (s : State) : Host.Outcome State Fault Refusal :=
  .next (s.receive (if a.frame.isDirected then a else a.as Ty.ENUM))

def execEnumQuery (a : Arrival) (s : State) : Host.Outcome State Fault Refusal := .next (s.receive (a.asOp Ty.ENUM 1))
def execEnumAssign (a : Arrival) (s : State) : Host.Outcome State Fault Refusal := .next (s.receive (a.asOp Ty.ENUM 2))
def execEnumRoute (a : Arrival) (s : State) : Host.Outcome State Fault Refusal := .next (s.receive (a.asOp Ty.ENUM 3))
def execEnumPrimer (a : Arrival) (s : State) : Host.Outcome State Fault Refusal := .next (s.receive (a.asOp Ty.ENUM 4))
def execEnumLtread (a : Arrival) (s : State) : Host.Outcome State Fault Refusal := .next (s.receive (a.asOp Ty.ENUM 5))
def execInfo (a : Arrival) (s : State) : Host.Outcome State Fault Refusal := .next (s.receive (a.asOp Ty.IDENT 0x81))
def execLtinfo (a : Arrival) (s : State) : Host.Outcome State Fault Refusal := .next (s.receive (a.asOp Ty.IDENT 0x85))
def execAnnounce (a : Arrival) (s : State) : Host.Outcome State Fault Refusal := .next (s.receive (a.asOp Ty.IDENT 0x10))
def execFenceReport (a : Arrival) (s : State) : Host.Outcome State Fault Refusal := .next (s.receive (a.asOp Ty.IDENT 0x20))
def execPrimerReq (a : Arrival) (s : State) : Host.Outcome State Fault Refusal := .next (s.receive (a.asOp Ty.IDENT 0x11))
def execPrimerAck (a : Arrival) (s : State) : Host.Outcome State Fault Refusal := .next (s.receive (a.asOp Ty.IDENT 0x12))
def execPrimerNak (a : Arrival) (s : State) : Host.Outcome State Fault Refusal := .next (s.receive (a.asOp Ty.IDENT 0x13))

/-- TEST: a TEST frame received whole is compared, whatever its CRC (R470), unless its port is shut to it (R421). -/
def execTest (a : Arrival) (s : State) : Host.Outcome State Fault Refusal :=
  let a := a.as Ty.TEST
  let l := s.lineOf a
  let whole := l = .good || l = .badCrc || l = .poison
  let t := s.receive a
  .next (if whole && a.port ≠ xlink && !s.shutTo a.port a.frame then
      t.takeTest a.port a.frame.payload else t)

def execMrec (a : Arrival) (s : State) : Host.Outcome State Fault Refusal := .next (s.receive (a.asOp Ty.MIRROR 0x01))
def execMrel (a : Arrival) (s : State) : Host.Outcome State Fault Refusal := .next (s.receive (a.asOp Ty.MIRROR 0x02))
def execMrej (a : Arrival) (s : State) : Host.Outcome State Fault Refusal := .next (s.receive (a.asOp Ty.MIRROR 0x03))
def execBread (a : Arrival) (s : State) : Host.Outcome State Fault Refusal := .next (s.receive (a.asOp Ty.MIRROR 0x10))
def execBdata (a : Arrival) (s : State) : Host.Outcome State Fault Refusal := .next (s.receive (a.asOp Ty.MIRROR 0x90))
def execUnfit (a : Arrival) (s : State) : Host.Outcome State Fault Refusal := .next (s.receive (a.asOp Ty.MIRROR 0x20))
def execRread (a : Arrival) (s : State) : Host.Outcome State Fault Refusal := .next (s.receive (a.asOp Ty.CONFIG 0x21))
def execRwrite (a : Arrival) (s : State) : Host.Outcome State Fault Refusal := .next (s.receive (a.asOp Ty.CONFIG 0x22))
def execRdata (a : Arrival) (s : State) : Host.Outcome State Fault Refusal := .next (s.receive (a.asOp Ty.CONFIG 0xA1))
def execRdone (a : Arrival) (s : State) : Host.Outcome State Fault Refusal := .next (s.receive (a.asOp Ty.CONFIG 0xA2))
def execRrefuse (a : Arrival) (s : State) : Host.Outcome State Fault Refusal := .next (s.receive (a.asOp Ty.CONFIG 0xAF))

/-- A PROG message with this OP comes on a port or through LOADIN (R105, R743). -/
def State.heardProg (s : State) (op : Byte) : ProgFrom → State
  | .fabric a => s.receive (a.asOp Ty.PROG op)
  | .host b => if s.flag Reg.HOST_CFG.EN then s.takeProg .host (op :: b.drop 1) else s

def execLoadBegin (f : ProgFrom) (s : State) : Host.Outcome State Fault Refusal := .next (s.heardProg 1 f)
def execLoadData (f : ProgFrom) (s : State) : Host.Outcome State Fault Refusal := .next (s.heardProg 2 f)
def execLoadCommit (f : ProgFrom) (s : State) : Host.Outcome State Fault Refusal := .next (s.heardProg 3 f)
def execLoadAbort (f : ProgFrom) (s : State) : Host.Outcome State Fault Refusal := .next (s.heardProg 4 f)
def execLoadQuery (f : ProgFrom) (s : State) : Host.Outcome State Fault Refusal := .next (s.heardProg 5 f)
def execLoadStatus (a : Arrival) (s : State) : Host.Outcome State Fault Refusal := .next (s.receive (a.asOp Ty.PROG 0x81))

/-- When the ABORT that follows the first `n` bits after the SOF has come, the SOF being now (R369, R391, Table 9-3). -/
def State.abortCame (s : State) (n : Nat) : Nat := s.now + 2 + n + 2

/-- ABORT after `n` bits of a frame, counted from bit time 2: it is counted and discarded; a copy begun on an idle port, 36 bit times after
the SOF, before the ABORT, ends with ABORT at its next 8-bit boundary, and keeps its LSEQ for the frame's resend (R389, R393, R398). -/
def State.cutShort (s : State) (p : Port) (f : Frame) (n : Nat) : State :=
  let s := (s.count Reg.PORT_ABORTS.COUNT p).breakNulls p
  if p = xlink || s.link p ≠ Link.UP || n < 34 then s
  else forAll ((s.copyPorts p f).filter fun e => s.cutsThrough e.1 (s.copyOf p e.1 f e.2 .fixed)) (fun e t =>
    t.enqueue e.1 { t.copyOf p e.1 f e.2 .fixed with cut := some (s.abortCame n, p, f.lseq) }) s

def execAbort (c : Arrival × Nat) (s : State) : Host.Outcome State Fault Refusal :=
  .next (if s.receives c.1.port then s.cutShort c.1.port c.1.frame c.2 else s)

/-! ## Timers of the black box and manager reads -/

/-- SUMMARY content (Table 12-2). -/
def State.summary (s : State) : List Byte :=
  let span := s.bbx.temps.getD (s.temp, s.temp)
  leBytes 4 (s.fld Reg.CLK_ELED_LO.VALUE) ++ leBytes 4 (s.fld Reg.CLK_ELED_HI.VALUE)
    ++ (List.range 4).flatMap (fun i => leBytes 4 (s.coulWord i))
    ++ leBytes 4 (unsigned 32 span.1) ++ leBytes 4 (unsigned 32 span.2) ++ leBytes 2 s.bbx.pins.length
    ++ [BitVec.ofNat 8 s.goodSectors]

/-- SUMMARY_TIMER: every SUMPER minutes while HFO runs. -/
def execSummaryTimer (s : State) : Host.Outcome State Fault Refusal :=
  .next (if s.hfo && s.fld Reg.BBX_CFG.SUMPER ≠ 0 then
      let s := (s.reach (s.bbx.summaryAt + ms (60000 * s.fld Reg.BBX_CFG.SUMPER)))
      { s.bbxAppend 0x10 false s.summary with bbx := { (s.bbxAppend 0x10 false s.summary).bbx with
        summaryAt := s.now, temps := none } }
    else s)

/-- BREAD_TIMEOUT: no answer within 10 ms. -/
def execBreadTimeout (s : State) : Host.Outcome State Fault Refusal :=
  .next (if s.fld Reg.BBX_RDST.STATUS = 7 then (s.reach s.bbx.rdreqAt).setFld Reg.BBX_RDST.STATUS 6 else s)

/-- UNFIT_REPEAT: the notice of a DEGRADED die goes out again. -/
def execUnfitRepeat (s : State) : Host.Outcome State Fault Refusal :=
  .next (if s.flag Reg.BBX_STAT.DEGRADED then (s.reach s.bbx.unfitAt).unfitNotice else s)

end Sys2Proof.Machine
end

