-- ==== Sys2Proof/Machine/Operands.lean ====
section
/-! DEFINITION. The word of an instruction (Table 4-1), how immediates and offsets widen (R120) and what an executing context makes
of its operands. -/

namespace Sys2Proof.Machine

/-- The word of an opcode and the fields below it: bits [25:22], [21:18], [17:14] and [13:0]. -/
def wordOf (op a b c d : Nat) : Word := BitVec.ofNat 32 (op * 2 ^ 26 + a * 2 ^ 22 + b * 2 ^ 18 + c * 2 ^ 14 + d)

/-- imm14 of ADDI, SLTI, JALR, loads and stores. -/
def sext14 (i : BitVec 14) : Word := i.signExtend 32

/-- imm14 of ANDI, ORI and XORI. -/
def zext14 (i : BitVec 14) : Word := i.zeroExtend 32

/-- The target of a branch: a signed count of instructions from the branch itself. -/
def branchTarget (pc : Word) (off : BitVec 14) : Word := pc + (off.signExtend 32) * 4

/-- The target of JAL. -/
def jumpTarget (pc : Word) (off : BitVec 22) : Word := pc + (off.signExtend 32) * 4

/-- The target of JALR. -/
def jalrTarget (a : Word) (imm : BitVec 14) : Word := (a + sext14 imm) &&& 0xFFFFFFFC

/-- The virtual address of a load or store. -/
def Ctx.dataAddr (v : Ctx) (rs1 : RegNo) (imm : BitVec 14) : Nat := (v.getX rs1 + sext14 imm).toNat

end Sys2Proof.Machine
end

