-- ==== Sys2Proof/Machine/Flags.lean ====
section
/-! DEFINITION. Results and flags of the arithmetic instructions (R128, R130, R131). -/

namespace Sys2Proof.Machine

/-- STATUS with Z and N from a result. -/
def flagsZN (old res : Word) : Word :=
  (old &&& 0xFFFFFFFC) ||| (if res = 0 then 1 else 0) ||| if res.getLsbD 31 then 2 else 0

/-- STATUS with all four flags. -/
def flagsZNCV (old res : Word) (carry overflow : Bool) : Word :=
  (flagsZN old res &&& 0xFFFFFFF3) ||| (if carry then 4 else 0) ||| if overflow then 8 else 0

/-- The C flag. -/
def carryOf (status : Word) : Bool := status.getLsbD 2

/-- A sum with a carry in, and STATUS with its flags: C is the carry out of bit 31, V signed overflow. -/
def addWith (status a b : Word) (cin : Bool) : Word × Word :=
  let c : Nat := if cin then 1 else 0
  let r := BitVec.ofNat 32 (a.toNat + b.toNat + c)
  (r, flagsZNCV status r (decide (2 ^ 32 ≤ a.toNat + b.toNat + c)) (decide (r.toInt ≠ a.toInt + b.toInt + c)))

/-- A difference with a borrow in: C is 1 when it needs no borrow. -/
def subWith (status a b : Word) (borrow : Bool) : Word × Word :=
  let c : Nat := if borrow then 1 else 0
  let r := a - b - BitVec.ofNat 32 c
  (r, flagsZNCV status r (decide (b.toNat + c ≤ a.toNat)) (decide (r.toInt ≠ a.toInt - b.toInt - c)))

/-- A result whose instruction sets Z and N. -/
def withZN (status r : Word) : Word × Word := (r, flagsZN status r)

def divu (a b : Word) : Word := if b = 0 then 0xFFFFFFFF else BitVec.ofNat 32 (a.toNat / b.toNat)
def remu (a b : Word) : Word := if b = 0 then a else BitVec.ofNat 32 (a.toNat % b.toNat)
def mulh (a b : Word) : Word := BitVec.ofInt 32 (a.toInt * b.toInt / 2 ^ 32)
def sltw (a b : Word) : Word := if a.toInt < b.toInt then 1 else 0
def sltuw (a b : Word) : Word := if a.toNat < b.toNat then 1 else 0

/-- The shift amount of a register-form shift. -/
def shamt (b : Word) : Nat := b.toNat % 32

end Sys2Proof.Machine
end

