-- ==== Sys2Proof/Machine/Execute.lean ====
section
/-! DEFINITION. One instruction on the core: who executes it, and how it retires, jumps, traps or waits (R69, R84, R126,
R144 to R146). -/

namespace Sys2Proof.Machine

/-! Causes of Table 3-5. -/
namespace Cause
def ILLEGAL : Nat := 1
def PRIV : Nat := 2
def ALIGN : Nat := 3
def WIN_PERM : Nat := 5
def UNMAPPED : Nat := 6
def ECC : Nat := 7
def REMOTE_NAK : Nat := 8
def REMOTE_TIMEOUT : Nat := 9
def SEL_RANGE : Nat := 0xA
def SOFT : Nat := 0xC
end Cause

/-- What executing an instruction comes to, with the core cycles it took: it retires and goes on at pc + 4 or elsewhere, traps,
waits to be executed again, or is at a resumption point, where it goes on as `next` if nothing takes the core from it. -/
inductive Did where
  | done (s : State) (cycles : Nat)
  | jump (s : State) (target : Word) (cycles : Nat)
  | trap (s : State) (cause detail : Nat) (tval : Nat) (cycles : Nat)
  | wait (s : State) (w : Wait) (cycles : Nat)
  | hold (s : State) (cycles : Nat) (next : Option Instr)

/-- An undefined instruction or operand (Table 4-2). -/
def Did.illegal (s : State) (detail : Nat) : Did := .trap s Cause.ILLEGAL detail 0 0

/-- The context that executes the next instruction (R69): the lowest-numbered READY or RUNNING one, while HFO runs. -/
def State.executing (s : State) : Option Cid :=
  if s.hfo && !s.boot.inReset then allCtx.find? fun c => (s.ctx c).isRunnable else none

/-- The context takes the core; a switch from another costs 2 cycles (R69), and what that one had under way is to be executed again. -/
def State.takeCore (s : State) (c : Cid) : State :=
  let ready := fun (h : Cid) (v : Ctx) => if h ≠ c && v.state = .running then { v with state := .ready, cont := none } else v
  let n := match s.holder with
    | some h => if h = c then 0 else 2
    | none => 0
  (({ s.modAll ready with holder := some c }).modCtx c fun v =>
    { v with state := .running, cont := if s.holder = some c then v.cont else none }).advance n

/-- Core cycles pass in a context (Table 3-3, CYCLE). -/
def State.spend (s : State) (c : Cid) (n : Nat) : State :=
  (s.modCtx c fun v => { v with cycle := v.cycle + BitVec.ofNat 32 n }).advance n

/-- An instruction has retired and its context goes on at `pc`; nothing is left to do when its own effect reset the die. -/
def State.retire (s : State) (c : Cid) (pc : Word) (n : Nat) : State :=
  if s.boot.inReset then s
  else ((s.modCtx c fun v => { v with pc := pc, yielded := false, cont := none }).yieldSees c).spend c n

/-- The long instruction that the context goes on with at its resumption point (R166). -/
def State.setCont (s : State) (c : Cid) (i : Option Instr) : State := s.modCtx c fun v => { v with cont := i }

/-- A context begins to wait; one whose remote answer is already there is READY (R71, R145). -/
def State.beginWait (s : State) (c : Cid) (w : Wait) : State :=
  let s := s.setCont c none
  if w = .remote && (s.ctx c).req.isNone then s.modCtx c fun v => { v with state := .ready }
  else (s.modCtx c fun v => { v with state := .waiting, wait := some w }).yieldSees c

/-- The instruction at `pc` of context `c` has come to this. A trap takes 3 cycles, and a SOFT one returns to the next
instruction (R84). -/
def Did.finish (c : Cid) (pc : Word) : Did → State
  | .done s n => s.retire c (pc + 4) n
  | .jump s target n => s.retire c target n
  | .trap s cause detail tval n =>
    let soft := cause = Cause.SOFT
    let s := if soft then s.yieldSees c else s
    ((s.setCont c none).spend c (n + 3)).trap c cause detail tval (if soft then pc + 4 else pc).toNat
  | .wait s w n => (s.spend c n).beginWait c w
  | .hold s n next =>
    if s.boot.inReset then s else (s.setCont c (if s.executing = some c then next else none)).spend c n

/-- An instruction is executed by the context whose turn it is; with none, nothing happens (log 6). -/
def State.runInstr (s : State) (body : State → Cid → Word → Did) : State :=
  match s.executing with
  | none => s
  | some c =>
    let s := s.takeCore c
    (body s c (s.ctx c).pc).finish c (s.ctx c).pc

/-- A result goes to `rd`. -/
def State.setX (s : State) (c : Cid) (rd : RegNo) (w : Word) : State := s.modCtx c fun v => v.setX rd w

end Sys2Proof.Machine
end

