-- ==== Sys2Proof/Machine/Alu.lean ====
section
/-! DEFINITION. Arithmetic instructions, Table 4-3, opcodes 0x01 to 0x19. -/

namespace Sys2Proof.Machine

/-- An instruction that computes a result and STATUS from the context's registers; a field marked zero that is not zero is
ILLEGAL (R121). -/
def State.compute (s : State) (zeros : Bool) (rd : RegNo) (cycles : Nat) (f : Ctx → Word × Word) : State :=
  s.runInstr fun t c _ =>
    if zeros then
      let r := f (t.ctx c)
      .done (t.modCtx c fun v => { v.setX rd r.1 with status := r.2 }) cycles
    else .illegal t 1

/-- Format RRR. -/
def State.alu3 (s : State) (rd rs1 rs2 : RegNo) (z : BitVec 14) (cycles : Nat) (f : Word → Word → Word → Word × Word) : State :=
  s.compute (z = 0) rd cycles fun v => f v.status (v.getX rs1) (v.getX rs2)

/-- Format RRI. -/
def State.aluI (s : State) (rd rs1 : RegNo) (zeros : Bool) (f : Word → Word → Word × Word) : State :=
  s.compute zeros rd 1 fun v => f v.status (v.getX rs1)

/-- imm14 of a shift has only its amount (R120). -/
def shiftZeros (z : BitVec 4) (imm : BitVec 14) : Bool := z = 0 && imm.toNat < 32

def execAdd (rd rs1 rs2 : RegNo) (z : BitVec 14) (s : State) : Host.Outcome State Fault Refusal :=
  .next (s.alu3 rd rs1 rs2 z 1 fun st a b => addWith st a b false)
def execSub (rd rs1 rs2 : RegNo) (z : BitVec 14) (s : State) : Host.Outcome State Fault Refusal :=
  .next (s.alu3 rd rs1 rs2 z 1 fun st a b => subWith st a b false)
def execAdc (rd rs1 rs2 : RegNo) (z : BitVec 14) (s : State) : Host.Outcome State Fault Refusal :=
  .next (s.alu3 rd rs1 rs2 z 1 fun st a b => addWith st a b (carryOf st))
def execSbc (rd rs1 rs2 : RegNo) (z : BitVec 14) (s : State) : Host.Outcome State Fault Refusal :=
  .next (s.alu3 rd rs1 rs2 z 1 fun st a b => subWith st a b (!carryOf st))
def execAnd (rd rs1 rs2 : RegNo) (z : BitVec 14) (s : State) : Host.Outcome State Fault Refusal :=
  .next (s.alu3 rd rs1 rs2 z 1 fun st a b => withZN st (a &&& b))
def execOr (rd rs1 rs2 : RegNo) (z : BitVec 14) (s : State) : Host.Outcome State Fault Refusal :=
  .next (s.alu3 rd rs1 rs2 z 1 fun st a b => withZN st (a ||| b))
def execXor (rd rs1 rs2 : RegNo) (z : BitVec 14) (s : State) : Host.Outcome State Fault Refusal :=
  .next (s.alu3 rd rs1 rs2 z 1 fun st a b => withZN st (a ^^^ b))
def execShl (rd rs1 rs2 : RegNo) (z : BitVec 14) (s : State) : Host.Outcome State Fault Refusal :=
  .next (s.alu3 rd rs1 rs2 z 1 fun st a b => withZN st (a <<< shamt b))
def execShr (rd rs1 rs2 : RegNo) (z : BitVec 14) (s : State) : Host.Outcome State Fault Refusal :=
  .next (s.alu3 rd rs1 rs2 z 1 fun st a b => withZN st (a >>> shamt b))
def execSar (rd rs1 rs2 : RegNo) (z : BitVec 14) (s : State) : Host.Outcome State Fault Refusal :=
  .next (s.alu3 rd rs1 rs2 z 1 fun st a b => withZN st (a.sshiftRight (shamt b)))
def execMul (rd rs1 rs2 : RegNo) (z : BitVec 14) (s : State) : Host.Outcome State Fault Refusal :=
  .next (s.alu3 rd rs1 rs2 z 2 fun st a b => withZN st (a * b))
def execMulh (rd rs1 rs2 : RegNo) (z : BitVec 14) (s : State) : Host.Outcome State Fault Refusal :=
  .next (s.alu3 rd rs1 rs2 z 2 fun st a b => withZN st (mulh a b))
def execDivu (rd rs1 rs2 : RegNo) (z : BitVec 14) (s : State) : Host.Outcome State Fault Refusal :=
  .next (s.alu3 rd rs1 rs2 z 18 fun st a b => withZN st (divu a b))
def execRemu (rd rs1 rs2 : RegNo) (z : BitVec 14) (s : State) : Host.Outcome State Fault Refusal :=
  .next (s.alu3 rd rs1 rs2 z 18 fun st a b => withZN st (remu a b))
def execSlt (rd rs1 rs2 : RegNo) (z : BitVec 14) (s : State) : Host.Outcome State Fault Refusal :=
  .next (s.alu3 rd rs1 rs2 z 1 fun st a b => withZN st (sltw a b))
def execSltu (rd rs1 rs2 : RegNo) (z : BitVec 14) (s : State) : Host.Outcome State Fault Refusal :=
  .next (s.alu3 rd rs1 rs2 z 1 fun st a b => withZN st (sltuw a b))
def execAddi (rd rs1 : RegNo) (z : BitVec 4) (imm : BitVec 14) (s : State) : Host.Outcome State Fault Refusal :=
  .next (s.aluI rd rs1 (z = 0) fun st a => addWith st a (sext14 imm) false)
def execAndi (rd rs1 : RegNo) (z : BitVec 4) (imm : BitVec 14) (s : State) : Host.Outcome State Fault Refusal :=
  .next (s.aluI rd rs1 (z = 0) fun st a => withZN st (a &&& zext14 imm))
def execOri (rd rs1 : RegNo) (z : BitVec 4) (imm : BitVec 14) (s : State) : Host.Outcome State Fault Refusal :=
  .next (s.aluI rd rs1 (z = 0) fun st a => withZN st (a ||| zext14 imm))
def execXori (rd rs1 : RegNo) (z : BitVec 4) (imm : BitVec 14) (s : State) : Host.Outcome State Fault Refusal :=
  .next (s.aluI rd rs1 (z = 0) fun st a => withZN st (a ^^^ zext14 imm))
def execShli (rd rs1 : RegNo) (z : BitVec 4) (imm : BitVec 14) (s : State) : Host.Outcome State Fault Refusal :=
  .next (s.aluI rd rs1 (shiftZeros z imm) fun st a => withZN st (a <<< (imm.toNat % 32)))
def execShri (rd rs1 : RegNo) (z : BitVec 4) (imm : BitVec 14) (s : State) : Host.Outcome State Fault Refusal :=
  .next (s.aluI rd rs1 (shiftZeros z imm) fun st a => withZN st (a >>> (imm.toNat % 32)))
def execSari (rd rs1 : RegNo) (z : BitVec 4) (imm : BitVec 14) (s : State) : Host.Outcome State Fault Refusal :=
  .next (s.aluI rd rs1 (shiftZeros z imm) fun st a => withZN st (a.sshiftRight (imm.toNat % 32)))
def execSlti (rd rs1 : RegNo) (z : BitVec 4) (imm : BitVec 14) (s : State) : Host.Outcome State Fault Refusal :=
  .next (s.aluI rd rs1 (z = 0) fun st a => withZN st (sltw a (sext14 imm)))

/-- LUI sets no flag. -/
def execLui (rd : RegNo) (z : BitVec 4) (imm : BitVec 18) (s : State) : Host.Outcome State Fault Refusal :=
  .next (s.compute (z = 0) rd 1 fun v => ((imm.zeroExtend 32) <<< 14, v.status))

end Sys2Proof.Machine
end

