-- ==== Sys2Proof/Machine/Memory.lean ====
section
/-! DEFINITION. Loads, stores, branches and jumps, Table 4-3, opcodes 0x1A to 0x29 (R127, R129, R132, R133). -/

namespace Sys2Proof.Machine

/-! ## One access of an instruction -/

/-- Why an access of an instruction does not take place. -/
inductive Stop where
  | trap (s : State) (cause detail tval : Nat)
  | wait (s : State) (w : Wait)

/-- The instruction stops there, `n` cycles spent. -/
def Stop.did (n : Nat) : Stop → Did
  | .trap s cause detail tval => .trap s cause detail tval n
  | .wait s w => .wait s w n

/-- What prevents a read at a physical address: NVM whose sector is being written (R95), or an uncorrectable error. -/
def State.readStop (s : State) (a : Reach) (pa win : Nat) : Option Stop :=
  if isNvm pa && s.sectorBusy pa then some (.wait s (.nvm pa))
  else if !isPage pa && s.eccHit pa then
    some (.trap (if isNvm pa then s.eccInNvm pa else s) Cause.ECC (trapDetail win a.kind 0) a.va)
  else none

/-- The trap that a store at a physical address takes beyond Table 5-1: a selector out of range (R98). -/
def State.storeTrap (s : State) (c : Cid) (a : Reach) (pa v : Nat) : Option Stop :=
  if isPage pa then (s.writeTrap (.ctx c) (pa - 0x40000000) (BitVec.ofNat 32 v)).map fun e => .trap s e.1 e.2 a.va
  else none

/-- The request is the one that the same instruction sent with the same operands: its word, its remote address, and what it stores or
where an RMOV stands (R147; log 6). -/
def Request.isFor (r : Request) (a : Reach) (word : Word) (opnd : Nat) : Bool :=
  r.word = word && r.va = a.va && r.opnd = opnd && r.write = a.store

/-- A remote access executed again (R129, R147): the answer in the context's slot is taken, with the request it answers, or the one on its
way is waited for; it was sent with the translation of its own time, whatever the windows are now (R185). -/
def State.resumed (s : State) (c : Cid) (a : Reach) (word : Word) (opnd : Nat) : Option (Except Stop (State × Request × List Byte)) :=
  let v := s.ctx c
  let taken := s.setCtx c { v with slot := none }
  match v.slot, v.req with
  | some (r, ans), _ =>
    if r.isFor a word opnd then
      some (match ans with
        | .data b => .ok (taken, r, b)
        | .done => .ok (taken, r, [])
        | .refused why => .error (.trap taken Cause.REMOTE_NAK (trapDetail r.win a.kind why) a.va)
        | .timeout => .error (.trap taken Cause.REMOTE_TIMEOUT (trapDetail r.win a.kind 0) a.va))
    else none
  | none, some r => if r.isFor a word opnd then some (.error (.wait s .remote)) else none
  | none, none => none

/-- A remote access goes out through window `win`, and the context waits for its answer (R188, R192). -/
def State.sendAccess (s : State) (c : Cid) (win : Nat) (a : Reach) (word : Word) (opnd len : Nat) (data : List Byte) : Stop :=
  .wait (s.ctxRequest c win word a.va opnd a.store len data) .remote

/-- A check of Table 5-1 failed. -/
def placeTrap (s : State) (a : Reach) (cause win : Nat) : Stop := .trap s cause (trapDetail win a.kind 0) a.va

/-! ## Loads and stores -/

/-- A load of `width` bytes, widened by `ext`. -/
def State.load' (s : State) (op : Nat) (z : BitVec 4) (rd rs1 : RegNo) (imm : BitVec 14) (width : Nat) (ext : Nat → Word) : State :=
  s.runInstr fun t c _ =>
    if z ≠ 0 then .illegal t 1
    else
      let a : Reach := ⟨(t.ctx c).dataAddr rs1 imm, width, false, 0, false, false⟩
      let word := wordOf op rd.val rs1.val 0 imm.toNat
      match t.resumed c a word 0 with
      | some (.ok (u, _, b)) => .done (u.setX c rd (ext (leNat b))) 2
      | some (.error e) => e.did 0
      | none => match t.place c.val a with
      | .stop cause win => (placeTrap t a cause win).did 0
      | .here pa win =>
        match t.readStop a pa win with
        | some e => e.did 0
        | none =>
          let r := t.readAt (.ctx c) pa width
          .done (r.2.setX c rd (ext r.1)) (if isNvm pa then 3 else 2)
      | .away win => (t.sendAccess c win a word 0 width []).did 0

/-- A store of the low `width` bytes of `rd`. -/
def State.store' (s : State) (op : Nat) (z : BitVec 4) (rd rs1 : RegNo) (imm : BitVec 14) (width : Nat) : State :=
  s.runInstr fun t c _ =>
    if z ≠ 0 then .illegal t 1
    else
      let a : Reach := ⟨(t.ctx c).dataAddr rs1 imm, width, true, 1, false, false⟩
      let v := ((t.ctx c).getX rd).toNat % 2 ^ (8 * width)
      let word := wordOf op rd.val rs1.val 0 imm.toNat
      match t.resumed c a word v with
      | some (.ok (u, _, _)) => .done u 2
      | some (.error e) => e.did 0
      | none => match t.place c.val a with
      | .stop cause win => (placeTrap t a cause win).did 0
      | .here pa _ =>
        match t.storeTrap c a pa v with
        | some e => e.did 0
        | none => .done (t.writeAt (.ctx c) pa width v) (if isPage pa then 2 else 1)
      | .away win => (t.sendAccess c win a word v width (leBytes width v)).did 0

/-- A value of `width` bytes widened with its sign. -/
def sextBytes (width v : Nat) : Word := BitVec.ofInt 32 (signed (8 * width) v)

def execLdw (rd rs1 : RegNo) (z : BitVec 4) (imm : BitVec 14) (s : State) : Host.Outcome State Fault Refusal :=
  .next (s.load' 0x1A z rd rs1 imm 4 (BitVec.ofNat 32))
def execLdh (rd rs1 : RegNo) (z : BitVec 4) (imm : BitVec 14) (s : State) : Host.Outcome State Fault Refusal :=
  .next (s.load' 0x1B z rd rs1 imm 2 (sextBytes 2))
def execLdhu (rd rs1 : RegNo) (z : BitVec 4) (imm : BitVec 14) (s : State) : Host.Outcome State Fault Refusal :=
  .next (s.load' 0x1C z rd rs1 imm 2 (BitVec.ofNat 32))
def execLdb (rd rs1 : RegNo) (z : BitVec 4) (imm : BitVec 14) (s : State) : Host.Outcome State Fault Refusal :=
  .next (s.load' 0x1D z rd rs1 imm 1 (sextBytes 1))
def execLdbu (rd rs1 : RegNo) (z : BitVec 4) (imm : BitVec 14) (s : State) : Host.Outcome State Fault Refusal :=
  .next (s.load' 0x1E z rd rs1 imm 1 (BitVec.ofNat 32))
def execStw (rd rs1 : RegNo) (z : BitVec 4) (imm : BitVec 14) (s : State) : Host.Outcome State Fault Refusal :=
  .next (s.store' 0x1F z rd rs1 imm 4)
def execSth (rd rs1 : RegNo) (z : BitVec 4) (imm : BitVec 14) (s : State) : Host.Outcome State Fault Refusal :=
  .next (s.store' 0x20 z rd rs1 imm 2)
def execStb (rd rs1 : RegNo) (z : BitVec 4) (imm : BitVec 14) (s : State) : Host.Outcome State Fault Refusal :=
  .next (s.store' 0x21 z rd rs1 imm 1)

/-! ## Branches and jumps -/

/-- A branch; a target that cannot be fetched traps there (R126). -/
def State.branch (s : State) (z : BitVec 4) (rs1 rs2 : RegNo) (off : BitVec 14) (taken : Word → Word → Bool) : State :=
  s.runInstr fun t c pc =>
    if z ≠ 0 then .illegal t 1
    else if taken ((t.ctx c).getX rs1) ((t.ctx c).getX rs2) then .jump t (branchTarget pc off) 2
    else .done t 1

def execBeq (z : BitVec 4) (rs1 rs2 : RegNo) (off : BitVec 14) (s : State) : Host.Outcome State Fault Refusal :=
  .next (s.branch z rs1 rs2 off fun a b => a = b)
def execBne (z : BitVec 4) (rs1 rs2 : RegNo) (off : BitVec 14) (s : State) : Host.Outcome State Fault Refusal :=
  .next (s.branch z rs1 rs2 off fun a b => a ≠ b)
def execBlt (z : BitVec 4) (rs1 rs2 : RegNo) (off : BitVec 14) (s : State) : Host.Outcome State Fault Refusal :=
  .next (s.branch z rs1 rs2 off fun a b => a.toInt < b.toInt)
def execBge (z : BitVec 4) (rs1 rs2 : RegNo) (off : BitVec 14) (s : State) : Host.Outcome State Fault Refusal :=
  .next (s.branch z rs1 rs2 off fun a b => b.toInt ≤ a.toInt)
def execBltu (z : BitVec 4) (rs1 rs2 : RegNo) (off : BitVec 14) (s : State) : Host.Outcome State Fault Refusal :=
  .next (s.branch z rs1 rs2 off fun a b => a.toNat < b.toNat)
def execBgeu (z : BitVec 4) (rs1 rs2 : RegNo) (off : BitVec 14) (s : State) : Host.Outcome State Fault Refusal :=
  .next (s.branch z rs1 rs2 off fun a b => b.toNat ≤ a.toNat)

/-- JAL links pc + 4. -/
def execJal (rd : RegNo) (off : BitVec 22) (s : State) : Host.Outcome State Fault Refusal :=
  .next (s.runInstr fun t c pc => .jump (t.setX c rd (pc + 4)) (jumpTarget pc off) 2)

/-- JALR: the target comes from rs1 before rd is written (R125). -/
def execJalr (rd rs1 : RegNo) (z : BitVec 4) (imm : BitVec 14) (s : State) : Host.Outcome State Fault Refusal :=
  .next (s.runInstr fun t c pc =>
    if z ≠ 0 then .illegal t 1
    else .jump (t.setX c rd (pc + 4)) (jalrTarget ((t.ctx c).getX rs1) imm) 2)

end Sys2Proof.Machine
end

