-- ==== Sys2Proof/Machine/Control.lean ====
section
/-! DEFINITION. Control, event and trap instructions, Table 4-4 (R80 to R85, R134 to R143). -/

namespace Sys2Proof.Machine

/-! ## Control registers (Table 3-3) -/

/-- A read of RTIME_LO holds the high word (R81). -/
def State.holdRtime (s : State) (c : Cid) : State :=
  s.modCtx c fun v => { v with rtimeHold := BitVec.ofNat 24 (s.rackTicks / 2 ^ 32 + 2 ^ 16 * s.epoch) }

/-- The control register at an index; none where Table 3-3 has none. -/
def State.csr (s : State) (c : Cid) (index : Nat) : Option Word :=
  let v := s.ctx c
  match index with
  | 0x000 => some v.status
  | 0x001 => some v.epc
  | 0x002 => some v.estatus
  | 0x003 => some v.cause
  | 0x004 => some v.tval
  | 0x005 => some v.tvec
  | 0x006 => some v.evmask
  | 0x007 => some v.evpend
  | 0x008 => some (BitVec.ofNat 32 c.val)
  | 0x009 => some v.cycle
  | 0x00A => some (BitVec.ofNat 32 s.rackTicks)
  | 0x00B => some (v.rtimeHold.zeroExtend 32)
  | 0x00C => some v.scratch0
  | 0x00D => some v.scratch1
  | k => if 0x010 ≤ k && k ≤ 0x015 then some (BitVec.ofNat 32 (s.selOf (.ctx c) (k - 0x010))) else none

/-- What a read leaves behind. -/
def State.csrReadEffect (s : State) (c : Cid) (index : Nat) : State := if index = 0x00A then s.holdRtime c else s

/-- The width of selector `n`'s channel field. -/
def selWidth (n : Nat) : Nat := [4, 2, 3, 3, 3, 3].getD n 0

/-- A write under the register's access code (R82, R140). -/
def State.csrWrite (s : State) (c : Cid) (index : Nat) (w : Word) : State :=
  match index with
  | 0x000 => s.modCtx c fun v => { v with status := statusWith v.status w }
  | 0x001 => s.modCtx c fun v => { v with epc := w }
  | 0x002 => s.modCtx c fun v => { v with estatus := w }
  | 0x005 => s.modCtx c fun v => { v with tvec := w &&& 0xFFFFFFFC }
  | 0x006 => s.modCtx c fun v => { v with evmask := w }
  | 0x007 => s.modCtx c fun v => v.clearEvents s.now w
  | 0x00C => s.modCtx c fun v => { v with scratch0 := w }
  | 0x00D => s.modCtx c fun v => { v with scratch1 := w }
  | k => if 0x010 ≤ k && k ≤ 0x015 then s.setSel (.ctx c) (k - 0x010) (w.toNat % 2 ^ selWidth (k - 0x010)) else s

/-- CTX_SEL and WIN_SEL are reserved to CTX0 (R136). -/
def selReserved (n : Nat) (c : Cid) : Bool := (n = 2 || n = 3) && c ≠ 0

/-- The trap of a CSRW (R98, R136): an image of a selector is judged by its channel field. -/
def csrTrap (c : Cid) (index : Nat) (w : Word) : Option (Nat × Nat) :=
  if 0x010 ≤ index && index ≤ 0x015 then
    let n := index - 0x010
    if selReserved n c then some (Cause.PRIV, 0)
    else if selCount n ≤ w.toNat % 2 ^ selWidth n then some (Cause.SEL_RANGE, n) else none
  else none

/-- CSRR. -/
def execCsrr (rd rs1 rs2 : RegNo) (sel : BitVec 14) (s : State) : Host.Outcome State Fault Refusal :=
  .next (s.runInstr fun t c _ =>
    if rs1 ≠ 0 || rs2 ≠ 0 || 2 ^ 12 ≤ sel.toNat then .illegal t 1
    else match t.csr c sel.toNat with
      | none => .illegal t 4
      | some w => .done ((t.csrReadEffect c sel.toNat).setX c rd w) 1)

/-- CSRW: rd takes the old value. -/
def execCsrw (rd rs1 rs2 : RegNo) (sel : BitVec 14) (s : State) : Host.Outcome State Fault Refusal :=
  .next (s.runInstr fun t c _ =>
    let w := (t.ctx c).getX rs1
    if rs2 ≠ 0 || 2 ^ 12 ≤ sel.toNat then .illegal t 1
    else match t.csr c sel.toNat with
      | none => .illegal t 4
      | some old =>
        match csrTrap c sel.toNat w with
        | some e => .trap t e.1 e.2 0 0
        | none => .done (((t.csrReadEffect c sel.toNat).csrWrite c sel.toNat w).setX c rd old) 1)

/-- SELCH: the sum is judged as a whole 32-bit value (R98, R135, R136). -/
def execSelch (rd rs1 rs2 : RegNo) (sel : BitVec 14) (s : State) : Host.Outcome State Fault Refusal :=
  .next (s.runInstr fun t c _ =>
    let n := bitsAt sel.toNat 8 3
    let v := ((t.ctx c).getX rs1 + BitVec.ofNat 32 (sel.toNat % 256)).toNat
    if rs2 ≠ 0 || 2 ^ 11 ≤ sel.toNat then .illegal t 1
    else if 6 ≤ n then .illegal t 2
    else if selReserved n c then .trap t Cause.PRIV 0 0 0
    else if selCount n ≤ v then .trap t Cause.SEL_RANGE n 0 0
    else .done ((t.setSel (.ctx c) n v).setX c rd (BitVec.ofNat 32 (t.selOf (.ctx c) n))) 1)

/-! ## Events -/

/-- WAITE and SLEEP: the enabled pending events, or a wait for one (R71, R74). -/
def State.awaitEvents (s : State) (c : Cid) (rd : RegNo) (w : Wait) : Did :=
  let hit := (s.ctx c).evpend &&& (s.ctx c).evmask
  if hit ≠ 0 then .done (s.setX c rd hit) 1 else .wait s w 0

/-- WAITE. -/
def execWaite (rd rs1 rs2 : RegNo) (sel : BitVec 14) (s : State) : Host.Outcome State Fault Refusal :=
  .next (s.runInstr fun t c _ =>
    if rs1 ≠ 0 || rs2 ≠ 0 || sel ≠ 0 then .illegal t 1 else t.awaitEvents c rd .event)

/-- SLEEP (R137, R141). -/
def execSleep (rd rs1 rs2 : RegNo) (sel : BitVec 14) (s : State) : Host.Outcome State Fault Refusal :=
  .next (s.runInstr fun t c _ =>
    let k := ((t.ctx c).getX rs1).toNat % 8
    if rs2 ≠ 0 || sel ≠ 0 then .illegal t 1
    else if k = 0 || 5 ≤ k then .illegal t 2
    else if k = 4 && c ≠ 0 then .trap t Cause.PRIV 0 0 0
    else t.awaitEvents c rd (.sleep k))

/-- YIELD (R138): it stands aside while a higher-numbered context is READY, once. -/
def execYield (rd rs1 rs2 : RegNo) (sel : BitVec 14) (s : State) : Host.Outcome State Fault Refusal :=
  .next (s.runInstr fun t c _ =>
    let v := t.ctx c
    let others := allCtx.filter fun d => c < d && (t.ctx d).state = .ready
    if rd ≠ 0 || rs1 ≠ 0 || rs2 ≠ 0 || sel ≠ 0 then .illegal t 1
    else if v.yielded || others = [] || v.evpend &&& v.evmask ≠ 0 then .done t 2
    else .wait t (.yield others) 0)

/-- FENCE (R139). -/
def execFence (rd rs1 rs2 : RegNo) (sel : BitVec 14) (s : State) : Host.Outcome State Fault Refusal :=
  .next (s.runInstr fun t c _ =>
    let cls := BitVec.ofNat 3 sel.toNat
    if rd ≠ 0 || rs1 ≠ 0 || rs2 ≠ 0 || 8 ≤ sel.toNat then .illegal t 1
    else if t.fenceOver c cls then .done t 1
    else .wait t (.fence cls) 0)

/-- RETE: STATUS := ESTATUS, but for its read-only bits, and pc := EPC (R85). -/
def execRete (rd rs1 rs2 : RegNo) (sel : BitVec 14) (s : State) : Host.Outcome State Fault Refusal :=
  .next (s.runInstr fun t c _ =>
    if rd ≠ 0 || rs1 ≠ 0 || rs2 ≠ 0 || sel ≠ 0 then .illegal t 1
    else .jump (t.modCtx c fun v => { v with status := statusWith v.status v.estatus }) (t.ctx c).epc 2)

/-- TRAP: a SOFT trap with its code (R84). -/
def execTrap (rd : RegNo) (z : BitVec 4) (imm : BitVec 18) (s : State) : Host.Outcome State Fault Refusal :=
  .next (s.runInstr fun t _ _ =>
    if rd ≠ 0 || z ≠ 0 || 2 ^ 16 ≤ imm.toNat then .illegal t 1 else .trap t Cause.SOFT imm.toNat 0 0)

end Sys2Proof.Machine
end

