-- ==== Sys2Proof/Machine/Device.lean ====
section
/-! DEFINITION. Device instructions MEAS, BAL, SNAP, SEND and RECV (R148 to R164, R424, R440, R447). -/

namespace Sys2Proof.Machine

/-! ## MEAS, BAL, SNAP -/

/-- MEAS (R148 to R152). -/
def State.meas' (s : State) (c : Cid) (rd : RegNo) (rs1 : Word) (sel : Nat) : Did :=
  let start := sel % 8
  let mask := rs1.toNat % 2 ^ 16
  let study := rs1.toNat / 2 ^ 16
  let k : Fin 4 := Fin.ofNat 4 (start - 1)
  let give := fun (r : State × Nat) => Did.done (r.1.setX c rd (BitVec.ofNat 32 r.2)) 2
  if 5 ≤ start then .illegal s 2
  else if bitAt sel 3 then give (s.measCancel mask)
  else if start = 0 then give (s.measArm mask study none)
  else if !s.rtcArmed k.val || s.rtcTarget k.val ≤ s.rackNow then give (s, 0x80000000)
  else give (s.measArm mask study (some k))

def execMeas (rd rs1 rs2 : RegNo) (sel : BitVec 14) (s : State) : Host.Outcome State Fault Refusal :=
  .next (s.runInstr fun t c _ =>
    if rs2 ≠ 0 || 16 ≤ sel.toNat then .illegal t 1 else t.meas' c rd ((t.ctx c).getX rs1) sel.toNat)

/-- BAL (R153 to R155). -/
def State.bal' (s : State) (c : Cid) (rd : RegNo) (rs1 rs2 : Word) (sel : Nat) : Did :=
  let cell := sel % 16
  let op := bitsAt sel 4 3
  let k : Fin 6 := Fin.ofNat 6 ((cell - 1) / 2)
  if !s.hasCells then .illegal s 3
  else if cell = 0 || 12 < cell || 5 ≤ op then .illegal s 2
  else
    let bound := s.fld Reg.BAL_CUR.BOUND k
    match op with
    | 0 => .done ((s.stopShuttle k).setX c rd (BitVec.ofNat 32 bound)) 2
    | 3 => .done ((s.bleedOn cell rs1.toNat).setX c rd 0) 2
    | 4 => .done ((s.bleedOff cell).setX c rd 0) 2
    | _ => .done ((s.startShuttle k op cell rs1.toNat (rs2.toNat % 2 ^ 11)).setX c rd (BitVec.ofNat 32 bound)) 2

def execBal (rd rs1 rs2 : RegNo) (sel : BitVec 14) (s : State) : Host.Outcome State Fault Refusal :=
  .next (s.runInstr fun t c _ =>
    if 2 ^ 7 ≤ sel.toNat then .illegal t 1 else t.bal' c rd ((t.ctx c).getX rs1) ((t.ctx c).getX rs2) sel.toNat)

/-- SNAP (R156, R317 to R319). -/
def execSnap (rd rs1 rs2 : RegNo) (sel : BitVec 14) (s : State) : Host.Outcome State Fault Refusal :=
  .next (s.runInstr fun t c _ =>
    if rs1 ≠ 0 || rs2 ≠ 0 || 8 ≤ sel.toNat then .illegal t 1
    else if !sel.getLsbD 0 then .done ((t.latchLocal 1).setX c rd (BitVec.ofNat 32 t.snap.localNo)) 2
    else if !t.isManager then .illegal t 3
    else match t.snapRack (Fin.ofNat 4 (sel.toNat / 2)) with
      | some (n, u) => .done (u.setX c rd (BitVec.ofNat 32 n)) 2
      | none => .done (t.setX c rd 0xFFFFFFFF) 2)

/-! ## SEND -/

/-- The trap of a type the context may not send (Table 4-7): cause and detail. -/
def State.typeTrap (s : State) (c : Cid) (t : Nat) : Option (Nat × Nat) :=
  if t = 0 || t = 6 then none
  else if t = 1 || t = 2 then (if c = 0 then none else some (Cause.PRIV, 0))
  else if t = 3 || t = 5 || t = 7 || t = 12 then (if s.isManager then none else some (Cause.ILLEGAL, 3))
  else some (Cause.ILLEGAL, 6)

/-- Some frame of this tag is still in a port. -/
def State.tagBusy (s : State) (t : Nat) : Bool :=
  (xlink :: allPorts).any fun p =>
    let v := s.port p
    (v.queue.any fun i => i.use = .program t) || (v.cur.any fun i => i.use = .program t) ||
      v.outs.any fun o => o.item.use = .program t

/-- The tags of free transmit slots. -/
def State.freeTags (s : State) : List Nat := ((List.range 15).map (· + 1)).filter fun t => !s.tagBusy t

/-- Where the words of a payload are, or what prevents reading them (R160). DESIGN CHOICE (log 11): word by word from the lowest address,
so that the first word that faults or waits for its NVM sector (R95) decides. -/
def State.checkPayload (s : State) (c : Cid) (va : Nat) : Nat → Except Stop (List Nat)
  | 0 => .ok []
  | n + 1 =>
    let a : Reach := ⟨va, 4, false, 0, false, true⟩
    match s.place c.val a with
    | .stop cause win => .error (placeTrap s a cause win)
    | .away win => .error (placeTrap s a Cause.WIN_PERM win)
    | .here pa win =>
      match s.readStop a pa win with
      | some e => .error e
      | none =>
        match s.checkPayload c (va + 4) n with
        | .error e => .error e
        | .ok l => .ok (pa :: l)

/-- The words at these addresses, read in order. -/
def State.readWords (s : State) (c : Cid) : List Nat → State × List Byte
  | [] => (s, [])
  | pa :: rest =>
    let r := s.readAt (.ctx c) pa 4
    let t := r.2.readWords c rest
    (t.1, leBytes 4 r.1 ++ t.2)

/-- A frame given to one port without routing (R161, R440, R447): only a live port that is OPEN, or any live one for an ENUM. A TRIP ends a
Primer there and waits for the link (R467). -/
def State.sendOn (s : State) (p : Port) (f : Frame) (tag : Nat) : State :=
  if f.ftype = Ty.TRIP && s.inPrimer p then (s.abortPrimer p).await p (.of f (.program tag))
  else if s.linkAlive p && (f.ftype = Ty.ENUM || s.check p = 2) && !s.inPrimer p then s.enqueue p (.of f (.program tag))
  else s.txFail (.program tag) p

/-- The frame goes on every usable port; with none it fails (R440, R161). -/
def State.sendAll (s : State) (f : Frame) (tag : Nat) : State :=
  match allPorts.filter s.usable with
  | [] => s.txFail (.program tag) 0
  | l => forAll l (fun p t => t.enqueue p (.of f (.program tag))) s

/-- A TRIP originated here latches source 4 and may arm the follow-up (R320, Table 7-4). -/
def State.ownTrip (s : State) (f : Frame) : State :=
  if f.ftype = Ty.TRIP then
    let s := (s.latchTrip s.addr 0 true).raise Ev.TRIP_SEEN
    if s.isManager then s.followUp else s
  else s

/-- A program's frame is issued (R157, R424, R440, R447). -/
def State.issueFrame (s : State) (f : Frame) (direct : Option Port) (tag : Nat) : State :=
  if f.ftype = Ty.ENUM then
    s.sendOn (pathEntry f.payload 0) { f with hops := fieldOf f.payload 1 1 - 1, dest := 0 } tag
  else if s.isMine f.dest && !f.isBroadcast then
    let own := { f with lseq := Config.ownLseq s.free }
    let p := portOf (Config.ownPort s.free)
    ((s.draw.2.deliver own p).ownTrip f).txDone (.program tag) 0
  else match direct with
    | some p => (s.sendOn p f tag).ownTrip f
    | none => if f.isBroadcast then s.sendAll f tag else (s.sendRouted f (.program tag)).ownTrip f

/-- The frame a header word and payload give (R157). -/
def State.programFrame (s : State) (w : Nat) (b : List Byte) : Frame :=
  let hops := bitsAt w 22 6
  s.mkFrame (Fin.ofNat 16 (w / 2 ^ 28)) (if hops = 0 then s.defHops else hops) (bitsAt w 17 3) (bitAt w 16)
    (BitVec.ofNat 16 w) b

/-- SEND. -/
def State.send' (s : State) (c : Cid) (rd : RegNo) (rs1 rs2 : Word) (sel : Nat) : Did :=
  let len := sel % 2 ^ 7
  let ty := rs1.toNat / 2 ^ 28
  let va := rs2.toNat
  if 64 < len then .illegal s 2
  else match s.typeTrap c ty with
  | some e => .trap s e.1 e.2 0 0
  | none =>
    if ty = 7 && len < 36 then .illegal s 2
    else if va % 4 ≠ 0 then .trap s Cause.ALIGN (trapDetail 0xF 0 0) va 0
    else match s.freeTags with
    | [] => .done (s.setX c rd 0) 3
    | tags =>
      match s.checkPayload c va ((len + 3) / 4) with
      | .error e => e.did 0
      | .ok l =>
        let r := s.readWords c l
        let b := r.2.take len
        if ty = 7 && (fieldOf b 1 1 = 0 || 64 < fieldOf b 1 1) then .illegal s 2
        else if ty = 5 && fieldOf b 0 1 = 1 && len ≠ 0 && !s.seal9 then .trap s Cause.PRIV 0 0 0
        else
          let d := r.1.draw
          let tag := tags.getD (Config.slotChoice d.1 % tags.length) 0
          let direct := if bitAt sel 7 then some (portOf (bitsAt sel 8 2)) else none
          .done ((d.2.issueFrame (s.programFrame rs1.toNat b) direct tag).setX c rd (BitVec.ofNat 32 tag)) (3 + (len + 3) / 4)

def execSend (rd rs1 rs2 : RegNo) (sel : BitVec 14) (s : State) : Host.Outcome State Fault Refusal :=
  .next (s.runInstr fun t c _ =>
    if 2 ^ 10 ≤ sel.toNat then .illegal t 1 else t.send' c rd ((t.ctx c).getX rs1) ((t.ctx c).getX rs2) sel.toNat)

/-! ## RECV -/

/-- The bytes RECV writes for a frame. -/
def recvBytes (r : RxFrame) : List Byte :=
  let n := r.frame.payload.length
  padTo (12 + (n + 3) / 4 * 4) (leBytes 4 (frameHeader r.frame) ++ leBytes 2 r.frame.src.toNat ++ leBytes 2 r.frame.lseq.toNat
    ++ [BitVec.ofNat 8 n, r.port, 0, 0] ++ r.frame.payload)

/-- Where the words of a buffer go: every word is checked before any is written (R162). -/
def State.checkBuffer (s : State) (c : Cid) (va : Nat) : List Word → Except Stop (List (Nat × Word))
  | [] => .ok []
  | w :: rest =>
    let a : Reach := ⟨va, 4, true, 1, false, true⟩
    match s.place c.val a with
    | .stop cause win => .error (placeTrap s a cause win)
    | .away win => .error (placeTrap s a Cause.WIN_PERM win)
    | .here pa _ =>
      match s.storeTrap c a pa w.toNat with
      | some e => .error e
      | none =>
        match s.checkBuffer c (va + 4) rest with
        | .error e => .error e
        | .ok l => .ok ((pa, w) :: l)

/-- RECV. -/
def State.recv' (s : State) (c : Cid) (rd : RegNo) (rs1 : Word) : Did :=
  let va := rs1.toNat
  if va % 4 ≠ 0 then .trap s Cause.ALIGN (trapDetail 0xF 1 0) va 0
  else match (s.ctx c).rx with
  | [] => .done (s.setX c rd 0xFFFFFFFF) 6
  | r :: rest =>
    let n := r.frame.payload.length
    match s.checkBuffer c va (wordsOf (3 + (n + 3) / 4) (recvBytes r)) with
    | .error e => e.did 0
    | .ok l =>
      let s := s.modCtx c fun v => { v with rx := rest }
      .done ((forAll l (fun e t => t.writeAt (.ctx c) e.1 4 e.2.toNat) s).setX c rd (BitVec.ofNat 32 n)) (6 + (n + 3) / 4)

def execRecv (rd rs1 rs2 : RegNo) (sel : BitVec 14) (s : State) : Host.Outcome State Fault Refusal :=
  .next (s.runInstr fun t c _ =>
    if rs2 ≠ 0 || sel ≠ 0 then .illegal t 1 else t.recv' c rd ((t.ctx c).getX rs1))

end Sys2Proof.Machine
end

