-- ==== Sys2Proof/Machine/Long.lean ====
section
/-! DEFINITION. The long instructions SCAN, MOVB, LOGB and RMOV, Table 4-8 (R165 to R175, R216, R217). One command runs one
unit and, after the last, the instruction's end; the resumption point after every other unit is left to whatever comes next (R166, R172). -/

namespace Sys2Proof.Machine

/-- R167 and the zero field: detail of the ILLEGAL trap, if any; their order is the model's (log 6). -/
def longIllegal (rd rs1 rs2 : RegNo) (freeRd zeros : Bool) : Option Nat :=
  if !zeros then some 1
  else if rs1 = 0 || rs2 = 0 || (rd = 0 && !freeRd) || rd = rs1 || rd = rs2 || rs1 = rs2 then some 5
  else none

/-- The side of the remote range an operand must lie on (step 2 of Table 5-1, R169); an operand not word-aligned fails step 1. -/
def sideTrap (s : State) (a : Reach) (remote : Bool) : Option Stop :=
  if a.va % 4 ≠ 0 then some (placeTrap s a Cause.ALIGN 0xF)
  else if isRemoteRange a.va ≠ remote then some (placeTrap s a Cause.WIN_PERM 0xF)
  else none

def unitReach (va : Nat) (store : Bool) : Reach := ⟨va, 4, store, 3, false, false⟩

/-- A local word to read: its address, or what prevents it. -/
def State.unitRead (s : State) (c : Cid) (va : Nat) : Except Stop Nat :=
  let a := unitReach va false
  match sideTrap s a false with
  | some e => .error e
  | none => match s.place c.val a with
    | .stop cause win => .error (placeTrap s a cause win)
    | .away win => .error (placeTrap s a Cause.WIN_PERM win)
    | .here pa win => match s.readStop a pa win with
      | some e => .error e
      | none => .ok pa

/-- A local word to write: its address, or what prevents it. -/
def State.unitWrite (s : State) (c : Cid) (va v : Nat) : Except Stop Nat :=
  let a := unitReach va true
  match sideTrap s a false with
  | some e => .error e
  | none => match s.place c.val a with
    | .stop cause win => .error (placeTrap s a cause win)
    | .away win => .error (placeTrap s a Cause.WIN_PERM win)
    | .here pa _ => match s.storeTrap c a pa v with
      | some e => .error e
      | none => .ok pa

/-- A register counted on by `n`, or the bytes left counted down. -/
def Ctx.move (v : Ctx) (r : RegNo) (n : Word) : Ctx := v.setX r (v.getX r + n)

/-- Cycles of an execution's start: none where the instruction goes on from a resumption point (R166). -/
def State.startCycles (s : State) (c : Cid) (i : Instr) : Nat := if (s.ctx c).cont = some i then 0 else 2

/-- After a unit: the instruction's end when none is left and the context still has the core, else the resumption point. -/
def State.afterUnit (s : State) (c : Cid) (i : Instr) (left n : Nat) (finish : State → Nat → Did) : Did :=
  if left = 0 && s.executing = some c then finish s n else .hold s n (some i)

/-! ## SCAN -/

/-- The end of a SCAN: its FINAL result has the CRC's own width (R473). -/
def State.scanEnd (c : Cid) (rd : RegNo) (poly : Nat) (final : Bool) (s : State) (n : Nat) : Did :=
  let result := fun (v : Ctx) => BitVec.ofNat 32 (Nat.xor (v.getX rd).toNat (crcFinal poly) % 2 ^ crcWidth poly)
  .done (if final then s.modCtx c fun v => v.setX rd (result v) else s) n

/-- One unit of a SCAN, of `left` bytes; `n` cycles are spent. -/
def State.scanUnit (s : State) (c : Cid) (rd rs1 rs2 : RegNo) (poly : Nat) (i : Instr) (left n : Nat)
    (finish : State → Nat → Did) : Did :=
  match s.unitRead c ((s.ctx c).getX rs1).toNat with
  | .error e => e.did n
  | .ok pa =>
    let r := s.readAt (.ctx c) pa 4
    let t := { r.2 with cvu := { r.2.cvu with scanAt := some (r.2.now + n) } }.modCtx c fun v =>
      ((v.setX rd (BitVec.ofNat 32 (crcBytes poly (v.getX rd).toNat (leBytes 4 r.1)))).move rs1 4).move rs2 (-4)
    t.afterUnit c i (left - 4) (n + 1) finish

/-- SCAN. -/
def execScan (rd rs1 rs2 : RegNo) (sel : BitVec 14) (s : State) : Host.Outcome State Fault Refusal :=
  .next (s.runInstr fun t c _ =>
    let left := ((t.ctx c).getX rs2).toNat
    match longIllegal rd rs1 rs2 false (decide (sel.toNat < 8)) with
    | some d => .illegal t d
    | none =>
      let i := Instr.scan rd rs1 rs2 sel
      let n := t.startCycles c i
      let finish := State.scanEnd c rd (sel.toNat % 4) (sel.getLsbD 2)
      if left % 4 ≠ 0 then .illegal t 2
      else if left = 0 then finish t n
      else t.scanUnit c rd rs1 rs2 (sel.toNat % 4) i left n finish)

/-! ## MOVB -/

/-- One unit of a MOVB, of `left` bytes. -/
def State.movbUnit (s : State) (c : Cid) (rd rs1 rs2 : RegNo) (i : Instr) (left n : Nat) : Did :=
  let v := s.ctx c
  match s.unitRead c (v.getX rs1).toNat with
  | .error e => e.did n
  | .ok src =>
    let r := s.readAt (.ctx c) src 4
    match s.unitWrite c (v.getX rd).toNat r.1 with
    | .error e => e.did n
    | .ok dst =>
      let t := r.2.modCtx c fun v => ((v.move rd 4).move rs1 4).move rs2 (-4)
      (t.writeAt (.ctx c) dst 4 r.1).afterUnit c i (left - 4) (n + 2) .done

/-- MOVB (R171: ascending, word by word). -/
def execMovb (rd rs1 rs2 : RegNo) (sel : BitVec 14) (s : State) : Host.Outcome State Fault Refusal :=
  .next (s.runInstr fun t c _ =>
    let left := ((t.ctx c).getX rs2).toNat
    match longIllegal rd rs1 rs2 false (decide (sel = 0)) with
    | some d => .illegal t d
    | none =>
      let i := Instr.movb rd rs1 rs2 sel
      let n := t.startCycles c i
      if left % 4 ≠ 0 then .illegal t 2
      else if left = 0 then .done t n
      else t.movbUnit c rd rs1 rs2 i left n)

/-! ## LOGB -/

/-- The handoff of a staged record (R165, R508). -/
def State.logbHand (s : State) (c : Cid) (rd : RegNo) (sel n : Nat) : Did :=
  if s.logbMayHand c then
    let v := s.ctx c
    let q := s.bbx.nextSeq
    let t := s.handoff (BitVec.ofNat 8 sel) (bitAt sel 8) (BitVec.ofNat 8 c.val) v.stage (some c)
    .done (t.modCtx c fun v => { v.setX rd (q.zeroExtend 32) with stage := [] }) n
  else .wait s .logb n

/-- The bytes of one word of the content, through whatever window serves it, for the LOGB `word` with
the values `opnd` of rs1 and rs2 (R147). -/
def State.logbRead (s : State) (c : Cid) (word : Word) (va opnd : Nat) : Except Stop (State × List Byte) :=
  let a := unitReach va false
  match s.resumed c a word opnd with
  | some (.ok (t, _, b)) => .ok (t, b)
  | some (.error e) => .error e
  | none => match s.place c.val a with
  | .stop cause win => .error (placeTrap s a cause win)
  | .away win => .error (s.sendAccess c win a word opnd 4 [])
  | .here pa win => match s.readStop a pa win with
    | some e => .error e
    | none =>
      let r := s.readAt (.ctx c) pa 4
      .ok (r.2, leBytes 4 r.1)

/-- One unit of a LOGB's copy, of `left` bytes; with none left, the handoff. -/
def State.logbUnit (s : State) (c : Cid) (rd rs1 rs2 : RegNo) (i : Instr) (sel left n : Nat) : Did :=
  if left = 0 then s.logbHand c rd sel n
  else
    let v := s.ctx c
    match s.logbRead c (wordOf 0x3A rd.val rs1.val rs2.val sel) (v.getX rs1 + 48 - v.getX rs2).toNat
        ((v.getX rs1).toNat + 2 ^ 32 * (v.getX rs2).toNat) with
    | .error e => e.did n
    | .ok (t, b) =>
      let t := t.modCtx c fun v => { v.move rs2 (-4) with stage := v.stage ++ b }
      t.afterUnit c i (left - 4) (n + 1) fun u m => u.logbHand c rd sel m

/-- LOGB (R165, R166, R170, R173). -/
def execLogb (rd rs1 rs2 : RegNo) (sel : BitVec 14) (s : State) : Host.Outcome State Fault Refusal :=
  .next (s.runInstr fun t c _ =>
    let left := ((t.ctx c).getX rs2).toNat
    match longIllegal rd rs1 rs2 true (decide (sel.toNat < 2 ^ 9)) with
    | some d => .illegal t d
    | none =>
      if left % 4 ≠ 0 || 48 < left || sel.toNat % 256 < 0x80 then .illegal t 2
      else
        let i := Instr.logb rd rs1 rs2 sel
        let n := t.startCycles c i
        if (t.ctx c).stage.length = 48 - left then t.logbUnit c rd rs1 rs2 i sel.toNat left n
        else (t.modCtx c fun v => { v.setX rs2 48 with stage := [] }).logbUnit c rd rs1 rs2 i sel.toNat 48 n)

/-! ## RMOV -/

/-- Local words of a transfer: their addresses, checked as reads or as writes of `data`. -/
def State.checkLocal (s : State) (c : Cid) (write : Bool) (va : Nat) : List Word → Except Stop (List (Nat × Word))
  | [] => .ok []
  | w :: rest =>
    match if write then s.unitWrite c va w.toNat else s.unitRead c va with
    | .error e => .error e
    | .ok pa => match s.checkLocal c write (va + 4) rest with
      | .error e => .error e
      | .ok l => .ok ((pa, w) :: l)

/-- The registers after a transfer of `n` bytes. -/
def Ctx.moved' (v : Ctx) (rd rs1 rs2 : RegNo) (n : Nat) : Ctx :=
  let w := BitVec.ofNat 32 n
  ((v.move rd w).move rs1 w).move rs2 (-w)

/-- A transfer of the RMOV `word` is sent: the local side is checked first, and read for the data sent; the request costs a cycle
(R166). -/
def State.rmovSend (s : State) (c : Cid) (word : Word) (out : Bool) (a : Reach) (near left win n : Nat) : Did :=
  let opnd := near + 2 ^ 32 * left
  let len := min (min left 48) ((s.win c.val win).limit - a.va)
  match s.checkLocal c (!out) near (List.replicate (len / 4) 0) with
  | .error e => e.did n
  | .ok l =>
    let r := if out then s.readWords c (l.map (·.1)) else (s, [])
    (r.1.sendAccess c win a word opnd len r.2).did (n + 1)

/-- An RMOV's next transfer: a transfer whose answer is in the slot is completed (R216), which costs a cycle however it ended (log 6), one on its way is waited for,
which costs none, any other is sent with its local data. `out` is DIR. The fault of rs1 comes first (log 6). -/
def State.rmovUnit (s : State) (c : Cid) (rd rs1 rs2 : RegNo) (out : Bool) (i : Instr) (n : Nat) : Did :=
  let v := s.ctx c
  let left := (v.getX rs2).toNat
  let near := (v.getX rd).toNat
  let a := unitReach (v.getX rs1).toNat out
  let word := wordOf 0x3B rd.val rs1.val rs2.val (if out then 1 else 0)
  let after := fun (t : State) (len : Nat) =>
    (t.modCtx c fun v => v.moved' rd rs1 rs2 len).afterUnit c i (left - len) (n + 1) .done
  match sideTrap s a true with
  | some e => e.did n
  | none => match s.resumed c a word (near + 2 ^ 32 * left) with
  | some (.error (.wait u w)) => (Stop.wait u w).did n
  | some (.error e) => e.did (n + 1)
  | some (.ok (t, r, b)) =>
    if out then after t r.len
    else match s.checkLocal c true near (wordsOf (b.length / 4) b) with
      | .error e => e.did n
      | .ok l => after (forAll l (fun e t => t.writeAt (.ctx c) e.1 4 e.2.toNat) t) b.length
  | none => match s.place c.val a with
    | .stop cause win => (placeTrap s a cause win).did n
    | .here _ win => (placeTrap s a Cause.WIN_PERM win).did n
    | .away win => s.rmovSend c word out a near left win n

/-- RMOV. -/
def execRmov (rd rs1 rs2 : RegNo) (sel : BitVec 14) (s : State) : Host.Outcome State Fault Refusal :=
  .next (s.runInstr fun t c _ =>
    let left := ((t.ctx c).getX rs2).toNat
    match longIllegal rd rs1 rs2 false (decide (sel.toNat < 2)) with
    | some d => .illegal t d
    | none =>
      let i := Instr.rmov rd rs1 rs2 sel
      let n := t.startCycles c i
      if left % 4 ≠ 0 then .illegal t 2
      else if left = 0 then .done t n
      else t.rmovUnit c rd rs1 rs2 (sel.getLsbD 0) i n)

end Sys2Proof.Machine
end

