-- ==== Sys2Proof/Machine/Dma.lean ====
section
/-! DEFINITION. Work of the DMA channels (R201 to R214): beats, and the ends of remote transfers. -/

namespace Sys2Proof.Machine

/-- The address of a side's next word after `done` bytes; a fixed side stays (R202). -/
def sideAt (fixed : Bool) (base done : Nat) : Nat := if fixed then base else (base + done) % 2 ^ 32

/-- The addresses of the `n` words of a side from `done` on; of a fixed side all are the same (log 17). -/
def sideWords (fixed : Bool) (base done n : Nat) : List Nat := (List.range n).map fun i => sideAt fixed base (done + 4 * i)

/-- One word of a data beat, through the owner's windows, which must grant D (Table 5-1). -/
def dmaReach (va : Nat) (store : Bool) : Reach := ⟨va, 4, store, if store then 1 else 0, true, false⟩

/-- Where a beat's word lies at home: a physical address, or the cause of the fault (R206). -/
def State.dmaLocal (s : State) (n : Fin 4) (store : Bool) (va : Nat) : Except Nat Nat :=
  match s.place (s.dmaOwner n) (dmaReach va store) with
  | .stop cause _ => .error cause
  | .away _ => .error Cause.WIN_PERM
  | .here pa _ => if !store && !isPage pa && s.eccHit pa then .error Cause.ECC else .ok pa

/-- All words of one side of a transfer. -/
def State.dmaLocals (s : State) (n : Fin 4) (store : Bool) : List Nat → Except Nat (List Nat)
  | [] => .ok []
  | va :: rest =>
    match s.dmaLocal n store va with
    | .error e => .error e
    | .ok pa => match s.dmaLocals n store rest with
      | .error e => .error e
      | .ok l => .ok (pa :: l)

/-- The words at these addresses, read in order by channel `n`. -/
def State.dmaRead (s : State) (n : Fin 4) : List Nat → State × List Byte
  | [] => (s, [])
  | pa :: rest =>
    let r := s.readAt (.dma n) pa 4
    let t := r.2.dmaRead n rest
    (t.1, leBytes 4 r.1 ++ t.2)

/-- A descriptor is complete (R202): STAT is written back, and the channel goes on at NEXT or is IDLE. -/
def State.dmaComplete (s : State) (n : Fin 4) (d : Desc) : State :=
  let ring := fun (t : State) => (t.setFlag Reg.DMA_STAT.DONE true n).raise (Ev.DMA0 + n.val)
  let s := s.dmaBack n 1 0
  let s := if d.ctrl.getLsbD 1 then ring s else s
  if d.ctrl.getLsbD 7 then s.startDesc n d.next 0
  else
    let s := (ring s).setFld Reg.DMA_STAT.STATE 0 n
    (s.setDma n { s.dmaCh n with desc := none, stopping := none, req := none, ans := none, waitRtc := none }).wakeFences

/-- `bytes` more have been moved: a beat boundary (R202, R209, R210). -/
def State.dmaMoved (s : State) (n : Fin 4) (d : Desc) (bytes : Nat) : State :=
  let done := s.fld Reg.DMA_CURN.VALUE n + bytes
  let s := (s.setFld Reg.DMA_CURN.VALUE done n).setDma n { s.dmaCh n with inBeat := false }
  match (s.dmaCh n).stopping with
  | some code => s.dmaHalt n code 0
  | none => if d.len ≤ done then s.dmaComplete n d else s

/-- What a beat of channel `n` writes, during which a stop waits for its boundary (R210); a reset leaves nothing to follow. -/
def State.inBeat (s : State) (n : Fin 4) (write : State → State) (after : State → State) : State :=
  let t := write (s.setDma n { s.dmaCh n with inBeat := true })
  if t.boot.inReset then t else after t

/-- A fault; an error met in NVM is also the black box's (R520). -/
def State.dmaEccFault (s : State) (n : Fin 4) (cause : Nat) (pa : Option Nat) : State :=
  let s := match pa with
    | some a => if cause = Cause.ECC && isNvm a then s.eccInNvm a else s
    | none => s
  s.dmaFault n cause

/-- The physical address of a source word, for R520's report. -/
def State.dmaHome (s : State) (n : Fin 4) (va : Nat) : Option Nat :=
  match s.place (s.dmaOwner n) (dmaReach va false) with
  | .here pa _ => some pa
  | _ => none

/-- The first of these words with an uncorrectable error. -/
def State.dmaBadWord (s : State) (n : Fin 4) (l : List Nat) : Option Nat :=
  (l.filterMap (s.dmaHome n)).find? s.eccHit

/-- The next beat or transfer of a channel (R202, R203, R205). DESIGN CHOICE (log 17): where both sides of a local beat fail, the cause is
that of the source's steps 1 to 8, then the destination's, then the source's ECC (R206 orders the checks of one access). -/
def State.dmaBeat (s : State) (n : Fin 4) (d : Desc) : State :=
  let done := s.fld Reg.DMA_CURN.VALUE n
  let fixS := d.ctrl.getLsbD 2
  let fixD := d.ctrl.getLsbD 3
  let src := sideAt fixS d.src done
  let dst := sideAt fixD d.dst done
  let c := s.dmaOwner n
  let left := d.len - done
  let room := fun (w va : Nat) => min (min left 48) ((s.win c w).limit - va)
  if d.len ≤ done then s.dmaComplete n d
  else match s.place c (dmaReach src false), s.place c (dmaReach dst true) with
  | .stop cause _, _ => s.dmaFault n cause
  | _, .stop cause _ => s.dmaFault n cause
  | .here pa _, .here qa _ =>
    if !isPage pa && s.eccHit pa then s.dmaEccFault n Cause.ECC (some pa)
    else
      s.inBeat n (fun t =>
        let r := t.readAt (.dma n) pa 4
        (r.2.writeAt (.dma n) qa 4 r.1).advance 2) fun t => t.dmaMoved n d 4
  | .away w, .here _ _ =>
    match s.dmaLocals n true (sideWords fixD d.dst done (room w src / 4)) with
    | .error e => s.dmaFault n e
    | .ok _ => s.dmaRequest n (s.win c w) src false (room w src) []
  | .here _ _, .away w =>
    let l := sideWords fixS d.src done (room w dst / 4)
    match s.dmaLocals n false l with
    | .error e => s.dmaEccFault n e (s.dmaBadWord n l)
    | .ok pas =>
      let r := s.dmaRead n pas
      r.1.dmaRequest n (s.win c w) dst true (room w dst) r.2
  | .away w, .away u => s.dmaRequest n (s.win c w) src false (min (room w src) (room u dst)) []

/-- A word of the channel's next beat or transfer waits for an NVM sector being written (R95). -/
def State.dmaDelayed (s : State) (n : Fin 4) (d : Desc) : Bool :=
  let done := s.fld Reg.DMA_CURN.VALUE n
  let words := match s.place (s.dmaOwner n) (dmaReach (sideAt (d.ctrl.getLsbD 3) d.dst done) true) with
    | .away _ => min (d.len - done) 48 / 4
    | _ => 1
  ((sideWords (d.ctrl.getLsbD 2) d.src done words).filterMap (s.dmaHome n)).any fun pa => isNvm pa && s.sectorBusy pa

/-- The channel has a beat to make. -/
def State.dmaReady (s : State) (n : Fin 4) : Bool :=
  let v := s.dmaCh n
  s.hfo && s.dmaState n = 1 && v.req.isNone && v.ans.isNone && match v.desc with
    | some d => !s.dmaDelayed n d
    | none => false

/-- The ready channel that goes next: lowest owner, then lowest number (R203). -/
def State.dmaNext (s : State) : Option (Fin 4) :=
  (allDma.filter s.dmaReady).foldl (fun best n => match best with
    | none => some n
    | some m => if s.dmaOwner n < s.dmaOwner m then some n else some m) none

/-- DMA_BEAT. -/
def execDmaBeat (s : State) : Host.Outcome State Fault Refusal :=
  .next (match s.dmaNext with
    | some n => match (s.dmaCh n).desc with
      | some d => s.dmaBeat n d
      | none => s
    | none => s)

/-- The answer of a transfer is used: data are written at home, or sent on to the destination's node, as far as its window reaches now
(R186, R205). -/
def State.dmaTake (s : State) (n : Fin 4) (d : Desc) (r : Request) (a : Answer) : State :=
  let s := s.setDma n { s.dmaCh n with ans := none }
  let done := s.fld Reg.DMA_CURN.VALUE n
  let fixD := d.ctrl.getLsbD 3
  let dst := sideAt fixD d.dst done
  let c := s.dmaOwner n
  match a with
  | .data b =>
    match s.place c (dmaReach dst true) with
    | .stop cause _ => s.dmaFailed n cause
    | .away w =>
      if (s.dmaCh n).stopping.isSome then s.dmaStopNow n
      else
        let b := b.take (min b.length ((s.win c w).limit - dst))
        s.dmaRequest n (s.win c w) dst true b.length b
    | .here _ _ =>
      match s.dmaLocals n true (sideWords fixD d.dst done (b.length / 4)) with
      | .error e => s.dmaFailed n e
      | .ok l =>
        s.inBeat n (forAll (l.zip (wordsOf (b.length / 4) b)) fun e t => t.writeAt (.dma n) e.1 4 e.2.toNat) fun t =>
          t.dmaMoved n d b.length
  | .done => s.dmaMoved n d r.len
  | .refused _ => s.dmaFailed n Cause.REMOTE_NAK
  | .timeout => s.dmaFailed n Cause.REMOTE_TIMEOUT

/-- DMA_REMOTE_DONE: a channel takes the answer of its remote transfer. -/
def execDmaRemoteDone (n : Fin 4) (s : State) : Host.Outcome State Fault Refusal :=
  .next (match (s.dmaCh n).desc, (s.dmaCh n).ans with
    | some d, some (r, a) => s.dmaTake n d r a
    | _, _ => s)

end Sys2Proof.Machine
end

