-- ==== Sys2Proof/Machine/RegRows.lean ====
section
/-! DEFINITION. Accesses of the register bus as commands: plain reads and writes, and the writes that have a row of their own. A
row names the master and what it writes to its own field; who may write is judged for all alike. -/

namespace Sys2Proof.Machine

/-- The virtual address at which context `c` reaches a page offset, and the window: its lowest window that maps it, else the
physical address and 0xF (log 25). -/
def State.vaOf (s : State) (c : Cid) (off : Nat) : Nat × Nat :=
  let pa := 0x40000000 + off
  let hit := fun (w : Nat) =>
    let x := s.win c.val w
    let va := (x.vbase + 2 ^ 32 + pa - x.pbase) % 2 ^ 32
    if x.covers va && !x.isRemote then some (va, w) else none
  ((List.range 8).filterMap hit).headD (pa, 0xF)

/-- A register access that Table 5-1 or R98 traps: the context takes the trap (R84). `store` says that it is a write. -/
def State.busTrap (s : State) (c : Cid) (off : Nat) (store : Bool) (e : Nat × Nat) : State :=
  let at_ := s.vaOf c off
  let detail := if e.1 = Cause.SEL_RANGE then e.2 else trapDetail at_.2 (if store then 1 else 0) 0
  s.trap c e.1 detail at_.1 (s.ctx c).pc.toNat

/-- A write's effect, with the fields that it changes noted for this tick (R15). -/
def State.noted (s : State) (m : Master) (off : Nat) (effect : State → State) : State := s.writing (s.keyOf m off) effect

/-- What a write at page offset `off` comes to: a trap of the context, or a fault of the DMA channel, that makes it (R94, R72, R98, R206,
R213), nothing where the block is Off (R24) or serving may not write (Table 5-3), or its effect. -/
def State.busWrite (s : State) (m : Master) (off : Nat) (w : Word) (effect : State → State) : State :=
  match m with
  | .ctx c =>
    if onTestPage off then s.busTrap c off true (Cause.UNMAPPED, 0)
    else match s.writeTrap m off w with
    | some e => s.busTrap c off true e
    | none => if s.writeOff m off then s else s.noted m off effect
  | .dma n =>
    if onTestPage off then s.dmaFault n Cause.UNMAPPED
    else if s.writeOff m off then s
    else if s.unprivileged m && ctx0Only off then s.dmaFault n Cause.PRIV
    else s.noted m off effect
  | .host => if s.writeOff m off then s else s.noted m off effect
  | .served => if s.writeOff m off || [0x0, 0x9, 0xD, 0xE].contains (off / 0x1000) then s else s.noted m off effect

/-- What a read at page offset `off` leaves behind, or its trap or fault in the TEST page (R94, R213). -/
def State.busRead (s : State) (m : Master) (off : Nat) : State :=
  match m with
  | .ctx c => if onTestPage off then s.busTrap c off false (Cause.UNMAPPED, 0) else s.readEffect m off
  | .dma n => if onTestPage off then s.dmaFault n Cause.UNMAPPED else s.readEffect m off
  | _ => s.readEffect m off

/-- A whole-word write. -/
def State.busWord (s : State) (m : Master) (off : Nat) (w : Word) : State := s.busWrite m off w fun t => t.writeWord m off w

/-! ## Rows of chapter 0 and 3 -/

/-- REGISTER_WRITE. -/
def execRegisterWrite (m : Master) (off : BitVec 16) (v : Word) (s : State) : Host.Outcome State Fault Refusal :=
  .next (s.busWord m (off.toNat / 4 * 4) v)

/-- RC_READ: the read takes effect; what it returns is `readWord`'s. -/
def execRcRead (m : Master) (off : BitVec 16) (s : State) : Host.Outcome State Fault Refusal :=
  .next (s.busRead m (off.toNat / 4 * 4))

/-- LO_WORD_READ. -/
def execLoWordRead (m : Master) (off : BitVec 16) (s : State) : Host.Outcome State Fault Refusal :=
  .next (s.busRead m (off.toNat / 4 * 4))

/-- SELECTOR_WRITE at offset 0x800 of a page. -/
def execSelectorWrite (m : Master) (page : Fin 16) (v : Word) (s : State) : Host.Outcome State Fault Refusal :=
  .next (s.busWord m (0x1000 * page.val + 0x800) v)

def maskWord (mask : BitVec 8) : Word := mask.zeroExtend 32

def execCtxStart (m : Master) (mask : BitVec 8) (s : State) : Host.Outcome State Fault Refusal :=
  .next (s.busWrite m 0xD004 0 fun t => t.ctxStartWrite (maskWord mask))
def execCtxStop (m : Master) (mask : BitVec 8) (s : State) : Host.Outcome State Fault Refusal :=
  .next (s.busWrite m 0xD008 0 fun t => t.ctxStopWrite (maskWord mask))
def execEvRaise (m : Master) (mask : BitVec 8) (s : State) : Host.Outcome State Fault Refusal :=
  .next (s.busWrite m 0xD00C 0 fun t => t.evRaiseWrite (maskWord mask))

/-- CTX_SELECTED_WRITE at an offset of the CTX page's selected registers, 0x800 to 0x8FC. -/
def execCtxSelectedWrite (m : Master) (off : BitVec 8) (v : Word) (s : State) : Host.Outcome State Fault Refusal :=
  .next (s.busWord m (0xD800 + off.toNat / 4 * 4) v)

/-! ## Chapter 5 -/

def dmaGoAt (n : Fin 4) : Nat := 0xC008 + 0x40 * n.val

def execDmaStart (m : Master) (n : Fin 4) (s : State) : Host.Outcome State Fault Refusal :=
  .next (s.busWrite m (dmaGoAt n) 0 fun t => t.writeDmaGo m n 1)
def execDmaResume (m : Master) (n : Fin 4) (s : State) : Host.Outcome State Fault Refusal :=
  .next (s.busWrite m (dmaGoAt n) 0 fun t => t.writeDmaGo m n 2)
def execDmaHalt (m : Master) (n : Fin 4) (s : State) : Host.Outcome State Fault Refusal :=
  .next (s.busWrite m (dmaGoAt n) 0 fun t => t.writeDmaGo m n 4)

/-! ## Chapters 6 to 8 -/

def execSentStWrite (m : Master) (v : Word) (s : State) : Host.Outcome State Fault Refusal :=
  .next (s.busWord m 0x206C v)

/-- SENT_CFG_WRITE: SENT_OV, SENT_UV or SENT_CFG. -/
def execSentCfgWrite (m : Master) (r : Fin 3) (v : Word) (s : State) : Host.Outcome State Fault Refusal :=
  .next (s.busWord m (0x2060 + 4 * r.val) v)

def execRtcLoWrite (m : Master) (k : Fin 4) (v : Word) (s : State) : Host.Outcome State Fault Refusal :=
  .next (s.busWrite m (0x3040 + 8 * k.val) v fun t => t.writeRtcLo k v.toNat)
def execRtcHiWrite (m : Master) (k : Fin 4) (v : Word) (s : State) : Host.Outcome State Fault Refusal :=
  .next (s.busWrite m (0x3044 + 8 * k.val) v fun t => t.writeRtcHi k v.toNat)
def execRtcDisarm (m : Master) (mask : BitVec 4) (s : State) : Host.Outcome State Fault Refusal :=
  .next (s.busWord m 0x3034 (mask.zeroExtend 32))
def execSnapGo (m : Master) (k : Fin 4) (s : State) : Host.Outcome State Fault Refusal :=
  .next (s.busWrite m 0x3060 0 fun t => t.snapGo k)
def execSnapTripRel (m : Master) (s : State) : Host.Outcome State Fault Refusal :=
  .next (s.busWrite m 0x3060 0 fun t => t.writeSnapCtl 8)
def execSnapAck (m : Master) (s : State) : Host.Outcome State Fault Refusal :=
  .next (s.busWrite m 0x3060 0 fun t => t.writeSnapCtl 16)
def execBalCeilWrite (m : Master) (k : Fin 6) (v : Word) (s : State) : Host.Outcome State Fault Refusal :=
  .next (s.busWrite m 0x4818 v fun t => t.writeCeil k v.toNat)

/-! ## Chapters 9 and 10 -/

/-- SIDE_TX_GO: PORT_SIDETX_HI of port `p` is written with GO. -/
def execSideTxGo (m : Master) (p : Fin 4) (v : Word) (s : State) : Host.Outcome State Fault Refusal :=
  .next (s.busWrite m 0x5818 v fun t => t.sideGo (portOf p.val) (v ||| 0x10000).toNat)
def execPortCtlStart (m : Master) (p : Fin 4) (s : State) : Host.Outcome State Fault Refusal :=
  .next (s.busWrite m 0x5804 0 fun t => t.ctlStart (portOf p.val))
def execPortCtlWake (m : Master) (p : Fin 4) (s : State) : Host.Outcome State Fault Refusal :=
  .next (s.busWrite m 0x5804 0 fun t => t.ctlWake (portOf p.val))
def execPortCtlEnWrite (m : Master) (p : Fin 4) (en : Bool) (s : State) : Host.Outcome State Fault Refusal :=
  .next (s.busWrite m 0x5804 0 fun t => t.ctlEn (portOf p.val) en)
def execFabRecheck (m : Master) (mask : BitVec 4) (s : State) : Host.Outcome State Fault Refusal :=
  .next (s.busWrite m 0x6018 0 fun t => t.recheck mask.toNat)
def execPrimerStart (m : Master) (mask : BitVec 4) (s : State) : Host.Outcome State Fault Refusal :=
  .next (s.busWrite m 0x6300 0 fun t => t.ltPrimer mask.toNat)
def execPrimerStop (m : Master) (mask : BitVec 4) (s : State) : Host.Outcome State Fault Refusal :=
  .next (s.busWrite m 0x6300 0 fun t => t.ltStop mask.toNat)
def execLtCycle (m : Master) (s : State) : Host.Outcome State Fault Refusal :=
  .next (s.busWrite m 0x6300 0 fun t => t.ltCycle)

/-! ## Chapters 11 and 12 -/

def execCvuGo (m : Master) (mask : BitVec 8) (s : State) : Host.Outcome State Fault Refusal :=
  .next (s.busWrite m 0x7004 0 fun t => t.cvuGo mask.toNat)
def execCvuAvin (m : Master) (v : Word) (s : State) : Host.Outcome State Fault Refusal :=
  .next (s.busWrite m 0x7010 v fun t => t.avin v.toNat)
def execCvuAvcfgGo (m : Master) (v : Word) (s : State) : Host.Outcome State Fault Refusal :=
  .next (s.busWrite m 0x7018 v fun t => t.avcfg (v ||| 0x80000000).toNat)

/-- BBX_RDREQ with GO. -/
def execBbxRdreqGo (m : Master) (v : Word) (s : State) : Host.Outcome State Fault Refusal :=
  .next (s.busWord m 0x8080 (v ||| 0x80000000))
def execBbxAckWrite (m : Master) (seq : BitVec 16) (all : Bool) (s : State) : Host.Outcome State Fault Refusal :=
  .next (s.busWrite m 0x8010 0 fun t => t.bbxAck seq all)
def execBbxShctlRelease (m : Master) (u d : Bool) (s : State) : Host.Outcome State Fault Refusal :=
  .next (s.busWrite m 0x8014 0 fun t =>
    let t := if u then t.release 1 else t
    if d then t.release 2 else t)

/-! ## Chapters 13 and 14 -/

def execSafeAck (m : Master) (s : State) : Host.Outcome State Fault Refusal :=
  .next (s.busWrite m 0x900C 0 fun t => t.safeAck)
def execSafeTrconf (m : Master) (s : State) : Host.Outcome State Fault Refusal :=
  .next (s.busWrite m 0x900C 0 fun t => t.trconf)
def execSafeDemandWrite (m : Master) (v : Bool) (s : State) : Host.Outcome State Fault Refusal :=
  .next (s.busWrite m 0x900C 0 fun t => t.writeDemand v)
def execPairack (m : Master) (mask : BitVec 4) (s : State) : Host.Outcome State Fault Refusal :=
  .next (s.busWrite m 0x900C 0 fun t => t.pairAck mask.toNat)
def execPermitWrite (m : Master) (v : Bool) (s : State) : Host.Outcome State Fault Refusal :=
  .next (s.busWrite m 0x9020 0 fun t => t.permit v)
def execSafeConWrite (m : Master) (v : BitVec 4) (s : State) : Host.Outcome State Fault Refusal :=
  .next (s.busWrite m 0x9030 0 fun t => t.writeCon v.toNat)
def execSealedWrite (m : Master) (key : BitVec 16) (s : State) : Host.Outcome State Fault Refusal :=
  .next (s.busWrite m 0x9074 0 fun t => t.sealWrite key.toNat)
def execSfuForm (m : Master) (slot : Fin 16) (d : BitVec 6) (s : State) : Host.Outcome State Fault Refusal :=
  .next (s.busWrite m 0x9108 0 fun t => t.sfuRun (.form slot.val d.toNat))
def execSfuCheck (m : Master) (slot : Fin 16) (s : State) : Host.Outcome State Fault Refusal :=
  .next (s.busWrite m 0x9108 0 fun t => t.sfuRun (.check slot.val))
def execSfuArmWrite (m : Master) (v : BitVec 16) (s : State) : Host.Outcome State Fault Refusal :=
  .next (s.busWrite m 0x9110 0 fun t => t.sfuArm v.toNat)
def execVoteCommit (m : Master) (s : State) : Host.Outcome State Fault Refusal :=
  .next (s.busWrite m 0x9120 0 fun t => t.voteCommit)

/-! ## Chapter 15 -/

def execJoin (m : Master) (capseq : BitVec 16) (s : State) : Host.Outcome State Fault Refusal :=
  .next (s.busWrite m 0xA008 0 fun t => t.join capseq.toNat)
def execLeave (m : Master) (s : State) : Host.Outcome State Fault Refusal :=
  .next (s.busWrite m 0xA008 0 fun t => t.leave)
def execUnlock (m : Master) (s : State) : Host.Outcome State Fault Refusal :=
  .next (s.busWrite m 0xA008 0 fun t => t.unlock)
def execCapinGo (m : Master) (v : Word) (s : State) : Host.Outcome State Fault Refusal :=
  .next (s.busWrite m 0xA044 v fun t => t.writeCapin (v ||| 0x80000000))
def execFormRs (m : Master) (t : Fin 64) (d : BitVec 6) (s : State) : Host.Outcome State Fault Refusal :=
  .next (s.busWrite m 0xA0C0 0 fun u => u.sfuRun (.formRs t.val d.toNat))
def execFormCmd (m : Master) (t : Fin 64) (d : BitVec 6) (s : State) : Host.Outcome State Fault Refusal :=
  .next (s.busWrite m 0xA0C0 0 fun u => u.sfuRun (.formCmd t.val d.toNat))
def execCheckSt (m : Master) (t : Fin 64) (s : State) : Host.Outcome State Fault Refusal :=
  .next (s.busWrite m 0xA0C0 0 fun u => u.sfuRun (.checkSt t.val))
def execRackTarmWrite (m : Master) (k : Fin 2) (v : Word) (s : State) : Host.Outcome State Fault Refusal :=
  .next (s.busWrite m (0xA0C8 + 4 * k.val) v fun t => t.trayArm k.val v.toNat)

/-! ## Chapters 16 to 18 -/

def execWdkick (m : Master) (key : BitVec 16) (s : State) : Host.Outcome State Fault Refusal :=
  .next (s.busWrite m 0x1034 0 fun t => t.wdKick key.toNat)
def execHostBell (m : Master) (code : BitVec 16) (s : State) : Host.Outcome State Fault Refusal :=
  .next (s.busWrite m 0xB014 0 fun t => t.hostBell m code.toNat)
def execHostBellout (m : Master) (code : BitVec 16) (s : State) : Host.Outcome State Fault Refusal :=
  .next (s.busWrite m 0xB01C 0 fun t => t.hostBellout m code.toNat)
/-- HOST_MOUT_CTL is written with GO. -/
def execHostMoutGo (m : Master) (v : Word) (s : State) : Host.Outcome State Fault Refusal :=
  .next (s.busWrite m 0xB028 v fun t => t.runMout (v ||| 0x10000))
/-- SYS_CTL is written with RESET and a key. -/
def execSoftReset (m : Master) (key : BitVec 16) (s : State) : Host.Outcome State Fault Refusal :=
  .next (s.busWrite m 0x0020 0 fun t => t.writeSysCtl (key.toNat * 2 ^ 16 + 1))

end Sys2Proof.Machine
end

