-- ==== Sys2Proof/Machine/HostRows.lean ====
section
/-! DEFINITION. The host port: transactions word by word, their judgement and endings, and the streams (chapter 17). -/

namespace Sys2Proof.Machine

/-! ## Words and CRCs (R722, R724) -/

/-- HCRC: over CMD[31:8] and ADDR as seven bytes, most significant first. -/
def headerCrc (cmd addr : Word) : Nat := crc8 (beBytes 3 (cmd.toNat / 256) ++ beBytes 4 addr.toNat)

/-- WCRC and RCRC: over whole words, most significant byte first. -/
def wordsCrc (l : List Word) : Nat := crc32c (l.flatMap fun w => beBytes 4 w.toNat)

/-- CMD's fields (Table 17-1). -/
def cmdN (cmd : Word) : Nat := bitsAt cmd.toNat 16 7
def cmdTag (cmd : Word) : Nat := bitsAt cmd.toNat 8 8

/-- The operation of a CMD whose HCRC is correct, if its OP, N and reserved bits are valid (R729). -/
def cmdOp (cmd : Word) : Option HostOp :=
  let n := cmdN cmd
  let data := fun (o : HostOp) => if 1 ≤ n && n ≤ 64 then some o else none
  if bitsAt cmd.toNat 23 5 ≠ 0 then none
  else match bitsAt cmd.toNat 28 4 with
    | 1 => if n = 0 then some .nop else none
    | 2 => data .read
    | 3 => data .write
    | 4 => data .sread
    | 5 => data .swrite
    | _ => none

/-- W of Table 17-2. -/
def wordsExpected (op : HostOp) (n : Nat) : Nat :=
  match op with
  | .nop => 2
  | .read => n + 5
  | .sread => n + 5
  | .write => n + 3
  | .swrite => n + 3
  | .bad => 0

/-- STATUS (Table 17-3). -/
def State.statusWord (s : State) : Word :=
  BitVec.ofNat 32 (bit s.hfo 0 + bit s.alertN 1 + bit (s.flag Reg.HOST_ST.LASTOK) 2 + bit (s.hostPort.waiting ≠ []) 3
    + 2 ^ 8 * s.fld Reg.HOST_ST.LASTTAG + 2 ^ 16 * s.hostAlert + 2 ^ 28 * 0xA)

/-- RSTAT (Table 17-3). -/
def rstatWord (code index valid : Nat) : Word := BitVec.ofNat 32 (code + 2 ^ 8 * index + 2 ^ 16 * valid)

/-! ## Errors (R736) -/

/-- A bit of HOST_ERR is set and the event HOST_ERR is raised. -/
def State.hostErr (s : State) (f : Fld) : State := (s.setFlag f true).raise Ev.HOST_ERR

/-- A transaction is discarded for the reason of this bit. -/
def State.discard (s : State) (f : Fld) : State := (s.hostErr f).count Reg.HOST_DISC.COUNT

def State.setTrans (s : State) (t : Option Trans) : State := { s with hostPort := { s.hostPort with trans := t } }

/-- A transaction with nothing done yet. -/
def Trans.start (op : HostOp) (tag n : Nat) (sent : List Word) : Trans :=
  ⟨op, tag, wordsExpected op n, sent, [], [], [], false, false, 0, 0, false, false, false⟩

/-- The transaction at hand is discarded: its bit, its count, and no more of it. -/
def State.discardTrans (s : State) (f : Fld) (t : Trans) : State := (s.discard f).setTrans (some { t with failed := true })

/-! ## Regions and streams (R718, R726, Tables 17-4 and 17-5) -/

/-- The range of `n` words from `a` lies in [lo, hi). -/
def inRegion (lo hi a n : Nat) : Bool := lo ≤ a && a + 4 * n ≤ hi

def mayWriteAt (a n : Nat) : Bool := a % 4 = 0 && (inRegion 0 0x10000 a n || inRegion 0x40000000 0x4000F000 a n)

def mayReadAt (a n : Nat) : Bool := mayWriteAt a n || (a % 4 = 0 && inRegion 0x10000000 0x10020000 a n)

/-- An input stream allowed in this role. -/
def State.mayFeed (s : State) (stream : Nat) : Bool := stream = 0 || (s.isManager && (stream = 1 || stream = 2))

/-- An output stream allowed in this role. -/
def State.mayDrain (s : State) (stream : Nat) : Bool := stream = 8 || (s.isManager && (stream = 9 || stream = 10))

/-- The words in a stream. -/
def State.stream (s : State) (n : Nat) : List Word :=
  match n with
  | 0 => s.hostPort.loadIn
  | 1 => s.hostPort.msgIn
  | 2 => s.hostPort.winIn
  | 8 => s.hostPort.loadOut
  | 9 => s.hostPort.msgOut
  | 10 => s.winWords
  | _ => []

/-- An input stream, LOADOUT or MSGOUT holding other words. -/
def State.putStream (s : State) (n : Nat) (l : List Word) : State :=
  match n with
  | 0 => { s with hostPort := { s.hostPort with loadIn := l } }
  | 1 => { s with hostPort := { s.hostPort with msgIn := l } }
  | 2 => { s with hostPort := { s.hostPort with winIn := l } }
  | 8 => { s with hostPort := { s.hostPort with loadOut := l } }
  | 9 => { s with hostPort := { s.hostPort with msgOut := l } }
  | _ => s

/-- The messages of WINOUT without their first `n` words. -/
def withoutWords : Nat → List (BitVec 16 × List Word) → List (BitVec 16 × List Word)
  | _, [] => []
  | n, (t, l) :: rest => if l.length ≤ n then withoutWords (n - l.length) rest else (t, l.drop n) :: rest

/-- The first `k` words leave stream `n`. -/
def State.dropStream (s : State) (n k : Nat) : State :=
  if n = 10 then { s with hostPort := { s.hostPort with winOut := withoutWords k s.hostPort.winOut } } else s.putStream n ((s.stream n).drop k)

/-- Words an input stream can hold (Table 17-5). -/
def streamSize (n : Nat) : Nat := if n = 0 then 64 else 128

/-- Words of committed SWRITEs that still await their effect on the stream: their places are taken (log 26). -/
def State.promised (s : State) (n : Nat) : Nat :=
  ((s.hostPort.waiting.filter fun w => w.stream && w.target = n).map fun w => w.words.length).sum

/-- The first message of a stream: KIND, its bytes, and the words after it (R740). -/
def takeMessage : List Word → Option (Nat × List Byte × List Word)
  | [] => none
  | h :: t =>
    let len := h.toNat % 256
    let k := (len + 3) / 4
    if t.length < k then none
    else some (bitsAt h.toNat 8 8, ((t.take k).flatMap fun w => leBytes 4 w.toNat).take len, t.drop k)

/-- The words hold whole messages that a stream may carry (R740, R742); `fuel` bounds their number. -/
def wholeMessages (anyKind : Bool) : Nat → List Word → Bool
  | 0, l => l.isEmpty
  | fuel + 1, l =>
    match l with
    | [] => true
    | h :: t =>
      let len := h.toNat % 256
      h.toNat / 2 ^ 16 = 0 && len ≤ 64 && (anyKind || bitsAt h.toNat 8 8 = 0) && (len + 3) / 4 ≤ t.length
        && wholeMessages anyKind fuel (t.drop ((len + 3) / 4))

/-! ## Writes: judgement and effect (R731 to R733) -/

/-- Steps 3 to 7 of Table 17-4; `data` are the N data words, `wcrc` the word after them. -/
def State.writeCheck (s : State) (op : HostOp) (cmd addr : Word) (data : List Word) (wcrc : Word) : Option Fld :=
  let a := addr.toNat
  let n := cmdN cmd
  let placed := if op = .write then mayWriteAt a n else s.mayFeed a
  if !placed then some Reg.HOST_ERR.ADDR
  else if wordsCrc (cmd :: addr :: data) ≠ wcrc.toNat then some Reg.HOST_ERR.CRC
  else if op = .swrite && streamSize a < (s.stream a).length + s.promised a + n then some Reg.HOST_ERR.FULL
  else if op = .swrite && !wholeMessages (a = 1) n data then some Reg.HOST_ERR.FORMAT
  else if 2 ≤ s.hostPort.waiting.length then some Reg.HOST_ERR.FULL
  else none

/-- A WRITE or SWRITE: judged when WCRC is complete, with at least N + 1 words after ADDR. -/
def State.hostWriteWords (s : State) (op : HostOp) (cmd addr : Word) (rest : List Word) : State :=
  let n := cmdN cmd
  let t := Trans.start op (cmdTag cmd) n [s.statusWord]
  if rest.length ≤ n then s.setTrans (some t)
  else
    let data := rest.take n
    match s.writeCheck op cmd addr data (rest.getD n 0) with
    | some f => s.discardTrans f t
    | none =>
      let w : HostWrite := ⟨op = .swrite, addr.toNat, data⟩
      { s with hostPort := { s.hostPort with trans := some { t with committed := true }, waiting := s.hostPort.waiting ++ [w] } }

/-- A word at a physical address, written with the host's rights (R732, R739). -/
def State.hostPut (s : State) (a : Nat) (w : Word) : State := s.writeAt .host a 4 w.toNat

/-- Words written in ascending address order. -/
def State.hostPutAll (s : State) (a : Nat) : List Word → State
  | [] => s
  | w :: t => (s.hostPut a w).hostPutAll (a + 4) t

/-- Messages handed to the loader (R743). -/
def State.loadMessages : Nat → List Word → State → State
  | 0, _, s => s
  | fuel + 1, l, s =>
    match takeMessage l with
    | some (_, b, rest) => State.loadMessages fuel rest (s.takeProg .host b)
    | none => s

/-- The effect of a committed write. -/
def State.applyWrite (s : State) (w : HostWrite) : State :=
  if !w.stream then s.hostPutAll w.target w.words
  else if w.target = 0 then State.loadMessages w.words.length w.words s
  else s.putStream w.target (s.stream w.target ++ w.words)

/-- R721: EN is cleared once the transaction that wrote it has ended. -/
def State.finishDisable (s : State) : State :=
  if s.hostPort.disable then
    { s.setFlag Reg.HOST_CFG.EN false with hostPort := { s.hostPort with disable := false, selected := false, trans := none } }
  else s

/-- A committed write's transaction still runs. -/
def State.inWrite (s : State) : Bool :=
  match s.hostPort.trans with
  | some t => t.committed
  | none => false

/-- The first waiting write takes effect, or what is left of it, once HFO is stable (R719, R733). -/
def State.applyFirst (s : State) : State :=
  match s.hostPort.waiting with
  | [] => s
  | w :: rest =>
    if !s.hfo then s
    else
      let s := ({ s with hostPort := { s.hostPort with waiting := rest } } : State).applyWrite w
      if s.inWrite then s else s.finishDisable

/-- The next `n` words of the first waiting WRITE are written: it is not atomic against other masters (R732). -/
def State.applyWords (s : State) (n : Nat) : State :=
  match s.hostPort.waiting with
  | w :: rest =>
    if w.stream || n = 0 || !s.hfo then s
    else if w.words.length ≤ n then s.applyFirst
    else
      let left : HostWrite := { w with target := w.target + 4 * n, words := w.words.drop n }
      ({ s with hostPort := { s.hostPort with waiting := left :: rest } } : State).hostPutAll w.target (w.words.take n)
  | [] => s

/-- What the port writes of a waiting WRITE in `n` core cycles: how many words is free (R732; log 26). -/
def State.hostServe (s : State) (n : Nat) : State :=
  if s.hostPort.waiting = [] then s else { s with free := s.free + 1 }.applyWords (min n (Config.hostWords s.free))

/-! ## Reads (R726 to R730) -/

/-- One fetched word: `none` where it carries no data. -/
inductive Fetched where
  | late
  | ecc
  | word (w : Word)
  deriving DecidableEq, Repr

/-- The word at a physical address as the port fetches it, with the state whose latches the read would leave. -/
def State.hostFetch (s : State) (a : Nat) : Fetched × State :=
  if isPage a then
    let off := a - 0x40000000
    let t := if rcMask (s.keyOf .host off) = 0 then s.readEffect .host off else s
    (.word (s.readWord .host off), t)
  else if isNvm a && s.sectorBusy a then (.late, s)
  else if s.eccHit a then (.ecc, s)
  else (.word (s.word a), s)

/-- Two physical addresses lie in one SRAM bank of 16 KiB, both behind the NVM port, or in one register. -/
def sameUnit (a b : Nat) : Bool :=
  (isSram a && isSram b && a / 0x4000 = b / 0x4000) || (isNvm a && isNvm b) || (isPage a && isPage b && a / 4 = b / 4)

/-- Virtual addresses, each with whether it is written, that the instruction `w` takes next besides its fetch (Tables 4-3, 4-8): loads,
stores, SEND, RECV, and the present unit of a long instruction. -/
def Ctx.takes (v : Ctx) (w : Nat) : List (Nat × Bool) :=
  let reg := fun (lo : Nat) => (v.getX (Fin.ofNat 16 (w / 2 ^ lo))).toNat
  let data := v.dataAddr (Fin.ofNat 16 (w / 2 ^ 18)) (BitVec.ofNat 14 w)
  let words := fun (a n : Nat) (store : Bool) => (List.range n).map fun i => (a + 4 * i, store)
  match w / 2 ^ 26 with
  | 0x1A | 0x1B | 0x1C | 0x1D | 0x1E => [(data, false)]
  | 0x1F | 0x20 | 0x21 => [(data, true)]
  | 0x36 => words (reg 14) ((w % 2 ^ 7 + 3) / 4) false
  | 0x37 => words (reg 18) ((v.rx.head?.map fun r => 3 + (r.frame.payload.length + 3) / 4).getD 0) true
  | 0x38 => [(reg 18, false)]
  | 0x39 => [(reg 18, false), (reg 22, true)]
  | 0x3A => [((v.getX (Fin.ofNat 16 (w / 2 ^ 18)) + 48 - v.getX (Fin.ofNat 16 (w / 2 ^ 14))).toNat, false)]
  | 0x3B => words (reg 22) (min (reg 14) 48 / 4) (!bitAt w 0)
  | _ => []

/-- Where an access of context `c` goes at home. -/
def State.homeOf (s : State) (c : Nat) (r : Reach) : Option Nat :=
  match s.place c { r with va := r.va / 4 * 4 } with
  | .here pa _ => some pa
  | _ => none

/-- The physical address of the instruction at context `c`'s pc. -/
def State.codeAt (s : State) (c : Cid) : Option Nat := s.homeOf c.val ⟨(s.ctx c).pc.toNat, 4, false, 2, false, false⟩

/-- Physical addresses of what that instruction takes next. -/
def State.dataAt (s : State) (c : Cid) : List Nat :=
  match s.codeAt c with
  | some pa => ((s.ctx c).takes (s.word pa).toNat).filterMap fun e => s.homeOf c.val ⟨e.1, 4, e.2, if e.2 then 1 else 0, false, false⟩
  | none => []

/-- How many of a step's core cycles the executing context takes the bank, port or register of `a` in: its fetch, but for a long
instruction that goes on, and its data. -/
def State.coreClaims (s : State) (a : Nat) : Nat :=
  match s.executing with
  | some c =>
    let fetch := if s.holder = some c && (s.ctx c).cont.isSome then [] else (s.codeAt c).toList
    (fetch ++ s.dataAt c).countP (sameUnit · a)
  | none => 0

/-- How many of 32 core cycles a context that may run can take the bank or register of `a` in: all of them by fetching from that bank, or
by a SCAN or MOVB of so many words there, else every other one by data (R127, Tables 4-3, 4-8). -/
def State.coreHolds (s : State) (c : Cid) (a : Nat) : Nat :=
  let v := s.ctx c
  match s.codeAt c with
  | some pa =>
    let w := (s.word pa).toNat
    let left := (v.getX (Fin.ofNat 16 (w / 2 ^ 14))).toNat
    let n := (s.dataAt c).countP (sameUnit · a)
    if !v.isRunnable then 0
    else if sameUnit pa a then 32
    else if (w / 2 ^ 26 = 0x38 && n = 1 && 128 ≤ left) || (w / 2 ^ 26 = 0x39 && n = 2 && 64 ≤ left) then 32
    else if n ≠ 0 then 16
    else 0
  | none => 0

/-- How many of 32 core cycles an active DMA channel's beats, of a read and a write each, take the bank or register of `a` in (R203). -/
def State.dmaHolds (s : State) (n : Fin 4) (a : Nat) : Nat :=
  if s.dmaState n = 1 then
    match (s.dmaCh n).desc with
    | some d =>
      let done := s.fld Reg.DMA_CURN.VALUE n
      let sides := [dmaReach (sideAt (d.ctrl.getLsbD 2) d.src done) false, dmaReach (sideAt (d.ctrl.getLsbD 3) d.dst done) true]
      16 * (sides.filterMap (s.homeOf (s.dmaOwner n))).countP (sameUnit · a)
    | none => 0
  else 0

/-- How many of 32 core cycles served requests can take: 12 words of one that comes on each usable port (R189, R196). -/
def State.servedHolds (s : State) : Nat := 12 * (allPorts.countP s.usable)

/-- In how many of 32 core cycles other masters can hold the bank or register of `a` (log 26). -/
def State.held (s : State) (a : Nat) : Nat :=
  (allCtx.map (s.coreHolds · a)).foldl max 0 + (allDma.map (s.dmaHolds · a)).foldl max 0

/-- Other masters can hold the SRAM bank or register of `a` in every one of the 32 core cycles before a slot, against the host's fetch;
background work takes only cycles that no host access claims, and NVM delays a fetch by R95 alone (R93, R475, R727, R755). -/
def State.mayBeLate (s : State) (a : Nat) : Bool := !isNvm a && 32 ≤ s.held a + s.servedHolds

/-- How many of a READ's first words the writes that it waits for can make late: each takes at most 2 cycles a word and 1 µs while no other
master holds its target, and word `i` is due 32 (i + 1) SCK periods after ADDR (R723, R730, R732). -/
def State.waitLate (s : State) : Nat :=
  let held := s.hostPort.waiting.any fun w => !w.stream && (List.range w.words.length).any fun i => s.held (w.target + 4 * i) ≠ 0
  if held then 64 else ((s.hostPort.waiting.map fun w => 2 * w.words.length + us 1).sum + 31) / 32 - 1

/-- The N words of a READ, fetched in order; `late` names those that were not fetched in time, which other masters or the `wait` first
words' wait allow. -/
def State.hostFetchAll (late : List Nat) (wait : Nat) : Nat → Nat → Nat → State → List Fetched × State
  | 0, _, _, s => ([], s)
  | n + 1, i, a, s =>
    let r := if late.contains i && (decide (i < wait) || s.mayBeLate a) then (.late, s) else s.hostFetch a
    let t := State.hostFetchAll late wait n (i + 1) (a + 4) r.2
    (r.1 :: t.1, t.2)

def Fetched.data : Fetched → Word
  | .word w => w
  | _ => 0

def Fetched.isData : Fetched → Bool
  | .word _ => true
  | _ => false

/-- CODE and INDEX: those of the first word affected (R727). -/
def readCode : Nat → List Fetched → Nat × Nat
  | _, [] => (0, 0)
  | i, .late :: _ => (1, i)
  | i, .ecc :: _ => (4, i)
  | i, .word _ :: t => readCode (i + 1) t

/-- The words sent after STATUS: zero, the turnaround, the data, RSTAT and RCRC (R723, R724). -/
def misoWords (cmd addr status : Word) (data : List Word) (rstat : Word) : List Word :=
  [status, 0, 0] ++ data ++ [rstat, BitVec.ofNat 32 (wordsCrc (cmd :: addr :: (data ++ [rstat])))]

/-- What the READ returned of registers with RC fields, by key (R728). -/
def State.rcReturned (s : State) (a : Nat) (l : List Fetched) : List (Nat × Word) :=
  (List.range l.length).filterMap fun i =>
    let at_ := a + 4 * i
    let k := s.keyOf .host (at_ - 0x40000000)
    let dead := s.pageOff .host (at_ - 0x40000000)
    match l.getD i .late with
    | .word w => if isPage at_ && !dead && rcMask k ≠ 0 then some (k, w) else none
    | _ => none

/-- Addresses of the words with uncorrectable errors. -/
def eccFound (a : Nat) (l : List Fetched) : List Nat :=
  (List.range l.length).filterMap fun i => if l.getD i .late = .ecc then some (a + 4 * i) else none

/-- The host's own latches that differ from those of `s` (R81). -/
def heldBy (t : State) (a n : Nat) : List (Nat × Word) :=
  (List.range n).filterMap fun i =>
    let off := a + 4 * i - 0x40000000
    let k := holdKey .host (t.keyOf .host off + 4)
    if isPage (a + 4 * i) && latchesHi off then some (k, look regDefault t.latches k) else none

/-- A READ of an allowed range while HFO runs, after the STATUS of its CMD slot; its first `wait` words may be late by waiting. -/
def State.hostReadWords (s : State) (cmd addr status : Word) (late : List Nat) (wait : Nat) : State :=
  let n := cmdN cmd
  let a := addr.toNat
  let r := State.hostFetchAll late wait n 0 a s
  let code := readCode 0 r.1
  let rstat := rstatWord code.1 code.2 (r.1.countP Fetched.isData)
  let t := Trans.start .read (cmdTag cmd) n (misoWords cmd addr status (r.1.map Fetched.data) rstat)
  let held := heldBy r.2 a n
  { s with free := r.2.free }.setTrans (some { t with
    rc := s.rcReturned a r.1, hold := held, ecc := eccFound a r.1, short := code.1 ≠ 0, late := code.1 = 1 })

/-- A read that returns no data, for CODE: 2 ASLEEP, 3 ADDR. -/
def State.noRead (s : State) (op : HostOp) (cmd addr : Word) (code : Nat) : Trans :=
  let n := cmdN cmd
  let data : List Word := List.replicate n 0
  { Trans.start op (cmdTag cmd) n (misoWords cmd addr s.statusWord data (rstatWord code 0 0)) with short := op = .read && code = 2 }

/-- READ (R719, R726, R730): STATUS is formed before the writes that it waits for take effect (R733). -/
def State.hostRead (s : State) (cmd addr : Word) (late : List Nat) : State :=
  if !mayReadAt addr.toNat (cmdN cmd) then s.discardTrans Reg.HOST_ERR.ADDR (s.noRead .read cmd addr 3)
  else if !s.hfo then s.setTrans (some (s.noRead .read cmd addr 2))
  else s.applyFirst.applyFirst.sfuSettle.moutSettle.settleShuttles.hostReadWords cmd addr s.statusWord late s.waitLate

/-- SREAD (R719, R741). -/
def State.hostSread (s : State) (cmd addr : Word) : State :=
  let n := cmdN cmd
  let a := addr.toNat
  let s := s.moutSettle
  if !s.mayDrain a then s.discardTrans Reg.HOST_ERR.ADDR (s.noRead .sread cmd addr 3)
  else if !s.hfo then s.setTrans (some (s.noRead .sread cmd addr 2))
  else
    let got := (s.stream a).take n
    let data : List Word := got ++ List.replicate (n - got.length) 0
    let t := Trans.start .sread (cmdTag cmd) n (misoWords cmd addr s.statusWord data (rstatWord 0 0 got.length))
    s.setTrans (some { t with stream := a, taken := got.length })

/-! ## A transaction's words (R722, R723, R729) -/

/-- CMD, ADDR and what follows arrive on a selected, enabled port whose transaction has no words yet. -/
def State.transact (s : State) (cmd addr : Word) (rest : List Word) (late : List Nat) : State :=
  if !s.flag Reg.HOST_CFG.EN || !s.hostPort.selected || s.hostPort.trans.isSome then s
  else
    let bad := Trans.start .bad (cmdTag cmd) 0 [s.statusWord]
    if headerCrc cmd addr ≠ cmd.toNat % 256 then s.discardTrans Reg.HOST_ERR.HDRCRC bad
    else match cmdOp cmd with
      | none => s.discardTrans Reg.HOST_ERR.OP { bad with badWrite := bitsAt cmd.toNat 28 4 = 3 || bitsAt cmd.toNat 28 4 = 5 }
      | some .nop => s.setTrans (some (Trans.start .nop (cmdTag cmd) 0 [s.statusWord, 0]))
      | some .read => s.hostRead cmd addr late
      | some .sread => s.hostSread cmd addr
      | some op => s.hostWriteWords op cmd addr rest

/-! ## The end of a transaction (R728, R734 to R736, Table 17-6) -/

/-- An RC register after the host has read `got` of it: a counter loses what was returned, a flag is cleared if it was returned
as 1; the doorbells' codes are flags (R728). -/
def rcAfter (k : Nat) (old got : Word) : Word :=
  let bells := k = 0xB018 || k = 0xB020
  let f := fun (n : Nat) (d : FieldDesc) =>
    let o := bitsAt n d.lo d.width
    let g := bitsAt got.toNat d.lo d.width
    if d.acc ≠ .rc then n
    else withBits n d.lo d.width (if d.width = 1 || bells then Nat.xor o (Nat.land o g) else o - g)
  match descOf k with
  | some r => BitVec.ofNat 32 (r.fields.foldl f old.toNat)
  | none => old

/-- The effects of a completed READ. -/
def State.readComplete (s : State) (t : Trans) : State :=
  let s := forAll t.rc (fun e u => u.setReg e.1 (rcAfter e.1 (u.reg e.1) e.2)) s
  let s : State := { s with latches := t.hold.foldl (fun l e => put regDefault l e.1 e.2) s.latches }
  forAll (t.ecc.filter isNvm) (fun a u => u.eccInNvm a) s

/-- A transaction ended whole: it counts as committed or completed, with its effects; a LATE read has none (R755). -/
def State.transComplete (s : State) (t : Trans) : State :=
  if t.late then s else
  let s := if t.failed then s else s.count Reg.HOST_DONE.COUNT
  match t.op with
  | .read => if t.failed then s else s.readComplete t
  | .sread => if t.taken = 0 then s else s.dropStream t.stream t.taken
  | _ => s

/-- RSTAT has been sent: HOST_ERR.LATE follows its CODE (Table 17-10). -/
def State.lateFlag (s : State) (t : Trans) (edges : Nat) : State :=
  if t.short && 32 * (t.words - 1) ≤ edges then s.setFlag Reg.HOST_ERR.LATE true else s

def isWrite (op : HostOp) : Bool := op = .write || op = .swrite

/-- CS_N rises before the transaction's words are complete; what was discarded already counts once. -/
def State.cutOff (s : State) (edges : Nat) (counted : Bool) : State :=
  let f := if edges % 32 = 0 then Reg.HOST_ERR.EDGES else Reg.HOST_ERR.PARTIAL
  if counted then s.hostErr f else s.discard f

/-- The write transaction ends: LASTTAG and LASTOK, of one discarded for its OP too (R736). -/
def State.noteWrite (s : State) (t : Trans) : State :=
  if isWrite t.op || t.badWrite then (s.setFld Reg.HOST_ST.LASTTAG t.tag).setFlag Reg.HOST_ST.LASTOK t.committed else s

/-- The transaction at CS_N's rise after `edges` edges. A write is whole once it has been judged. -/
def State.transEnd (s : State) (t : Trans) (edges : Nat) : State :=
  let due := 32 * t.words
  let early := if isWrite t.op then !(t.committed || t.failed) else edges < due
  if t.op = .bad then s.noteWrite t
  else
    let s := s.lateFlag t edges
    if early then (s.cutOff edges t.failed).noteWrite t
    else if edges ≤ due then (s.transComplete t).noteWrite t
    else
      let s := s.hostErr Reg.HOST_ERR.TRAIL
      if isWrite t.op || edges % 32 = 0 then (s.transComplete t).noteWrite t
      else if t.failed || t.op ≠ .nop then s
      else s.count Reg.HOST_DONE.COUNT

/-! ## The rows -/

/-- HOST_SELECT: CS_N falls. -/
def execHostSelect (s : State) : Host.Outcome State Fault Refusal :=
  .next (if !s.flag Reg.HOST_CFG.EN || s.hostPort.selected then s
    else { s with hostPort := { s.hostPort with selected := true, trans := none } }.wake 4)

def execHostNop (cmd addr : Word) (s : State) : Host.Outcome State Fault Refusal := .next (s.transact cmd addr [] [])
/-- HOST_READ; `late` names the data words that are not fetched when their slots begin. -/
def execHostRead (cmd addr : Word) (late : List Nat) (s : State) : Host.Outcome State Fault Refusal :=
  .next (s.transact cmd addr [] late)
/-- HOST_WRITE; `rest` are the words sampled after ADDR. -/
def execHostWrite (cmd addr : Word) (rest : List Word) (s : State) : Host.Outcome State Fault Refusal :=
  .next (s.transact cmd addr rest [])
def execHostSread (cmd addr : Word) (s : State) : Host.Outcome State Fault Refusal := .next (s.transact cmd addr [] [])
def execHostSwrite (cmd addr : Word) (rest : List Word) (s : State) : Host.Outcome State Fault Refusal :=
  .next (s.transact cmd addr rest [])

/-- HOST_DESELECT: CS_N rises after `edges` rising edges of SCK in all. -/
def execHostDeselect (edges : Nat) (s : State) : Host.Outcome State Fault Refusal :=
  .next (if !s.flag Reg.HOST_CFG.EN || !s.hostPort.selected then s
    else
      let s := match s.hostPort.trans with
        | some t => s.transEnd t edges
        | none => s.cutOff edges false
      { s with hostPort := { s.hostPort with selected := false, trans := none } }.finishDisable)

/-- HOST_WRITE_APPLY. -/
def execHostWriteApply (s : State) : Host.Outcome State Fault Refusal := .next s.applyFirst

/-- The frame as which RECV lays out a MSGIN message (R744). -/
def State.msgFrame (s : State) (b : List Byte) : Frame := ⟨Ty.DATA, 0, false, false, 0, false, s.addr, s.addr, 0, b⟩

/-- MSGIN_DELIVER: the first message enters its queue once that, and the shared buffers that hold it, have room (R390, R423, R744). -/
def execMsginDeliver (s : State) : Host.Outcome State Fault Refusal :=
  let c : Cid := Fin.ofNat 8 (s.fld Reg.HOST_CFG.MCTX)
  .next (match takeMessage s.hostPort.msgIn with
    | some (_, b, rest) =>
      if s.hfo && (s.ctx c).rx.length < 8 && s.buffersUsed < 32 then (s.putStream 1 rest).rxInto c (s.msgFrame b) 0xFF else s
    | none => s)

/-- WININ_ANSWER. -/
def execWininAnswer (s : State) : Host.Outcome State Fault Refusal :=
  .next (match takeMessage s.hostPort.winIn with
    | some (_, b, rest) => if s.hfo then (s.putStream 2 rest).takeAnswer s.now b else s
    | none => s)

end Sys2Proof.Machine
end

