-- ==== Sys2Proof/Machine/Dispatch.lean ====
section
/-! DEFINITION. One arm per command: its meaning, on everything but the queue. -/

namespace Sys2Proof.Machine

def exec (i : Instr) (s : State) : Host.Outcome State Fault Refusal :=
  match i with
  | .registerWrite m off v => Sys2Proof.Machine.execRegisterWrite m off v s
  | .rcRead m off => Sys2Proof.Machine.execRcRead m off s
  | .loWordRead m off => Sys2Proof.Machine.execLoWordRead m off s
  | .selectorWrite m page v => Sys2Proof.Machine.execSelectorWrite m page v s
  | .add rd rs1 rs2 z => Sys2Proof.Machine.execAdd rd rs1 rs2 z s
  | .sub rd rs1 rs2 z => Sys2Proof.Machine.execSub rd rs1 rs2 z s
  | .adc rd rs1 rs2 z => Sys2Proof.Machine.execAdc rd rs1 rs2 z s
  | .sbc rd rs1 rs2 z => Sys2Proof.Machine.execSbc rd rs1 rs2 z s
  | .and rd rs1 rs2 z => Sys2Proof.Machine.execAnd rd rs1 rs2 z s
  | .or rd rs1 rs2 z => Sys2Proof.Machine.execOr rd rs1 rs2 z s
  | .xor rd rs1 rs2 z => Sys2Proof.Machine.execXor rd rs1 rs2 z s
  | .shl rd rs1 rs2 z => Sys2Proof.Machine.execShl rd rs1 rs2 z s
  | .shr rd rs1 rs2 z => Sys2Proof.Machine.execShr rd rs1 rs2 z s
  | .sar rd rs1 rs2 z => Sys2Proof.Machine.execSar rd rs1 rs2 z s
  | .mul rd rs1 rs2 z => Sys2Proof.Machine.execMul rd rs1 rs2 z s
  | .mulh rd rs1 rs2 z => Sys2Proof.Machine.execMulh rd rs1 rs2 z s
  | .divu rd rs1 rs2 z => Sys2Proof.Machine.execDivu rd rs1 rs2 z s
  | .remu rd rs1 rs2 z => Sys2Proof.Machine.execRemu rd rs1 rs2 z s
  | .slt rd rs1 rs2 z => Sys2Proof.Machine.execSlt rd rs1 rs2 z s
  | .sltu rd rs1 rs2 z => Sys2Proof.Machine.execSltu rd rs1 rs2 z s
  | .addi rd rs1 z imm => Sys2Proof.Machine.execAddi rd rs1 z imm s
  | .andi rd rs1 z imm => Sys2Proof.Machine.execAndi rd rs1 z imm s
  | .ori rd rs1 z imm => Sys2Proof.Machine.execOri rd rs1 z imm s
  | .xori rd rs1 z imm => Sys2Proof.Machine.execXori rd rs1 z imm s
  | .shli rd rs1 z imm => Sys2Proof.Machine.execShli rd rs1 z imm s
  | .shri rd rs1 z imm => Sys2Proof.Machine.execShri rd rs1 z imm s
  | .sari rd rs1 z imm => Sys2Proof.Machine.execSari rd rs1 z imm s
  | .slti rd rs1 z imm => Sys2Proof.Machine.execSlti rd rs1 z imm s
  | .lui rd z imm => Sys2Proof.Machine.execLui rd z imm s
  | .ldw rd rs1 z imm => Sys2Proof.Machine.execLdw rd rs1 z imm s
  | .ldh rd rs1 z imm => Sys2Proof.Machine.execLdh rd rs1 z imm s
  | .ldhu rd rs1 z imm => Sys2Proof.Machine.execLdhu rd rs1 z imm s
  | .ldb rd rs1 z imm => Sys2Proof.Machine.execLdb rd rs1 z imm s
  | .ldbu rd rs1 z imm => Sys2Proof.Machine.execLdbu rd rs1 z imm s
  | .stw rd rs1 z imm => Sys2Proof.Machine.execStw rd rs1 z imm s
  | .sth rd rs1 z imm => Sys2Proof.Machine.execSth rd rs1 z imm s
  | .stb rd rs1 z imm => Sys2Proof.Machine.execStb rd rs1 z imm s
  | .beq z rs1 rs2 off => Sys2Proof.Machine.execBeq z rs1 rs2 off s
  | .bne z rs1 rs2 off => Sys2Proof.Machine.execBne z rs1 rs2 off s
  | .blt z rs1 rs2 off => Sys2Proof.Machine.execBlt z rs1 rs2 off s
  | .bge z rs1 rs2 off => Sys2Proof.Machine.execBge z rs1 rs2 off s
  | .bltu z rs1 rs2 off => Sys2Proof.Machine.execBltu z rs1 rs2 off s
  | .bgeu z rs1 rs2 off => Sys2Proof.Machine.execBgeu z rs1 rs2 off s
  | .jal rd off => Sys2Proof.Machine.execJal rd off s
  | .jalr rd rs1 z imm => Sys2Proof.Machine.execJalr rd rs1 z imm s
  | .csrr rd rs1 rs2 sel => Sys2Proof.Machine.execCsrr rd rs1 rs2 sel s
  | .csrw rd rs1 rs2 sel => Sys2Proof.Machine.execCsrw rd rs1 rs2 sel s
  | .selch rd rs1 rs2 sel => Sys2Proof.Machine.execSelch rd rs1 rs2 sel s
  | .waite rd rs1 rs2 sel => Sys2Proof.Machine.execWaite rd rs1 rs2 sel s
  | .sleep rd rs1 rs2 sel => Sys2Proof.Machine.execSleep rd rs1 rs2 sel s
  | .yield rd rs1 rs2 sel => Sys2Proof.Machine.execYield rd rs1 rs2 sel s
  | .fence rd rs1 rs2 sel => Sys2Proof.Machine.execFence rd rs1 rs2 sel s
  | .rete rd rs1 rs2 sel => Sys2Proof.Machine.execRete rd rs1 rs2 sel s
  | .trap rd z imm => Sys2Proof.Machine.execTrap rd z imm s
  | .meas rd rs1 rs2 sel => Sys2Proof.Machine.execMeas rd rs1 rs2 sel s
  | .bal rd rs1 rs2 sel => Sys2Proof.Machine.execBal rd rs1 rs2 sel s
  | .snap rd rs1 rs2 sel => Sys2Proof.Machine.execSnap rd rs1 rs2 sel s
  | .send rd rs1 rs2 sel => Sys2Proof.Machine.execSend rd rs1 rs2 sel s
  | .recv rd rs1 rs2 sel => Sys2Proof.Machine.execRecv rd rs1 rs2 sel s
  | .scan rd rs1 rs2 sel => Sys2Proof.Machine.execScan rd rs1 rs2 sel s
  | .movb rd rs1 rs2 sel => Sys2Proof.Machine.execMovb rd rs1 rs2 sel s
  | .logb rd rs1 rs2 sel => Sys2Proof.Machine.execLogb rd rs1 rs2 sel s
  | .rmov rd rs1 rs2 sel => Sys2Proof.Machine.execRmov rd rs1 rs2 sel s
  | .ctxStart m mask => Sys2Proof.Machine.execCtxStart m mask s
  | .ctxStop m mask => Sys2Proof.Machine.execCtxStop m mask s
  | .evRaise m mask => Sys2Proof.Machine.execEvRaise m mask s
  | .ctxSelectedWrite m off v => Sys2Proof.Machine.execCtxSelectedWrite m off v s
  | .programStart => Sys2Proof.Machine.execProgramStart s
  | .loadBegin f => Sys2Proof.Machine.execLoadBegin f s
  | .loadData f => Sys2Proof.Machine.execLoadData f s
  | .loadCommit f => Sys2Proof.Machine.execLoadCommit f s
  | .loadAbort f => Sys2Proof.Machine.execLoadAbort f s
  | .loadQuery f => Sys2Proof.Machine.execLoadQuery f s
  | .loadStatus a => Sys2Proof.Machine.execLoadStatus a s
  | .loadTimeout => Sys2Proof.Machine.execLoadTimeout s
  | .nvmSectorWriteDone ok => Sys2Proof.Machine.execNvmSectorWriteDone ok s
  | .rread a => Sys2Proof.Machine.execRread a s
  | .rwrite a => Sys2Proof.Machine.execRwrite a s
  | .rdata a => Sys2Proof.Machine.execRdata a s
  | .rdone a => Sys2Proof.Machine.execRdone a s
  | .rrefuse a => Sys2Proof.Machine.execRrefuse a s
  | .remoteTimeout r => Sys2Proof.Machine.execRemoteTimeout r s
  | .dmaStart m n => Sys2Proof.Machine.execDmaStart m n s
  | .dmaResume m n => Sys2Proof.Machine.execDmaResume m n s
  | .dmaHalt m n => Sys2Proof.Machine.execDmaHalt m n s
  | .dmaBeat => Sys2Proof.Machine.execDmaBeat s
  | .dmaRemoteDone n => Sys2Proof.Machine.execDmaRemoteDone n s
  | .conversionDone ch raw lag => Sys2Proof.Machine.execConversionDone ch raw lag s
  | .auxInputStart => Sys2Proof.Machine.execAuxInputStart s
  | .auxrefOn => Sys2Proof.Machine.execAuxrefOn s
  | .quietWindowPause => Sys2Proof.Machine.execQuietWindowPause s
  | .quietWindowResume => Sys2Proof.Machine.execQuietWindowResume s
  | .sentinelSample cells => Sys2Proof.Machine.execSentinelSample cells s
  | .sentStWrite m v => Sys2Proof.Machine.execSentStWrite m v s
  | .sentCfgWrite m r v => Sys2Proof.Machine.execSentCfgWrite m r v s
  | .openWireStart => Sys2Proof.Machine.execOpenWireStart s
  | .openWirePhaseEnd cells => Sys2Proof.Machine.execOpenWirePhaseEnd cells s
  | .leakageStart => Sys2Proof.Machine.execLeakageStart s
  | .leakageDeferredStart => Sys2Proof.Machine.execLeakageDeferredStart s
  | .leakageDone v => Sys2Proof.Machine.execLeakageDone v s
  | .grChangeEffect => Sys2Proof.Machine.execGrChangeEffect s
  | .rtcLoWrite m k v => Sys2Proof.Machine.execRtcLoWrite m k v s
  | .rtcHiWrite m k v => Sys2Proof.Machine.execRtcHiWrite m k v s
  | .rtcDisarm m mask => Sys2Proof.Machine.execRtcDisarm m mask s
  | .rtcFire k => Sys2Proof.Machine.execRtcFire k s
  | .epochWrap => Sys2Proof.Machine.execEpochWrap s
  | .epochWarn => Sys2Proof.Machine.execEpochWarn s
  | .timeOriginate => Sys2Proof.Machine.execTimeOriginate s
  | .time a => Sys2Proof.Machine.execTime a s
  | .lockStale => Sys2Proof.Machine.execLockStale s
  | .linkDelayMeasure p => Sys2Proof.Machine.execLinkDelayMeasure p s
  | .dlyReq p => Sys2Proof.Machine.execDlyReq p s
  | .dlyRsp p value => Sys2Proof.Machine.execDlyRsp p value s
  | .dlyReqRetry p => Sys2Proof.Machine.execDlyReqRetry p s
  | .sched a => Sys2Proof.Machine.execSched a s
  | .snapshotCompareFire => Sys2Proof.Machine.execSnapshotCompareFire s
  | .snapHfoLatch => Sys2Proof.Machine.execSnapHfoLatch s
  | .snapGo m k => Sys2Proof.Machine.execSnapGo m k s
  | .snapTripRel m => Sys2Proof.Machine.execSnapTripRel m s
  | .snapAck m => Sys2Proof.Machine.execSnapAck m s
  | .governorUpdate first others => Sys2Proof.Machine.execGovernorUpdate first others s
  | .impedanceMeasure k v0 v1 => Sys2Proof.Machine.execImpedanceMeasure k v0 v1 s
  | .shuttleTargetReached k => Sys2Proof.Machine.execShuttleTargetReached k s
  | .shuttleVoltageLimit k => Sys2Proof.Machine.execShuttleVoltageLimit k s
  | .shuttleSupplyChange k volts => Sys2Proof.Machine.execShuttleSupplyChange k volts s
  | .bleedFrame u => Sys2Proof.Machine.execBleedFrame u s
  | .bleedDutyOpen => Sys2Proof.Machine.execBleedDutyOpen s
  | .bleedCurrentSample amps => Sys2Proof.Machine.execBleedCurrentSample amps s
  | .bleedTargetReached n => Sys2Proof.Machine.execBleedTargetReached n s
  | .balCeilWrite m k v => Sys2Proof.Machine.execBalCeilWrite m k v s
  | .null a => Sys2Proof.Machine.execNull a s
  | .nullSend p => Sys2Proof.Machine.execNullSend p s
  | .ack a => Sys2Proof.Machine.execAck a s
  | .nak a => Sys2Proof.Machine.execNak a s
  | .retransmitTimeout p l => Sys2Proof.Machine.execRetransmitTimeout p l s
  | .abort c => Sys2Proof.Machine.execAbort c s
  | .codeError p => Sys2Proof.Machine.execCodeError p s
  | .sideMessageReceived p msg => Sys2Proof.Machine.execSideMessageReceived p msg s
  | .sideTxGo m p v => Sys2Proof.Machine.execSideTxGo m p v s
  | .linkStart p quiet => Sys2Proof.Machine.execLinkStart p quiet s
  | .linkHoldEnd p => Sys2Proof.Machine.execLinkHoldEnd p s
  | .rstEnd p => Sys2Proof.Machine.execRstEnd p s
  | .presenceWindowEnd p pulses => Sys2Proof.Machine.execPresenceWindowEnd p pulses s
  | .trainingTxStart p => Sys2Proof.Machine.execTrainingTxStart p s
  | .trainingTimeout p => Sys2Proof.Machine.execTrainingTimeout p s
  | .linkRetryPauseEnd p => Sys2Proof.Machine.execLinkRetryPauseEnd p s
  | .linkAutostartRetry p => Sys2Proof.Machine.execLinkAutostartRetry p s
  | .portResume p => Sys2Proof.Machine.execPortResume p s
  | .resumingTimeout p => Sys2Proof.Machine.execResumingTimeout p s
  | .linkSilence p => Sys2Proof.Machine.execLinkSilence p s
  | .farEndHold p => Sys2Proof.Machine.execFarEndHold p s
  | .responderWaitTimeout p => Sys2Proof.Machine.execResponderWaitTimeout p s
  | .portCtlStart m p => Sys2Proof.Machine.execPortCtlStart m p s
  | .portCtlWake m p => Sys2Proof.Machine.execPortCtlWake m p s
  | .portCtlEnWrite m p en => Sys2Proof.Machine.execPortCtlEnWrite m p en s
  | .lifelineWake p => Sys2Proof.Machine.execLifelineWake p s
  | .lifelineAlarm p => Sys2Proof.Machine.execLifelineAlarm p s
  | .lifelineNoise p pulses => Sys2Proof.Machine.execLifelineNoise p pulses s
  | .alarmRepeat p => Sys2Proof.Machine.execAlarmRepeat p s
  | .alarmGiveUp p => Sys2Proof.Machine.execAlarmGiveUp p s
  | .data a => Sys2Proof.Machine.execData a s
  | .safe a => Sys2Proof.Machine.execSafe a s
  | .config a => Sys2Proof.Machine.execConfig a s
  | .bcast a => Sys2Proof.Machine.execBcast a s
  | .trip a => Sys2Proof.Machine.execTrip a s
  | .tripDeliver => Sys2Proof.Machine.execTripDeliver s
  | .failbackHoldEnd => Sys2Proof.Machine.execFailbackHoldEnd s
  | .directedForward a => Sys2Proof.Machine.execDirectedForward a s
  | .enumQuery a => Sys2Proof.Machine.execEnumQuery a s
  | .enumAssign a => Sys2Proof.Machine.execEnumAssign a s
  | .enumRoute a => Sys2Proof.Machine.execEnumRoute a s
  | .enumPrimer a => Sys2Proof.Machine.execEnumPrimer a s
  | .enumPrimerDelayEnd p => Sys2Proof.Machine.execEnumPrimerDelayEnd p s
  | .enumLtread a => Sys2Proof.Machine.execEnumLtread a s
  | .info a => Sys2Proof.Machine.execInfo a s
  | .ltinfo a => Sys2Proof.Machine.execLtinfo a s
  | .announce a => Sys2Proof.Machine.execAnnounce a s
  | .announceResend p => Sys2Proof.Machine.execAnnounceResend p s
  | .announceSilent p => Sys2Proof.Machine.execAnnounceSilent p s
  | .fenceReport a => Sys2Proof.Machine.execFenceReport a s
  | .fabRecheck m mask => Sys2Proof.Machine.execFabRecheck m mask s
  | .primerStart m mask => Sys2Proof.Machine.execPrimerStart m mask s
  | .primerReq a => Sys2Proof.Machine.execPrimerReq a s
  | .primerAck a => Sys2Proof.Machine.execPrimerAck a s
  | .primerNak a => Sys2Proof.Machine.execPrimerNak a s
  | .primerNoAnswer p => Sys2Proof.Machine.execPrimerNoAnswer p s
  | .primerPatternStart p => Sys2Proof.Machine.execPrimerPatternStart p s
  | .primerEnd p bits errs syncloss => Sys2Proof.Machine.execPrimerEnd p bits errs syncloss s
  | .primerRelink p => Sys2Proof.Machine.execPrimerRelink p s
  | .primerStop m mask => Sys2Proof.Machine.execPrimerStop m mask s
  | .intervalCycleStart => Sys2Proof.Machine.execIntervalCycleStart s
  | .ltCycle m => Sys2Proof.Machine.execLtCycle m s
  | .intervalTurnEnd => Sys2Proof.Machine.execIntervalTurnEnd s
  | .testFrameSend => Sys2Proof.Machine.execTestFrameSend s
  | .test a => Sys2Proof.Machine.execTest a s
  | .cvuJobStart k => Sys2Proof.Machine.execCvuJobStart k s
  | .cvuGo m mask => Sys2Proof.Machine.execCvuGo m mask s
  | .cvuJobDone k => Sys2Proof.Machine.execCvuJobDone k s
  | .cvuJobError k addr => Sys2Proof.Machine.execCvuJobError k addr s
  | .cvuAvin m v => Sys2Proof.Machine.execCvuAvin m v s
  | .cvuAvcfgGo m v => Sys2Proof.Machine.execCvuAvcfgGo m v s
  | .cvuBatchDone => Sys2Proof.Machine.execCvuBatchDone s
  | .bbxCommitStart => Sys2Proof.Machine.execBbxCommitStart s
  | .bbxCommitDone ok => Sys2Proof.Machine.execBbxCommitDone ok s
  | .tombstoneBurnDone => Sys2Proof.Machine.execTombstoneBurnDone s
  | .bbxRingScanDone => Sys2Proof.Machine.execBbxRingScanDone s
  | .summaryTimer => Sys2Proof.Machine.execSummaryTimer s
  | .mrec a => Sys2Proof.Machine.execMrec a s
  | .mrel a => Sys2Proof.Machine.execMrel a s
  | .mrej a => Sys2Proof.Machine.execMrej a s
  | .bread a => Sys2Proof.Machine.execBread a s
  | .bdata a => Sys2Proof.Machine.execBdata a s
  | .breadTimeout => Sys2Proof.Machine.execBreadTimeout s
  | .bbxRdreqGo m v => Sys2Proof.Machine.execBbxRdreqGo m v s
  | .unfit a => Sys2Proof.Machine.execUnfit a s
  | .unfitRepeat => Sys2Proof.Machine.execUnfitRepeat s
  | .bbxAckWrite m seq all => Sys2Proof.Machine.execBbxAckWrite m seq all s
  | .bbxShctlRelease m u d => Sys2Proof.Machine.execBbxShctlRelease m u d s
  | .sinLevelAccepted n level a b => Sys2Proof.Machine.execSinLevelAccepted n level a b s
  | .discrepancyExpiry j => Sys2Proof.Machine.execDiscrepancyExpiry j s
  | .testPulse b ending ok low high => Sys2Proof.Machine.execTestPulse b ending ok low high s
  | .chbCompare => Sys2Proof.Machine.execChbCompare s
  | .chbHeartbeatMiss => Sys2Proof.Machine.execChbHeartbeatMiss s
  | .safeAck m => Sys2Proof.Machine.execSafeAck m s
  | .safeTrconf m => Sys2Proof.Machine.execSafeTrconf m s
  | .safeDemandWrite m v => Sys2Proof.Machine.execSafeDemandWrite m v s
  | .pairack m mask => Sys2Proof.Machine.execPairack m mask s
  | .permitWrite m v => Sys2Proof.Machine.execPermitWrite m v s
  | .trqOffPulse ok => Sys2Proof.Machine.execTrqOffPulse ok s
  | .partnerLineChange level => Sys2Proof.Machine.execPartnerLineChange level s
  | .partnerPulseMissing => Sys2Proof.Machine.execPartnerPulseMissing s
  | .partnerRiseTimeout => Sys2Proof.Machine.execPartnerRiseTimeout s
  | .safeConWrite m v => Sys2Proof.Machine.execSafeConWrite m v s
  | .pickupEnd n => Sys2Proof.Machine.execPickupEnd n s
  | .coilOpenCheck n amps => Sys2Proof.Machine.execCoilOpenCheck n amps s
  | .coilShort n amps => Sys2Proof.Machine.execCoilShort n amps s
  | .hsOver w => Sys2Proof.Machine.execHsOver w s
  | .noclose n => Sys2Proof.Machine.execNoclose n s
  | .openingEnd n => Sys2Proof.Machine.execOpeningEnd n s
  | .handoverEnd => Sys2Proof.Machine.execHandoverEnd s
  | .sealScan w ghost => Sys2Proof.Machine.execSealScan w ghost s
  | .sealedWrite m key => Sys2Proof.Machine.execSealedWrite m key s
  | .sealedWriteDone => Sys2Proof.Machine.execSealedWriteDone s
  | .tiwaitExpiry => Sys2Proof.Machine.execTiwaitExpiry s
  | .sddelayExpiry => Sys2Proof.Machine.execSddelayExpiry s
  | .chbOutputCutoff => Sys2Proof.Machine.execChbOutputCutoff s
  | .sfuForm m slot d => Sys2Proof.Machine.execSfuForm m slot d s
  | .sfuCheck m slot => Sys2Proof.Machine.execSfuCheck m slot s
  | .sfuExpiryExamine => Sys2Proof.Machine.execSfuExpiryExamine s
  | .sfuArmWrite m v => Sys2Proof.Machine.execSfuArmWrite m v s
  | .exchangeInstant => Sys2Proof.Machine.execExchangeInstant s
  | .xchg a => Sys2Proof.Machine.execXchg a s
  | .exchangeJudge => Sys2Proof.Machine.execExchangeJudge s
  | .voteCommit m => Sys2Proof.Machine.execVoteCommit m s
  | .crossLinkStart => Sys2Proof.Machine.execCrossLinkStart s
  | .join m capseq => Sys2Proof.Machine.execJoin m capseq s
  | .leave m => Sys2Proof.Machine.execLeave m s
  | .unlock m => Sys2Proof.Machine.execUnlock m s
  | .joinVoltageSample aux6 aux7 => Sys2Proof.Machine.execJoinVoltageSample aux6 aux7 s
  | .settleEnd => Sys2Proof.Machine.execSettleEnd s
  | .prechargeTimeout => Sys2Proof.Machine.execPrechargeTimeout s
  | .trayCurrentSample nv => Sys2Proof.Machine.execTrayCurrentSample nv s
  | .joinRetry => Sys2Proof.Machine.execJoinRetry s
  | .openingWaitEnd => Sys2Proof.Machine.execOpeningWaitEnd s
  | .capinGo m v => Sys2Proof.Machine.execCapinGo m v s
  | .capHoldEnd => Sys2Proof.Machine.execCapHoldEnd s
  | .overcapTimer => Sys2Proof.Machine.execOvercapTimer s
  | .capoutPeriod => Sys2Proof.Machine.execCapoutPeriod s
  | .formRs m t d => Sys2Proof.Machine.execFormRs m t d s
  | .formCmd m t d => Sys2Proof.Machine.execFormCmd m t d s
  | .checkSt m t => Sys2Proof.Machine.execCheckSt m t s
  | .rackTarmWrite m k v => Sys2Proof.Machine.execRackTarmWrite m k v s
  | .powerStateEntry => Sys2Proof.Machine.execPowerStateEntry s
  | .wakeTimerFire early => Sys2Proof.Machine.execWakeTimerFire early s
  | .hfoStable => Sys2Proof.Machine.execHfoStable s
  | .guardRecompute temp => Sys2Proof.Machine.execGuardRecompute temp s
  | .lfoRateMeasure dev => Sys2Proof.Machine.execLfoRateMeasure dev s
  | .searchEntry => Sys2Proof.Machine.execSearchEntry s
  | .searchExpired => Sys2Proof.Machine.execSearchExpired s
  | .lostRetry => Sys2Proof.Machine.execLostRetry s
  | .wakeRelay => Sys2Proof.Machine.execWakeRelay s
  | .relayHoldEnd => Sys2Proof.Machine.execRelayHoldEnd s
  | .monitorSample temp vstk => Sys2Proof.Machine.execMonitorSample temp vstk s
  | .clockMonitor dev => Sys2Proof.Machine.execClockMonitor dev s
  | .wdkick m key => Sys2Proof.Machine.execWdkick m key s
  | .wdogWarn => Sys2Proof.Machine.execWdogWarn s
  | .watchdogExpiry => Sys2Proof.Machine.execWatchdogExpiry s
  | .sleepLimitExpiry => Sys2Proof.Machine.execSleepLimitExpiry s
  | .ledgerUpdate n => Sys2Proof.Machine.execLedgerUpdate n s
  | .hostSelect => Sys2Proof.Machine.execHostSelect s
  | .hostNop cmd addr => Sys2Proof.Machine.execHostNop cmd addr s
  | .hostRead cmd addr late => Sys2Proof.Machine.execHostRead cmd addr late s
  | .hostWrite cmd addr rest => Sys2Proof.Machine.execHostWrite cmd addr rest s
  | .hostSread cmd addr => Sys2Proof.Machine.execHostSread cmd addr s
  | .hostSwrite cmd addr rest => Sys2Proof.Machine.execHostSwrite cmd addr rest s
  | .hostDeselect edges => Sys2Proof.Machine.execHostDeselect edges s
  | .hostWriteApply => Sys2Proof.Machine.execHostWriteApply s
  | .msginDeliver => Sys2Proof.Machine.execMsginDeliver s
  | .wininAnswer => Sys2Proof.Machine.execWininAnswer s
  | .hostBell m code => Sys2Proof.Machine.execHostBell m code s
  | .hostBellout m code => Sys2Proof.Machine.execHostBellout m code s
  | .hostMoutGo m v => Sys2Proof.Machine.execHostMoutGo m v s
  | .porReset asserted => Sys2Proof.Machine.execPorReset asserted s
  | .shipWake => Sys2Proof.Machine.execShipWake s
  | .brownout asserted => Sys2Proof.Machine.execBrownout asserted s
  | .pinReset asserted => Sys2Proof.Machine.execPinReset asserted s
  | .tapReset ir => Sys2Proof.Machine.execTapReset ir s
  | .softReset m key => Sys2Proof.Machine.execSoftReset m key s
  | .resetEnd => Sys2Proof.Machine.execResetEnd s
  | .fuseLoadDone ok uid rev tref => Sys2Proof.Machine.execFuseLoadDone ok uid rev tref s
  | .strapRead role0 role1 => Sys2Proof.Machine.execStrapRead role0 role1 s
  | .sramMarchDone bad => Sys2Proof.Machine.execSramMarchDone bad s
  | .referenceCheckDone bad => Sys2Proof.Machine.execReferenceCheckDone bad s
  | .supplySwitchover mv => Sys2Proof.Machine.execSupplySwitchover mv s
  | .vcoilLow => Sys2Proof.Machine.execVcoilLow s
  | .holdupOkChange mv => Sys2Proof.Machine.execHoldupOkChange mv s
  | .frameEofSent p => Sys2Proof.Machine.execFrameEofSent p s
  | .vcoilReturn => Sys2Proof.Machine.execVcoilReturn s

end Sys2Proof.Machine
end

