-- ==== Sys2Proof/Machine/Fetch.lean ====
section
/-! DEFINITION. Reading a word as a Basvo instruction (R118, R119, R121), fetching it through a context's windows (Table 5-1, R95,
R126), and what the die does while no command waits. -/

namespace Sys2Proof.Machine

/-! ## The fields of Table 4-1 -/

def opcodeOf (w : Word) : Nat := w.toNat / 2 ^ 26
def rdOf (w : Word) : RegNo := Fin.ofNat 16 (w.toNat / 2 ^ 22)
def rs1Of (w : Word) : RegNo := Fin.ofNat 16 (w.toNat / 2 ^ 18)
def rs2Of (w : Word) : RegNo := Fin.ofNat 16 (w.toNat / 2 ^ 14)
def z22Of (w : Word) : BitVec 4 := BitVec.ofNat 4 (w.toNat / 2 ^ 22)
def z18Of (w : Word) : BitVec 4 := BitVec.ofNat 4 (w.toNat / 2 ^ 18)
def z14Of (w : Word) : BitVec 4 := BitVec.ofNat 4 (w.toNat / 2 ^ 14)
def low14Of (w : Word) : BitVec 14 := BitVec.ofNat 14 w.toNat
def imm18Of (w : Word) : BitVec 18 := BitVec.ofNat 18 w.toNat
def off22Of (w : Word) : BitVec 22 := BitVec.ofNat 22 w.toNat

/-- A word as an instruction of Table 4-3, 4-4, 4-6 or 4-8; none where its opcode is unassigned. -/
def decodeWord (w : Word) : Option Instr :=
  let rrr := fun (k : RegNo → RegNo → RegNo → BitVec 14 → Instr) => some (k (rdOf w) (rs1Of w) (rs2Of w) (low14Of w))
  let rri := fun (k : RegNo → RegNo → BitVec 4 → BitVec 14 → Instr) => some (k (rdOf w) (rs1Of w) (z14Of w) (low14Of w))
  let ri := fun (k : RegNo → BitVec 4 → BitVec 18 → Instr) => some (k (rdOf w) (z18Of w) (imm18Of w))
  let b := fun (k : BitVec 4 → RegNo → RegNo → BitVec 14 → Instr) => some (k (z22Of w) (rs1Of w) (rs2Of w) (low14Of w))
  match opcodeOf w with
  | 0x01 => rrr .add
  | 0x02 => rrr .sub
  | 0x03 => rrr .adc
  | 0x04 => rrr .sbc
  | 0x05 => rrr .and
  | 0x06 => rrr .or
  | 0x07 => rrr .xor
  | 0x08 => rrr .shl
  | 0x09 => rrr .shr
  | 0x0A => rrr .sar
  | 0x0B => rrr .mul
  | 0x0C => rrr .mulh
  | 0x0D => rrr .divu
  | 0x0E => rrr .remu
  | 0x0F => rrr .slt
  | 0x10 => rrr .sltu
  | 0x11 => rri .addi
  | 0x12 => rri .andi
  | 0x13 => rri .ori
  | 0x14 => rri .xori
  | 0x15 => rri .shli
  | 0x16 => rri .shri
  | 0x17 => rri .sari
  | 0x18 => rri .slti
  | 0x19 => ri .lui
  | 0x1A => rri .ldw
  | 0x1B => rri .ldh
  | 0x1C => rri .ldhu
  | 0x1D => rri .ldb
  | 0x1E => rri .ldbu
  | 0x1F => rri .stw
  | 0x20 => rri .sth
  | 0x21 => rri .stb
  | 0x22 => b .beq
  | 0x23 => b .bne
  | 0x24 => b .blt
  | 0x25 => b .bge
  | 0x26 => b .bltu
  | 0x27 => b .bgeu
  | 0x28 => some (.jal (rdOf w) (off22Of w))
  | 0x29 => rri .jalr
  | 0x2A => rrr .csrr
  | 0x2B => rrr .csrw
  | 0x2C => rrr .selch
  | 0x2D => rrr .waite
  | 0x2E => rrr .sleep
  | 0x2F => rrr .yield
  | 0x30 => rrr .fence
  | 0x31 => rrr .rete
  | 0x32 => ri .trap
  | 0x33 => rrr .meas
  | 0x34 => rrr .bal
  | 0x35 => rrr .snap
  | 0x36 => rrr .send
  | 0x37 => rrr .recv
  | 0x38 => rrr .scan
  | 0x39 => rrr .movb
  | 0x3A => rrr .logb
  | 0x3B => rrr .rmov
  | _ => none

/-! ## The words of an instruction (Table 4-1) -/

/-- The word of a Basvo instruction; none for a command of another block. -/
def encodeWord (i : Instr) : Option Word :=
  match i with
  | .add rd p q z => some (wordOf 0x01 rd.val p.val q.val z.toNat)
  | .sub rd p q z => some (wordOf 0x02 rd.val p.val q.val z.toNat)
  | .adc rd p q z => some (wordOf 0x03 rd.val p.val q.val z.toNat)
  | .sbc rd p q z => some (wordOf 0x04 rd.val p.val q.val z.toNat)
  | .and rd p q z => some (wordOf 0x05 rd.val p.val q.val z.toNat)
  | .or rd p q z => some (wordOf 0x06 rd.val p.val q.val z.toNat)
  | .xor rd p q z => some (wordOf 0x07 rd.val p.val q.val z.toNat)
  | .shl rd p q z => some (wordOf 0x08 rd.val p.val q.val z.toNat)
  | .shr rd p q z => some (wordOf 0x09 rd.val p.val q.val z.toNat)
  | .sar rd p q z => some (wordOf 0x0A rd.val p.val q.val z.toNat)
  | .mul rd p q z => some (wordOf 0x0B rd.val p.val q.val z.toNat)
  | .mulh rd p q z => some (wordOf 0x0C rd.val p.val q.val z.toNat)
  | .divu rd p q z => some (wordOf 0x0D rd.val p.val q.val z.toNat)
  | .remu rd p q z => some (wordOf 0x0E rd.val p.val q.val z.toNat)
  | .slt rd p q z => some (wordOf 0x0F rd.val p.val q.val z.toNat)
  | .sltu rd p q z => some (wordOf 0x10 rd.val p.val q.val z.toNat)
  | .addi rd p z n => some (wordOf 0x11 rd.val p.val z.toNat n.toNat)
  | .andi rd p z n => some (wordOf 0x12 rd.val p.val z.toNat n.toNat)
  | .ori rd p z n => some (wordOf 0x13 rd.val p.val z.toNat n.toNat)
  | .xori rd p z n => some (wordOf 0x14 rd.val p.val z.toNat n.toNat)
  | .shli rd p z n => some (wordOf 0x15 rd.val p.val z.toNat n.toNat)
  | .shri rd p z n => some (wordOf 0x16 rd.val p.val z.toNat n.toNat)
  | .sari rd p z n => some (wordOf 0x17 rd.val p.val z.toNat n.toNat)
  | .slti rd p z n => some (wordOf 0x18 rd.val p.val z.toNat n.toNat)
  | .lui rd z n => some (wordOf 0x19 rd.val z.toNat 0 n.toNat)
  | .ldw rd p z n => some (wordOf 0x1A rd.val p.val z.toNat n.toNat)
  | .ldh rd p z n => some (wordOf 0x1B rd.val p.val z.toNat n.toNat)
  | .ldhu rd p z n => some (wordOf 0x1C rd.val p.val z.toNat n.toNat)
  | .ldb rd p z n => some (wordOf 0x1D rd.val p.val z.toNat n.toNat)
  | .ldbu rd p z n => some (wordOf 0x1E rd.val p.val z.toNat n.toNat)
  | .stw rd p z n => some (wordOf 0x1F rd.val p.val z.toNat n.toNat)
  | .sth rd p z n => some (wordOf 0x20 rd.val p.val z.toNat n.toNat)
  | .stb rd p z n => some (wordOf 0x21 rd.val p.val z.toNat n.toNat)
  | .beq z p q n => some (wordOf 0x22 z.toNat p.val q.val n.toNat)
  | .bne z p q n => some (wordOf 0x23 z.toNat p.val q.val n.toNat)
  | .blt z p q n => some (wordOf 0x24 z.toNat p.val q.val n.toNat)
  | .bge z p q n => some (wordOf 0x25 z.toNat p.val q.val n.toNat)
  | .bltu z p q n => some (wordOf 0x26 z.toNat p.val q.val n.toNat)
  | .bgeu z p q n => some (wordOf 0x27 z.toNat p.val q.val n.toNat)
  | .jal rd n => some (wordOf 0x28 rd.val 0 0 n.toNat)
  | .jalr rd p z n => some (wordOf 0x29 rd.val p.val z.toNat n.toNat)
  | .csrr rd p q z => some (wordOf 0x2A rd.val p.val q.val z.toNat)
  | .csrw rd p q z => some (wordOf 0x2B rd.val p.val q.val z.toNat)
  | .selch rd p q z => some (wordOf 0x2C rd.val p.val q.val z.toNat)
  | .waite rd p q z => some (wordOf 0x2D rd.val p.val q.val z.toNat)
  | .sleep rd p q z => some (wordOf 0x2E rd.val p.val q.val z.toNat)
  | .yield rd p q z => some (wordOf 0x2F rd.val p.val q.val z.toNat)
  | .fence rd p q z => some (wordOf 0x30 rd.val p.val q.val z.toNat)
  | .rete rd p q z => some (wordOf 0x31 rd.val p.val q.val z.toNat)
  | .trap rd z n => some (wordOf 0x32 rd.val z.toNat 0 n.toNat)
  | .meas rd p q z => some (wordOf 0x33 rd.val p.val q.val z.toNat)
  | .bal rd p q z => some (wordOf 0x34 rd.val p.val q.val z.toNat)
  | .snap rd p q z => some (wordOf 0x35 rd.val p.val q.val z.toNat)
  | .send rd p q z => some (wordOf 0x36 rd.val p.val q.val z.toNat)
  | .recv rd p q z => some (wordOf 0x37 rd.val p.val q.val z.toNat)
  | .scan rd p q z => some (wordOf 0x38 rd.val p.val q.val z.toNat)
  | .movb rd p q z => some (wordOf 0x39 rd.val p.val q.val z.toNat)
  | .logb rd p q z => some (wordOf 0x3A rd.val p.val q.val z.toNat)
  | .rmov rd p q z => some (wordOf 0x3B rd.val p.val q.val z.toNat)
  | _ => none

/-! ## Fetch -/

/-- What fetching at the context's pc comes to: the word, or what stops it (Table 5-1, R95). -/
inductive Fetch where
  | word (w : Word)
  | stop (e : Stop)

/-- The fetch of the instruction at `pc`. -/
def State.fetch (s : State) (c : Cid) (pc : Word) : Fetch :=
  let a : Reach := ⟨pc.toNat, 4, false, 2, false, false⟩
  match s.place c.val a with
  | .stop cause win => .stop (placeTrap s a cause win)
  | .away win => .stop (placeTrap s a Cause.WIN_PERM win)
  | .here pa win => match s.readStop a pa win with
    | some e => .stop e
    | none => .word (s.word pa)

/-- The core goes on with a long instruction at its resumption point, or fetches its next instruction and executes it; a word that is no
instruction traps ILLEGAL (R121, R123, R166). -/
def State.coreStep (s : State) : Host.Outcome State Fault Refusal :=
  match s.executing with
  | none => .next (s.advance 1)
  | some c =>
    match if s.holder = some c then (s.ctx c).cont else none with
    | some i => exec i s
    | none => match s.fetch c (s.ctx c).pc with
    | .stop _ => .next (s.runInstr fun t c pc => match t.fetch c pc with
      | .stop e => e.did 0
      | .word _ => .hold t 0 none)
    | .word w => match decodeWord w with
      | some i => exec i s
      | none => .next (s.runInstr fun t _ _ => .illegal t 0)

/-- What goes on beside the core in the time from `old` on: background work of the check-value unit, in cycles that neither the core's
accesses, taken as the first of the step, nor a host write under way claim (R475; log 22), words of a waiting host WRITE, and operations
whose end has come. -/
def State.beside (s old : State) : State :=
  let claimed := fun (t a : Nat) => t - old.now < old.coreClaims a || old.hostPort.waiting ≠ []
  ((((s.cvuServe claimed (s.now - old.now)).hostServe (s.now - old.now)).sfuSettle).moutSettle).settleShuttles

/-- No command waits: a start that is due is made, else the core goes on, else a tick passes (log 3). -/
def State.idle (s : State) : Host.Outcome State Fault Refusal :=
  if s.startDue then .next s.programStart
  else match s.coreStep with
    | .next t => .next (t.beside s)
    | o => o

end Sys2Proof.Machine
end

