-- ==== Sys2Proof/Safety.lean ====
section
/-! DEFINITION. The words in which claims are stated: good states, completion, what an instruction leaves alone, the tables of
chapter 4 as functions of an instruction and its context, the request that a command asks for, and what a write leaves of a register by its
access codes. -/

namespace Sys2Proof.Machine

/-! ## States and completion -/

/-- Registers, latches and memory list strictly rising keys and no entry at its default. -/
def State.canonical (s : State) : Bool :=
  wfFrom regDefault 0 s.regs && wfFrom regDefault 0 s.latches && Memory.wf s.mem

/-- Receive queues hold at most eight frames (R423), the host port at most two waiting writes (R733), and its six streams at most their sizes
(Table 17-5), an input stream with what committed SWRITEs have promised it, MSGOUT with the message being copied to it (R745). -/
def State.queuesBounded (s : State) : Bool :=
  (allCtx.all fun c => decide ((s.ctx c).rx.length ≤ 8)) && decide (s.hostPort.waiting.length ≤ 2) &&
    ([0, 1, 2].all fun a => decide ((s.stream a).length + s.promised a ≤ streamSize a)) &&
    decide (s.hostPort.msgOut.length + (s.hostPort.mout.map fun e => e.1.length).getD 0 ≤ 128) && decide (s.hostPort.loadOut.length ≤ 16) &&
    decide (s.winWords.length ≤ 192)

/-- Command `i` completes at `s`, in a state of which `P` holds. -/
def Completes (i : Instr) (s : State) (P : State → Prop) : Prop := ∃ t, exec i s = .next t ∧ P t

/-- `n` commands `i`, one after the other, take `s` to `t`. -/
def Repeats (i : Instr) : Nat → State → State → Prop
  | 0, s, t => t = s
  | n + 1, s, t => ∃ u, exec i s = .next u ∧ Repeats i n u t

/-! ## What an instruction leaves alone -/

/-- The special registers of a context are the same, and its windows' answers, staging buffer and receive queue. -/
def Ctx.sameSpecial (v w : Ctx) : Prop :=
  w.epc = v.epc ∧ w.estatus = v.estatus ∧ w.cause = v.cause ∧ w.tval = v.tval ∧ w.tvec = v.tvec ∧ w.evmask = v.evmask ∧
    w.evpend = v.evpend ∧ w.scratch0 = v.scratch0 ∧ w.scratch1 = v.scratch1 ∧ w.sel = v.sel ∧ w.stage = v.stage ∧ w.rx = v.rx

/-- A context's registers, pc, status and special registers are the same. -/
def Ctx.same (v w : Ctx) : Prop := w.x = v.x ∧ w.pc = v.pc ∧ w.status = v.status ∧ v.sameSpecial w

/-- Every other context keeps its registers, and the queue of commands is as before. -/
def State.othersSame (s t : State) (c : Cid) : Prop := (∀ d, d ≠ c → (s.ctx d).same (t.ctx d)) ∧ t.pending = s.pending

/-- Of context `c` only `rd`, to which `v` goes, the pc and STATUS may have changed; X0 takes nothing (R77). -/
def State.wroteReg (s t : State) (c : Cid) (rd : RegNo) (v pc : Word) : Prop :=
  (∀ r, (t.ctx c).getX r = if r = rd ∧ r ≠ 0 then v else (s.ctx c).getX r) ∧ (t.ctx c).pc = pc ∧
    (s.ctx c).sameSpecial (t.ctx c) ∧ s.othersSame t c

/-- Register `rd` of context `c` takes `v`, X0 nothing, and its pc goes to the next instruction. -/
def State.gave (s t : State) (c : Cid) (rd : RegNo) (v : Word) : Prop :=
  (∀ r, (t.ctx c).getX r = if r = rd ∧ r ≠ 0 then v else (s.ctx c).getX r) ∧ (t.ctx c).pc = (s.ctx c).pc + 4

/-- Peripheral registers and memory are as before. -/
def State.storesNothing (s t : State) : Prop := t.regs = s.regs ∧ (∀ a, t.byte a = s.byte a)

/-! ## Flags (Table 3-2, R128) -/

/-- What becomes of the flags: nothing, Z and N of a result, or all four. -/
inductive FlagRule where
  | keep
  | zn
  | zncv (carry overflow : Bool)

/-- The flags of STATUS follow the rule for result `v`; every other bit stays. -/
def FlagRule.holds (old new v : Word) : FlagRule → Prop
  | .keep => new = old
  | .zn => new.getLsbD 0 = decide (v = 0) ∧ new.getLsbD 1 = v.getLsbD 31 ∧ ∀ i, 2 ≤ i → new.getLsbD i = old.getLsbD i
  | .zncv c o => new.getLsbD 0 = decide (v = 0) ∧ new.getLsbD 1 = v.getLsbD 31 ∧ new.getLsbD 2 = c ∧ new.getLsbD 3 = o ∧
      ∀ i, 4 ≤ i → new.getLsbD i = old.getLsbD i

/-- A number that 32 signed bits do not hold. -/
def overflows (x : Int) : Bool := decide (x < -2 ^ 31) || decide (2 ^ 31 ≤ x)

/-! ## Table 4-3: arithmetic -/

/-- An arithmetic instruction whose zero fields are zero: its rd, its result, and its flags. -/
def aluTable (i : Instr) (v : Ctx) : Option (RegNo × Word × FlagRule) :=
  let cin : Nat := if v.status.getLsbD 2 then 1 else 0
  let add := fun (rd : RegNo) (a b : Word) (n : Nat) => some (rd, BitVec.ofNat 32 (a.toNat + b.toNat + n),
    FlagRule.zncv (decide (2 ^ 32 ≤ a.toNat + b.toNat + n)) (overflows (a.toInt + b.toInt + n)))
  let sub := fun (rd : RegNo) (a b : Word) (n : Nat) => some (rd, BitVec.ofInt 32 ((a.toNat : Int) - b.toNat - n),
    FlagRule.zncv (decide (b.toNat + n ≤ a.toNat)) (overflows (a.toInt - b.toInt - n)))
  let r3 := fun (rd p q : RegNo) (z : BitVec 14) (f : Word → Word → Word) =>
    if z = 0 then some (rd, f (v.getX p) (v.getX q), FlagRule.zn) else none
  let ri := fun (rd p : RegNo) (z : BitVec 4) (f : Word → Word) => if z = 0 then some (rd, f (v.getX p), FlagRule.zn) else none
  let shift := fun (rd p : RegNo) (z : BitVec 4) (n : BitVec 14) (f : Word → Nat → Word) =>
    if z = 0 ∧ n.toNat < 32 then some (rd, f (v.getX p) n.toNat, FlagRule.zn) else none
  match i with
  | .add rd p q z => if z = 0 then add rd (v.getX p) (v.getX q) 0 else none
  | .adc rd p q z => if z = 0 then add rd (v.getX p) (v.getX q) cin else none
  | .addi rd p z n => if z = 0 then add rd (v.getX p) (n.signExtend 32) 0 else none
  | .sub rd p q z => if z = 0 then sub rd (v.getX p) (v.getX q) 0 else none
  | .sbc rd p q z => if z = 0 then sub rd (v.getX p) (v.getX q) (1 - cin) else none
  | .and rd p q z => r3 rd p q z fun a b => a &&& b
  | .or rd p q z => r3 rd p q z fun a b => a ||| b
  | .xor rd p q z => r3 rd p q z fun a b => a ^^^ b
  | .shl rd p q z => r3 rd p q z fun a b => a <<< (b.toNat % 32)
  | .shr rd p q z => r3 rd p q z fun a b => a >>> (b.toNat % 32)
  | .sar rd p q z => r3 rd p q z fun a b => a.sshiftRight (b.toNat % 32)
  | .mul rd p q z => r3 rd p q z fun a b => BitVec.ofNat 32 (a.toNat * b.toNat)
  | .mulh rd p q z => r3 rd p q z fun a b => BitVec.ofInt 32 ((a.toInt * b.toInt) / 2 ^ 32)
  | .divu rd p q z => r3 rd p q z fun a b => if b = 0 then 0xFFFFFFFF else BitVec.ofNat 32 (a.toNat / b.toNat)
  | .remu rd p q z => r3 rd p q z fun a b => if b = 0 then a else BitVec.ofNat 32 (a.toNat % b.toNat)
  | .slt rd p q z => r3 rd p q z fun a b => if a.toInt < b.toInt then 1 else 0
  | .sltu rd p q z => r3 rd p q z fun a b => if a.toNat < b.toNat then 1 else 0
  | .andi rd p z n => ri rd p z fun a => a &&& n.zeroExtend 32
  | .ori rd p z n => ri rd p z fun a => a ||| n.zeroExtend 32
  | .xori rd p z n => ri rd p z fun a => a ^^^ n.zeroExtend 32
  | .slti rd p z n => ri rd p z fun a => if a.toInt < (n.signExtend 32).toInt then 1 else 0
  | .shli rd p z n => shift rd p z n fun a k => a <<< k
  | .shri rd p z n => shift rd p z n fun a k => a >>> k
  | .sari rd p z n => shift rd p z n fun a k => a.sshiftRight k
  | .lui rd z n => if z = 0 then some (rd, BitVec.ofNat 32 (n.toNat * 2 ^ 14), FlagRule.keep) else none
  | _ => none

/-! ## Table 4-3: memory and flow -/

/-- A load whose zero field is zero: rd, rs1, offset, width, and the value of the bytes read. -/
def loadTable (i : Instr) : Option (RegNo × RegNo × BitVec 14 × Nat × (Nat → Word)) :=
  match i with
  | .ldw rd p z n => if z = 0 then some (rd, p, n, 4, BitVec.ofNat 32) else none
  | .ldh rd p z n => if z = 0 then some (rd, p, n, 2, fun v => (BitVec.ofNat 16 v).signExtend 32) else none
  | .ldhu rd p z n => if z = 0 then some (rd, p, n, 2, BitVec.ofNat 32) else none
  | .ldb rd p z n => if z = 0 then some (rd, p, n, 1, fun v => (BitVec.ofNat 8 v).signExtend 32) else none
  | .ldbu rd p z n => if z = 0 then some (rd, p, n, 1, BitVec.ofNat 32) else none
  | _ => none

/-- A store whose zero field is zero: the register stored, rs1, offset, width. -/
def storeTable (i : Instr) : Option (RegNo × RegNo × BitVec 14 × Nat) :=
  match i with
  | .stw rd p z n => if z = 0 then some (rd, p, n, 4) else none
  | .sth rd p z n => if z = 0 then some (rd, p, n, 2) else none
  | .stb rd p z n => if z = 0 then some (rd, p, n, 1) else none
  | _ => none

/-- A branch or jump whose zero field is zero: the register linked (X0 for none) and the next pc. -/
def flowTable (i : Instr) (v : Ctx) : Option (RegNo × Word) :=
  let branch := fun (z : BitVec 4) (p q : RegNo) (n : BitVec 14) (taken : Word → Word → Bool) =>
    if z = 0 then some ((0 : RegNo), if taken (v.getX p) (v.getX q) then v.pc + n.signExtend 32 * 4 else v.pc + 4) else none
  match i with
  | .beq z p q n => branch z p q n fun a b => decide (a = b)
  | .bne z p q n => branch z p q n fun a b => decide (a ≠ b)
  | .blt z p q n => branch z p q n fun a b => decide (a.toInt < b.toInt)
  | .bge z p q n => branch z p q n fun a b => decide (a.toInt ≥ b.toInt)
  | .bltu z p q n => branch z p q n fun a b => decide (a.toNat < b.toNat)
  | .bgeu z p q n => branch z p q n fun a b => decide (a.toNat ≥ b.toNat)
  | .jal rd n => some (rd, v.pc + n.signExtend 32 * 4)
  | .jalr rd p z n => if z = 0 then some (rd, BitVec.ofNat 32 ((v.getX p + n.signExtend 32).toNat / 4 * 4)) else none
  | _ => none

/-! ## Table 3-3: control registers -/

/-- The words of a context's own registers by index; rack time and the selectors are not among them. -/
def csrTable (c : Cid) (v : Ctx) (index : Nat) : Option Word :=
  match index with
  | 0 => some v.status
  | 1 => some v.epc
  | 2 => some v.estatus
  | 3 => some v.cause
  | 4 => some v.tval
  | 5 => some v.tvec
  | 6 => some v.evmask
  | 7 => some v.evpend
  | 8 => some (BitVec.ofNat 32 c.val)
  | 9 => some v.cycle
  | 0xC => some v.scratch0
  | 0xD => some v.scratch1
  | _ => none

/-! ## Zero fields (Table 4-1, R121) -/

/-- A field that Table 4-1 or the instruction's own row marks zero is not zero. -/
def zeroBroken (i : Instr) : Bool :=
  match i with
  | .add _ _ _ z | .sub _ _ _ z | .adc _ _ _ z | .sbc _ _ _ z | .and _ _ _ z | .or _ _ _ z | .xor _ _ _ z | .shl _ _ _ z
  | .shr _ _ _ z | .sar _ _ _ z | .mul _ _ _ z | .mulh _ _ _ z | .divu _ _ _ z | .remu _ _ _ z | .slt _ _ _ z
  | .sltu _ _ _ z => decide (z ≠ 0)
  | .addi _ _ z _ | .andi _ _ z _ | .ori _ _ z _ | .xori _ _ z _ | .slti _ _ z _ | .lui _ z _ | .ldw _ _ z _ | .ldh _ _ z _
  | .ldhu _ _ z _ | .ldb _ _ z _ | .ldbu _ _ z _ | .stw _ _ z _ | .sth _ _ z _ | .stb _ _ z _ | .jalr _ _ z _
  | .beq z _ _ _ | .bne z _ _ _ | .blt z _ _ _ | .bge z _ _ _ | .bltu z _ _ _ | .bgeu z _ _ _ => decide (z ≠ 0)
  | .shli _ _ z n | .shri _ _ z n | .sari _ _ z n => decide (z ≠ 0) || decide (32 ≤ n.toNat)
  | .csrr _ p q k => decide (p ≠ 0) || decide (q ≠ 0) || decide (2 ^ 12 ≤ k.toNat)
  | .csrw _ _ q k => decide (q ≠ 0) || decide (2 ^ 12 ≤ k.toNat)
  | .selch _ _ q k => decide (q ≠ 0) || decide (2 ^ 11 ≤ k.toNat)
  | .waite _ p q k => decide (p ≠ 0) || decide (q ≠ 0) || decide (k ≠ 0)
  | .sleep _ _ q k | .recv _ _ q k => decide (q ≠ 0) || decide (k ≠ 0)
  | .yield d p q k | .rete d p q k => decide (d ≠ 0) || decide (p ≠ 0) || decide (q ≠ 0) || decide (k ≠ 0)
  | .fence d p q k => decide (d ≠ 0) || decide (p ≠ 0) || decide (q ≠ 0) || decide (8 ≤ k.toNat)
  | .trap d z k => decide (d ≠ 0) || decide (z ≠ 0) || decide (2 ^ 16 ≤ k.toNat)
  | .meas _ _ q k => decide (q ≠ 0) || decide (16 ≤ k.toNat)
  | .bal _ _ _ k => decide (2 ^ 7 ≤ k.toNat)
  | .snap _ p q k => decide (p ≠ 0) || decide (q ≠ 0) || decide (8 ≤ k.toNat)
  | .send _ _ _ k => decide (2 ^ 10 ≤ k.toNat)
  | .scan _ _ _ k => decide (8 ≤ k.toNat)
  | .movb _ _ _ k => decide (k ≠ 0)
  | .logb _ _ _ k => decide (2 ^ 9 ≤ k.toNat)
  | .rmov _ _ _ k => decide (2 ≤ k.toNat)
  | _ => false

/-- A Basvo instruction (Tables 4-3, 4-4, 4-6, 4-8), not a command of another block. -/
def isBasvo (i : Instr) : Bool :=
  match i with
  | .add .. | .sub .. | .adc .. | .sbc .. | .and .. | .or .. | .xor .. | .shl .. | .shr .. | .sar .. | .mul .. | .mulh ..
  | .divu .. | .remu .. | .slt .. | .sltu .. | .addi .. | .andi .. | .ori .. | .xori .. | .shli .. | .shri .. | .sari ..
  | .slti .. | .lui .. | .ldw .. | .ldh .. | .ldhu .. | .ldb .. | .ldbu .. | .stw .. | .sth .. | .stb .. | .beq .. | .bne ..
  | .blt .. | .bge .. | .bltu .. | .bgeu .. | .jal .. | .jalr .. | .csrr .. | .csrw .. | .selch .. | .waite .. | .sleep ..
  | .yield .. | .fence .. | .rete .. | .trap .. | .meas .. | .bal .. | .snap .. | .send .. | .recv .. | .scan .. | .movb ..
  | .logb .. | .rmov .. => true
  | _ => false

/-! ## Traps (R84, R183) -/

/-- Context `c` has taken a trap with CAUSE and TVAL as given: its state before is saved, and it goes on at TVEC. -/
def State.trapped (s t : State) (c : Cid) (cause tval back : Word) : Prop :=
  (t.ctx c).estatus = (s.ctx c).status ∧ (t.ctx c).epc = back ∧ (t.ctx c).cause = cause ∧ (t.ctx c).tval = tval ∧
    (t.ctx c).status = (s.ctx c).status ||| 0x10 ∧ (t.ctx c).pc = (s.ctx c).tvec ∧ (t.ctx c).x = (s.ctx c).x ∧
    (t.ctx c).tvec = (s.ctx c).tvec ∧ (t.ctx c).evmask = (s.ctx c).evmask ∧ (t.ctx c).evpend = (s.ctx c).evpend ∧
    s.othersSame t c

/-! ## Local access -/

/-- The context holds no answer to a remote access at `va`, and waits for none. -/
def State.noneAt (s : State) (c : Cid) (va : Nat) : Prop :=
  (∀ r ans, (s.ctx c).slot = some (r, ans) → r.va ≠ va) ∧ ∀ r, (s.ctx c).req = some r → r.va ≠ va

/-- The access reaches a word of SRAM at `pa` through one of the context's windows, and its data is sound. -/
def State.reachesSram (s : State) (c : Cid) (a : Reach) (pa : Nat) : Prop :=
  (∃ w, s.place c.val a = .here pa w) ∧ isSram pa = true ∧ s.eccHit pa = false

/-! ## Access codes (Table 0-2) -/

/-- Offsets whose register takes a write by its fields' access codes alone: it starts nothing, and no other state follows it. -/
def plainWrites (off : Nat) : Bool :=
  !([0x0020, 0x1030, 0x1034, 0x2000, 0x2010, 0x2060, 0x2064, 0x2068, 0x206C, 0x2080, 0x20D0, 0x3008, 0x3034, 0x3040, 0x3044, 0x3048,
      0x304C, 0x3050, 0x3054, 0x3058, 0x305C, 0x3060, 0x4818, 0x5804, 0x5818, 0x6008, 0x6018, 0x6300, 0x6304, 0x7004, 0x7010, 0x7018,
      0x8010, 0x8014, 0x8080].contains off) &&
    !([0x900C, 0x9020, 0x9030, 0x9074, 0x9080, 0x9084, 0x9108, 0x9110, 0x9120, 0xA008, 0xA044, 0xA0C0, 0xA0C8, 0xA0CC, 0xB000, 0xB014,
      0xB01C, 0xB028].contains off) &&
    !(0x7100 ≤ off && off < 0x7200) && !(0xC000 ≤ off && off < 0xC100) && !(0xD000 ≤ off && off < 0xE000) && (selectorAt off).isNone

/-- Bit `i` of a field after a write of `w` over `old` that R18 does not discard; `fresh` bits were set by hardware in this tick (R13). -/
def State.wroteBit (s : State) (a : Access) (old w fresh : Word) (i : Nat) : Bool :=
  match a with
  | .rw => w.getLsbD i
  | .rs => w.getLsbD i
  | .rwCellJunction => if s.hasSafety then old.getLsbD i else w.getLsbD i
  | .rwJunction => if s.isJunction then w.getLsbD i else old.getLsbD i
  | .rwManager => if s.isManager then w.getLsbD i else old.getLsbD i
  | .w1c => old.getLsbD i && !(w.getLsbD i && !fresh.getLsbD i)
  | .w1s => old.getLsbD i || w.getLsbD i
  | .ro => old.getLsbD i
  | .rc => old.getLsbD i
  | .wo => old.getLsbD i

/-! ## Commands of the blocks -/

/-- A context keeps its registers and what it holds; its pending events and its state may follow an event. -/
def Ctx.keeps (v w : Ctx) : Prop :=
  w.x = v.x ∧ w.pc = v.pc ∧ w.status = v.status ∧ w.epc = v.epc ∧ w.estatus = v.estatus ∧ w.cause = v.cause ∧ w.tval = v.tval ∧
    w.tvec = v.tvec ∧ w.evmask = v.evmask ∧ w.cycle = v.cycle ∧ w.scratch0 = v.scratch0 ∧ w.scratch1 = v.scratch1 ∧ w.sel = v.sel ∧
    w.stage = v.stage ∧ w.rx = v.rx ∧ w.slot = v.slot ∧ v.evpend &&& ~~~w.evpend = 0

/-- Every context keeps what it holds, memory is as before, and so is the queue of commands. -/
def State.coreKept (s t : State) : Prop := (∀ c, (s.ctx c).keeps (t.ctx c)) ∧ t.mem = s.mem ∧ t.pending = s.pending

/-- Event `e` is pending in context `c`. -/
def State.rang (t : State) (c : Cid) (e : Nat) : Prop := (t.ctx c).evpend.getLsbD e = true

/-- A timer due at `d` was reached: the clock stands there, or where it stood when that was later. -/
def State.cameTo (s t : State) (d : Nat) : Prop := t.now = max s.now d

/-- The clock stands where rack time comes to `d`, or where it stood when that had come. -/
def State.cameToTick (s t : State) (d : Nat) : Prop := t.now = s.now + s.ticksTo d

/-- No write has changed an RW field in this tick, so that what hardware updates now is what the field holds (R15). -/
def State.unwritten (s : State) : Prop := s.wrote.2 = [] ∨ s.wrote.1 < s.now

/-- The Ladle is as before but for the current and time that it gathers with the clock. -/
def State.ladleKept (s t : State) : Prop :=
  t.ladle.closed = s.ladle.closed ∧ t.ladle.dutyOff = s.ladle.dutyOff ∧ t.ladle.targets = s.ladle.targets ∧
    t.ladle.leftNc = s.ladle.leftNc

/-! ## Frames that arrive -/

/-- No side message is being received, and the frame starts none. -/
def State.noSide (s : State) (a : Arrival) : Prop := (s.port a.port).sideRx = none ∧ a.frame.sideStart = false

/-- A valid frame comes on an UP port of the chain, with no side message. -/
def State.sound (s : State) (a : Arrival) : Prop := s.lineOf a = .good ∧ s.link a.port = Link.UP ∧ a.port ≠ xlink ∧ s.noSide a

/-- A valid frame comes on an UP port of the chain that is not shut to it, new on its link, and finds room; it may ask for an
acknowledgement or not. -/
def State.admits (s : State) (a : Arrival) : Prop :=
  s.sound a ∧ s.shutTo a.port a.frame = false ∧ s.judgeSeq a.port a.frame.lseq = .new ∧
    s.buffersUsed + s.needs a.port a.frame ≤ 32 ∧ (s.ctx (s.qmap a.frame.ftype)).rx.length < 8

/-- A frame waits at port `p`, or is on its transmitter, that `ok` describes. -/
def State.leaves (t : State) (p : Port) (ok : Frame → Prop) : Prop :=
  ∃ i, (i ∈ (t.port p).queue ∨ (t.port p).cur = some i) ∧ ok i.frame

/-- The arrival `a`, where it asks for it, is answered on its port by an ACK (`ok`) or a NAK with its LSEQ (R382, R383). -/
def State.replied (t : State) (ok : Bool) (a : Arrival) : Prop :=
  a.frame.ackreq = true → t.leaves a.port fun g => g.ftype = (if ok then Ty.ACK else Ty.NAK) ∧ g.lseq = a.frame.lseq ∧
    g.payload = if ok then [] else [1]

/-- No context and no byte of memory is changed. -/
def State.dropped (s t : State) : Prop := t.ctxs = s.ctxs ∧ t.mem = s.mem

/-- The commands by which a frame for this node, or through it, may arrive, each with the arrival that it is. -/
def messagesOf (a : Arrival) : List (Instr × Arrival) :=
  [(.data a, a.as Ty.DATA), (.safe a, a.as Ty.SAFE), (.bcast a, a.as Ty.BCAST), (.trip a, a.as Ty.TRIP),
    (.loadStatus a, a.asOp Ty.PROG 0x81), (.enumQuery a, a.asOp Ty.ENUM 1), (.enumAssign a, a.asOp Ty.ENUM 2),
    (.enumRoute a, a.asOp Ty.ENUM 3), (.enumPrimer a, a.asOp Ty.ENUM 4), (.enumLtread a, a.asOp Ty.ENUM 5),
    (.announce a, a.asOp Ty.IDENT 0x10), (.primerReq a, a.asOp Ty.IDENT 0x11), (.primerAck a, a.asOp Ty.IDENT 0x12), (.primerNak a, a.asOp Ty.IDENT 0x13),
    (.fenceReport a, a.asOp Ty.IDENT 0x20), (.info a, a.asOp Ty.IDENT 0x81), (.ltinfo a, a.asOp Ty.IDENT 0x85),
    (.mrec a, a.asOp Ty.MIRROR 1), (.mrel a, a.asOp Ty.MIRROR 2), (.mrej a, a.asOp Ty.MIRROR 3), (.bread a, a.asOp Ty.MIRROR 0x10),
    (.bdata a, a.asOp Ty.MIRROR 0x90), (.unfit a, a.asOp Ty.MIRROR 0x20)]

/-- The commands by which a message of the window unit arrives, each with the arrival that it is. -/
def requestsOf (a : Arrival) : List (Instr × Arrival) :=
  [(.rread a, a.asOp Ty.CONFIG 0x21), (.rwrite a, a.asOp Ty.CONFIG 0x22), (.rdata a, a.asOp Ty.CONFIG 0xA1),
    (.rdone a, a.asOp Ty.CONFIG 0xA2), (.rrefuse a, a.asOp Ty.CONFIG 0xAF)]

/-- The arrival `a` of `s` entered the receive queue of its type, RX was raised, and no other queue changed. -/
def State.queued (s t : State) (a : Arrival) : Prop :=
  (∀ c, (t.ctx c).rx = (s.ctx c).rx ++ if c = s.qmap a.frame.ftype then [⟨a.frame, BitVec.ofNat 8 a.port.val⟩] else []) ∧
    (∀ c, t.rang c Ev.RX) ∧ t.fld Reg.PORT_LSEQ.LAST_RX a.port = a.frame.lseq.toNat

/-- The copy of a forwarded frame: HOPS is one less, and everything its link does not own is as it came (R375, R427). -/
def copyLike (f g : Frame) : Prop :=
  g.hops = f.hops - 1 ∧ g.ftype = f.ftype ∧ g.prio = f.prio ∧ g.ackreq = f.ackreq ∧ g.dest = f.dest ∧ g.src = f.src ∧
    g.payload = f.payload

/-! ## Remote requests (R188 to R193) -/

/-- The request reads or writes `len` bytes at `va` through window `w`, for requester `who` (0 to 7 a context, 8 to 11 a channel) after
`tags` others, sent at `at_` (R190, R192). -/
def Request.asked (r : Request) (w : Win) (who tags va : Nat) (write : Bool) (len : Nat) (data : List Byte) (at_ : Nat) : Prop :=
  r.va = va ∧ r.write = write ∧ r.node = w.node ∧ r.host = w.isHost ∧ r.addr = (w.pbase + (va - w.vbase)) % 2 ^ 32 ∧ r.len = len ∧
    r.data = data ∧ r.tag = BitVec.ofNat 16 (who + 16 * tags) ∧ r.deadline = at_ + w.timeout

/-- The request's message of Table 5-2 is in WINOUT, or leaves for its node where an UP port that is not fenced leads there (R188, R193). -/
def State.asks (s t : State) (r : Request) (prio : Nat) : Prop :=
  let b := [if r.write then 0x22 else 0x21, BitVec.ofNat 8 r.len] ++ leBytes 2 r.tag.toNat ++ leBytes 4 r.addr ++ if r.write then r.data else []
  (r.host = true → (r.tag, streamMessage 0 b) ∈ t.hostPort.winOut) ∧
    ∀ (q : Port) (up : Bool), r.host = false → s.route r.node = some (q, up) → s.link q = Link.UP → s.check q ≠ 3 → t.leaves q fun g =>
      g.ftype = Ty.CONFIG ∧ g.dest = r.node ∧ g.prio = prio ∧ g.ackreq = true ∧ g.hops = s.defHops ∧ g.payload = b

/-- The window leads to the host or to another node than this one. -/
def State.leads (s : State) (w : Win) : Prop := w.isHost = true ∨ s.isMine w.node = false

/-- Context `c` has sent this request at `va` as instruction, with its registers as they were, and waits for the answer. -/
def State.sentBy (s t : State) (c : Cid) (w : Win) (va : Nat) (write : Bool) (len : Nat) (data : List Byte) : Prop :=
  (∃ r, (t.ctx c).req = some r ∧ r.asked w c.val (s.ctx c).tagCount.toNat va write len data (s.takeCore c).now ∧ s.asks t r c.val) ∧
    (t.ctx c).state = .waiting ∧ (t.ctx c).wait = some .remote ∧ (t.ctx c).slot = none ∧ (t.ctx c).pc = (s.ctx c).pc ∧
    (t.ctx c).x = (s.ctx c).x ∧ (t.ctx c).status = (s.ctx c).status ∧ t.mem = s.mem

end Sys2Proof.Machine
end

