-- ==== Sys2Proof/Certificates/Slice0/Obligations.lean ====
section
/-! DEFINITION. The statements for the provers, in the words of Sys2Proof/Safety.lean. Each docstring says what is claimed and the
rules it rests on. -/

open Sys2Proof Sys2Proof.Machine

/-- For every command c, state s and queue rest: a step of s with c in front of rest is exec of c on s with the queue rest.
(95_what_each_step_holds.md) -/
def Obligations.StepTakesFront : Prop :=
  ∀ (c : Instr) (rest : List Instr) (s : State), step { s with pending := c :: rest } = exec c { s with pending := rest }

/-- For each of ADD SUB ADC SBC AND OR XOR SHL SHR SAR MUL MULH DIVU REMU SLT SLTU ADDI ANDI ORI XORI SHLI SHRI SARI SLTI LUI whose
zero fields are zero, at every state in which a context executes: the command completes; rd holds the result of Table 4-3 (X0
takes nothing), the flags follow R128 and the Flags column, pc goes to pc + 4; every other register, special register, context,
peripheral register and byte of memory is unchanged. (R127, R128, R130, R131, R124, R125) -/
def Obligations.ArithmeticResults : Prop :=
  ∀ (i : Instr) (s : State) (c : Cid) (rd : RegNo) (v : Word) (fl : FlagRule), s.executing = some c →
    aluTable i (s.ctx c) = some (rd, v, fl) →
    Completes i s fun t => s.wroteReg t c rd v ((s.ctx c).pc + 4) ∧ fl.holds (s.ctx c).status (t.ctx c).status v ∧ s.storesNothing t

/-- For each of LDW LDH LDHU LDB LDBU with its zero field zero, where the address rs1 + sext(imm14) reaches sound SRAM at pa through
the context's windows and no remote access there is under way: the load completes; rd holds the bytes at pa, little-endian,
widened as Table 4-3 says, pc goes to pc + 4, and STATUS, every other register, every peripheral register and every byte of
memory is unchanged. For each of STW STH STB with its zero field zero, where the address rs1 + sext(imm14) reaches SRAM at pa
through the context's windows and no remote access there is under way: the store completes; the form's bytes at pa are the low
bytes of the register stored, every other byte of memory is unchanged, no register changes but pc, which goes to pc + 4. LDW and
STW whose answer is in the context's slot, sent by the same word with the same operands, take it, whatever the windows are by then,
and empty the slot. A load or store whose address lies in a REMOTE window, to the host or another node, with no answer there and none
under way, sends its request, into WINOUT or toward the node, and the context waits for the answer at the same pc with its registers
as they were. (R127, R78, R120, R182, R122, R129, R147, R185, R188, R190, R192) -/
def Obligations.LoadsAndStores : Prop :=
  (∀ (i : Instr) (s : State) (c : Cid) (rd p : RegNo) (n : BitVec 14) (w : Nat) (ext : Nat → Word) (pa : Nat), s.executing = some c →
    loadTable i = some (rd, p, n, w, ext) → s.noneAt c ((s.ctx c).getX p + n.signExtend 32).toNat →
    s.reachesSram c ⟨((s.ctx c).getX p + n.signExtend 32).toNat, w, false, 0, false, false⟩ pa →
    Completes i s fun t => s.wroteReg t c rd (ext (leNat (s.bytes pa w))) ((s.ctx c).pc + 4) ∧ (t.ctx c).status = (s.ctx c).status ∧
      s.storesNothing t) ∧
    (∀ (i : Instr) (s : State) (c : Cid) (rd p : RegNo) (n : BitVec 14) (w pa win : Nat), s.canonical = true → s.executing = some c →
    storeTable i = some (rd, p, n, w) → s.noneAt c ((s.ctx c).getX p + n.signExtend 32).toNat →
    s.place c.val ⟨((s.ctx c).getX p + n.signExtend 32).toNat, w, true, 1, false, false⟩ = .here pa win → isSram pa = true →
    Completes i s fun t => s.wroteReg t c 0 0 ((s.ctx c).pc + 4) ∧ (t.ctx c).status = (s.ctx c).status ∧ t.regs = s.regs ∧
      leNat (t.bytes pa w) = ((s.ctx c).getX rd).toNat % 2 ^ (8 * w) ∧ ∀ a, a < pa ∨ pa + w ≤ a → t.byte a = s.byte a) ∧
    (∀ (s : State) (c : Cid) (rd p : RegNo) (n : BitVec 14) (r : Request), s.executing = some c →
    r.va = ((s.ctx c).getX p + n.signExtend 32).toNat →
    (∀ b : List Byte, (s.ctx c).slot = some (r, .data b) → r.word = wordOf 0x1A rd.val p.val 0 n.toNat → r.opnd = 0 → r.write = false →
      Completes (.ldw rd p 0 n) s fun t => s.wroteReg t c rd (BitVec.ofNat 32 (leNat b)) ((s.ctx c).pc + 4) ∧
        (t.ctx c).slot = none ∧ (t.ctx c).status = (s.ctx c).status ∧ s.storesNothing t) ∧
    ((s.ctx c).slot = some (r, .done) → r.word = wordOf 0x1F rd.val p.val 0 n.toNat → r.opnd = ((s.ctx c).getX rd).toNat → r.write = true →
      Completes (.stw rd p 0 n) s fun t => s.wroteReg t c 0 0 ((s.ctx c).pc + 4) ∧ (t.ctx c).slot = none ∧
        (t.ctx c).status = (s.ctx c).status ∧ s.storesNothing t)) ∧
    (∀ (i : Instr) (s : State) (c : Cid) (rd p : RegNo) (n : BitVec 14) (w win : Nat), s.canonical = true → s.executing = some c →
    let va := ((s.ctx c).getX p + n.signExtend 32).toNat
    s.noneAt c va → s.leads (s.win c.val win) →
    (∀ ext : Nat → Word, loadTable i = some (rd, p, n, w, ext) → s.place c.val ⟨va, w, false, 0, false, false⟩ = .away win →
      Completes i s fun t => s.sentBy t c (s.win c.val win) va false w []) ∧
    (storeTable i = some (rd, p, n, w) → s.place c.val ⟨va, w, true, 1, false, false⟩ = .away win →
      Completes i s fun t => s.sentBy t c (s.win c.val win) va true w (leBytes w (((s.ctx c).getX rd).toNat % 2 ^ (8 * w)))))

/-- For each of BEQ BNE BLT BGE BLTU BGEU JAL JALR with its zero field zero: the command completes; pc is the target of Table 4-3 or
pc + 4, JAL and JALR link pc + 4 in rd, and STATUS, every other register, peripheral register and byte of memory is unchanged.
(R127, R120, R125, R126) -/
def Obligations.FlowResults : Prop :=
  ∀ (i : Instr) (s : State) (c : Cid) (rd : RegNo) (pc : Word), s.executing = some c → flowTable i (s.ctx c) = some (rd, pc) →
    Completes i s fun t => s.wroteReg t c rd ((s.ctx c).pc + 4) pc ∧ (t.ctx c).status = (s.ctx c).status ∧ s.storesNothing t

/-- CSRR of an index of Table 3-3 puts the register of the context, its copy of the selector or rack time in rd and changes nothing
else but pc; RTIME_LO also holds rack time [47:32] and the epoch byte, which RTIME_HI returns. An index that the table has not traps
ILLEGAL with detail 4. CSRW to EPC, ESTATUS, TVEC (a multiple of 4), SCRATCH0 or SCRATCH1 puts rs1 there and the old value in rd, and no
other control register but CYCLE changes; so to EVMASK; to EVPEND it clears the bits that are 1 in rs1, but for those of events raised
in this tick; to STATUS it sets the low five bits, TRAP among them, and leaves CTXID and PRIV. SELCH of selector n, and CSRW of its
index, judged by its channel field, from a context that may write it, with a channel of the selector: the selector copy of that context
holds it, rd the old value; no other context's copy changes, nor memory nor peripheral registers. A value beyond the range traps
SEL_RANGE with the selector's number and leaves the copy. Both on CTX_SEL or WIN_SEL from CTX1 to CTX7 trap PRIV and change no copy, in
a handler as well. Selector numbers 6 and 7 trap ILLEGAL with detail 2. (R82, R136) -/
def Obligations.ControlRegisters : Prop :=
  (∀ (s : State) (c : Cid) (rd p : RegNo), s.executing = some c →
    (∀ (k : BitVec 14) (w : Word), csrTable c (s.ctx c) k.toNat = some w →
      Completes (.csrr rd 0 0 k) s fun t => s.wroteReg t c rd w ((s.ctx c).pc + 4) ∧
        (t.ctx c).status = (s.ctx c).status ∧ s.storesNothing t) ∧
    (∀ n : Fin 6, Completes (.csrr rd 0 0 (BitVec.ofNat 14 (0x10 + n.val))) s fun t =>
      s.wroteReg t c rd (BitVec.ofNat 32 (s.ctx c).sel[n]) ((s.ctx c).pc + 4) ∧ (t.ctx c).status = (s.ctx c).status ∧ s.storesNothing t) ∧
    Completes (.csrr rd 0 0 0xA) s (fun t => s.wroteReg t c rd (BitVec.ofNat 32 (s.takeCore c).rackTicks) ((s.ctx c).pc + 4) ∧
      (t.ctx c).rtimeHold.toNat = (s.takeCore c).rackTicks / 2 ^ 32 % 2 ^ 16 + 2 ^ 16 * (s.takeCore c).epoch ∧
      (t.ctx c).status = (s.ctx c).status ∧ s.storesNothing t) ∧
    Completes (.csrr rd 0 0 0xB) s (fun t => s.wroteReg t c rd ((s.ctx c).rtimeHold.zeroExtend 32) ((s.ctx c).pc + 4) ∧
      (t.ctx c).rtimeHold = (s.ctx c).rtimeHold ∧ (t.ctx c).status = (s.ctx c).status ∧ s.storesNothing t) ∧
    (∀ k : BitVec 14, k.toNat < 2 ^ 12 → k.toNat = 0xE ∨ k.toNat = 0xF ∨ 0x16 ≤ k.toNat → (s.ctx c).status.getLsbD 4 = false →
      ∀ i ∈ [Instr.csrr rd 0 0 k, .csrw rd p 0 k], Completes i s fun t => s.trapped t c 0x401 0 (s.ctx c).pc ∧ s.storesNothing t) ∧
    (∀ k ∈ [1, 2, 5, 0xC, 0xD], let v := (s.ctx c).getX p
      Completes (.csrw rd p 0 (BitVec.ofNat 14 k)) s fun t =>
        csrTable c (t.ctx c) k = some (if k = 5 then v &&& 0xFFFFFFFC else v) ∧
        (∀ j, j ≠ k → j ≠ 9 → csrTable c (t.ctx c) j = csrTable c (s.ctx c) j) ∧ (t.ctx c).sel = (s.ctx c).sel ∧
        (∀ old, csrTable c (s.ctx c) k = some old → s.gave t c rd old) ∧ s.othersSame t c ∧ s.storesNothing t) ∧
    Completes (.csrw rd p 0 6) s (fun t => (t.ctx c).evmask = (s.ctx c).getX p ∧ s.gave t c rd (s.ctx c).evmask ∧ s.storesNothing t) ∧
    Completes (.csrw rd p 0 7) s (fun t =>
      (t.ctx c).evpend = (s.ctx c).evpend &&& ~~~((s.ctx c).getX p &&& ~~~(s.ctx c).freshEvents (s.takeCore c).now) ∧
      s.gave t c rd (s.ctx c).evpend ∧ (t.ctx c).evmask = (s.ctx c).evmask ∧ s.storesNothing t) ∧
    Completes (.csrw rd p 0 0) s (fun t => (∀ i, i < 5 → (t.ctx c).status.getLsbD i = ((s.ctx c).getX p).getLsbD i) ∧
      (∀ i, 5 ≤ i → (t.ctx c).status.getLsbD i = (s.ctx c).status.getLsbD i) ∧ s.gave t c rd (s.ctx c).status ∧ s.storesNothing t)) ∧
    (∀ (s : State) (c : Cid) (rd p : RegNo) (n : Fin 6) (k : BitVec 8), s.executing = some c →
    let x := (s.ctx c).getX p
    let image := x.toNat % 2 ^ [4, 2, 3, 3, 3, 3].getD n.val 0
    ∀ e ∈ [(Instr.selch rd p 0 (BitVec.ofNat 14 (n.val * 256 + k.toNat)), (x + k.zeroExtend 32).toNat),
      (.csrw rd p 0 (BitVec.ofNat 14 (0x10 + n.val)), image)],
    ((n.val ≠ 2 ∧ n.val ≠ 3 ∨ c = 0) →
      (e.2 < [16, 4, 8, 8, 8, 6].getD n.val 0 → Completes e.1 s fun t => (t.ctx c).sel[n] = e.2 ∧
        (∀ m : Fin 6, m ≠ n → (t.ctx c).sel[m] = (s.ctx c).sel[m]) ∧ s.gave t c rd (BitVec.ofNat 32 (s.ctx c).sel[n]) ∧
        s.othersSame t c ∧ s.storesNothing t) ∧
      ([16, 4, 8, 8, 8, 6].getD n.val 0 ≤ e.2 → (s.ctx c).status.getLsbD 4 = false →
        Completes e.1 s fun t => s.trapped t c (BitVec.ofNat 32 (0xA + 256 * n.val)) 0 (s.ctx c).pc ∧ (t.ctx c).sel = (s.ctx c).sel)) ∧
    (n.val = 2 ∨ n.val = 3 → c ≠ 0 →
      Completes e.1 s fun t => (t.ctx c).sel = (s.ctx c).sel ∧ (t.ctx c).cause = 2 ∧ (t.ctx c).x = (s.ctx c).x ∧
        ((s.ctx c).status.getLsbD 4 = false → s.trapped t c 2 0 (s.ctx c).pc ∧ s.storesNothing t))) ∧
    ∀ (s : State) (c : Cid) (rd p : RegNo) (n : Nat) (k : BitVec 8), s.executing = some c → n = 6 ∨ n = 7 →
    (s.ctx c).status.getLsbD 4 = false → Completes (.selch rd p 0 (BitVec.ofNat 14 (n * 256 + k.toNat))) s fun t =>
      s.trapped t c 0x201 0 (s.ctx c).pc ∧ s.storesNothing t

/-- CSRW to CAUSE, TVAL, CTXID, CYCLE, RTIME_LO or RTIME_HI, the read-only indices of Table 3-3, writes nothing, does not trap, and
puts in rd the value that a read gives once the context has the core; to RTIME_LO it latches rack time [47:32] and the epoch
byte in the holding register. (R140) -/
def Obligations.ReadOnlyCsrWrites : Prop :=
  ∀ (s : State) (c : Cid) (rd p : RegNo) (k : BitVec 14), s.executing = some c → k.toNat ∈ [3, 4, 8, 9, 0xA, 0xB] →
    let r := s.takeCore c
    Completes (.csrw rd p 0 k) s fun t => (∃ w, r.csr c k.toNat = some w ∧ s.wroteReg t c rd w ((s.ctx c).pc + 4)) ∧
      (t.ctx c).status = (s.ctx c).status ∧ (t.ctx c).cycle = (s.ctx c).cycle + 1 ∧ s.storesNothing t ∧
      (k.toNat ≠ 0xA → (t.ctx c).rtimeHold = (s.ctx c).rtimeHold) ∧
      (k.toNat = 0xA → (t.ctx c).rtimeHold.toNat = r.rackTicks / 2 ^ 32 % 2 ^ 16 + 2 ^ 16 * r.epoch)

/-- With an enabled event pending, WAITE, and SLEEP with a permitted state (SHIP for CTX0 alone), put EVPEND and EVMASK in rd and go
on at pc + 4; with none, the context is WAITING at the same pc, in SLEEP with the state that it permits. SLEEP with any other value
traps ILLEGAL with detail 2, with SHIP in CTX1 to CTX7 PRIV. YIELD with no higher-numbered
context READY, or with an enabled event pending, and FENCE with no remote store outstanding and no owned channel at work, go on at
pc + 4 with no other effect. YIELD with a higher-numbered context READY, and no enabled event, waits for just those contexts, unless
its wait is over; FENCE of a class that names it waits for a remote store outstanding, and for an owned channel at work; both at the same
pc. (R71, R74, R137, R138, R139, R141) -/
def Obligations.EventInstructions : Prop :=
  ∀ (s : State) (c : Cid) (rd p : RegNo), s.executing = some c →
    let hit := (s.ctx c).evpend &&& (s.ctx c).evmask
    (hit ≠ 0 → Completes (.waite rd 0 0 0) s fun t => s.wroteReg t c rd hit ((s.ctx c).pc + 4) ∧
      (t.ctx c).status = (s.ctx c).status ∧ s.storesNothing t) ∧
    let k := ((s.ctx c).getX p).toNat % 8
    let permitted := 1 ≤ k ∧ k ≤ 3 ∨ k = 4 ∧ c = 0
    let waits := fun (w : Wait) (t : State) => (t.ctx c).state = .waiting ∧ (t.ctx c).wait = some w ∧ (t.ctx c).pc = (s.ctx c).pc ∧
      (t.ctx c).x = (s.ctx c).x ∧ (t.ctx c).status = (s.ctx c).status ∧ s.storesNothing t
    (hit ≠ 0 → permitted →
      Completes (.sleep rd p 0 0) s fun t => s.wroteReg t c rd hit ((s.ctx c).pc + 4) ∧ (t.ctx c).status = (s.ctx c).status ∧
        s.storesNothing t) ∧
    ((s.ctx c).status.getLsbD 4 = false → (k = 0 ∨ 5 ≤ k → Completes (.sleep rd p 0 0) s fun t => s.trapped t c 0x201 0 (s.ctx c).pc) ∧
      (k = 4 → c ≠ 0 → Completes (.sleep rd p 0 0) s fun t => s.trapped t c 2 0 (s.ctx c).pc)) ∧
    (hit = 0 → Completes (.waite rd 0 0 0) s (waits .event) ∧ (permitted → Completes (.sleep rd p 0 0) s (waits (.sleep k)))) ∧
    (let higher := fun (d : Cid) => c < d ∧ ((s.ctx d).state = .ready ∨ (s.ctx d).state = .running)
     ((∀ d, ¬higher d) ∨ hit ≠ 0 ∨ (s.ctx c).yielded = true →
      Completes (.yield 0 0 0 0) s fun t => s.wroteReg t c 0 0 ((s.ctx c).pc + 4) ∧ (t.ctx c).status = (s.ctx c).status ∧
        s.storesNothing t) ∧
     ((∃ d, higher d) → hit = 0 → (s.ctx c).yielded = false →
      Completes (.yield 0 0 0 0) s fun t => ∃ l, waits (.yield l) t ∧ ∀ d, d ∈ l ↔ higher d)) ∧
    (∀ cls : BitVec 3, let store := ∃ r, (s.ctx c).req = some r ∧ r.write = true
      let channel := ∃ n : Fin 4, s.dmaOwner n = c.val ∧ (s.dmaState n = 1 ∨ s.dmaState n = 2)
      (¬((cls = 0 ∨ cls.getLsbD 1 = true) ∧ store) → ¬((cls = 0 ∨ cls.getLsbD 2 = true) ∧ channel) →
        Completes (.fence 0 0 0 (cls.zeroExtend 14)) s fun t => s.wroteReg t c 0 0 ((s.ctx c).pc + 4) ∧
          (t.ctx c).status = (s.ctx c).status ∧ s.storesNothing t) ∧
      ((cls = 0 ∨ cls.getLsbD 1 = true) ∧ store ∨ (cls = 0 ∨ cls.getLsbD 2 = true) ∧ channel →
        Completes (.fence 0 0 0 (cls.zeroExtend 14)) s (waits (.fence cls))))

/-- TRAP in a context whose STATUS.TRAP is 0: ESTATUS takes STATUS, EPC the next instruction's address, CAUSE the code with cause
SOFT, TVAL 0, STATUS.TRAP is set and pc is TVEC. RETE restores the writable bits of STATUS from ESTATUS and pc from EPC. Neither
changes another register, a peripheral register or memory. A trap while STATUS.TRAP is 1, by TRAP or by a field that is not zero, is a
double fault: CAUSE and TVAL are the second's, EPC, ESTATUS and X the first's. CTX1 to CTX7 are parked: CTX_PARKED is pending in CTX0, a
record of kind 2 is handed off, and every other context goes on. In CTX0 the sequencer is reset: every context stops with empty slot
and staging buffer, a channel at work is halted with CODE RESET, a commit in progress goes on, windows and export entries stay,
SYS_RSTCNT.SEQ counts, the programs are to be started again, and a record of kind 3 is handed
off, at once (log 39); no demand source changes, but that a manager takes SEQRST, and with it releases torque. (R82, R84, R85, R86, R87,
R222) -/
def Obligations.TrapAndReturn : Prop :=
  (∀ (s : State) (c : Cid) (code : BitVec 16), s.executing = some c →
    ((s.ctx c).status.getLsbD 4 = false → Completes (.trap 0 0 (code.zeroExtend 18)) s fun t =>
      s.trapped t c (BitVec.ofNat 32 (0x0C + 256 * code.toNat)) 0 ((s.ctx c).pc + 4) ∧ s.storesNothing t) ∧
    Completes (.rete 0 0 0 0) s fun t => (t.ctx c).pc = (s.ctx c).epc ∧ (t.ctx c).x = (s.ctx c).x ∧
      (∀ i, i < 5 → (t.ctx c).status.getLsbD i = (s.ctx c).estatus.getLsbD i) ∧
      (∀ i, 5 ≤ i → (t.ctx c).status.getLsbD i = (s.ctx c).status.getLsbD i) ∧
      (s.ctx c).sameSpecial (t.ctx c) ∧ s.othersSame t c ∧ s.storesNothing t) ∧
    ∀ (s : State) (c : Cid) (i : Instr) (cause : Word), s.executing = some c → (s.ctx c).status.getLsbD 4 = true →
    (zeroBroken i = true ∧ cause = 0x101 ∨
      ∃ code : BitVec 16, i = .trap 0 0 (code.zeroExtend 18) ∧ cause = BitVec.ofNat 32 (0x0C + 256 * code.toNat)) →
    let fault := fun (t : State) => (t.ctx c).cause = cause ∧ (t.ctx c).tval = 0 ∧ (t.ctx c).epc = (s.ctx c).epc ∧
      (t.ctx c).estatus = (s.ctx c).estatus ∧ (t.ctx c).x = (s.ctx c).x ∧ (t.ctx c).pc = (s.ctx c).pc ∧ t.pending = s.pending
    let recorded := fun (t : State) (kind : Byte) => s.flag Reg.BBX_STAT.READY = true → s.flag Reg.BBX_STAT.DEGRADED = false →
      s.bbx.pins.length < 64 → s.bbx.queue.length + s.bbx.early.length < 16 →
      ∃ r, (r, none) ∈ t.bbx.queue ∧ r.kind = kind ∧ r.sticky = true ∧ r.seq = s.bbx.nextSeq
    (c ≠ 0 → Completes i s fun t => fault t ∧ (t.ctx c).state = .parked ∧ t.rang 0 Ev.CTX_PARKED ∧ recorded t 2 ∧
      (∀ d, d ≠ c → (s.ctx d).keeps (t.ctx d)) ∧
      ((∀ n : Fin 4, s.dmaOwner n = c.val → s.dmaState n = 0 ∨ s.dmaState n = 3) → ∀ a, t.byte a = s.byte a)) ∧
    (c = 0 → Completes i s fun t => fault t ∧ recorded t 3 ∧ t.boot.started = false ∧
      (∀ d, (t.ctx d).state = .idle ∧ (t.ctx d).slot = none ∧ (t.ctx d).req = none ∧ (t.ctx d).stage = [] ∧ (t.ctx d).x = (s.ctx d).x) ∧
      (∀ n : Fin 4, if s.dmaState n = 1 ∨ s.dmaState n = 2 then t.dmaState n = 3 ∧ t.fld Reg.DMA_STAT.CODE n = 6
        else t.dmaState n = s.dmaState n) ∧ t.bbx.commit = s.bbx.commit ∧ (∀ k, 0xE000 ≤ k % 0x10000 → t.reg k = s.reg k) ∧
      t.fld Reg.SYS_RSTCNT.SEQ = min 0xFFFF (s.fld Reg.SYS_RSTCNT.SEQ + 1) ∧
      (∀ n, n ≠ Src.SEQRST → bitAt t.dsrc n = bitAt s.dsrc n) ∧
      (s.isManager = false → t.dsrc = s.dsrc) ∧
      (s.isManager = true → bitAt t.dsrc Src.SEQRST = true ∧ (bitAt s.dsrc Src.SEQRST = false → t.flag Reg.SAFE_TRQ.PERMIT = false)))

/-- An instruction with a non-zero field that Table 4-1 or its own row marks zero, in a context whose STATUS.TRAP is 0, traps ILLEGAL
with detail 0x0001: the state before is saved, pc is TVEC, and no register, peripheral register or byte of memory changes; that this
detail comes before others, where a word breaks more than one rule, is the model's (log 6). LDW, LDH, LDHU, STW or STH at an address
that is not a multiple of its width, where no remote access is under way, in a context whose STATUS.TRAP is 0, traps ALIGN: TVAL is
the address, CAUSE[11:8] of the detail is 0xF and its access kind 0 or 1, and neither a register nor memory changes. (R121, R123,
R84, R182, R183, R146) -/
def Obligations.InstructionTraps : Prop :=
  (∀ (i : Instr) (s : State) (c : Cid), s.executing = some c → (s.ctx c).status.getLsbD 4 = false → zeroBroken i = true →
    Completes i s fun t => s.trapped t c 0x101 0 (s.ctx c).pc ∧ s.storesNothing t) ∧
    (∀ (i : Instr) (s : State) (c : Cid) (rd p : RegNo) (n : BitVec 14) (w : Nat), s.executing = some c →
    (s.ctx c).status.getLsbD 4 = false →
    let va := (s.ctx c).getX p + n.signExtend 32
    va.toNat % w ≠ 0 → s.noneAt c va.toNat →
    (∀ ext : Nat → Word, loadTable i = some (rd, p, n, w, ext) →
      Completes i s fun t => s.trapped t c (BitVec.ofNat 32 (3 + 256 * 0xF)) va (s.ctx c).pc ∧ s.storesNothing t) ∧
    (storeTable i = some (rd, p, n, w) →
      Completes i s fun t => s.trapped t c (BitVec.ofNat 32 (3 + 256 * (0xF + 16))) va (s.ctx c).pc ∧ s.storesNothing t))

/-- MEAS on an armed compare later than now arms the channels of the mask that are neither armed nor converting and run in this role,
tied to that compare, Study where asked, and returns their mask; on one disarmed or not later it returns 0x8000_0000 and does nothing.
A Study channel less than 200 µs before its start stops the shuttles at issue, with QW_SHORT where one ran in the 200 µs before the
start; channel 13 under BIAS later than SETTLE × 10 µs before it turns AUXREF on with BIAS_SHORT. Without a compare the channels
start in this tick. MEAS with CANCEL returns the armed channels of the mask and leaves none of them armed. BAL CHARGE or DISCHARGE
on a cell without the trip that bars it starts on an idle shuttle and on a busy one replaces its operation from the next 4 µs cycle,
whose phase is the model's (log 35); a trip refuses it; BLEED_ON closes the cell's switch with its target unless an under-voltage
trip refuses it; STOP leaves the shuttle idle, BLEED_OFF the switch open; all return the bound, or 0 for a switch. SNAP local returns
the next local number, raises SNAP in every context and steps the number, where bank 0 has not latched in this tick; SNAP of a rack
snapshot by a manager sends a SCHED on every UP port, waits for the compare and returns its number, or 0xFFFF_FFFF for a compare
disarmed or not later; on another die it traps ILLEGAL with detail 3. (R148, R149, R150, R151, R152, R153, R155, R156, R236, R248,
R317, R319) -/
def Obligations.DeviceInstructions : Prop :=
  ∀ (s : State) (c : Cid) (rd p q : RegNo), s.canonical = true → s.executing = some c →
    let r := s.takeCore c
    let mask := ((s.ctx c).getX p).toNat % 2 ^ 16
    let acc := (((List.range 16).filter fun n => bitAt mask n && !bitAt (Nat.lor r.armedMask r.convMask) n && r.chanRuns n).map
      fun n => 2 ^ n).sum
    let study := Nat.land (((s.ctx c).getX p).toNat / 2 ^ 16) acc
    (∀ k : Fin 4, s.rtcArmed k.val = true → r.rackNow < s.rtcTarget k.val →
      let lead := r.ticksTo (s.rtcTarget k.val)
      let late := bitAt acc 13 = true ∧ s.flag Reg.MEAS_AUXCFG.BIAS = true ∧ lead < 240 * s.fld Reg.MEAS_AUXCFG.SETTLE
      Completes (.meas rd p 0 (BitVec.ofNat 14 (k.val + 1))) s fun t => s.gave t c rd (BitVec.ofNat 32 acc) ∧
        (acc ≠ 0 → ∃ e ∈ t.meas.sets, e.trig = some k ∧ e.left = acc ∧ e.study = study ∧ e.started = false ∧
          (e.quiet = true ↔ study ≠ 0 ∧ lead < us 200)) ∧
        (study ≠ 0 → lead < us 200 → t.meas.pauseHeld = true ∧ t.meas.resumeAt = none ∧
          (r.ranWithin lead = true → t.flag Reg.MEAS_QW.SHORT = true)) ∧
        (late → t.flag Reg.MEAS_AUXST.BIAS_SHORT = true ∧ t.meas.auxref = true) ∧
        ((study = 0 ∨ us 200 ≤ lead) → ¬late → s.storesNothing t)) ∧
    (∀ k : Fin 4, s.rtcArmed k.val = false ∨ s.rtcTarget k.val ≤ r.rackNow →
      Completes (.meas rd p 0 (BitVec.ofNat 14 (k.val + 1))) s fun t => s.gave t c rd 0x80000000 ∧ t.meas.sets.length = s.meas.sets.length ∧
        s.storesNothing t) ∧
    Completes (.meas rd p 0 0) s (fun t => s.gave t c rd (BitVec.ofNat 32 acc) ∧
      (acc ≠ 0 → ∃ e ∈ t.meas.sets, e.trig = none ∧ e.left = acc ∧ e.study = study ∧ e.started = true ∧ e.startedAt = r.now) ∧
      ∀ n, bitAt acc n = true → t.fld Reg.MEAS_STAMP.TICK n = r.rackTicks % 2 ^ 32) ∧
    Completes (.meas rd p 0 8) s (fun t =>
      s.wroteReg t c rd (BitVec.ofNat 32 (Nat.land mask s.armedMask)) ((s.ctx c).pc + 4) ∧
        s.storesNothing t ∧ ∀ e ∈ t.meas.sets, e.started = false → Nat.land e.left mask = 0) ∧
    (∀ cell : Fin 12, s.hasCells = true →
      let k : Fin 6 := Fin.ofNat 6 (cell.val / 2)
      let bound := BitVec.ofNat 32 (s.fld Reg.BAL_CUR.BOUND k)
      let ceil := min (((s.ctx c).getX q).toNat % 2 ^ 11) 1000
      let target := ((s.ctx c).getX p).toNat
      Completes (.bal rd p q (BitVec.ofNat 14 (cell.val + 1))) s (fun t => s.gave t c rd bound ∧ t.fld Reg.BAL_ST.OP k = 0) ∧
      Completes (.bal rd p q (BitVec.ofNat 14 (cell.val + 1 + 64))) s (fun t => s.gave t c rd 0 ∧ t.bitOf Reg.BAL_BLEED.CLOSED cell.val = false) ∧
      Completes (.bal rd p q (BitVec.ofNat 14 (cell.val + 1 + 48))) s (fun t => s.gave t c rd 0 ∧
        (s.uvTripped (cell.val + 1) = false → t.bitOf Reg.BAL_BLEED.CLOSED cell.val = true ∧ t.fld Reg.BAL_BT.LEFT cell.val = target) ∧
        (s.uvTripped (cell.val + 1) = true → t.flag Reg.BAL_BLEED.REFUSED = true ∧
          t.bitOf Reg.BAL_BLEED.CLOSED cell.val = s.bitOf Reg.BAL_BLEED.CLOSED cell.val)) ∧
      ∀ op, op = 1 ∨ op = 2 → (s.shuttle k).next = none →
        let tripped := if op = 1 then s.ovTripped (cell.val + 1) else s.uvTripped (cell.val + 1)
        Completes (.bal rd p q (BitVec.ofNat 14 (cell.val + 1 + 16 * op))) s fun t => s.gave t c rd bound ∧
          (tripped = true → t.flag Reg.BAL_ST.REFUSED k = true ∧ t.fld Reg.BAL_ST.OP k = s.fld Reg.BAL_ST.OP k) ∧
          (tripped = false → s.fld Reg.BAL_ST.OP k = 0 → t.fld Reg.BAL_ST.OP k = op ∧ t.fld Reg.BAL_ST.CELL k = cell.val % 2 ∧
            t.fld Reg.BAL_TARGET.UC k = target ∧ t.fld Reg.BAL_DONE.UC k = 0 ∧ (s.unwritten → t.fld Reg.BAL_CEIL.MA k = ceil)) ∧
          (tripped = false → s.fld Reg.BAL_ST.OP k ≠ 0 → t.fld Reg.BAL_ST.OP k = s.fld Reg.BAL_ST.OP k ∧
            ∃ x, (t.shuttle k).next = some x ∧ x.op = op ∧ x.cell = cell.val + 1 ∧ x.target = target ∧ x.ceil = ceil ∧
              r.now < x.due ∧ x.due ≤ r.now + us 4)) ∧
    (s.snap.at0 ≠ some r.now → Completes (.snap rd 0 0 0) s fun t => s.gave t c rd (BitVec.ofNat 32 s.snap.localNo) ∧
      t.snap.localNo = (s.snap.localNo + 1) % 2 ^ 15 ∧ ∀ d, (t.ctx d).evpend.getLsbD 9 = true) ∧
    ∀ k : Fin 4, let i := Instr.snap rd 0 0 (BitVec.ofNat 14 (1 + 2 * k.val))
      let n := s.fld Reg.SNAP_NEXT.NUMBER + 2 ^ 15
      (s.isManager = true → s.rtcArmed k.val = true → r.rackNow < s.rtcTarget k.val →
        Completes i s fun t => s.gave t c rd (BitVec.ofNat 32 n) ∧ (k, n) ∈ t.snap.tied ∧
          ∀ o ∈ allPorts, s.link o = Link.UP → s.check o = 2 → s.inPrimer o = false → t.leaves o fun f =>
            f.ftype = Ty.SCHED ∧ f.dest = 0 ∧ f.payload = (s.schedFrame (s.rtcTarget k.val) n).payload) ∧
      (s.isManager = true → s.rtcArmed k.val = false ∨ s.rtcTarget k.val ≤ r.rackNow →
        Completes i s fun t => s.gave t c rd 0xFFFFFFFF ∧ s.storesNothing t) ∧
      (s.isManager = false → (s.ctx c).status.getLsbD 4 = false →
        Completes i s fun t => s.trapped t c 0x301 0 (s.ctx c).pc ∧ s.storesNothing t)

/-- SEND of a frame, of a type that Table 4-7 allows the context and that is not ENUM, with 0 to 64 bytes of payload in SRAM, and a
transmit slot free, a LOAD_BEGIN while SEAL9 is on: to another node or broadcast DIRECT on an UP and OPEN port, to another node by DEST
over the UP port of its route, rd holds a tag from 1 to 15 that was free and now names a frame in a port, that frame with its type, DEST,
PRIO, ACKREQ and the payload waits on that port or is on its transmitter, and pc goes on; with TRIP, TRIP_SEEN is pending in every
context. A broadcast without DIRECT leaves so on every UP and OPEN port, and with none usable its tag is failed. An ENUM leaves on PATH[0],
UP, with HOPS PATHLEN − 1 and DEST 0, whatever DIRECT and PORT are; with LEN below 36, or PATHLEN outside 1 to 64, it traps ILLEGAL with
detail 2. A LOAD_BEGIN while SEAL9 is off traps PRIV. With no slot free rd holds 0. RECV with an empty queue
puts 0xFFFF_FFFF in rd. RECV of the head frame into a buffer in SRAM writes header, SRC, LSEQ, LEN, arrival port and payload, removes
the frame, and puts LEN in rd; every other byte of memory is unchanged. (R106, R157, R158, R159, R160, R161, R162, R164, R430, R440,
R447) -/
def Obligations.SendAndReceive : Prop :=
  ∀ (s : State) (c : Cid) (rd p q : RegNo), s.canonical = true → s.executing = some c →
    (∀ (len pa : Nat) (line : Fin 4),
      let w := ((s.ctx c).getX p).toNat
      let va := ((s.ctx c).getX q).toNat
      let b := s.bytes pa len
      let f := s.programFrame w b
      let sent := fun (o : Port) (t : State) => (∃ tag ∈ s.freeTags, s.gave t c rd (BitVec.ofNat 32 tag) ∧ t.tagBusy tag = true) ∧
        (t.leaves o fun g => g.ftype = f.ftype ∧ g.dest = f.dest ∧ g.prio = f.prio ∧ g.ackreq = f.ackreq ∧ g.payload = b) ∧
        (w / 2 ^ 28 = 2 → ∀ d, t.rang d Ev.TRIP_SEEN)
      let ready := fun (o : Port) => s.link o = Link.UP ∧ s.check o = 2 ∧ s.inPrimer o = false
      len ≤ 64 → s.typeTrap c (w / 2 ^ 28) = none → va % 4 = 0 →
      (w / 2 ^ 28 = 7 → len < 36 → (s.ctx c).status.getLsbD 4 = false → Completes (.send rd p q (BitVec.ofNat 14 len)) s fun t =>
        s.trapped t c 0x201 0 (s.ctx c).pc ∧ s.storesNothing t) ∧
      ((w / 2 ^ 28 = 7 → 36 ≤ len) → s.freeTags = [] →
        Completes (.send rd p q (BitVec.ofNat 14 len)) s fun t => s.gave t c rd 0 ∧ s.storesNothing t) ∧
      ((∀ j, j < (len + 3) / 4 → s.reachesSram c ⟨va + 4 * j, 4, false, 0, false, true⟩ (pa + 4 * j)) → s.freeTags ≠ [] →
        (w / 2 ^ 28 = 5 → fieldOf b 0 1 = 1 → 0 < len → s.seal9 = false → (s.ctx c).status.getLsbD 4 = false →
          Completes (.send rd p q (BitVec.ofNat 14 len)) s fun t => s.trapped t c 2 0 (s.ctx c).pc ∧ s.storesNothing t) ∧
        (w / 2 ^ 28 = 7 → 36 ≤ len → ∀ direct : Fin 2, let n := fieldOf b 1 1
          let i : Instr := .send rd p q (BitVec.ofNat 14 (len + 128 * direct.val + 256 * line.val))
          let o := pathEntry b 0
          (n = 0 ∨ 64 < n → (s.ctx c).status.getLsbD 4 = false → Completes i s fun t =>
            s.trapped t c 0x201 0 (s.ctx c).pc ∧ s.storesNothing t) ∧
          (1 ≤ n → n ≤ 64 → s.link o = Link.UP → s.inPrimer o = false →
            Completes i s fun t => (∃ tag ∈ s.freeTags, s.gave t c rd (BitVec.ofNat 32 tag) ∧ t.tagBusy tag = true) ∧
              t.leaves o fun g => g.ftype = Ty.ENUM ∧ g.dest = 0 ∧ g.hops = n - 1 ∧ g.prio = f.prio ∧ g.ackreq = f.ackreq ∧
                g.payload = b)) ∧
        (w / 2 ^ 28 ≠ 7 → (w / 2 ^ 28 = 5 → fieldOf b 0 1 = 1 → 0 < len → s.seal9 = true) →
          (s.isMine f.dest = false ∨ f.isBroadcast = true → ready (portOf line.val) →
            Completes (.send rd p q (BitVec.ofNat 14 (len + 128 + 256 * line.val))) s (sent (portOf line.val))) ∧
          (f.isBroadcast = false → s.isMine f.dest = false →
            ∀ (o : Port) (up : Bool), s.route f.dest = some (o, up) → s.link o = Link.UP → s.check o = 2 →
              Completes (.send rd p q (BitVec.ofNat 14 len)) s (sent o)) ∧
          (f.isBroadcast = true → (∃ o ∈ allPorts, ready o) → Completes (.send rd p q (BitVec.ofNat 14 len)) s fun t =>
            ∀ o ∈ allPorts, ready o → sent o t) ∧
          (f.isBroadcast = true → (∀ o ∈ allPorts, s.usable o = false) → Completes (.send rd p q (BitVec.ofNat 14 len)) s fun t =>
            ∃ tag ∈ s.freeTags, s.gave t c rd (BitVec.ofNat 32 tag) ∧ t.bitOf Reg.PORT_TXFAIL.FAIL (tag - 1) = true ∧
              ∀ d, t.rang d Ev.TX_DONE)))) ∧
    (((s.ctx c).getX p).toNat % 4 = 0 → (s.ctx c).rx = [] → Completes (.recv rd p 0 0) s fun t =>
      s.wroteReg t c rd 0xFFFFFFFF ((s.ctx c).pc + 4) ∧ s.storesNothing t) ∧
    (∀ (r : RxFrame) (rest : List RxFrame) (pa : Nat), (s.ctx c).rx = r :: rest → pa % 4 = 0 → pa + 76 ≤ 0x10000 →
      let va := ((s.ctx c).getX p).toNat
      let n := r.frame.payload.length
      let k := (n + 3) / 4
      n ≤ 64 → va % 4 = 0 → (∀ j, j < 3 + k → ∃ w, s.place c.val ⟨va + 4 * j, 4, true, 1, false, true⟩ = .here (pa + 4 * j) w) →
      Completes (.recv rd p 0 0) s fun t => s.gave t c rd (BitVec.ofNat 32 n) ∧ (t.ctx c).rx = rest ∧
        t.bytes pa 12 = leBytes 4 (frameHeader r.frame) ++ leBytes 2 r.frame.src.toNat ++ leBytes 2 r.frame.lseq.toNat ++
          [BitVec.ofNat 8 n, r.port, 0, 0] ∧
        t.bytes (pa + 12) n = r.frame.payload ∧ (∀ a, a < pa ∨ pa + 12 + 4 * k ≤ a → t.byte a = s.byte a) ∧ t.regs = s.regs)

/-- SCAN with words to go, the next of which lies in sound SRAM, runs the CRC register over it and counts its registers on; after the
last it goes on at pc + 4, else it stays there at its resumption point. So n of them over n words, with nothing between, leave in
rd the CRC register run over their bytes in address order, rs1 advanced and rs2 0. MOVB copies one word a time, and n of them over n
words copy the words, which do not overlap their copies, and leave every other byte. LOGB with words to go, but not the last, adds the
next, in sound SRAM, to the staged content, from the first word on where what is staged does not fit rs2; with its 48 bytes staged,
rs2 0 and the engine free, it hands them over and puts the record number in rd. RMOV out whose last transfer is acknowledged, and
RMOV in whose last data is there and goes to SRAM, take the answer, advance their registers and go on, whatever the windows of the
remote side are by then. With nothing sent yet RMOV sends its next transfer, of what is left, 48 bytes and the window's end the least,
out with the bytes of its words in sound SRAM, and the context waits. (R165, R166, R168, R171, R172, R173, R216, R185, R188, R189, R190) -/
def Obligations.LongInstructions : Prop :=
  ∀ (s : State) (c : Cid) (rd p q : RegNo), s.canonical = true → s.executing = some c → rd ≠ p → rd ≠ q → p ≠ q → p ≠ 0 → q ≠ 0 →
    let near := ((s.ctx c).getX rd).toNat
    let src := ((s.ctx c).getX p).toNat
    (∀ (n pa : Nat) (poly : Fin 4), rd ≠ 0 → ((s.ctx c).getX q).toNat = 4 * n → src + 4 * n ≤ 2 ^ 32 →
      (∀ j, j < n → s.reachesSram c ⟨src + 4 * j, 4, false, 3, false, false⟩ (pa + 4 * j) ∧ isRemoteRange (src + 4 * j) = false) →
      let i := Instr.scan rd p q (BitVec.ofNat 14 poly.val)
      1 ≤ n →
      Completes i s (fun t => (t.ctx c).getX rd = BitVec.ofNat 32 (crcBytes poly.val near (s.bytes pa 4)) ∧
        (t.ctx c).getX p = (s.ctx c).getX p + 4 ∧ (t.ctx c).getX q = (s.ctx c).getX q - 4 ∧
        (t.ctx c).pc = (if n = 1 then (s.ctx c).pc + 4 else (s.ctx c).pc) ∧
        (t.ctx c).cont = (if n = 1 then none else some i) ∧ s.storesNothing t) ∧
      ∃ t, Repeats i n s t ∧
        (t.ctx c).getX rd = BitVec.ofNat 32 (crcBytes poly.val near (s.bytes pa (4 * n))) ∧
        (t.ctx c).getX p = (s.ctx c).getX p + BitVec.ofNat 32 (4 * n) ∧ (t.ctx c).getX q = 0 ∧ (t.ctx c).pc = (s.ctx c).pc + 4 ∧
        s.storesNothing t) ∧
    (∀ n a b : Nat, rd ≠ 0 → 1 ≤ n → ((s.ctx c).getX q).toNat = 4 * n → src + 4 * n ≤ 2 ^ 32 → near + 4 * n ≤ 2 ^ 32 →
      (∀ j, j < n → s.reachesSram c ⟨src + 4 * j, 4, false, 3, false, false⟩ (a + 4 * j) ∧ isRemoteRange (src + 4 * j) = false ∧
        s.reachesSram c ⟨near + 4 * j, 4, true, 3, false, false⟩ (b + 4 * j) ∧ isRemoteRange (near + 4 * j) = false) →
      let i := Instr.movb rd p q 0
      let after := fun (m : Nat) (t : State) => (t.ctx c).getX rd = (s.ctx c).getX rd + BitVec.ofNat 32 (4 * m) ∧
        (t.ctx c).getX p = (s.ctx c).getX p + BitVec.ofNat 32 (4 * m) ∧ ((t.ctx c).getX q).toNat = 4 * n - 4 * m ∧
        (t.ctx c).pc = (if n = m then (s.ctx c).pc + 4 else (s.ctx c).pc) ∧ t.regs = s.regs ∧
        ∀ x, x < b ∨ b + 4 * m ≤ x → t.byte x = s.byte x
      Completes i s (fun t => after 1 t ∧ t.bytes b 4 = s.bytes a 4) ∧
      (a + 4 * n ≤ b ∨ b + 4 * n ≤ a → ∃ t, Repeats i n s t ∧ after n t ∧ t.bytes b (4 * n) = s.bytes a (4 * n))) ∧
    (∀ (kind : Fin 128) (pa : Nat), let i := Instr.logb rd p q (BitVec.ofNat 14 (128 + kind.val))
      let left := ((s.ctx c).getX q).toNat
      let fits := (s.ctx c).stage.length = 48 - left
      let todo := if fits then left else 48
      let va := ((s.ctx c).getX p + 48 - BitVec.ofNat 32 todo).toNat
      (left = 0 → fits → s.logbMayHand c = true →
        Completes i s fun t => (t.ctx c).stage = [] ∧ s.gave t c rd (s.bbx.nextSeq.zeroExtend 32) ∧ t.bbx.nextSeq = s.bbx.nextSeq + 1) ∧
      (left % 4 = 0 → left ≤ 48 → 4 < todo → s.noneAt c va → s.reachesSram c ⟨va, 4, false, 3, false, false⟩ pa →
        Completes i s fun t => (t.ctx c).stage = (if fits then (s.ctx c).stage else []) ++ s.bytes pa 4 ∧
          ((t.ctx c).getX q).toNat = todo - 4 ∧ (∀ x, x ≠ q → (t.ctx c).getX x = (s.ctx c).getX x) ∧ (t.ctx c).pc = (s.ctx c).pc ∧
          (t.ctx c).cont = some i ∧ s.storesNothing t)) ∧
    (∀ r : Request, rd ≠ 0 → src % 4 = 0 → ((s.ctx c).getX q).toNat % 4 = 0 → isRemoteRange src = true → r.va = src →
      r.opnd = near + 2 ^ 32 * ((s.ctx c).getX q).toNat → 0 < ((s.ctx c).getX q).toNat →
      let moved := fun (t : State) => (t.ctx c).slot = none ∧ (t.ctx c).getX q = 0 ∧
        (t.ctx c).getX p = (s.ctx c).getX p + (s.ctx c).getX q ∧ (t.ctx c).getX rd = (s.ctx c).getX rd + (s.ctx c).getX q ∧
        (t.ctx c).pc = (s.ctx c).pc + 4
      ((s.ctx c).slot = some (r, .done) → r.word = wordOf 0x3B rd.val p.val q.val 1 → r.write = true → ((s.ctx c).getX q).toNat = r.len →
        Completes (.rmov rd p q 1) s fun t => moved t ∧ s.storesNothing t) ∧
      ∀ (b : List Byte) (pa : Nat), (s.ctx c).slot = some (r, .data b) → r.word = wordOf 0x3B rd.val p.val q.val 0 → r.write = false →
        b.length = ((s.ctx c).getX q).toNat → near + b.length ≤ 2 ^ 32 →
        (∀ j, j < b.length / 4 → (∃ w, s.place c.val ⟨near + 4 * j, 4, true, 3, false, false⟩ = .here (pa + 4 * j) w) ∧
          isSram (pa + 4 * j) = true ∧ isRemoteRange (near + 4 * j) = false) →
        Completes (.rmov rd p q 0) s fun t => moved t ∧ t.bytes pa b.length = b ∧ t.regs = s.regs ∧
          ∀ x, x < pa ∨ pa + b.length ≤ x → t.byte x = s.byte x) ∧
    (∀ win pa : Nat, let w := s.win c.val win
      let left := ((s.ctx c).getX q).toNat
      let len := min (min left 48) (w.limit - src)
      rd ≠ 0 → src % 4 = 0 → left % 4 = 0 → 0 < left → w.limit % 4 = 0 → near + len ≤ 2 ^ 32 → isRemoteRange src = true → s.noneAt c src →
      s.leads w →
      (s.place c.val ⟨src, 4, true, 3, false, false⟩ = .away win →
        (∀ j, j < len / 4 → s.reachesSram c ⟨near + 4 * j, 4, false, 3, false, false⟩ (pa + 4 * j) ∧ isRemoteRange (near + 4 * j) = false) →
        Completes (.rmov rd p q 1) s fun t => s.sentBy t c w src true len (s.bytes pa len)) ∧
      (s.place c.val ⟨src, 4, false, 3, false, false⟩ = .away win →
        (∀ j, j < len / 4 → (∃ u, s.place c.val ⟨near + 4 * j, 4, true, 3, false, false⟩ = .here (pa + 4 * j) u) ∧
          isSram (pa + 4 * j) = true ∧ isRemoteRange (near + 4 * j) = false) →
        Completes (.rmov rd p q 0) s fun t => s.sentBy t c w src false len []))

/-- By a context or the host, of a register whose write acts by its access codes alone (plainWrites), where no trap and no Off block is in
the way: an RW field takes the written value (a role's RW field in that role only), W1C clears bits written 1 that hardware has not set in
this tick, W1S sets them, RO, RC and WO fields keep; with SEAL9 on an RS field takes the value; with SEAL9 off a write that would change
one is discarded whole, and any other acts on the rest. Bits of no field, every other register, every context and memory stay. An RC
field reads once and is then 0, the other fields of its register and all else as they were. By any context: a write of RTC_ST clears exactly the W1C bits written 1 that hardware has not set in this tick, a write of
HOST_MOUT_ADDR stores its RW field while the host port is enabled and nothing while it is not, and no other register changes; a read
of FAB_NOROUTE returns it and leaves it 0, and no other register changes; a read of SNAP_NOW_LO holds the high word for this reader; a
write of PORT_SEL stores the port in this context's copy alone. (R10, R11, R13, R16, R18, R24, R81, R97, R98) -/
def Obligations.RegisterBusRows : Prop :=
  (∀ (s : State) (m : Master) (off : BitVec 16) (v : Word) (r : RegDesc), s.canonical = true → off.toNat % 4 = 0 →
    m = .host ∨ (∃ c, m = .ctx c) →
    let k := s.keyOf m off.toNat
    let alone := fun (t : State) => (∀ j, j ≠ k → t.reg j = s.reg j) ∧ t.mem = s.mem ∧ t.ctxs = s.ctxs
    descOf k = some r →
    (plainWrites off.toNat = true → s.writeTrap m off.toNat v = none → s.writeOff m off.toNat = false →
      let shut := s.seal9 = false ∧ ∃ f ∈ r.fields, f.acc = .rs ∧ bitsAt v.toNat f.lo f.width ≠ bitsAt (s.reg k).toNat f.lo f.width
      Completes (.registerWrite m off v) s fun t => alone t ∧ (shut → t.reg k = s.reg k) ∧
        (¬shut → (∀ f ∈ r.fields, ∀ i, f.lo ≤ i → i < f.lo + f.width → (t.reg k).getLsbD i = s.wroteBit f.acc (s.reg k) v (s.freshBits k) i) ∧
          ∀ i, (∀ f ∈ r.fields, i < f.lo ∨ f.lo + f.width ≤ i) → (t.reg k).getLsbD i = (s.reg k).getLsbD i)) ∧
    (s.pageOff m off.toNat = false → s.hostOff off.toNat = false → latchesHi off.toNat = false →
      Completes (.rcRead m off) s fun t => alone t ∧ ∀ i, (t.reg k).getLsbD i =
        ((s.reg k).getLsbD i && !r.fields.any fun f => f.acc = .rc && f.lo ≤ i && i < f.lo + f.width))) ∧
    ∀ (s : State) (c : Cid) (v : Word), s.canonical = true →
    Completes (.registerWrite (.ctx c) 0x3030 v) s (fun t => t.reg 0x3030 = s.reg 0x3030 &&& ~~~(v &&& 0x0F0F0F00 &&& ~~~(s.freshBits 0x3030)) ∧
      (∀ k, k ≠ 0x3030 → t.reg k = s.reg k) ∧ t.mem = s.mem ∧ t.ctxs = s.ctxs) ∧
    Completes (.registerWrite (.ctx c) 0xB024 v) s (fun t =>
      t.reg 0xB024 = (if s.flag Reg.HOST_CFG.EN = true then (s.reg 0xB024 &&& 3) ||| (v &&& 0xFFFFFFFC) else s.reg 0xB024) ∧
      (∀ k, k ≠ 0xB024 → t.reg k = s.reg k) ∧ t.mem = s.mem ∧ t.ctxs = s.ctxs) ∧
    (s.readWord (.ctx c) 0x6040 = s.reg 0x6040 ∧ Completes (.rcRead (.ctx c) 0x6040) s fun t => t.reg 0x6040 = 0 ∧
      (∀ k, k ≠ 0x6040 → t.reg k = s.reg k) ∧ t.mem = s.mem ∧ t.ctxs = s.ctxs) ∧
    Completes (.loWordRead (.ctx c) 0x3000) s (fun t => t.regs = s.regs ∧ t.mem = s.mem ∧ t.ctxs = s.ctxs ∧
      t.readWord (.ctx c) 0x3004 = BitVec.ofNat 32 (s.rackTicks / 2 ^ 32 + 2 ^ 16 * s.epoch + 2 ^ 24 * (s.rtime % 64))) ∧
    Completes (.selectorWrite (.ctx c) 5 v) s fun t => (t.ctx c).sel[1] = v.toNat % 4 ∧ t.regs = s.regs ∧ t.mem = s.mem ∧
      ∀ d, d ≠ c → t.ctx d = s.ctx d

/-- A write by the host that would change an RS field of RT_CFG (at 0x008 of the SNAP page) while SEAL9 is off changes no register.
CTX_START, CTX_STOP, EV_RAISE, WDKICK, SAFE_ACK and SOFT_RESET by CTX1 to CTX7, whose STATUS.TRAP is 0, trap PRIV, and a register write
or read by any context, whose STATUS.TRAP is 0, at an offset of the TEST page traps UNMAPPED: no peripheral register and no byte of
memory changes, the context saves its state and goes on at TVEC, and every other context is as it was. (R18, R112, R72, R84, R94,
R821) -/
def Obligations.WriteJudgement : Prop :=
  (∀ (s : State) (v : Word), s.seal9 = false → (s.reg 0x3008 ^^^ v).getLsbD 28 = true →
    Completes (.registerWrite .host 0x3008 v) s fun t => t.regs = s.regs ∧ t.mem = s.mem ∧ t.ctxs = s.ctxs) ∧
    (∀ (s : State) (c : Cid) (m : BitVec 8) (k off : BitVec 16) (v : Word), (s.ctx c).status.getLsbD 4 = false →
    let trapsBy := fun (cause : Nat) (i : Instr) => Completes i s fun t => t.regs = s.regs ∧ t.mem = s.mem ∧
      (t.ctx c).cause.toNat % 256 = cause ∧ (t.ctx c).epc = (s.ctx c).pc ∧ (t.ctx c).estatus = (s.ctx c).status ∧
      (t.ctx c).status = (s.ctx c).status ||| 0x10 ∧ (t.ctx c).pc = (s.ctx c).tvec ∧ (t.ctx c).x = (s.ctx c).x ∧
      ∀ d, d ≠ c → t.ctx d = s.ctx d
    (c ≠ 0 → ∀ i ∈ [Instr.ctxStart (.ctx c) m, .ctxStop (.ctx c) m, .evRaise (.ctx c) m, .wdkick (.ctx c) k, .safeAck (.ctx c),
      .softReset (.ctx c) k], trapsBy 2 i) ∧
    (0xF000 ≤ off.toNat → ∀ i ∈ [Instr.registerWrite (.ctx c) off v, .rcRead (.ctx c) off, .loWordRead (.ctx c) off], trapsBy 6 i))

/-- CTX_START by the host of one context: an IDLE one becomes READY at its pc, a PARKED one also clears STATUS.TRAP, any other is
unchanged. CTX_STOP of one of CTX1 to CTX7 that runs or waits leaves it IDLE with its registers; CTX0 keeps its state. EV_RAISE
sets SOFT in the context named and in no other. CTX_SELECTED_WRITE of CTX_PC writes it in an IDLE or PARKED context and
otherwise sets WERR only. (R75, R76, R83, R72) -/
def Obligations.ContextControl : Prop :=
  ∀ (s : State) (c : Cid) (v : Word),
    let m : BitVec 8 := BitVec.ofNat 8 (2 ^ c.val)
    Completes (.ctxStart .host m) s (fun t => (∀ d, d ≠ c → t.ctx d = s.ctx d) ∧ t.regs = s.regs ∧ t.mem = s.mem ∧
      t.ctx c = match (s.ctx c).state with
        | .idle => { s.ctx c with state := .ready }
        | .parked => { s.ctx c with state := .ready, status := (s.ctx c).status &&& ~~~(0x10 : Word) }
        | _ => s.ctx c) ∧
    Completes (.ctxStop .host m) s (fun t => (t.ctx c).x = (s.ctx c).x ∧ (t.ctx c).pc = (s.ctx c).pc ∧
      (t.ctx c).status = (s.ctx c).status ∧
      (c ≠ 0 → ((s.ctx c).state = .ready ∨ (s.ctx c).state = .running ∨ (s.ctx c).state = .waiting) → (t.ctx c).state = .idle) ∧
      (c = 0 → (t.ctx c).state = (s.ctx c).state)) ∧
    Completes (.evRaise .host m) s (fun t => (t.ctx c).evpend = (s.ctx c).evpend ||| 0x40000000 ∧
      (∀ d, d ≠ c → t.ctx d = s.ctx d) ∧ t.regs = s.regs ∧ t.mem = s.mem) ∧
    (s.selOf .host 2 = c.val → Completes (.ctxSelectedWrite .host 8 v) s fun t => (∀ d, d ≠ c → t.ctx d = s.ctx d) ∧
      t.regs = s.regs ∧ t.mem = s.mem ∧ (t.ctx c).x = (s.ctx c).x ∧ (t.ctx c).state = (s.ctx c).state ∧
      let writes := (s.ctx c).state = .idle ∨ (s.ctx c).state = .parked
      (writes → (t.ctx c).pc = v ∧ (t.ctx c).werr = (s.ctx c).werr) ∧
      (¬writes → (t.ctx c).pc = (s.ctx c).pc ∧ (t.ctx c).werr = true))

/-- The 16th NULL in TRAINING takes the port UP with FAILS 0 and nothing accepted yet. A NULL on an UP port restarts its silence
timer at its end. After 100 µs of its own silence a port sends a NULL with the next LSEQ, which it does not use up. An ACK
completes the tag of the outstanding frame with its LSEQ, sent again or not; a NAK makes that frame due 50 µs after its own end. A
code error, and a frame cut short of which no copy was to be sent or none had begun, are counted and end a run of NULLs. At its EOF a frame with
ACKREQ sent for the first time becomes outstanding for 40 µs; without it, its tag is complete; and a frame of SEND that is
outstanding while 128 later LSEQs have been assigned is failed. When no ACK has come, an outstanding frame transmitted fewer than
five times waits for or is on the transmitter with its LSEQ; a retransmission is counted in PORT_RETRY when it has gone out. Transmitted five times, a
frame of SEND is failed: its tag completes in PORT_TXFAIL, PORT_TXFAILC counts, and TX_DONE is raised. (R372, R377, R384, R385,
R393, R406, R380, R419) -/
def Obligations.LinkFramesAndRetries : Prop :=
  (∀ (s : State) (p : Port), s.canonical = true →
    (∀ a : Arrival, let b : Arrival := { a with frame := { a.frame with ftype := Ty.NULL } }
      b.port = p → s.lineOf b = .good → s.noSide b →
      (s.link p = Link.TRAINING → (s.port p).nulls = 15 → Completes (.null a) s fun t =>
        t.link p = Link.UP ∧ t.fld Reg.PORT_ST.FAILS p = 0 ∧ (t.port p).rxAny = false) ∧
      (s.link p = Link.UP → b.frame.payload = [] → Completes (.null a) s fun t =>
        (t.port p).lastRx = s.now + 92 ∧ (t.port p).alarmUntil = none ∧ t.link p = Link.UP ∧ t.ctxs = s.ctxs ∧ t.mem = s.mem)) ∧
    (s.link p = Link.UP → (s.port p).cur = none → Completes (.nullSend p) s fun t => s.cameTo t ((s.port p).lastTx + us 100) ∧
      (t.port p).nextSeq = (s.port p).nextSeq ∧ ∃ i, (t.port p).cur = some i ∧ i.frame.ftype = Ty.NULL ∧ i.frame.payload = [] ∧
        i.frame.lseq = (s.port p).nextSeq) ∧
    (∀ (a : Arrival) (o : OutItem) (tag : Nat), let b : Arrival := { a with frame := { a.frame with ftype := Ty.ACK } }
      b.port = p → s.lineOf b = .good → s.noSide b → s.link p = Link.UP → 1 ≤ tag → tag ≤ 15 → o.item.use = .program tag →
      (s.port p).outs.find? (fun x => x.item.seq = some a.frame.lseq) = some o →
      Completes (.ack a) s fun t => t.bitOf Reg.PORT_TXDONE.DONE (tag - 1) = true ∧ (∀ c, t.rang c Ev.TX_DONE) ∧
        ∀ x ∈ (t.port p).outs, x.item.seq ≠ some a.frame.lseq) ∧
    (∀ a : Arrival, let b : Arrival := { a with frame := { a.frame with ftype := Ty.NAK } }
      b.port = p → s.lineOf b = .good → s.noSide b → s.link p = Link.UP → Completes (.nak a) s fun t =>
        (t.port p).outs = (s.port p).outs.map (fun o => if o.item.seq = some a.frame.lseq then { o with retryAt := s.now + 100 + us 50 } else o) ∧
        t.ctxs = s.ctxs ∧ t.mem = s.mem) ∧
    (s.portOn p = true → Completes (.codeError p) s fun t =>
      t.fld Reg.PORT_CODE.COUNT p = min (s.fld Reg.PORT_CODE.COUNT p + 1) (2 ^ 32 - 1) ∧ t.port p = { s.port p with nulls := 0 } ∧
        (∀ q, q ≠ p → t.port q = s.port q) ∧ t.ctxs = s.ctxs ∧ t.mem = s.mem) ∧
    (∀ (a : Arrival) (n : Nat), a.port = p → s.receives p = true → n < 34 ∨ s.copyPorts p a.frame = [] →
      Completes (.abort (a, n)) s fun t => t.fld Reg.PORT_ABORTS.COUNT p = min (s.fld Reg.PORT_ABORTS.COUNT p + 1) (2 ^ 32 - 1) ∧
        t.port p = { s.port p with nulls := 0 } ∧ (∀ q, q ≠ p → t.port q = s.port q) ∧ t.ctxs = s.ctxs ∧ t.mem = s.mem) ∧
    (∀ i : TxItem, (s.port p).cur = some i → i.poison = false → i.cut = none →
      (i.frame.ackreq = true → i.tries = 0 → i.shunned s = false → (s.check p ≠ 3 ∨ passesShut i.frame.ftype = true) → (s.port p).failRow < 3 →
        (∀ j ∈ i :: ((s.port p).outs.map (·.item) ++ (s.port p).queue), ∀ l, j.seq = some l → ((s.port p).nextSeq - l).toNat < 129) →
        Completes (.frameEofSent p) s fun t => s.cameTo t ((s.port p).curAt + i.frame.ticks) ∧
          (t.port p).outs = (s.port p).outs ++ [⟨{ i with tries := 1 }, t.now + us 40⟩]) ∧
      (∀ (o : OutItem) (l : BitVec 16) (tag : Nat), o ∈ (s.port p).outs → i.tries = 0 → o.item.seq = some l →
        o.item.frame.ackreq = true → 129 ≤ ((s.port p).nextSeq - l).toNat → 1 ≤ tag → tag ≤ 15 → o.item.use = .program tag →
        Completes (.frameEofSent p) s fun t => t.bitOf Reg.PORT_TXFAIL.FAIL (tag - 1) = true ∧ (∀ c, t.rang c Ev.TX_DONE) ∧
          o ∉ (t.port p).outs) ∧
      (∀ tag, 1 ≤ tag → tag ≤ 15 → i.frame.ackreq = false → i.use = .program tag → Completes (.frameEofSent p) s fun t =>
        t.bitOf Reg.PORT_TXDONE.DONE (tag - 1) = true ∧ ∀ c, t.rang c Ev.TX_DONE) ∧
      (i.tries ≠ 0 → Completes (.frameEofSent p) s fun t => s.cameTo t ((s.port p).curAt + i.frame.ticks) ∧
        t.fld Reg.PORT_RETRY.COUNT p = min (s.fld Reg.PORT_RETRY.COUNT p + 1) (2 ^ 32 - 1)))) ∧
    (∀ (s : State) (p : Port) (l : BitVec 16) (o : OutItem), s.canonical = true →
    (s.port p).outs.find? (fun x => x.item.seq = some l) = some o →
    (s.port p).again l = false →
    (o.item.tries < 5 → o.item.stamp = .fixed → o.item.begun = false → linkLocal o.item.frame.ftype = false →
      Completes (.retransmitTimeout p l) s fun t => s.cameTo t o.retryAt ∧ (t.port p).outs = (s.port p).outs ∧
        (∃ i, (i ∈ (t.port p).queue ∨ (t.port p).cur = some i) ∧ i.seq = some l) ∧
        (1 ≤ o.item.tries → o.item.ready ≤ s.now → s.link p = Link.UP → s.check p = 2 → s.inPrimer p = false → (s.port p).cur = none →
          (s.port p).queue = [] → ∃ i, (t.port p).cur = some i ∧ i.seq = some l)) ∧
    (∀ tag, 1 ≤ tag → tag ≤ 15 → 5 ≤ o.item.tries → o.item.use = .program tag → (s.port p).failRow = 0 → (s.port p).farSleep = false →
      Completes (.retransmitTimeout p l) s fun t => s.cameTo t o.retryAt ∧ t.bitOf Reg.PORT_TXFAIL.FAIL (tag - 1) = true ∧
        t.fld Reg.PORT_TXFAILC.COUNT p = min (s.fld Reg.PORT_TXFAILC.COUNT p + 1) (2 ^ 32 - 1) ∧ (∀ c, t.rang c Ev.TX_DONE) ∧
        ∀ x ∈ (t.port p).outs, x.item.seq ≠ some l))

/-- A side message with a good CRC and KIND 0x80 or above goes to PORT_SIDERX and sets SIDE_RX, SIDE_OVR too when SIDE_RX was set;
one with a bad CRC is counted in SIDEBAD. PORT_SIDETX_HI with GO queues KIND and VALUE, or sets SIDE_REJ. A measurement, 10 s after
the last, and a DLY_REQ unanswered for 2 ms, queue a DLY_REQ; a DLY_REQ received queues the answer. A DLY_RSP sets RT_LINKDLY to half the round
trip less VALUE, in 1/64 tick. (R300, R400, R402, R403) -/
def Obligations.SideChannel : Prop :=
  ∀ (s : State) (p : Port), s.canonical = true →
    (∀ msg : BitVec 64, s.link p = Link.UP → let n := msg.toNat
      (crc16 (beBytes 6 (n / 2 ^ 16)) = n % 2 ^ 16 → 0x80 ≤ n / 2 ^ 56 → Completes (.sideMessageReceived p msg) s fun t =>
        t.fld Reg.PORT_SIDERX_LO.VALUE p = n / 2 ^ 16 % 2 ^ 32 ∧ t.fld Reg.PORT_SIDERX_HI.VALUE p = n / 2 ^ 48 % 2 ^ 8 ∧
        t.fld Reg.PORT_SIDERX_HI.KIND p = n / 2 ^ 56 ∧ t.flag Reg.PORT_ST.SIDE_RX p = true ∧
        t.flag Reg.PORT_ST.SIDE_OVR p = (s.flag Reg.PORT_ST.SIDE_OVR p || s.flag Reg.PORT_ST.SIDE_RX p) ∧
        t.ctxs = s.ctxs ∧ t.mem = s.mem ∧ t.ports = s.ports) ∧
      (crc16 (beBytes 6 (n / 2 ^ 16)) ≠ n % 2 ^ 16 → Completes (.sideMessageReceived p msg) s fun t =>
        t.fld Reg.PORT_SIDEBAD.COUNT p = min (s.fld Reg.PORT_SIDEBAD.COUNT p + 1) (2 ^ 32 - 1) ∧ t.ctxs = s.ctxs ∧ t.mem = s.mem ∧
        t.ports = s.ports)) ∧
    (∀ (q : Fin 4) (v : Word), let kind := v.toNat / 256 % 256
      (0x80 ≤ kind → (s.port (portOf q)).sideProg = none → Completes (.sideTxGo .host q v) s fun t =>
        t.flag Reg.PORT_ST.SIDE_BUSY (portOf q) = true ∧
        (t.port (portOf q)).sideProg = some (kind, s.fld Reg.PORT_SIDETX_LO.VALUE (portOf q) + 2 ^ 32 * (v.toNat % 256))) ∧
      (kind < 0x80 ∨ (s.port (portOf q)).sideProg.isSome = true → Completes (.sideTxGo .host q v) s fun t =>
        t.flag Reg.PORT_ST.SIDE_REJ (portOf q) = true ∧ t.ports = s.ports)) ∧
    (s.link p = Link.UP → Completes (.linkDelayMeasure p) s fun t => s.cameTo t ((s.port p).dlyAt + ms 10000) ∧
      (t.port p).dlyAt = t.now ∧ ((0x10, 0) ∈ (t.port p).sideHw ∨ ∃ m, (t.port p).sideTx = some m ∧ m.isDlyReq = true)) ∧
    (s.link p = Link.UP → Completes (.dlyReq p) s fun t => (0x11, s.now) ∈ (t.port p).sideHw ∨
      ∃ m, (t.port p).sideTx = some m ∧ m.program = false ∧ m.isDlyReq = false) ∧
    (∀ (v : BitVec 40) (t1 : Nat), s.link p = Link.UP → p ≠ xlink → (s.port p).dlyT1 = some t1 → Completes (.dlyRsp p v) s fun t =>
      t.fld Reg.RT_LINKDLY.DELAY p = min 0xFFFFFF ((64 * (s.now - t1) - v.toNat) / 2) ∧ t.flag Reg.RT_LINKDLY.VALID p = true ∧
        (t.port p).dlyT1 = none ∧ t.ctxs = s.ctxs ∧ t.mem = s.mem) ∧
    (∀ t0 : Nat, s.linkAlive p = true → (s.port p).dlyReqSent = some t0 → Completes (.dlyReqRetry p) s fun t => s.cameTo t t0 ∧
      ((0x10, 0) ∈ (t.port p).sideHw ∨ ∃ m, (t.port p).sideTx = some m ∧ m.isDlyReq = true))

/-- The initiator holds the line 100 µs, or sends WAKE and holds it 250 µs from its end (LINK_START); then the mark of 16 bit times
goes out and it is in PRESENCE for 150 µs (LINK_HOLD_END). No pulse sets P_ABSENT and ends the attempt; one pulse of Good form is
recorded in PORT_PRES and training follows (PRESENCE_WINDOW_END). An RST_END mark makes a port the responder, which answers with a
PRESENCE pulse, an UP link being lost unless its far end had sent SLEEP_NOTE; an initiator that starts, holds or waits sets COLLIDE
and pauses, in DOWN by log 42 (RST_END). 152 µs after the mark NULL frames begin (TRAINING_TX_START). Training that fails ends in DOWN
(TRAINING_TIMEOUT), and after its pause, or every 1 s after STARTFAIL, a link starts again (LINK_RETRY_PAUSE_END,
LINK_AUTOSTART_RETRY). (R404, R405, R407, R408, R411, R412, R414, R825) -/
def Obligations.LinkStart : Prop :=
  ∀ (s : State) (p : Port), s.canonical = true →
    (∀ quiet : Bool, (s.port p).phase = .start → s.hfo = true → s.portOn p = true →
      Completes (.linkStart p quiet) s fun t => (t.port p).phase = .hold ∧
      (t.port p).deadline = s.now + (if quiet then us 327 else us 100) ∧
      (t.port p).wakesSent = (s.port p).wakesSent + (if quiet then 1 else 0) ∧ t.regs = s.regs ∧ t.ctxs = s.ctxs ∧ t.mem = s.mem) ∧
    ((s.port p).phase = .hold → Completes (.linkHoldEnd p) s fun t => s.cameTo t (s.port p).deadline ∧ (t.port p).phase = .mark ∧
      t.link p = Link.PRESENCE ∧ (t.port p).deadline = t.now + 16 + us 150) ∧
    ((s.port p).phase = .mark → Completes (.presenceWindowEnd p []) s fun t => s.cameTo t (s.port p).deadline ∧ t.flag Reg.PORT_ST.P_ABSENT p = true ∧
      t.link p = Link.DOWN ∧ t.fld Reg.PORT_ST.FAILS p = min 3 (s.fld Reg.PORT_ST.FAILS p + 1)) ∧
    (∀ u : Pulse, (s.port p).phase = .mark → 300 ≤ u.delay → u.delay ≤ 900 → 30 ≤ u.width → u.width ≤ 55 → u.peak ≤ 24 →
      Completes (.presenceWindowEnd p [u]) s fun t => (t.port p).phase = .ready ∧ t.fld Reg.PORT_PRES.DELAY p = u.delay ∧
        t.fld Reg.PORT_PRES.WIDTH p = u.width ∧ t.fld Reg.PORT_PRES.PEAK p = u.peak ∧ t.ctxs = s.ctxs ∧ t.mem = s.mem) ∧
    (s.portOn p = true → ((s.port p).initiator = false ∨ (s.port p).phase ∉ [StartPhase.start, .hold, .mark]) →
      Completes (.rstEnd p) s fun t =>
        t.link p = Link.RESET ∧ (t.port p).phase = .answering ∧ (t.port p).initiator = false ∧ (t.port p).deadline = s.now + us 150 ∧
        (t.port p).presencesSent = (s.port p).presencesSent + (if s.hfo then 1 else 0) ∧
        t.flag Reg.PORT_ST.LOST p = (s.flag Reg.PORT_ST.LOST p || (decide (s.link p = Link.UP) && !(s.port p).farSleep))) ∧
    (s.portOn p = true → (s.port p).initiator = true → (s.port p).phase ∈ [StartPhase.start, .hold, .mark] →
      Completes (.rstEnd p) s fun t => t.flag Reg.PORT_ST.COLLIDE p = true ∧ t.link p = Link.DOWN ∧ (t.port p).phase = .pausing ∧
        s.now + us 100 ≤ (t.port p).deadline ∧ (t.port p).deadline ≤ s.now + us 400) ∧
    ((s.port p).phase = .ready ∨ (s.port p).phase = .answering → Completes (.trainingTxStart p) s fun t =>
      s.cameTo t (s.port p).deadline ∧ t.link p = Link.TRAINING ∧ (t.port p).phase = .training ∧ (t.port p).nulls = 0 ∧
        ((s.port p).cur = none → s.inPrimer p = false → (t.port p).curAt = t.now + us 2 ∧
          ∃ i, (t.port p).cur = some i ∧ i.frame.ftype = Ty.NULL ∧ i.frame.payload = [])) ∧
    (s.link p = Link.TRAINING → Completes (.trainingTimeout p) s fun t => s.cameTo t (s.port p).deadline ∧ t.link p = Link.DOWN ∧
      ((s.port p).initiator = true → t.fld Reg.PORT_ST.FAILS p = min 3 (s.fld Reg.PORT_ST.FAILS p + 1)) ∧
      ((s.port p).initiator = false → (t.port p).phase = .observing ∧ (t.port p).deadline = t.now + ms 2)) ∧
    ((s.port p).phase = .pausing → s.portOn p = true → Completes (.linkRetryPauseEnd p) s fun t =>
      s.cameTo t (s.port p).deadline ∧ t.link p = Link.RESET ∧ (t.port p).phase = .start ∧ (t.port p).initiator = true) ∧
    ((s.port p).phase = .failed → s.autoStart p = true → s.portOn p = true → Completes (.linkAutostartRetry p) s fun t =>
      s.cameTo t (s.port p).deadline ∧ t.link p = Link.RESET ∧ (t.port p).phase = .start ∧ t.fld Reg.PORT_ST.FAILS p = 0)

/-- A valid frame missing for 300 µs (LINK_SILENCE), or the far end holding the line without SLEEP_NOTE (FAR_END_HOLD), loses the
link: LOST, PORT_LOSTC, RESET. An ASLEEP port resumes (PORT_RESUME); when nothing answers it sends WAKE, then starts a link
(RESUMING_TIMEOUT), but goes DOWN on the cross-link of any die but manager A. Without a mark in 2 ms a port is DOWN, with
the PORT event of that, or from there starts a link when it starts links by itself (RESPONDER_WAIT_TIMEOUT). PORT_CTL.START ends the link without LOST and
starts one (PORT_CTL_START); WAKE sends one WAKE (PORT_CTL_WAKE); EN stops the port, or starts a link under AUTOSTART
(PORT_CTL_EN_WRITE). (R367, R404, R409, R410, R411, R414, R826) -/
def Obligations.LinkLossAndControl : Prop :=
  ∀ (s : State) (p : Port) (q : Fin 4), s.canonical = true →
    (s.link p = Link.UP → Completes (.linkSilence p) s fun t => s.cameTo t ((s.port p).lastRx + us 300) ∧
      t.flag Reg.PORT_ST.LOST p = true ∧ t.fld Reg.PORT_LOSTC.COUNT p = min (s.fld Reg.PORT_LOSTC.COUNT p + 1) (2 ^ 32 - 1) ∧
      t.link p = Link.RESET ∧ (t.port p).phase = .observing ∧ (t.port p).outs = []) ∧
    (s.portOn p = true → s.inPrimer p = false → s.link p = Link.UP → (s.port p).farSleep = false →
      Completes (.farEndHold p) s fun t => t.flag Reg.PORT_ST.LOST p = true ∧ t.link p = Link.RESET ∧ (t.port p).phase = .observing) ∧
    (s.hfo = true → s.portOn p = true → s.link p = Link.ASLEEP → Completes (.portResume p) s fun t => t.link p = Link.RESUMING ∧
      (t.port p).deadline = s.now + us 400) ∧
    (s.link p = Link.RESUMING → (s.port p).resumeTry = 0 → s.hfo = true → s.portOn p = true → Completes (.resumingTimeout p) s fun t =>
      s.cameTo t (s.port p).deadline ∧ (t.port p).wakesSent = (s.port p).wakesSent + 1 ∧ (t.port p).deadline = t.now + us 400 ∧
        t.link p = Link.RESUMING) ∧
    (s.link p = Link.RESUMING → (s.port p).resumeTry ≠ 0 →
      (s.portOn p = true → (p = xlink → s.isMgrA = true) → Completes (.resumingTimeout p) s fun t =>
        s.cameTo t (s.port p).deadline ∧ t.link p = Link.RESET ∧ (t.port p).phase = .start ∧ (t.port p).initiator = true) ∧
      (p = xlink → s.isMgrA = false → Completes (.resumingTimeout p) s fun t =>
        s.cameTo t (s.port p).deadline ∧ t.link p = Link.DOWN ∧ (t.port p).phase = .none)) ∧
    ((s.port p).phase = .observing →
      (s.autoStart p = false → Completes (.responderWaitTimeout p) s fun t => s.cameTo t (s.port p).deadline ∧ t.link p = Link.DOWN) ∧
      (s.autoStart p = true → s.portOn p = true → Completes (.responderWaitTimeout p) s fun t => s.cameTo t (s.port p).deadline ∧
        (p ≠ xlink → s.link p ≠ Link.DOWN → ∀ c, t.rang c Ev.PORT) ∧ t.link p = Link.RESET ∧ (t.port p).phase = .start ∧ (t.port p).initiator = true)) ∧
    (s.portOn (portOf q) = true → Completes (.portCtlStart .host q) s fun t => t.link (portOf q) = Link.RESET ∧
      (t.port (portOf q)).phase = .start ∧ t.fld Reg.PORT_ST.FAILS (portOf q) = 0 ∧
      t.flag Reg.PORT_ST.LOST (portOf q) = s.flag Reg.PORT_ST.LOST (portOf q)) ∧
    (s.portOn (portOf q) = true → s.hfo = true → Completes (.portCtlWake .host q) s fun t =>
      (t.port (portOf q)).wakesSent = (s.port (portOf q)).wakesSent + 1 ∧ t.regs = s.regs ∧ t.ctxs = s.ctxs ∧ t.mem = s.mem) ∧
    (s.flag Reg.PORT_CTL.EN (portOf q) = true → Completes (.portCtlEnWrite .host q false) s fun t =>
      t.flag Reg.PORT_CTL.EN (portOf q) = false ∧ t.link (portOf q) = Link.DOWN) ∧
    (s.flag Reg.PORT_CTL.EN (portOf q) = false → s.flag Reg.PORT_CTL.AUTOSTART (portOf q) = true → s.boot.inReset = false →
      s.boot.refs = true → Completes (.portCtlEnWrite .host q true) s fun t =>
        t.flag Reg.PORT_CTL.EN (portOf q) = true ∧ t.link (portOf q) = Link.RESET ∧ (t.port (portOf q)).phase = .start)

/-- A WAKE group sets LL_WAKE, an ALARM group LL_ALARM, and both raise LIFELINE in every context and wake a die in NAP (LIFELINE_WAKE,
LIFELINE_ALARM). A group of 1 or 2 pulses is counted in LLNOISE, one of 6 or of 10 or more in LLBAD (LIFELINE_NOISE). A port that
repeats ALARM sends it again 1 ms after the last, and gives up after its 10 s (ALARM_REPEAT, ALARM_GIVE_UP). Whatever their operands, the commands of a link (frames of its own, errors, side messages, link start, loss and
control, TRIP hand-over apart) leave every context's registers, windows' answers and receive queue, memory, the queue of
commands, the Ladle but for the current and time it gathers, safety, safety-frame and join blocks, DMA channels, loader, NVM queue, check-value unit, host port and
start-up state as they were. (R415, R416, R417, R367, R419, R434) -/
def Obligations.LifelineAndFrame : Prop :=
  (∀ (s : State) (p : Port), s.canonical = true →
    (s.hears p = true → s.power.below ≠ 4 → Completes (.lifelineWake p) s fun t => t.flag Reg.PORT_ST.LL_WAKE p = true ∧
      (∀ c, t.rang c Ev.LIFELINE) ∧ (s.power.below = 2 → t.power.below = 0 ∧ t.power.waking = true)) ∧
    (s.hears p = true → s.power.below ≠ 4 → Completes (.lifelineAlarm p) s fun t => t.flag Reg.PORT_ST.LL_ALARM p = true ∧
      (∀ c, t.rang c Ev.LIFELINE) ∧ (s.power.below = 2 → t.power.below = 0 ∧ t.power.waking = true)) ∧
    (∀ n : Nat, s.listens p = true →
      (n = 1 ∨ n = 2 → Completes (.lifelineNoise p n) s fun t =>
        t.fld Reg.PORT_LLNOISE.COUNT p = min (s.fld Reg.PORT_LLNOISE.COUNT p + 1) (2 ^ 32 - 1) ∧ t.ports = s.ports ∧ t.ctxs = s.ctxs) ∧
      (n = 6 ∨ 10 ≤ n → Completes (.lifelineNoise p n) s fun t =>
        t.fld Reg.PORT_LLBAD.COUNT p = min (s.fld Reg.PORT_LLBAD.COUNT p + 1) (2 ^ 32 - 1) ∧ t.ports = s.ports ∧ t.ctxs = s.ctxs)) ∧
    (∀ t0, (s.port p).alarmUntil = some t0 → s.hfo = true → s.portOn p = true → Completes (.alarmRepeat p) s fun t =>
      s.cameTo t ((s.port p).alarmAt + ms 1) ∧ (t.port p).alarmAt = t.now ∧ (t.port p).alarmsSent = (s.port p).alarmsSent + 1 ∧ t.regs = s.regs ∧ t.ctxs = s.ctxs ∧ t.mem = s.mem) ∧
    (∀ t0, (s.port p).alarmUntil = some t0 → Completes (.alarmGiveUp p) s fun t => s.cameTo t t0 ∧ (t.port p).alarmUntil = none ∧
      t.flag Reg.PORT_ST.ALARM_TX p = false ∧ t.ctxs = s.ctxs ∧ t.mem = s.mem)) ∧
    (∀ (s : State) (p : Port) (q : Fin 4) (a : Arrival) (l : BitVec 16) (msg : BitVec 64) (v40 : BitVec 40) (w : Word) (b : Bool) (n : Nat)
      (pulses : List Pulse),
    ∀ i ∈ [Instr.null a, .nullSend p, .ack a, .nak a, .retransmitTimeout p l, .abort (a, n), .codeError p, .frameEofSent p,
        .sideMessageReceived p msg, .sideTxGo .host q w, .linkDelayMeasure p, .dlyReq p, .dlyRsp p v40, .dlyReqRetry p,
        .linkStart p b, .linkHoldEnd p, .rstEnd p, .presenceWindowEnd p pulses, .trainingTxStart p, .trainingTimeout p,
        .linkRetryPauseEnd p, .linkAutostartRetry p, .portResume p, .resumingTimeout p, .linkSilence p, .farEndHold p,
        .responderWaitTimeout p, .portCtlStart .host q, .portCtlWake .host q, .portCtlEnWrite .host q b, .lifelineNoise p n,
        .alarmRepeat p, .alarmGiveUp p, .failbackHoldEnd],
      Completes i s fun t => s.coreKept t ∧ s.ladleKept t ∧ t.safe = s.safe ∧ t.sfu = s.sfu ∧ t.rack = s.rack ∧ t.dma = s.dma ∧
        t.load = s.load ∧ t.nvmQ = s.nvmQ ∧ t.cvu = s.cvu ∧ t.hostPort = s.hostPort ∧ t.boot = s.boot)

/-- A DATA, SAFE, CONFIG (of no window operation), TRIP, LOAD_STATUS or FENCE_REPORT frame addressed to this node, a BCAST of scope
RACK from a default upstream port, and an INFO or LTINFO that arrives with HOPS 0, when its link accepts it: it enters the
receive queue that FAB_QMAP names for its type, with its arrival port, RX is raised in every context, and no other queue
changes. A TRIP also raises TRIP_SEEN; on a manager it waits for TRIP_DELIVER. An accepted frame with ACKREQ, of any message but those of
the window unit and loader, TIME and SCHED, is answered by an ACK with its LSEQ. What is not accepted changes no context and no
memory: a duplicate is counted in DUP and acknowledged anew, a stale frame counted in STALE and not; a frame on a shut port is
counted in FAB_FENCEDROP, and acknowledged only while the port is not fenced; one that finds its receive queue full, counted in
FAB_QFULL, or no frame buffer, leaves LAST_RX, and with ACKREQ gets a NAK of BUSY, counted in PORT_BUSY; one of bad form, of a bad
CRC or poisoned is counted as such and gets neither. (R421, R422, R423, R426, R439, R378, R379, R381, R382, R383, R419) -/
def Obligations.FramesDelivered : Prop :=
  ∀ (s : State) (a : Arrival), s.canonical = true →
    (s.admits (a.as Ty.DATA) → s.isMine a.frame.dest = true → Completes (.data a) s fun t => s.queued t (a.as Ty.DATA)) ∧
    (s.admits (a.as Ty.SAFE) → s.isMine a.frame.dest = true → Completes (.safe a) s fun t => s.queued t (a.as Ty.SAFE)) ∧
    (s.admits (a.as Ty.CONFIG) → s.isMine a.frame.dest = true → windowMessage a.frame.payload = false →
      Completes (.config a) s fun t => s.queued t (a.as Ty.CONFIG) ∧ t.replied true (a.as Ty.CONFIG)) ∧
    (s.admits (a.as Ty.TRIP) → s.isMine a.frame.dest = true → Completes (.trip a) s fun t => s.queued t (a.as Ty.TRIP) ∧
      (∀ c, t.rang c Ev.TRIP_SEEN) ∧ t.trips = s.trips ++ if s.isManager then [(a.as Ty.TRIP).frame] else []) ∧
    (s.admits (a.as Ty.BCAST) → a.frame.dest = 0 → s.takesFrom a.port = true → Completes (.bcast a) s fun t =>
      s.queued t (a.as Ty.BCAST)) ∧
    (s.admits (a.asOp Ty.PROG 0x81) → s.isMine a.frame.dest = true → a.frame.dest ≠ a.frame.src →
      Completes (.loadStatus a) s fun t => s.queued t (a.asOp Ty.PROG 0x81)) ∧
    (s.admits (a.asOp Ty.IDENT 0x20) → s.isMine a.frame.dest = true → Completes (.fenceReport a) s fun t =>
      s.queued t (a.asOp Ty.IDENT 0x20)) ∧
    (s.admits (a.asOp Ty.IDENT 0x81) → a.frame.hops = 0 → Completes (.info a) s fun t => s.queued t (a.asOp Ty.IDENT 0x81)) ∧
    (s.admits (a.asOp Ty.IDENT 0x85) → a.frame.hops = 0 → Completes (.ltinfo a) s fun t => s.queued t (a.asOp Ty.IDENT 0x85)) ∧
    (∀ e ∈ messagesOf a, s.admits e.2 → Completes e.1 s fun t => t.replied true e.2) ∧
    ∀ e ∈ messagesOf a ++ requestsOf a, let b := e.2
      let v := s.judgeSeq b.port b.frame.lseq
      let full := s.entersQueue b.port b.frame = true ∧ 8 ≤ (s.ctx (s.qmap b.frame.ftype)).rx.length
      (s.sound b →
        (v = .dup → Completes e.1 s fun t => s.dropped t ∧
          t.fld Reg.PORT_DUP.COUNT b.port = min (s.fld Reg.PORT_DUP.COUNT b.port + 1) (2 ^ 32 - 1) ∧
          (s.shutTo b.port b.frame = false ∨ s.check b.port ≠ 3 → t.replied true b)) ∧
        (v = .stale → Completes e.1 s fun t => s.dropped t ∧
          t.fld Reg.PORT_STALE.COUNT b.port = min (s.fld Reg.PORT_STALE.COUNT b.port + 1) (2 ^ 32 - 1) ∧
          (t.port b.port).queue = (s.port b.port).queue ∧ (t.port b.port).cur = (s.port b.port).cur) ∧
        (v = .new ∨ v = .late → s.shutTo b.port b.frame = true → Completes e.1 s fun t => s.dropped t ∧
          t.fld Reg.FAB_FENCEDROP.COUNT = min (s.fld Reg.FAB_FENCEDROP.COUNT + 1) (2 ^ 32 - 1) ∧
          (s.check b.port ≠ 3 → t.replied true b) ∧
          (s.check b.port = 3 → (t.port b.port).queue = (s.port b.port).queue ∧ (t.port b.port).cur = (s.port b.port).cur)) ∧
        (v = .new ∨ v = .late → s.shutTo b.port b.frame = false →
          full ∨ s.hasBuffer b.frame.ftype (s.needs b.port b.frame) = false → Completes e.1 s fun t => s.dropped t ∧
            t.replied false b ∧ t.fld Reg.PORT_LSEQ.LAST_RX b.port = s.fld Reg.PORT_LSEQ.LAST_RX b.port ∧
            (full → t.fld Reg.FAB_QFULL.COUNT = min (s.fld Reg.FAB_QFULL.COUNT + 1) (2 ^ 32 - 1)) ∧
            t.fld Reg.PORT_BUSY.COUNT b.port = if b.frame.ackreq then min (s.fld Reg.PORT_BUSY.COUNT b.port + 1) (2 ^ 32 - 1)
              else s.fld Reg.PORT_BUSY.COUNT b.port)) ∧
      (s.noSide b → ∀ f ∈ [(Line.badForm, Reg.PORT_FORMAT.COUNT), (.poison, Reg.PORT_POISON.COUNT), (.badCrc, Reg.PORT_CRC.COUNT)],
        s.lineOf b = f.1 → Completes e.1 s fun t => s.dropped t ∧
          t.fld f.2 b.port = min (s.fld f.2 b.port + 1) (2 ^ 32 - 1) ∧ t.port b.port = { s.port b.port with nulls := 0 })

/-- A DATA frame for another node, HOPS not 0, whose route is an UP port, not fenced, other than its arrival port, waits there or is on its
transmitter with HOPS one less and type, PRIO, ACKREQ, DEST, SRC and payload as they came. So does a directed frame, on the port
that its PATH names. With HOPS 0 a DATA frame is counted in FAB_HOPDROP, without a route in FAB_NOROUTE, with its arrival port
as route in FAB_UTURN; and no context receives any of them. Of a frame found bad, and of one cut short, a copy that began on an
idle port, 1.5 µs after the SOF, ends with the complement of its CRC, and with ABORT at the boundary after the arriving one. TRIP_DELIVER takes the TRIP that has waited longest, and with
TRIPDEM 1 on a die with a safety block sets DEMAND. On the secondary with REVERT 1, once the primary has been usable for
HOLD × 100 ms the active default upstream is the primary, with FAILBACK set and PORT raised.
(R375, R427, R430, R431, R435, R448, R442, R443, R617, R378, R379, R393) -/
def Obligations.ForwardingAndUpstream : Prop :=
  (∀ (s : State) (a : Arrival), s.canonical = true →
    (s.admits (a.as Ty.DATA) → s.isMine a.frame.dest = false →
      (∀ (q : Port) (up : Bool), a.frame.hops ≠ 0 → s.route a.frame.dest = some (q, up) → q ≠ a.port → s.link q = Link.UP →
        s.check q ≠ 3 → Completes (.data a) s fun t => t.leaves q (copyLike (a.as Ty.DATA).frame) ∧ t.ctxs = s.ctxs ∧ t.mem = s.mem) ∧
      (a.frame.hops = 0 → Completes (.data a) s fun t =>
        t.fld Reg.FAB_HOPDROP.COUNT = min (s.fld Reg.FAB_HOPDROP.COUNT + 1) (2 ^ 32 - 1) ∧ t.ctxs = s.ctxs ∧ t.mem = s.mem) ∧
      (a.frame.hops ≠ 0 → s.route a.frame.dest = none → Completes (.data a) s fun t =>
        t.fld Reg.FAB_NOROUTE.COUNT = min (s.fld Reg.FAB_NOROUTE.COUNT + 1) (2 ^ 32 - 1) ∧ t.ctxs = s.ctxs ∧ t.mem = s.mem) ∧
      (∀ up : Bool, a.frame.hops ≠ 0 → s.route a.frame.dest = some (a.port, up) → Completes (.data a) s fun t =>
        t.fld Reg.FAB_UTURN.COUNT = min (s.fld Reg.FAB_UTURN.COUNT + 1) (2 ^ 32 - 1) ∧ t.ctxs = s.ctxs ∧ t.mem = s.mem)) ∧
    (let b := if a.frame.isDirected then a else a.as Ty.ENUM
     let n := fieldOf a.frame.payload 1 1
     let q := pathEntry a.frame.payload (n - a.frame.hops)
     s.admits b → a.frame.hops ≠ 0 → a.frame.hops < n → q ≠ a.port → s.link q = Link.UP → Completes (.directedForward a) s fun t =>
        t.leaves q (copyLike b.frame) ∧ t.ctxs = s.ctxs ∧ t.mem = s.mem) ∧
    (∀ (q : Port) (up : Bool), s.link a.port = Link.UP → a.port ≠ xlink →
      (∀ e ∈ messagesOf a ++ requestsOf a, s.noSide e.2 → s.lineOf e.2 ∈ [Line.badForm, .poison, .badCrc] →
        (q, up) ∈ s.copyPorts e.2.port e.2.frame → s.cutsThrough q (s.copyOf e.2.port q e.2.frame up .fixed) = true →
        Completes e.1 s fun t => ∃ i, (i ∈ (t.port q).queue ∨ (t.port q).cur = some i) ∧ i.poison = true ∧ copyLike e.2.frame i.frame) ∧
      (s.receives a.port = true → (q, up) ∈ s.copyPorts a.port a.frame →
        s.cutsThrough q (s.copyOf a.port q a.frame up .fixed) = true → ∀ n : Nat, 34 ≤ n → Completes (.abort (a, n)) s fun t =>
          ∃ i, (i ∈ (t.port q).queue ∨ (t.port q).cur = some i) ∧ i.cut = some (s.now + 4 + n, a.port, a.frame.lseq) ∧
            copyLike a.frame i.frame))) ∧
    (∀ (s : State), s.canonical = true →
    (∀ (f : Frame) (rest : List Frame), s.trips = f :: rest → Completes .tripDeliver s fun t => t.trips = rest ∧
      (s.flag Reg.SFU_CFG.TRIPDEM = true → s.hasSafety = true → s.unwritten → t.flag Reg.SAFE_CTL.DEMAND = true)) ∧
    (∀ t0 : Nat, s.primSince = some t0 → s.flag Reg.FAB_CFG.REVERT = true → s.onSecondary = true →
      Completes .failbackHoldEnd s fun t => s.cameTo t (t0 + ms (100 * max 1 (s.fld Reg.FAB_CFG.HOLD))) ∧
        t.flag Reg.FAB_UP.ONSEC = false ∧ t.fld Reg.FAB_UP.ACTIVE = ((s.primPort.getD 0).val) ∧
        t.flag Reg.FAB_ST.FAILBACK = true ∧ ∀ c, t.rang c Ev.PORT))

/-- An ENUM that arrives with HOPS 0 and is accepted: QUERY is answered by INFO on the arrival port, with the reply's header, the
UID and STATUS OK. On a blank die with this UID ASSIGN sets address, VALID, SOURCE, rack ID, DEFHOPS, both upstream ports and
ASSIGNED; ROUTE sets its entry and ASSIGNED; PRIMER dates the Primer of each port it names, from its own end; LTREAD is answered by LTINFO. At the
end of its delay a port asks for a Primer. (R449, R451, R452) -/
def Obligations.EnumOperations : Prop :=
  ∀ (s : State) (a : Arrival), s.canonical = true → a.frame.hops = 0 →
    let b := a.frame.payload
    let answered := fun (t : State) (op : Byte) => t.leaves a.port fun g => g.ftype = Ty.IDENT ∧ g.hops = fieldOf b 1 1 - 1 ∧
      g.payload.length = 60 ∧ (g.payload.drop 36).take 8 = leBytes 8 s.uid ∧ g.payload.head? = some op ∧
      (g.payload.drop 1).take 3 = (b.drop 1).take 3 ∧ (g.payload.drop 20).take 16 = (b.drop 4).take 16
    (s.admits (a.asOp Ty.ENUM 1) → b.length = 36 → Completes (.enumQuery a) s fun t => answered t 0x81 ∧ t.ctxs = s.ctxs ∧ t.mem = s.mem) ∧
    (fieldOf b 36 8 = s.uid →
      (s.admits (a.asOp Ty.ENUM 2) → s.sealed = false → b.length = 56 → fieldOf b 52 1 ≤ 63 → Completes (.enumAssign a) s fun t =>
        t.fld Reg.FAB_ADDR.ADDR = fieldOf b 48 2 ∧ t.flag Reg.FAB_ADDR.VALID = true ∧ t.flag Reg.FAB_ADDR.SOURCE = true ∧
        t.fld Reg.FAB_RACKID.ID = fieldOf b 44 4 ∧ t.fld Reg.FAB_CFG.DEFHOPS = fieldOf b 52 1 ∧
        t.fld Reg.FAB_UP.PRIM = fieldOf b 50 1 % 4 ∧ t.flag Reg.FAB_UP.PRIMV = bitAt (fieldOf b 50 1) 7 ∧
        t.fld Reg.FAB_UP.SEC = fieldOf b 51 1 % 4 ∧ t.flag Reg.FAB_UP.SECV = bitAt (fieldOf b 51 1) 7 ∧
        t.flag Reg.FAB_ST.ASSIGNED = true) ∧
      (s.admits (a.asOp Ty.ENUM 3) → s.sealed = false → b.length = 52 → fieldOf b 44 1 ≤ 15 → Completes (.enumRoute a) s fun t =>
        let k := fieldOf b 44 1
        t.fld Reg.FAB_RT_A.BASE k = fieldOf b 46 2 ∧ t.fld Reg.FAB_RT_A.MASK k = fieldOf b 48 2 ∧
        t.fld Reg.FAB_RT_B.PORT k = fieldOf b 45 1 % 4 ∧ t.flag Reg.FAB_RT_B.VALID k = bitAt (fieldOf b 45 1) 7 ∧
        t.flag Reg.FAB_ST.ASSIGNED = true) ∧
      (s.admits (a.asOp Ty.ENUM 4) → b.length = 48 → fieldOf b 44 1 ≤ 15 → 1 ≤ fieldOf b 45 1 → fieldOf b 45 1 ≤ 60 →
        (∀ p ∈ allPorts, bitAt (fieldOf b 44 1) p.val = true → s.primerBusy p = false ∧ (s.port p).primerDelay = none) →
        Completes (.enumPrimer a) s fun t => ∀ p ∈ allPorts, bitAt (fieldOf b 44 1) p.val = true →
          (t.port p).primerDelay = some (s.now + 476 + ms (fieldOf b 46 2)) ∧ (t.port p).primerMinutes = fieldOf b 45 1) ∧
      (s.admits (a.asOp Ty.ENUM 5) → b.length = 48 → fieldOf b 44 1 ≤ 3 → Completes (.enumLtread a) s fun t =>
        answered t 0x85 ∧ t.ctxs = s.ctxs ∧ t.mem = s.mem)) ∧
    (∀ (p : Port) (t0 : Nat), (s.port p).primerDelay = some t0 → s.primerBusy p = false →
      Completes (.enumPrimerDelayEnd p) s fun t => s.cameTo t t0 ∧ (t.port p).primer = .asked ∧ (t.port p).primerInit = true ∧
        (t.port p).primerDelay = none ∧ (t.port p).primerAt = t.now + ms 2)

/-- A valid ANNOUNCE on a PENDING port is recorded in FAB_SEEN; the port is OPEN when no row of Table 10-10 fails, else FENCED with
the first failing cause. ANNOUNCE is sent again 1 ms after the last, up to ten times. A port with no valid ANNOUNCE in 10 ms is
FENCED for SILENT. RECHECK runs the check again: by the model's reading (log 21) a port that has seen the far ANNOUNCE of its present
link is judged again by it, and one that has seen none starts afresh, PENDING with a new ANNOUNCE. (R458, R459, R460, R462) -/
def Obligations.FarEndCheck : Prop :=
  ∀ (s : State) (p : Port), s.canonical = true →
    (∀ a : Arrival, let b := (a.asOp Ty.IDENT 0x10).frame.payload
      a.port = p → s.admits (a.asOp Ty.IDENT 0x10) → announceValid b = true → s.check p = 1 →
      (s.judge p b = 0 → Completes (.announce a) s fun t => t.check p = 2 ∧ t.fld Reg.FAB_SEEN_UIDLO.UID p = fieldOf b 4 4 ∧
        t.fld Reg.FAB_SEEN_UIDHI.UID p = fieldOf b 8 4 ∧ t.flag Reg.FAB_SEEN_INFO.VALID p = true ∧ t.flag Reg.PORT_ST.FENCED p = false) ∧
      (s.judge p b ≠ 0 → Completes (.announce a) s fun t => t.check p = 3 ∧ t.fld Reg.FAB_CHK.CAUSE p = s.judge p b ∧
        t.flag Reg.PORT_ST.FENCED p = true ∧ t.flag Reg.FAB_SEEN_INFO.VALID p = true)) ∧
    (p ≠ xlink → s.link p = Link.UP → (s.port p).annSent < 10 → (s.port p).annSeen = false → Completes (.announceResend p) s fun t =>
      s.cameTo t ((s.port p).annAt + ms 1) ∧ (t.port p).annSent = (s.port p).annSent + 1 ∧ t.leaves p fun g => g.ftype = Ty.IDENT ∧ g.hops = 0 ∧ g.payload = s.announce p) ∧
    (p ≠ xlink → s.check p = 1 → (s.port p).annSeen = false → Completes (.announceSilent p) s fun t =>
      s.cameTo t (s.port p).deadline ∧ t.check p = 3 ∧ t.fld Reg.FAB_CHK.CAUSE p = 2 ∧ t.flag Reg.PORT_ST.FENCED p = true) ∧
    (∀ mask : BitVec 4, mask.toNat = 2 ^ p.val → s.link p = Link.UP → (s.port p).doubled = false → (s.port p).annSeen = false →
      Completes (.fabRecheck .host mask) s fun t => t.check p = 1 ∧ (t.port p).annSent = 1 ∧
        (t.port p).deadline = max s.now (s.port p).lastRx + ms 10) ∧
    (∀ mask : BitVec 4, mask.toNat = 2 ^ p.val → s.linkAlive p = true → (s.port p).doubled = false → (s.port p).annSeen = true →
      Completes (.fabRecheck .host mask) s fun t => let c := s.judge p (s.port p).annFar
        t.check p = (if c = 0 then 2 else 3) ∧ t.fld Reg.FAB_CHK.CAUSE p = c ∧ t.flag Reg.PORT_ST.FENCED p = decide (c ≠ 0))

/-- A port starts a Primer by asking, and waits 2 ms. A die that is blank or has PRIMER_EN, in no Primer on the port (one that has itself
asked is in none: log 21), acknowledges PRIMER_REQ. PRIMER_ACK, received or sent, dates the pattern 100 µs after its end; PRIMER_NAK
and silence give REFUSED. In the pattern the port is in RESET with its counters clear for MINUTES; it ends PASS when no bit and no
synchronisation was lost, else FAIL, the counters holding what the checker counted, as far as R465 and the reads before allow it (log
21), and the initiator starts a link 2 s later. STOP gives ABORTED. A cycle, begun by rack time
crossing a multiple of PERIOD hours since the last it counted (log 21) or by LT_CTL.CYCLE, gives the first usable port its turn of SECS seconds; at the end of the
last turn no port is tested. In a turn a TEST frame with the pattern is queued when the queue is empty and none is on its way; on
an ASLEEP port it is dropped. A TEST frame received whole, whatever its CRC, adds 512 bits, and its differing bits, to the counters. (R464, R465, R466, R467, R468, R469, R470, R397) -/
def Obligations.PrimersAndIntervals : Prop :=
  (∀ (s : State) (p : Port), s.canonical = true →
    (∀ mask : BitVec 4, mask.toNat = 2 ^ p.val → s.primerBusy p = false →
      Completes (.primerStart .host mask) s fun t => (t.port p).primer = .asked ∧ (t.port p).primerInit = true ∧
        (t.port p).primerAt = s.now + ms 2) ∧
    (∀ a : Arrival, a.port = p → a.frame.payload.length = 4 →
      (s.admits (a.asOp Ty.IDENT 0x11) → s.sealed = false ∨ s.flag Reg.FAB_CFG.PRIMER_EN = true → s.primerTaken p = false → Completes (.primerReq a) s fun t =>
        (t.port p).primer = .acking ∧ (t.port p).primerInit = false ∧ (t.port p).primerMinutes = fieldOf a.frame.payload 1 1 ∧
        t.leaves p fun g => g.ftype = Ty.IDENT ∧ g.payload = [0x12, BitVec.ofNat 8 (fieldOf a.frame.payload 1 1), 0, 0]) ∧
      (s.admits (a.asOp Ty.IDENT 0x12) → (s.port p).primer = .asked → Completes (.primerAck a) s fun t =>
        (t.port p).primer = .acked ∧ (t.port p).primerAt = s.now + 124 + us 100) ∧
      (s.admits (a.asOp Ty.IDENT 0x13) → (s.port p).primer = .asked → Completes (.primerNak a) s fun t =>
        (t.port p).primer = .none ∧ t.fld Reg.LT_RES.RESULT p = 4)) ∧
    (∀ i : TxItem, (s.port p).cur = some i → i.cut = none → i.frame.ftype = Ty.IDENT → fieldOf i.frame.payload 0 1 = 0x12 →
      (s.port p).primer = .acking → Completes (.frameEofSent p) s fun t => (t.port p).primer = .acked ∧
        (t.port p).primerAt = (s.port p).curAt + i.frame.ticks + us 100) ∧
    ((s.port p).primer = .asked → Completes (.primerNoAnswer p) s fun t => s.cameTo t (s.port p).primerAt ∧
      (t.port p).primer = .none ∧ t.fld Reg.LT_RES.RESULT p = 4) ∧
    (p ≠ xlink →
      ((s.port p).primer = .acked → s.portOn p = true → s.asleep = false → (∀ i ∈ (s.port p).cur.toList ++ (s.port p).queue, i.frame.ftype ≠ Ty.TRIP) →
        Completes (.primerPatternStart p) s fun t => s.cameTo t (s.port p).primerAt ∧ t.inPrimer p = true ∧ t.link p = Link.RESET ∧
          (t.port p).primer = .running ∧ (t.port p).primerAt = t.now + ms (60000 * (s.port p).primerMinutes) ∧
          t.fld Reg.LT_BITS_LO.BITS p = 0 ∧ t.fld Reg.LT_ERRS.ERRS p = 0 ∧ t.fld Reg.LT_RES.SYNCLOSS p = 0) ∧
      (∀ bits errs lost : Nat, (s.port p).primer = .running → (s.port p).primerMinutes ≤ 60 →
        let u := s.reach (s.port p).primerAt
        let n := (s.port p).checkerCounts s.now u.now errs lost
        Completes (.primerEnd p bits errs lost) s fun t =>
        s.cameTo t (s.port p).primerAt ∧ t.inPrimer p = false ∧ t.bitOf Reg.LT_ST.DONE p.val = true ∧
        t.fld Reg.LT_RES.RESULT p = (if n.2.1 = 0 ∧ n.2.2 = 0 then 1 else 2) ∧
        t.fld Reg.LT_BITS_LO.BITS p + 2 ^ 32 * t.fld Reg.LT_BITS_HI.BITS p = n.1 ∧ t.fld Reg.LT_ERRS.ERRS p = n.2.1 ∧
        t.fld Reg.LT_RES.SYNCLOSS p = n.2.2 ∧ t.ctxs = s.ctxs ∧ t.mem = s.mem ∧
        (t.port p).primer = .none ∧ ((s.port p).primerInit = true → (t.port p).relinkAt = some (t.now + ms 2000))) ∧
      (∀ mask : BitVec 4, mask.toNat = 2 ^ p.val → s.inPrimer p = true → Completes (.primerStop .host mask) s fun t =>
        t.inPrimer p = false ∧ t.bitOf Reg.LT_ST.DONE p.val = true ∧ t.fld Reg.LT_RES.RESULT p = 3 ∧ t.link p = s.link p ∧
        (t.port p).primer = .none ∧ ((s.port p).primerInit = true → (t.port p).relinkAt = some (s.now + ms 2000)))) ∧
    (∀ t0 : Nat, (s.port p).relinkAt = some t0 → s.portOn p = true → s.inPrimer p = false →
      Completes (.primerRelink p) s fun t => s.cameTo t t0 ∧
      (t.port p).relinkAt = none ∧ t.link p = Link.RESET ∧ (t.port p).phase = .start)) ∧
    (∀ (s : State) (p : Port), s.canonical = true →
    (s.lt.turn = none → allPorts.find? s.usable = some p →
      (s.flag Reg.LT_CFG.AUTO = true → s.flag Reg.RT_ST.SET = true → s.rackStill = false → Completes .intervalCycleStart s fun t =>
        let due := multipleAfter (86400000000 * max 1 (s.fld Reg.LT_CFG.PERIOD)) s.lt.since
        s.cameToTick t due ∧ t.lt.since = due ∧ t.lt.turn = some (p, t.now + ms (1000 * max 1 (s.fld Reg.LT_CFG.SECS))) ∧ t.fld Reg.LT_ST.TESTING = 2 ^ p.val ∧
        t.ctxs = s.ctxs ∧ t.mem = s.mem) ∧
      Completes (.ltCycle .host) s fun t => t.lt.turn = some (p, s.now + ms (1000 * max 1 (s.fld Reg.LT_CFG.SECS))) ∧
        t.fld Reg.LT_ST.TESTING = 2 ^ p.val ∧ t.ctxs = s.ctxs ∧ t.mem = s.mem) ∧
    (∀ t0 : Nat, s.lt.turn = some (p, t0) →
      (s.lt.left = [] → Completes .intervalTurnEnd s fun t => s.cameTo t t0 ∧ t.lt.turn = none ∧ t.fld Reg.LT_ST.TESTING = 0) ∧
      ((s.port p).queue = [] → (∀ i, (s.port p).cur = some i → i.frame.ftype ≠ Ty.TEST) → s.usable p = true →
        (s.link p ≠ Link.ASLEEP → Completes .testFrameSend s fun t => t.leaves p fun g =>
          g.ftype = Ty.TEST ∧ g.hops = 0 ∧ g.prio = 7 ∧ g.ackreq = false ∧ g.dest = 0 ∧ g.payload = testPayload) ∧
        (s.link p = Link.ASLEEP → Completes .testFrameSend s fun t =>
          t.fld Reg.PORT_DROP.COUNT p = min (s.fld Reg.PORT_DROP.COUNT p + 1) (2 ^ 32 - 1) ∧ t.ports = s.ports))) ∧
    (∀ a : Arrival, a.port = p → p ≠ xlink → s.link p = Link.UP → s.shutTo p (a.as Ty.TEST).frame = false → s.noSide (a.as Ty.TEST) →
      s.lineOf (a.as Ty.TEST) ∈ [Line.good, .badCrc, .poison] → a.frame.payload.length = 64 → s.fld Reg.LT_BITS_LO.BITS p + 512 < 2 ^ 32 →
      Completes (.test a) s fun t => t.fld Reg.LT_BITS_LO.BITS p = s.fld Reg.LT_BITS_LO.BITS p + 512 ∧
        t.fld Reg.LT_ERRS.ERRS p = min (s.fld Reg.LT_ERRS.ERRS p + bitDiff a.frame.payload testPayload) (2 ^ 32 - 1) ∧ t.ctxs = s.ctxs))

/-- PROG messages by LOADIN, from a host that may load. LOAD_BEGIN for this role, of a legal length, puts the die in LOAD with the
message's identity, stops every context, and clears the directory's marker; memory is as before unless a channel at work writes
its descriptor back. LOAD_DATA stages a chunk not yet received in bank 3,
where no other is staged.
LOAD_COMMIT whose checks pass queues the marker's write; one that fails keeps and answers its code. LOAD_ABORT, and 10 s of
silence, leave the die NOIMAGE, a commit under way or an image committed without RESTART notwithstanding: there R110 and R113 pull
apart, and log 19 chooses. A chunk of the image counts as the model settles it there too. LOAD_QUERY is answered with the load's state. A waiting program start with a good image resets
each context and puts it at its entry, READY where the image says so; without one the die is NOIMAGE. A verified NVM write, whoever
asked for it, leaves its bytes in memory, changes no other byte, and the queue goes on: one of the program store's sector frees its staged
chunks, one of the directory shows its marker in LOAD_ST.VALID. The last of a commit's writes ends the commit as successful, and a host
that asked for it is told so; with RESTART the die leaves LOAD, its contexts IDLE and its programs to be started, without it stays in LOAD.
A loader's write that fails during a commit fails it: the die stays in LOAD with code 7, and the marker is cleared. (R107, R108, R109, R110,
R113, R116, R117, R743, R95, R103, R104, R822) -/
def Obligations.LoaderAndStart : Prop :=
  (∀ (s : State) (b : List Byte), s.flag Reg.HOST_CFG.EN = true →
    (s.loadAllowed .host = true →
      (b.length = 20 → s.load = none → bitAt (fieldOf b 1 1) s.role = true → fieldOf b 4 4 ≤ 65536 → fieldOf b 4 4 % 4 = 0 →
        Completes (.loadBegin (.host b)) s fun t => (∃ l, t.load = some l ∧ l.rolemask.toNat = fieldOf b 1 1 ∧
          l.imglen = fieldOf b 4 4 ∧ l.imgid.toNat = fieldOf b 8 4 ∧ l.imgver.toNat = fieldOf b 12 4 ∧ l.imgcrc.toNat = fieldOf b 16 4 ∧
          l.chunks = [] ∧ l.staged = [] ∧ l.deadline = s.now + ms 10000) ∧
          (∀ c, (t.ctx c).isRunnable = false ∧ (t.ctx c).state ≠ .waiting ∧ (t.ctx c).x = (s.ctx c).x ∧ (t.ctx c).pc = (s.ctx c).pc) ∧
          ⟨0x1001C200, [0, 0, 0, 0], .directory⟩ ∈ t.nvmQ ∧
          ((∀ n : Fin 4, s.dmaState n = 0 ∨ s.dmaState n = 3) → t.mem = s.mem)) ∧
      (∀ l : Load, s.load = some l → l.commit = none →
        (b.length = 36 → let c := fieldOf b 2 2
          c < l.count → c ∉ l.chunks → l.slots.length < 32 → l.freePlaces ≠ [] → s.canonical = true → Completes (.loadData (.host b)) s fun t => ∃ l' i, t.load = some l' ∧
            l'.chunks = insertNat c l.chunks ∧ l'.imglen = l.imglen ∧ l'.deadline = s.now + ms 10000 ∧ l'.staged = (c, i) :: l.staged ∧
            i < 512 ∧ (∀ e ∈ l.staged, e.2 ≠ i) ∧ t.bytes (0xC000 + 32 * i) 32 = b.drop 4 ∧
            ∀ a, a < 0xC000 + 32 * i ∨ 0xC000 + 32 * i + 32 ≤ a → t.byte a = s.byte a) ∧
        (b.length = 4 → s.settled.commitCode l = none → Completes (.loadCommit (.host b)) s fun t =>
          (∃ l', t.load = some l' ∧ l'.commit = some (.host, bitAt (fieldOf b 1 1) 0)) ∧
          ⟨0x1001C200, leBytes 4 0x5A5AA5A5, .directory⟩ ∈ t.nvmQ ∧ t.mem = s.mem) ∧
        (∀ k, b.length = 4 → s.settled.commitCode l = some k → Completes (.loadCommit (.host b)) s fun t =>
          (∃ l', t.load = some l' ∧ l'.lastFail = some k ∧ l'.commit = none ∧ l'.chunks = l.chunks) ∧ t.nvmQ = s.nvmQ ∧ t.mem = s.mem) ∧
        (b.length = 4 → Completes (.loadAbort (.host b)) s fun t => t.load = none ∧ t.boot.started = true ∧ t.mem = s.mem))) ∧
    (b.length = 4 → s.hostPort.loadOut.length + 4 ≤ 16 → Completes (.loadQuery (.host b)) s fun t =>
      t.hostPort.loadOut = s.hostPort.loadOut ++ streamMessage 0 (s.statusBytes s.queryCode) ∧ t.ctxs = s.ctxs ∧ t.mem = s.mem) ∧
    (∀ l : Load, s.load = some l → s.canonical = true → Completes .loadTimeout s fun t => s.cameTo t l.deadline ∧ t.load = none ∧
      t.flag Reg.LOAD_ST.IN_LOAD = false ∧ t.flag Reg.LOAD_ST.NOIMAGE = true ∧ t.mem = s.mem)) ∧
    (∀ (s : State),
    (s.startDue = true → s.mayStart = true → Completes .programStart s fun t => t.boot.started = true ∧ ∀ c : Cid,
      let e := s.img 0x1C 4 + 16 * c.val
      (t.ctx c).pc = BitVec.ofNat 32 (s.img e 4) ∧ (t.ctx c).evmask = BitVec.ofNat 32 (s.img (e + 4) 4) ∧
        (t.ctx c).tvec = BitVec.ofNat 32 (s.img (e + 8) 4) ∧ (∀ r, (t.ctx c).getX r = 0) ∧ (t.ctx c).status = (Ctx.reset c).status ∧
        (s.img (e + 12) 4 ≠ 1 → (t.ctx c).state = .idle) ∧ (s.img (e + 12) 4 = 1 → (t.ctx c).state = .ready)) ∧
    (s.canonical = true → s.startDue = true → s.mayStart = false → Completes .programStart s fun t => t.boot.started = true ∧
      t.flag Reg.LOAD_ST.NOIMAGE = true ∧ t.ctxs = s.ctxs ∧ t.mem = s.mem) ∧
    (∀ (w : NvmWrite) (rest : List NvmWrite), s.canonical = true → s.nvmQ = w :: rest → w.writer ≠ .commit →
      (∀ f ∈ s.serving, fieldOf f.payload 0 1 ≠ 0x22) →
      let kept := fun (t : State) => ∀ a, a < w.addr ∨ w.addr + w.bytes.length ≤ a → t.byte a = s.byte a
      let stored := fun (t : State) => t.bytes w.addr w.bytes.length = w.bytes ∧ kept t ∧
        (w.writer = .directory → t.flag Reg.LOAD_ST.VALID = t.markerSet)
      (w.isLoader = false ∨ (∀ l, s.load = some l → l.commit = none) ∨ rest.any NvmWrite.isLoader = true →
        Completes (.nvmSectorWriteDone true) s fun t => stored t ∧ t.nvmQ = rest ∧
          (∀ k, w.writer = .program k → t.load = s.load.map fun l => { l with staged := l.staged.filter fun e => e.1 / 16 ≠ k }) ∧
          ((∀ k, w.writer ≠ .program k) → t.load = s.load)) ∧
      ∀ (l : Load) (dst : ReplyTo) (restart : Bool), s.load = some l → l.commit = some (dst, restart) → w.isLoader = true →
        (rest.any NvmWrite.isLoader = false → (∀ n : Fin 4, s.dmaState n = 0 ∨ s.dmaState n = 3) →
          Completes (.nvmSectorWriteDone true) s fun t => stored t ∧ t.fld Reg.LOAD_ST.LAST = 0 ∧
            (dst = .host → s.hostPort.loadOut.length + 4 ≤ 16 →
              ∃ m, t.hostPort.loadOut = s.hostPort.loadOut ++ streamMessage 0 m ∧ m.take 2 = [0x81, 0]) ∧
            (restart = false → ∃ l', t.load = some l' ∧ l'.commit = none ∧ l'.committed = true) ∧
            (restart = true → t.load = none ∧ t.flag Reg.LOAD_ST.IN_LOAD = false ∧ t.boot.started = false ∧
              ∀ c, (t.ctx c).state = .idle)) ∧
        Completes (.nvmSectorWriteDone false) s fun t => kept t ∧ t.fld Reg.LOAD_ST.LAST = 7 ∧
          (∃ l', t.load = some l' ∧ l'.commit = none ∧ l'.committed = false ∧ l'.lastFail = some 7) ∧
          ⟨0x1001C200, [0, 0, 0, 0], .directory⟩ ∈ t.nvmQ))

/-- (The way back to its source is an UP port that is not fenced, and no other node's address is this one's.) An accepted RREAD of this
node that no check refuses, of memory no write is due to: RDATA with the bytes, the request's length and tag leaves toward its
source, and nothing is written; of a read-clear register page word, it is cleared. While its sector is being written it waits. RWRITE of SRAM likewise
stores its data and nothing else, and of a register word its RW fields, and RDONE leaves. A refused request is counted, nothing is
stored, and RREFUSE leaves with the reason, FORMAT where LEN is 0 or fits not the payload; one shorter than 4 bytes is counted and no more. Asked for, an
ACK leaves. An answer whose EOF comes before the deadline of the context's request whose tag it carries: RDATA of the request's
length fills its slot with the bytes, RDONE with done, RREFUSE with the reason, and its timeout with a timeout; the request is
over, and a context that waits for it is READY; registers and memory are unchanged. A channel's answer is kept for it; a refusal
or timeout is its fault. An answer at or after the deadline, of no request or that fits none, is counted in WIN_LATE and changes
nothing. (R188, R194, R195, R199, R147, R191, R192, R824, R95, R206, R382) -/
def Obligations.RemoteRequests : Prop :=
  (∀ (s : State) (a : Arrival), s.canonical = true → s.isMine a.frame.dest = true →
    let b := a.frame.payload
    let n := fieldOf b 1 1
    let ad := fieldOf b 4 4
    let tag := (b.drop 2).take 2
    let refused := fun (t : State) => t.fld Reg.WIN_REFUSED.COUNT = min (s.fld Reg.WIN_REFUSED.COUNT + 1) (2 ^ 32 - 1)
    (∀ (q : Port) (up : Bool), s.isMine a.frame.src = false → s.route a.frame.src = some (q, up) → s.link q = Link.UP → s.check q ≠ 3 →
      let answer := fun (t : State) (p : List Byte) => t.leaves q fun g => g.ftype = Ty.CONFIG ∧ g.dest = a.frame.src ∧
        g.prio = a.frame.prio ∧ g.ackreq = true ∧ g.hops = s.defHops ∧ g.payload = p
      (s.admits (a.asOp Ty.CONFIG 0x21) → b.length = 8 → 0 < n → s.refusal (a.asOp Ty.CONFIG 0x21).frame = 0 →
        (s.readWaits (a.asOp Ty.CONFIG 0x21).frame = false → isPage ad = false → Completes (.rread a) s fun t =>
          answer t ([0xA1, BitVec.ofNat 8 n] ++ tag ++ s.bytes ad n) ∧ s.dropped t) ∧
        (ad = 0x40006040 → n = 4 → Completes (.rread a) s fun t =>
          answer t ([0xA1, 4] ++ tag ++ leBytes 4 (s.fld Reg.FAB_NOROUTE.COUNT)) ∧ t.fld Reg.FAB_NOROUTE.COUNT = 0 ∧ s.dropped t)) ∧
      (s.admits (a.asOp Ty.CONFIG 0x22) → b.length = 8 + n → 0 < n → s.refusal (a.asOp Ty.CONFIG 0x22).frame = 0 →
        (ad + n ≤ 0x10000 → Completes (.rwrite a) s fun t => answer t ([0xA2, BitVec.ofNat 8 n] ++ tag) ∧
          t.bytes ad n = b.drop 8 ∧ (∀ x, x < ad ∨ ad + n ≤ x → t.byte x = s.byte x) ∧ t.ctxs = s.ctxs) ∧
        (ad = 0x40006020 → n = 4 → Completes (.rwrite a) s fun t => answer t ([0xA2, 4] ++ tag) ∧
          (t.reg 0x6020).toNat % 2 ^ 24 = fieldOf b 8 3 ∧ s.dropped t)) ∧
      (∀ e ∈ (requestsOf a).take 2, s.admits e.2 →
        (4 ≤ b.length → n = 0 ∨ b.length ≠ 8 + (if fieldOf e.2.frame.payload 0 1 = 0x22 then n else 0) → Completes e.1 s fun t =>
          answer t ([0xAF, 5] ++ tag) ∧ refused t ∧ s.dropped t) ∧
        (∀ k : Nat, 0 < n → b.length = 8 + (if fieldOf e.2.frame.payload 0 1 = 0x22 then n else 0) → s.refusal e.2.frame = k → k ≠ 0 →
          Completes e.1 s fun t => answer t ([0xAF, BitVec.ofNat 8 k] ++ tag) ∧ refused t ∧ t.mem = s.mem ∧
            (k ≠ 6 → t.ctxs = s.ctxs)))) ∧
    (∀ e ∈ (requestsOf a).take 2, s.admits e.2 → b.length < 4 → Completes e.1 s fun t => refused t ∧ s.dropped t) ∧
    (s.admits (a.asOp Ty.CONFIG 0x21) → b.length = 8 → 0 < n → s.refusal (a.asOp Ty.CONFIG 0x21).frame = 0 →
      s.readWaits (a.asOp Ty.CONFIG 0x21).frame = true → Completes (.rread a) s fun t =>
        t.serving = s.serving ++ [(a.asOp Ty.CONFIG 0x21).frame] ∧ s.dropped t) ∧
    (∀ e ∈ requestsOf a, s.admits e.2 → isPage ad = false → Completes e.1 s fun t => t.replied true e.2) ∧
    (∀ e ∈ (requestsOf a).drop 2, s.admits e.2 → let c := e.2.frame.payload
      let who := fieldOf c 2 2 % 16
      let op := fieldOf c 0 1
      let unfit := fun (r : Request) => fieldOf c 2 2 ≠ r.tag.toNat ∨ r.deadline ≤ s.now + e.2.frame.ticks ∨
        (op ≠ 0xAF ∧ (r.write = decide (op = 0xA1) ∨ fieldOf c 1 1 ≠ r.len)) ∨ c.length ≠ 4 + (if op = 0xA1 then r.len else 0)
      c.length < 4 ∨ 12 ≤ who ∨ (who < 8 ∧ ∀ r, (s.ctx (Fin.ofNat 8 who)).req = some r → unfit r) ∨
          (8 ≤ who ∧ who < 12 ∧ ∀ r, (s.dmaCh (Fin.ofNat 4 who)).req = some r → unfit r) →
        Completes e.1 s fun t => t.fld Reg.WIN_LATE.COUNT = min (s.fld Reg.WIN_LATE.COUNT + 1) (2 ^ 32 - 1) ∧ s.dropped t ∧
          t.dma = s.dma)) ∧
    (∀ (s : State) (r : Request),
    let fits := fun (a : Arrival) (op : Byte) => s.canonical = true ∧ s.isMine a.frame.dest = true ∧ s.now + a.frame.ticks < r.deadline ∧
      fieldOf a.frame.payload 2 2 = r.tag.toNat ∧ s.admits (a.asOp Ty.CONFIG op)
    (∀ c : Cid, (s.ctx c).req = some r → r.tag.toNat % 16 = c.val →
      let took := fun (t : State) (ans : Answer) => (t.ctx c).slot = some (r, ans) ∧ (t.ctx c).req = none ∧
        ((s.ctx c).state = .waiting → (s.ctx c).wait = some .remote → (t.ctx c).state = .ready ∧ (t.ctx c).wait = none) ∧
        (∀ d, (t.ctx d).x = (s.ctx d).x ∧ (t.ctx d).pc = (s.ctx d).pc) ∧ t.mem = s.mem
      (∀ a : Arrival,
        (fits a 0xA1 → r.write = false → fieldOf a.frame.payload 1 1 = r.len → a.frame.payload.length = 4 + r.len →
          Completes (.rdata a) s fun t => took t (.data (a.frame.payload.drop 4))) ∧
        (fits a 0xA2 → r.write = true → fieldOf a.frame.payload 1 1 = r.len → a.frame.payload.length = 4 →
          Completes (.rdone a) s fun t => took t .done) ∧
        (fits a 0xAF → a.frame.payload.length = 4 → Completes (.rrefuse a) s fun t =>
          took t (.refused (fieldOf a.frame.payload 1 1)))) ∧
      Completes (.remoteTimeout (Fin.ofNat 12 c.val)) s fun t => took t .timeout ∧ s.cameTo t r.deadline) ∧
    (∀ n : Fin 4, (s.dmaCh n).req = some r → r.tag.toNat % 16 = 8 + n.val →
      let kept := fun (t : State) (ans : Answer) => (t.dmaCh n).ans = some (r, ans) ∧ (t.dmaCh n).req = none ∧ s.dropped t
      let failed := fun (t : State) (cause : Nat) => t.dmaState n = 3 ∧ t.flag Reg.DMA_STAT.FAULT n = true ∧
        t.fld Reg.DMA_STAT.CODE n = 2 ∧ (∀ d, t.rang d (Ev.DMA0 + n.val)) ∧ let d := s.fld Reg.DMA_CURD.VALUE n
        (descInSram d = true → t.num (d + 20) 4 = s.fld Reg.DMA_CURN.VALUE n % 2 ^ 16 + 2 ^ 16 * 2 + 2 ^ 24 * cause)
      (∀ a : Arrival,
        (fits a 0xA1 → r.write = false → fieldOf a.frame.payload 1 1 = r.len → a.frame.payload.length = 4 + r.len →
          Completes (.rdata a) s fun t => kept t (.data (a.frame.payload.drop 4))) ∧
        (fits a 0xA2 → r.write = true → fieldOf a.frame.payload 1 1 = r.len → a.frame.payload.length = 4 →
          Completes (.rdone a) s fun t => kept t .done) ∧
        (fits a 0xAF → a.frame.payload.length = 4 → (s.dmaCh n).stopping = none → Completes (.rrefuse a) s fun t => failed t 8)) ∧
      ((s.dmaCh n).stopping = none → Completes (.remoteTimeout (Fin.ofNat 12 (8 + n.val))) s fun t =>
        failed t 9 ∧ s.cameTo t r.deadline)))

/-- START by the host of a halted or idle channel, whose descriptor lies in SRAM and obeys Table 5-4, takes the descriptor: ACTIVE,
or WAIT_RTC where it says so, at byte 0; RESUME goes on at the byte the descriptor holds. HALT of a channel that moves nothing
remote halts it and writes STAT back. A beat between two SRAM words copies the word and advances CURN by 4 in two ticks. Where a
side lies in a REMOTE window, to the host or another node, the beat sends the request of its next transfer, a read of a remote source,
else a write of the source's words, of what is left, 48 bytes and the remote windows' ends the least, and CURN stays. An
acknowledged transfer advances CURN by its length. (R188, R190, R201, R202, R205, R207, R209, R212) -/
def Obligations.DmaChannels : Prop :=
  ∀ (s : State) (n : Fin 4), s.canonical = true →
    (∀ d : Nat, descInSram d = true → (∀ i, i < 6 → d + 4 * i ∉ s.eccBad) →
      descBad (s.word d) (s.num (d + 4) 4) (s.num (d + 8) 4) (s.num (d + 12) 4) (s.num (d + 16) 4) = false →
      s.flag Reg.DMA_CFG.EN n = true → (s.dmaState n = 0 ∨ s.dmaState n = 3) →
      let desc : Desc := ⟨s.word d, s.num (d + 4) 4, s.num (d + 8) 4, s.num (d + 12) 4, s.num (d + 16) 4⟩
      (d = 4 * s.fld Reg.DMA_DESC.ADDR n → Completes (.dmaStart .host n) s fun t => (t.dmaCh n).desc = some desc ∧
        t.fld Reg.DMA_CURD.VALUE n = d ∧ t.fld Reg.DMA_CURN.VALUE n = 0 ∧ t.dmaState n = (if desc.ctrl.getLsbD 4 then 2 else 1) ∧
        t.mem = s.mem ∧ t.ctxs = s.ctxs ∧ ∀ m, m ≠ n → t.dmaCh m = s.dmaCh m) ∧
      (d = s.fld Reg.DMA_CURD.VALUE n → 0 < s.num (d + 20) 2 → Completes (.dmaResume .host n) s fun t =>
        (t.dmaCh n).desc = some desc ∧ t.fld Reg.DMA_CURN.VALUE n = s.num (d + 20) 2 ∧ t.dmaState n = 1 ∧
        t.mem = s.mem ∧ t.ctxs = s.ctxs ∧ ∀ m, m ≠ n → t.dmaCh m = s.dmaCh m)) ∧
    (s.dmaState n = 1 → (s.dmaCh n).req = none → (s.dmaCh n).ans = none → (s.dmaCh n).inBeat = false → descInSram (s.fld Reg.DMA_CURD.VALUE n) = true →
      Completes (.dmaHalt .host n) s fun t => t.dmaState n = 3 ∧ t.fld Reg.DMA_STAT.CODE n = 3 ∧ (t.dmaCh n).desc = none ∧
        t.num (s.fld Reg.DMA_CURD.VALUE n + 20) 4 = s.fld Reg.DMA_CURN.VALUE n % 2 ^ 16 + 2 ^ 16 * 3 ∧
        ∀ a, a < s.fld Reg.DMA_CURD.VALUE n + 20 ∨ s.fld Reg.DMA_CURD.VALUE n + 24 ≤ a → t.byte a = s.byte a) ∧
    (∀ (d : Desc), (s.dmaCh n).desc = some d → (s.dmaCh n).stopping = none →
      (∀ pa qa w u : Nat, s.boot.inReset = false → s.dmaNext = some n → s.fld Reg.DMA_CURN.VALUE n + 4 < d.len → d.len < 2 ^ 16 →
        s.place (s.dmaOwner n) (dmaReach (sideAt (d.ctrl.getLsbD 2) d.src (s.fld Reg.DMA_CURN.VALUE n)) false) = .here pa w →
        s.place (s.dmaOwner n) (dmaReach (sideAt (d.ctrl.getLsbD 3) d.dst (s.fld Reg.DMA_CURN.VALUE n)) true) = .here qa u →
        isSram pa = true → isSram qa = true → s.eccHit pa = false → Completes .dmaBeat s fun t =>
          t.bytes qa 4 = s.bytes pa 4 ∧ (∀ a, a < qa ∨ qa + 4 ≤ a → t.byte a = s.byte a) ∧
          t.fld Reg.DMA_CURN.VALUE n = s.fld Reg.DMA_CURN.VALUE n + 4 ∧ t.now = s.now + 2 ∧ t.ctxs = s.ctxs) ∧
      (s.dmaNext = some n → s.fld Reg.DMA_CURN.VALUE n < d.len → let c := s.dmaOwner n
        let at_ := s.fld Reg.DMA_CURN.VALUE n
        let src := sideAt (d.ctrl.getLsbD 2) d.src at_
        let dst := sideAt (d.ctrl.getLsbD 3) d.dst at_
        let room := fun (w : Win) (va : Nat) => min (min (d.len - at_) 48) (w.limit - va)
        let sent := fun (t : State) (w : Win) (va : Nat) (write : Bool) (len : Nat) (data : List Byte) =>
          (∃ r, (t.dmaCh n).req = some r ∧ r.asked w (8 + n.val) (s.dmaCh n).tagCount.toNat va write len data s.now ∧ s.asks t r c) ∧
            (t.dmaCh n).ans = none ∧ t.fld Reg.DMA_CURN.VALUE n = at_ ∧ t.dmaState n = s.dmaState n ∧ t.now = s.now ∧ t.mem = s.mem
        ∀ w u pa x : Nat, s.leads (s.win c w) → s.leads (s.win c u) →
          (s.place c (dmaReach src false) = .away w → s.place c (dmaReach dst true) = .here pa x →
            (s.dmaLocals n true (sideWords (d.ctrl.getLsbD 3) d.dst at_ (room (s.win c w) src / 4))).isOk = true →
            Completes .dmaBeat s fun t => sent t (s.win c w) src false (room (s.win c w) src) []) ∧
          (∀ l : List Nat, s.place c (dmaReach src false) = .here pa x → s.place c (dmaReach dst true) = .away w →
            s.dmaLocals n false (sideWords (d.ctrl.getLsbD 2) d.src at_ (room (s.win c w) dst / 4)) = .ok l → (∀ a ∈ l, isSram a = true) →
            Completes .dmaBeat s fun t => sent t (s.win c w) dst true (room (s.win c w) dst) (l.flatMap fun a => s.bytes a 4)) ∧
          (s.place c (dmaReach src false) = .away w → s.place c (dmaReach dst true) = .away u →
            Completes .dmaBeat s fun t => sent t (s.win c w) src false (min (room (s.win c w) src) (room (s.win c u) dst)) [])) ∧
      (∀ r : Request, (s.dmaCh n).ans = some (r, .done) → s.fld Reg.DMA_CURN.VALUE n + r.len < d.len → d.len < 2 ^ 16 →
        Completes (.dmaRemoteDone n) s fun t => (t.dmaCh n).ans = none ∧
          t.fld Reg.DMA_CURN.VALUE n = s.fld Reg.DMA_CURN.VALUE n + r.len ∧ t.mem = s.mem ∧ t.ctxs = s.ctxs))

/-- At most 24 ticks after a started channel's window MEAS_RESULT holds its corrected, clamped result with the flags of Table 6-10; the last
channel of its MEAS sets its bit in MEAS_DONEMASK and raises MEAS_DONE. An auxiliary input's window is followed by its
result in MEAS_AUXRES in the same time, and the next input starts 5 µs after the window. AUXREF is on SETTLE × 10 µs before an armed scan under BIAS. An armed Study
channel begins its quiet window 200 µs before its start: it is held, and every shuttle's operation is PAUSED at applied current 0; it ends 200 µs after the last
Study window. On a die with cells, OW_CTL.START while no cell channel is armed or converting and no leakage test runs begins the
first phase, BUSY; otherwise it sets REFUSED. Each phase keeps its results at its end, 2,040 µs on; the last sets OPEN and DONE and
ends BUSY. LEAK_CTL.START begins a leakage test, or one that waits for channel 15, or sets REFUSED; a waiting test begins when
channel 15 is free; 650 µs after its start DONE is set and BUSY is clear. A change of GR takes effect. (R230, R235, R237, R246, R248, R352,
R353, R264, R265, R267, R269, R273) -/
def Obligations.MeasuringTests : Prop :=
  (∀ (s : State), s.canonical = true →
    (∀ (n : Fin 16) (raw : Int) (lag : Fin 25) (m : MeasSet), n.val ≠ 13 → s.convSet n.val = some m →
      let doneAt := m.startedAt + windowOf (bitAt m.study n.val) + lag
      let u := s.reach doneAt
      Completes (.conversionDone n raw lag) s fun t => s.cameTo t doneAt ∧
        (∃ m', u.convSet n.val = some m' ∧ t.reg (0x2804 + 0x10000 * n.val) = u.resultWord m' n.val raw) ∧
        (m.left = 2 ^ n.val → t.bitOf Reg.MEAS_DONEMASK.DONE n.val = true ∧ ∀ c, t.rang c Ev.MEAS_DONE) ∧ t.mem = s.mem) ∧
    (∀ (raw : Int) (lag : Fin 25) (m : MeasSet) (k : Nat) (rest : List Nat), s.convSet 13 = some m → s.meas.auxLeft = k :: rest → k < 8 →
      s.meas.auxGap = none →
      let doneAt := s.meas.auxAt + windowOf (bitAt m.study 13) + lag
      let u := s.reach doneAt
      Completes (.conversionDone 13 raw lag) s fun t => s.cameTo t doneAt ∧
        (∃ m', u.convSet 13 = some m' ∧ t.reg (0x2040 + 4 * k) = u.resultWord m' 13 raw) ∧
        t.bitOf Reg.MEAS_AUXST.DONE k = true ∧
        (rest ≠ [] → t.meas.auxLeft = rest ∧ t.meas.auxGap = some (t.now - lag + us 5)) ∧ t.mem = s.mem) ∧
    (∀ t0 : Nat, s.meas.auxGap = some t0 → Completes .auxInputStart s fun t => s.cameTo t t0 ∧ t.meas.auxGap = none ∧
      t.meas.auxAt = t.now ∧ t.regs = s.regs ∧ t.ctxs = s.ctxs ∧ t.mem = s.mem) ∧
    (∀ t0 : Nat, s.firstTarget MeasSet.auxDue = some t0 → s.flag Reg.MEAS_AUXCFG.BIAS = true → s.meas.auxref = false →
      Completes .auxrefOn s fun t => s.cameToTick t (t0 - 240 * s.fld Reg.MEAS_AUXCFG.SETTLE) ∧ t.meas.auxref = true ∧
        t.regs = s.regs ∧ t.ctxs = s.ctxs ∧ t.mem = s.mem) ∧
    (∀ t0 : Nat, s.firstTarget MeasSet.quietDue = some t0 → s.meas.pauseHeld = false →
      Completes .quietWindowPause s fun t => s.cameToTick t (t0 - us 200) ∧ t.meas.pauseHeld = true ∧ t.flag Reg.MEAS_QW.HELD = true ∧
        (∀ k, s.shuttleActive k = true → (∀ x, (s.shuttle k).next = some x → x.op = 1 ∨ x.op = 2) →
          t.flag Reg.BAL_ST.PAUSED k = true ∧ t.fld Reg.BAL_CUR.APPLIED k = 0) ∧
        (s.flag Reg.BAL_CFG.QWEV = true → ∀ c, t.rang c Ev.BAL) ∧ t.mem = s.mem) ∧
    (∀ t0 : Nat, s.meas.resumeAt = some t0 → s.meas.pauseHeld = true → Completes .quietWindowResume s fun t => s.cameTo t t0 ∧
      t.meas.pauseHeld = false ∧ t.meas.resumeAt = none ∧ t.flag Reg.MEAS_QW.HELD = false ∧
      (∀ k : Fin 6, t.flag Reg.BAL_ST.PAUSED k = false) ∧ (s.flag Reg.BAL_CFG.QWEV = true → ∀ c, t.rang c Ev.BAL) ∧ t.mem = s.mem)) ∧
    (∀ (s : State), s.canonical = true →
    (s.hasCells = true →
      (Nat.land (Nat.lor s.armedMask s.convMask) 0xFFF = 0 → s.meas.leakAt = none →
        Completes .openWireStart s fun t => t.meas.owPhase = 1 ∧ t.flag Reg.OW_CTL.BUSY = true ∧ t.meas.pauseHeld = true ∧ t.mem = s.mem) ∧
      (Nat.land (Nat.lor s.armedMask s.convMask) 0xFFF ≠ 0 ∨ s.meas.leakAt.isSome = true → Completes .openWireStart s fun t =>
        t.flag Reg.OW_ST.REFUSED = true ∧ t.meas = s.meas ∧ t.ladle = s.ladle ∧ t.mem = s.mem ∧ t.ctxs = s.ctxs) ∧
      (s.meas.owPhase = 0 → s.meas.leakAt = none → Completes .leakageStart s fun t =>
        t.flag Reg.LEAK_CTL.BUSY = true ∧ t.mem = s.mem ∧
        t.meas.leakAt = (if bitAt (Nat.lor s.armedMask s.convMask) 15 then none else some s.now) ∧
        t.meas.leakWaiting = bitAt (Nat.lor s.armedMask s.convMask) 15) ∧
      (s.meas.leakAt.isSome = true → Completes .leakageStart s fun t => t.flag Reg.LEAK_ST.REFUSED = true ∧ t.meas = s.meas ∧
        t.mem = s.mem ∧ t.ctxs = s.ctxs)) ∧
    (∀ cells : List Int,
      (s.meas.owPhase = 1 → Completes (.openWirePhaseEnd cells) s fun t => s.cameTo t (s.meas.owAt + us 2040) ∧
        t.meas.owPhase = 2 ∧ t.meas.owFirst = cells ∧ t.regs = s.regs) ∧
      (s.meas.owPhase = 2 → Completes (.openWirePhaseEnd cells) s fun t => s.cameTo t (s.meas.owAt + us 2040) ∧
        t.meas.owPhase = 3 ∧ t.meas.owSecond = cells ∧ t.regs = s.regs) ∧
      (s.meas.owPhase = 3 → Completes (.openWirePhaseEnd cells) s fun t => s.cameTo t (s.meas.owAt + us 2500) ∧ t.meas.owPhase = 0 ∧ t.flag Reg.OW_ST.DONE = true ∧
        t.flag Reg.OW_CTL.BUSY = false ∧ t.fld Reg.OW_ST.OPEN = openPins s.meas.owFirst s.meas.owSecond ∧ t.mem = s.mem)) ∧
    (s.meas.leakWaiting = true → s.meas.owPhase = 0 → bitAt (Nat.lor s.armedMask s.convMask) 15 = false →
      Completes .leakageDeferredStart s fun t => t.meas.leakAt = some s.now ∧ t.meas.leakWaiting = false ∧ t.meas.pauseHeld = true ∧ t.mem = s.mem) ∧
    (∀ (v : List Int) (t0 : Nat), s.meas.leakAt = some t0 → Completes (.leakageDone v) s fun t => s.cameTo t (t0 + us 650) ∧
      t.flag Reg.LEAK_ST.DONE = true ∧ t.flag Reg.LEAK_CTL.BUSY = false ∧ t.meas.leakAt = none ∧
      (s.now ≤ t0 → s.fld Reg.MEAS_RF.OHMS = 0 → t.fld Reg.LEAK_NT.PIN = 0x1FFF ∧ t.fld Reg.LEAK_ST.LEAKY = s.fld Reg.LEAK_ST.LEAKY) ∧
      t.mem = s.mem ∧ t.ctxs = s.ctxs) ∧
    (∀ (g : Bool) (t0 : Nat), s.meas.grSince = some (g, t0) → Completes .grChangeEffect s fun t => s.cameTo t t0 ∧
      t.meas.grSince = none ∧ t.flag Reg.MEAS_CFG.GR = g ∧ t.mem = s.mem ∧ t.ctxs = s.ctxs))

/-- On a CELL or TRAY die whose thresholds are at least 20 codes apart, a sample of an enabled cell above its threshold that makes
COUNT in a row sets its bit in SENT_ST and raises SENTINEL; a sample of all cells well inside their thresholds sets no bit. Each
sample comes one period of Table 6-3 after the last. A write of SENT_ST clears the bits written 1 whose live bits are 0 and
that were not set in this tick, and no other. A write of SENT_OV, SENT_UV or SENT_CFG with SEAL9 on stores its fields and restarts every count. Where the sentinels are
Off a write does nothing. (R13, R251, R253, R254, R256, R257, R24) -/
def Obligations.Sentinels : Prop :=
  ∀ (s : State), s.canonical = true →
    (∀ (n : Fin 12) (cells : List Int), s.sentRuns = true → s.cfgBad = false → s.bitOf Reg.SENT_CFG.MASK n.val = true →
      s.ovLimit n.val < cells.getD n.val 0 → countOf s.meas.sentOver n.val + 1 = s.sentCount →
      Completes (.sentinelSample cells) s fun t => s.cameTo t (s.meas.sentAt + s.samplePeriod) ∧ t.bitOf Reg.SENT_ST.OV n.val = true ∧ (∀ c, t.rang c Ev.SENTINEL) ∧
        t.bitOf Reg.SENT_LIVE.OV n.val = true) ∧
    (∀ cells : List Int, s.sentRuns = true → s.cfgBad = false →
      (∀ n, n < 12 → s.uvLimit n + 20000 ≤ cells.getD n 0 ∧ cells.getD n 0 ≤ s.ovLimit n - 20000) →
      Completes (.sentinelSample cells) s fun t => t.fld Reg.SENT_ST.OV = s.fld Reg.SENT_ST.OV ∧
        t.fld Reg.SENT_ST.UV = s.fld Reg.SENT_ST.UV ∧ t.ctxs = s.ctxs ∧ t.mem = s.mem ∧
        ∀ n, n < 12 → s.bitOf Reg.SENT_CFG.MASK n = true → t.bitOf Reg.SENT_LIVE.OV n = false ∧ t.bitOf Reg.SENT_LIVE.UV n = false) ∧
    (∀ v : Word, s.hasCells = false → Completes (.sentStWrite .host v) s fun t => t = s) ∧
    (∀ (v : Word) (n : Fin 12), s.hasCells = true → Completes (.sentStWrite .host v) s fun t =>
      t.bitOf Reg.SENT_ST.OV n.val = (s.bitOf Reg.SENT_ST.OV n.val && !(v.getLsbD n.val && !s.bitOf Reg.SENT_LIVE.OV n.val &&
        !(s.freshBits Reg.SENT_ST.OV.base).getLsbD n.val)) ∧
      t.bitOf Reg.SENT_ST.UV n.val = (s.bitOf Reg.SENT_ST.UV n.val && !(v.getLsbD (16 + n.val) && !s.bitOf Reg.SENT_LIVE.UV n.val &&
        !(s.freshBits Reg.SENT_ST.UV.base).getLsbD (16 + n.val))) ∧
      t.mem = s.mem ∧ t.ctxs = s.ctxs) ∧
    (∀ v : Word, s.hasCells = true → s.seal9 = true →
      Completes (.sentCfgWrite .host 0 v) s (fun t => t.fld Reg.SENT_OV.CODE = v.toNat % 1024 ∧
        t.meas.sentOver = Vector.replicate 12 0 ∧ t.meas.sentUnder = Vector.replicate 12 0 ∧ t.mem = s.mem ∧ t.ctxs = s.ctxs) ∧
      Completes (.sentCfgWrite .host 1 v) s (fun t => t.fld Reg.SENT_UV.CODE = v.toNat % 1024 ∧
        t.meas.sentOver = Vector.replicate 12 0 ∧ t.meas.sentUnder = Vector.replicate 12 0 ∧ t.mem = s.mem ∧ t.ctxs = s.ctxs) ∧
      Completes (.sentCfgWrite .host 2 v) s fun t => t.fld Reg.SENT_CFG.COUNT = v.toNat % 16 ∧
        t.fld Reg.SENT_CFG.MASK = v.toNat / 16 % 4096 ∧ t.fld Reg.SENT_CFG.WMAX = v.toNat / 2 ^ 16 % 256 ∧
        t.meas.sentOver = Vector.replicate 12 0 ∧ t.mem = s.mem ∧ t.ctxs = s.ctxs)

/-- On a die with cells, after a governor computation: no bound is above 1,000 mA; at a die temperature, as sampled last, of 125 °C or more it is 0;
at 55 °C or less, with ΔT at most 45 °C, a mean current of at most 1,000 mA since the last, Z_used 0 and the supply present it is
1,000 mA; and the applied current is above neither the bound nor the ceiling. A measurement at 100 mA or more sets Z_meas of the
served cell. A target reached sets DONE and leaves the shuttle idle with BAL_DONE the target; a cell within 50 mV of the
threshold that its operation, with none waiting to replace it, moves it to sets VLIM and stops the shuttle with the rest in BAL_LEFT, any other voltage changes
nothing; a supply missing, the stack below 9.0 V or the served cell below 1.0 V, sets SUPPLY, bound and current 0, and at its return the bound is what the governor last computed (the
model's choice, log 46). A bleed frame, 100 ms after the last, closes the switches held at 95 °C
or less and none at 125 °C or more; the end of the duty opens them. Each closed switch's current, 120 mA at
most as 5 % and 1 mA let it read, is measured every 1 ms, and its charge comes off its target. A bleed target reached opens its switch and sets BDONE. A write of BAL_CEIL stores at most 1,000. (R342, R343, R344, R346, R334, R335, R337,
R345, R351, R357, R358, R360) -/
def Obligations.Balancing : Prop :=
  (∀ (s : State) (first : Nat) (others : List Nat) (k : Fin 6), s.canonical = true → s.hasCells = true →
    let u := s.reach (s.ladle.govAt + ms 1)
    Completes (.governorUpdate first others) s fun t => s.cameTo t (s.ladle.govAt + ms 1) ∧ t.fld Reg.BAL_CUR.BOUND k ≤ 1000 ∧
      (125000 ≤ s.temp → t.fld Reg.BAL_CUR.BOUND k = 0) ∧
      (s.temp ≤ 55000 → (s.shuttle k).next = none → (s.shuttle k).rise ≤ 45000 → (u.shuttle k).meanOver (u.now - s.ladle.govAt) ≤ 1000 → s.zUsed k = 0 →
        s.flag Reg.BAL_ST.SUPPLY k = false → t.fld Reg.BAL_CUR.BOUND k = 1000) ∧
      t.fld Reg.BAL_CUR.APPLIED k ≤ t.fld Reg.BAL_CUR.BOUND k ∧ t.fld Reg.BAL_CUR.APPLIED k ≤ t.fld Reg.BAL_CEIL.MA k ∧
      ((s.shuttle k).next = none → t.fld Reg.BAL_CEIL.MA k = s.fld Reg.BAL_CEIL.MA k) ∧ t.mem = s.mem ∧ (∀ c, (s.ctx c).keeps (t.ctx c))) ∧
    (∀ (s : State) (k : Fin 6), s.canonical = true →
    (∀ v0 v1 : Int, let i := s.fld Reg.BAL_CUR.APPLIED k
      let dv := (v1 - v0).natAbs
      (s.shuttle k).next = none → s.shuttleActive k = true → s.shuttleHeld k = false → 100 ≤ i → 10 * dv % i = 0 → Completes (.impedanceMeasure k v0 v1) s fun t =>
      s.cameTo t (s.shuttle k).zAt ∧
      (if s.fld Reg.BAL_ST.CELL k = 0 then t.fld Reg.BAL_Z.ZMEAS0 k else t.fld Reg.BAL_Z.ZMEAS1 k) = min 0xFFFF (10 * dv / i) ∧
      t.mem = s.mem ∧ ∀ c, (s.ctx c).keeps (t.ctx c)) ∧
    ((s.shuttle k).next = none → s.shuttleRuns k = true → s.fld Reg.BAL_TARGET.UC k ≠ 0 → (s.shuttle k).doneNc ≤ 1000 * s.fld Reg.BAL_TARGET.UC k →
      Completes (.shuttleTargetReached k) s fun t => t.flag Reg.BAL_ST.DONE k = true ∧ t.fld Reg.BAL_ST.OP k = 0 ∧
        t.fld Reg.BAL_DONE.UC k = s.fld Reg.BAL_TARGET.UC k ∧ t.fld Reg.BAL_CUR.APPLIED k = 0 ∧ t.mem = s.mem ∧ ∀ c, (s.ctx c).keeps (t.ctx c)) ∧
    (∀ v : Int, let n := s.servedCell k - 1
      let near := if s.fld Reg.BAL_ST.OP k = 1 then s.ovLimit n - 50000 ≤ v else v ≤ s.uvLimit n + 50000
      (s.shuttle k).next = none → s.shuttleRuns k = true →
      (near → (s.fld Reg.BAL_TARGET.UC k = 0 ∨
          (s.shuttle k).doneNc + ((s.shuttle k).part + (s.cycleCharge k (s.nextCycle - s.now)).2) / 24 < 1000 * s.fld Reg.BAL_TARGET.UC k) →
        Completes (.shuttleVoltageLimit (k, v)) s fun t => t.flag Reg.BAL_ST.VLIM k = true ∧ t.fld Reg.BAL_ST.OP k = 0 ∧
          t.fld Reg.BAL_LEFT.UC k = s.fld Reg.BAL_TARGET.UC k - t.fld Reg.BAL_DONE.UC k ∧ t.fld Reg.BAL_CUR.APPLIED k = 0 ∧
          t.mem = s.mem ∧ ∀ c, (s.ctx c).keeps (t.ctx c)) ∧
      (¬near → Completes (.shuttleVoltageLimit (k, v)) s fun t => t = s)) ∧
    (s.hasCells = true →
      (∀ stack cell : Int,
        (stack < 9000000 ∨ cell < 1000000 → Completes (.shuttleSupplyChange k (stack, cell)) s fun t =>
          t.flag Reg.BAL_ST.SUPPLY k = true ∧ t.fld Reg.BAL_CUR.BOUND k = 0 ∧ t.fld Reg.BAL_CUR.APPLIED k = 0 ∧ t.mem = s.mem ∧
          ∀ c, (s.ctx c).keeps (t.ctx c)) ∧
        (9000000 ≤ stack → 1000000 ≤ cell → (s.shuttle k).governed ≤ 1000 → Completes (.shuttleSupplyChange k (stack, cell)) s fun t =>
          t.flag Reg.BAL_ST.SUPPLY k = false ∧ t.fld Reg.BAL_CUR.BOUND k = (s.shuttle k).governed ∧ t.mem = s.mem ∧
          ∀ c, (s.ctx c).keeps (t.ctx c))) ∧
      (s.bleedRuns = true → s.studyRuns = false →
        (s.temp ≤ 95000 → Completes (.bleedFrame ()) s fun t => s.cameTo t (s.ladle.frameAt + ms 100) ∧ t.fld Reg.BAL_BDUTY.DUTY = 100 ∧
          t.ladle.closed = s.fld Reg.BAL_BLEED.CLOSED ∧ t.mem = s.mem ∧ t.ctxs = s.ctxs) ∧
        (125000 ≤ s.temp → Completes (.bleedFrame ()) s fun t => t.fld Reg.BAL_BDUTY.DUTY = 0 ∧ t.ladle.closed = 0)) ∧
      ∀ v : Word, Completes (.balCeilWrite .host k v) s fun t => t.fld Reg.BAL_CEIL.MA k = min (v.toNat % 2048) 1000 ∧
        t.mem = s.mem ∧ ∀ c, (s.ctx c).keeps (t.ctx c)) ∧
    (s.bleedRuns = true → s.fld Reg.BAL_BDUTY.DUTY < 100 → s.studyRuns = false → Completes .bleedDutyOpen s fun t =>
      s.cameTo t (s.ladle.frameAt + ms (s.fld Reg.BAL_BDUTY.DUTY)) ∧ t.ladle.closed = 0 ∧
      t.fld Reg.BAL_BLEED.CLOSED = s.fld Reg.BAL_BLEED.CLOSED ∧ t.mem = s.mem ∧ t.ctxs = s.ctxs) ∧
    (∀ (n : Fin 12) (amps : List Nat), s.hasCells = true → bitAt s.ladle.closed n.val = true →
      s.bitOf Reg.BAL_BLEED.CLOSED n.val = true → bitAt s.ladle.dutyOff n.val = false →
      let i := min (amps.getD n.val 0) 1270
      Completes (.bleedCurrentSample amps) s fun t => s.cameTo t (s.ladle.sampleAt + ms 1) ∧ t.fld Reg.BAL_IB.I n.val = i ∧
      (s.hasTarget (n.val + 1) = true → t.leftOf (n.val + 1) =
        s.leftOf (n.val + 1) - i * (s.reach (s.ladle.sampleAt + ms 1)).closedForOf (n.val + 1) / 240) ∧
      t.mem = s.mem ∧ t.ctxs = s.ctxs) ∧
    (∀ n : Fin 12, s.hasTarget (n.val + 1) = true → bitAt s.ladle.closed n.val = true → s.fld Reg.BAL_IB.I n.val ≠ 0 →
      Completes (.bleedTargetReached n) s fun t =>
      t.bitOf Reg.BAL_BLEED.CLOSED n.val = false ∧ t.bitOf Reg.BAL_BLEED.BDONE n.val = true ∧ t.fld Reg.BAL_BT.LEFT n.val = 0 ∧
      t.mem = s.mem ∧ t.ctxs = s.ctxs))

/-- Written by the host while no firing of the compare is due: RTCk_LO stores the target's low word and disarms k; RTCk_HI resolves
the epoch and arms k at the target, or, when that is not later than now, leaves it disarmed, sets PAST and raises nothing. DISARM
disarms the compares named and leaves channels and descriptors. A firing that is due comes before the write. An armed compare that
comes due is disarmed, sets MATCH, raises RTCk in every context, starts descriptors that wait for it, and latches the rack
snapshot tied to it. With HFO a wait for rack time ends in that tick, what a correction still holds included. At the wrap the count
is 0 and the epoch byte one more; EPOCH_WARN comes once per epoch, at its count; without HFO, as near as the sleep keeper steps. In
SHIP and in reset rack time stands still and none comes. (R284, R285, R289, R290, R291, R293, R294, R303, R686) -/
def Obligations.RackTimeCompares : Prop :=
  ∀ (s : State) (k : Fin 4), s.canonical = true →
    (∀ T : Nat, T < 2 ^ 56 → s.hfo = true → s.rackStill = false → s.rtime < 2 ^ 62 → (s.reachTick T).rackNow = max s.rackNow T) ∧
    (∀ v : Word, s.rtcArmed k = true → s.rtcTarget k ≤ s.rackNow → Completes (.rtcLoWrite .host k v) s fun t =>
      t.bitOf Reg.RTC_ST.MATCH k = true ∧ (∀ c, t.rang c (Ev.RTC0 + k)) ∧ t.fld Reg.RTC_LO.TIME k = v.toNat ∧ t.rtcArmed k = false) ∧
    ((∀ j : Fin 4, s.rtcArmed j = true → s.rackNow < s.rtcTarget j) →
    (∀ v : Word, Completes (.rtcLoWrite .host k v) s fun t => t.fld Reg.RTC_LO.TIME k = v.toNat ∧ t.rtcArmed k = false ∧
      (∀ j : Fin 4, j ≠ k → t.rtcArmed j = s.rtcArmed j) ∧ t.ctxs = s.ctxs ∧ t.mem = s.mem) ∧
    (∀ v : Word, let t48 := v.toNat % 2 ^ 16 * 2 ^ 32 + s.fld Reg.RTC_LO.TIME k
      let e := if v.getLsbD 31 then v.toNat / 2 ^ 16 % 256 else if s.rackTicks < t48 then s.epoch else (s.epoch + 1) % 256
      (s.rackNow < e * 2 ^ 48 + t48 → Completes (.rtcHiWrite .host k v) s fun t => t.rtcArmed k = true ∧
        t.rtcTarget k = e * 2 ^ 48 + t48 ∧ t.fld Reg.RTC_HI.EPOCH k = e ∧ t.ctxs = s.ctxs ∧ t.mem = s.mem) ∧
      (e * 2 ^ 48 + t48 ≤ s.rackNow → Completes (.rtcHiWrite .host k v) s fun t => t.rtcArmed k = false ∧
        t.bitOf Reg.RTC_ST.PAST k = true ∧ t.ctxs = s.ctxs ∧ t.mem = s.mem)) ∧
    (∀ m : BitVec 4, Completes (.rtcDisarm .host m) s fun t => t.rtcArmed k = (s.rtcArmed k && !m.getLsbD k) ∧
      t.armedMask = s.armedMask ∧ ((∀ e ∈ s.meas.sets, e.started = true ∨ e.quiet = false) → t.meas = s.meas) ∧ t.dma = s.dma ∧
      t.ctxs = s.ctxs ∧ t.mem = s.mem)) ∧
    (s.rackStill = true → Completes (.rtcFire k) s (fun t => t = s) ∧ Completes .epochWarn s fun t => t = s) ∧
    (s.rtcArmed k = true → s.rackStill = false → Completes (.rtcFire k) s fun t => (s.hfo = true → s.cameToTick t (s.rtcTarget k)) ∧ t.rtcArmed k = false ∧
      t.bitOf Reg.RTC_ST.MATCH k = true ∧ (∀ c, t.rang c (Ev.RTC0 + k)) ∧
      (∀ n, (s.dmaCh n).waitRtc = some k → (t.dmaCh n).waitRtc = none ∧ t.dmaState n = 1) ∧
      (∀ e ∈ t.snap.tied, e.1 ≠ k) ∧
      (∀ no, no < 2 ^ 16 → s.snap.tied.filter (fun e => e.1 = k) = [(k, no)] → (∀ u, s.snap.at0 = some u → u < s.now) →
        t.fld Reg.SNAP_ST.LAST = no) ∧
      ∀ c, (s.ctx c).keeps (t.ctx c)) ∧
    (s.rtime < 2 ^ 62 → s.rackStill = false → Completes .epochWrap s fun t => t.rackTicks ≤ 1 ∧
      (s.hfo = true → t.rackTicks = 0) ∧ t.epoch = (s.epoch + 1) % 256 ∧ t.regs = s.regs ∧ t.ctxs = s.ctxs ∧ t.mem = s.mem) ∧
    (s.rtime < 2 ^ 62 → s.rackStill = false → s.rackTicks ≤ 0xFE1D33CF0000 → s.snap.warned ≠ some s.epoch →
      Completes .epochWarn s fun t => 0xFE1D33CF0000 ≤ t.rackTicks ∧ t.rackTicks ≤ 0xFE1D33CF0001 ∧
        (s.hfo = true → t.rackTicks = 0xFE1D33CF0000) ∧ (∀ c, t.rang c Ev.EPOCH_WARN) ∧
        t.snap.warned = some s.epoch ∧ t.mem = s.mem) ∧
    (s.snap.warned = some s.epoch → Completes .epochWarn s fun t => t = s)

/-- A manager with HFO and PER not 0 originates TIME on every usable port, PER × 10 µs after the last; else nothing happens. A TIME from a trusted SRC on a
default upstream port of measured delay: on the active one it is applied, and a first or forward setting makes rack time the
frame's; on the other only RT_XDIFF is written (log 18). Without a link delay it is not applied. LOCK_STALE clears LOCKED. A valid SCHED
arms the snapshot compare for a new SNAPNO, in place of one armed before (log 34), or latches late; its instant is recorded (log 29); a
new sweep number raises SCHED_RX and enters its queue; one of KIND 3 does both; an invalid one is counted. (R297, R301, R302, R304, R305, R313, R314, R315, R316) -/
def Obligations.RackTimeFrames : Prop :=
  ∀ (s : State), s.canonical = true →
    (s.timeRuns = true → Completes .timeOriginate s fun t => s.coreKept t ∧
      s.cameTo t (s.snap.timeAt + us (10 * s.fld Reg.RT_CFG.PER)) ∧ t.snap.timeAt = t.now ∧
      ∀ p : Port, p ≠ xlink → s.usable p = true → s.link p = Link.UP → t.leaves p fun g => g.ftype = Ty.TIME ∧ g.dest = 0 ∧
        g.src = s.addr ∧ g.payload.length = 8) ∧
    (s.timeRuns = false → Completes .timeOriginate s fun t => t = s) ∧
    (∀ a : Arrival, s.admits (a.as Ty.TIME) → a.frame.dest = 0 → s.takesFrom a.port = true → s.srcTrusted a.frame.src = true →
      (∀ d : Nat, s.linkDelay a.port = some d → let r := timeValue a.frame.payload d
        (s.activeUp = some a.port → (s.flag Reg.RT_ST.SET = false ∨ 0 ≤ s.timeDiff r) → Completes (.time a) s fun t => t.rtime = r ∧
          t.flag Reg.RT_ST.SET = true ∧ t.flag Reg.RT_ST.LOCKED = true ∧ t.fld Reg.RT_LASTCORR.CORR = sat32 (s.timeDiff r) ∧
          t.lastTime = some s.now ∧ t.fld Reg.RT_ST.PORT = a.port.val ∧ (∀ c, t.rang c Ev.TIME_RX) ∧ t.mem = s.mem) ∧
        (s.activeUp ≠ some a.port → Completes (.time a) s fun t => t.rtime = s.rtime ∧
          t.fld Reg.RT_XDIFF.DIFF = sat32 (s.timeDiff r) ∧ t.lastTime = s.lastTime ∧ t.ctxs = s.ctxs ∧ t.mem = s.mem)) ∧
      (s.linkDelay a.port = none → Completes (.time a) s fun t => t.rtime = s.rtime ∧ t.lastTime = s.lastTime ∧
        t.flag Reg.RT_ST.SET = s.flag Reg.RT_ST.SET ∧ t.ctxs = s.ctxs ∧ t.mem = s.mem)) ∧
    (∀ t0 : Nat, s.lastTime = some t0 → s.flag Reg.RT_ST.LOCKED = true → Completes .lockStale s fun t =>
      t.flag Reg.RT_ST.LOCKED = false ∧ s.cameTo t (t0 + us (250 * max 1 (s.fld Reg.RT_CFG.STALE)) + 1) ∧ t.ctxs = s.ctxs ∧
        t.mem = s.mem) ∧
    (∀ a : Arrival, s.admits (a.as Ty.SCHED) → a.frame.dest = 0 → s.takesFrom a.port = true → let b := a.frame.payload
      (s.schedGood a.frame = true →
        (let n := fieldOf b 10 2
         let at_ := fieldOf b 1 1 * 2 ^ 48 + fieldOf b 8 2 * 2 ^ 32 + fieldOf b 4 4
         fieldOf b 0 1 = 2 → s.snap.lastSnap ≠ some n →
          (s.rackNow < at_ → Completes (.sched a) s fun t => t.snap.armed = some (at_, n) ∧ t.snap.lastSnap = some n ∧
            at_ ∈ t.snap.scheds ∧
            t.ctxs = s.ctxs ∧ t.mem = s.mem) ∧
          (at_ ≤ s.rackNow → s.snap.at0 ≠ some s.now → Completes (.sched a) s fun t => t.fld Reg.SNAP_ST.LAST = n ∧ t.flag Reg.SNAP_ST.MISSED = true ∧
            bitAt (t.regNat 0x3400) 19 = true ∧ (∀ c, t.rang c Ev.SNAP) ∧ t.mem = s.mem)) ∧
        (fieldOf b 0 1 = 1 → s.snap.lastSweep ≠ some (fieldOf b 2 2) → Completes (.sched a) s fun t =>
          s.queued t (a.as Ty.SCHED) ∧ (∀ c, t.rang c Ev.SCHED_RX) ∧ t.snap.lastSweep = some (fieldOf b 2 2)) ∧
        (fieldOf b 0 1 = 3 → s.snap.lastSnap ≠ some (fieldOf b 10 2) → s.snap.lastSweep ≠ some (fieldOf b 2 2) →
          s.rackNow < schedInstant b → Completes (.sched a) s fun t => t.snap.armed = some (schedInstant b, fieldOf b 10 2) ∧
            t.snap.lastSnap = some (fieldOf b 10 2) ∧ t.snap.lastSweep = some (fieldOf b 2 2) ∧ s.queued t (a.as Ty.SCHED) ∧
            (∀ c, t.rang c Ev.SCHED_RX) ∧ t.mem = s.mem) ∧
        (fieldOf b 0 1 = 1 → s.snap.lastSweep = some (fieldOf b 2 2) → Completes (.sched a) s fun t => t.ctxs = s.ctxs ∧
          t.snap.armed = s.snap.armed ∧ t.snap.lastSnap = s.snap.lastSnap ∧ t.snap.lastSweep = s.snap.lastSweep)) ∧
      (s.schedGood a.frame = false → Completes (.sched a) s fun t => t.ctxs = s.ctxs ∧ t.snap = s.snap ∧
        t.fld Reg.SCHED_BAD.COUNT = min (s.fld Reg.SCHED_BAD.COUNT + 1) (2 ^ 32 - 1)))

/-- SNAP_CTL.GO on a die that is no manager latches bank 0 with the next local number, once in a tick. On a manager it takes the next
rack number, ties it to an armed compare that lies ahead and sends a SCHED on every usable port; else it sets REFUSED. The unit's
compares, a SCHED's and the trip follow-up's (each has its own: log 34), each latch bank 0 at their instant, the earlier first, and set
OVW when the bank was not acknowledged; in SHIP and in reset rack time is stopped and none is reached (log 36). Every latch sets LAST and raises SNAP. HFO-domain words latch when HFO is stable. TRIP_REL releases bank 1, ACK
acknowledges bank 0. (R317, R318, R319, R320, R322, R324, R325, R328, R329) -/
def Obligations.Snapshots : Prop :=
  ∀ (s : State) (k : Fin 4), s.canonical = true →
    (s.isManager = false → s.snap.at0 = some s.now → Completes (.snapGo .host k) s fun t => t.regs = s.regs ∧ t.ctxs = s.ctxs ∧
      t.mem = s.mem) ∧
    (s.isManager = false → s.snap.localNo < 2 ^ 15 → s.snap.at0 ≠ some s.now → Completes (.snapGo .host k) s fun t => t.fld Reg.SNAP_ST.LAST = s.snap.localNo ∧
      t.snap.localNo = (s.snap.localNo + 1) % 2 ^ 15 ∧ t.regNat 0x3400 % 2 ^ 19 = s.snap.localNo + 2 ^ 16 ∧ t.snap.acked = false ∧
      (∀ c, t.rang c Ev.SNAP) ∧ s.coreKept t) ∧
    (s.isManager = true → s.rtcArmed k = true → s.rackNow < s.rtcTarget k → s.unwritten → let n := s.fld Reg.SNAP_NEXT.NUMBER
      Completes (.snapGo .host k) s fun t => t.snap.tied = s.snap.tied ++ [(k, n + 2 ^ 15)] ∧ t.fld Reg.SNAP_NEXT.NUMBER = (n + 1) % 2 ^ 15 ∧
        (∀ p : Port, p ≠ xlink → s.usable p = true → s.link p = Link.UP → t.leaves p fun g => g.ftype = Ty.SCHED ∧ g.dest = 0 ∧
          g.payload = [2, BitVec.ofNat 8 (s.rtcTarget k / 2 ^ 48), 0, 0] ++ leBytes 4 (s.rtcTarget k) ++
            leBytes 2 (s.rtcTarget k / 2 ^ 32) ++ leBytes 2 (n + 2 ^ 15)) ∧ s.coreKept t) ∧
    (s.isManager = true → s.rtcArmed k = false → Completes (.snapGo .host k) s fun t => t.flag Reg.SNAP_ST.REFUSED = true ∧
      t.ports = s.ports ∧ t.snap = s.snap ∧ t.ctxs = s.ctxs ∧ t.mem = s.mem) ∧
    (∀ at_ n src : Nat, n < 2 ^ 16 → s.rackStill = false → (∀ u, s.snap.at0 = some u → u < s.now) →
      (src = 3 ∧ s.snap.armed = some (at_, n) ∧ s.snap.follow = none) ∨ (src = 5 ∧ s.snap.armed = none ∧ s.snap.follow = some (at_, n)) →
      Completes .snapshotCompareFire s fun t => s.cameToTick t at_ ∧ t.snap.armed = none ∧ t.snap.follow = none ∧
        t.fld Reg.SNAP_ST.LAST = n ∧ t.regNat 0x3400 % 2 ^ 19 = n + 2 ^ 16 * src ∧ t.snap.acked = false ∧
        t.flag Reg.SNAP_ST.OVW = (s.flag Reg.SNAP_ST.OVW || !s.snap.acked) ∧ (∀ c, t.rang c Ev.SNAP) ∧ s.coreKept t) ∧
    (∀ e g : Nat × Nat, s.rackStill = false → s.snap.armed = some e → s.snap.follow = some g → Completes .snapshotCompareFire s fun t =>
      s.cameToTick t (min g.1 e.1) ∧ t.snap.armed = (if g.1 < e.1 then some e else none) ∧
        t.snap.follow = (if g.1 < e.1 then none else some g)) ∧
    (s.rackStill = true ∨ (s.snap.armed = none ∧ s.snap.follow = none) → Completes .snapshotCompareFire s fun t => t = s) ∧
    (∀ b, s.hfo = true → (b = 0 ∨ b = 1) → s.snap.hfoLate = [(b, none)] → Completes .snapHfoLatch s fun t => t.snap.hfoLate = [] ∧
      (let base := if b = 0 then 0x3400 else 0x3C00
       t.reg base = s.reg base ∧ t.reg (base + 0x20) = BitVec.ofNat 32 (if s.frontRuns then
          (s.reg 0x2804).toNat else 0) ∧ t.reg (base + 0xA0) = BitVec.ofNat 32 s.measBusyWord) ∧ t.ctxs = s.ctxs ∧ t.mem = s.mem) ∧
    (Completes (.snapTripRel .host) s fun t => t.flag Reg.SNAP_ST.FROZEN = false ∧ t.snap = s.snap ∧ t.ctxs = s.ctxs ∧ t.mem = s.mem) ∧
    (Completes (.snapAck .host) s fun t => t.snap.acked = true ∧ t.regs = s.regs ∧ t.ctxs = s.ctxs ∧ t.mem = s.mem)

/-- For a job that may run. GO starts one that does not run: RESULT is INIT, POS 0; GO on a running job changes nothing; a range
that breaks R476 ends it at once with ERROR and BADRANGE. Its period starts it too, and while it runs sets OVERDUE. A run whose
turn it is ends with RESULT the CRC of the bytes it had left, one word a cycle, from the running value, with the final XOR where
FINAL says so (that CVU_JOB_DONE stands at the run's last word, all that is left read one word a cycle, is the model's choice: log 22);
OUTCOME is MISMATCH when CMP is set and EXPECT differs, else MATCH; LAST is rack time. An ECC error ends it with ERROR and ECC. A SCAN on the core, a batch check, or a job served first leaves it as it stands. A sealed job that fails runs once
more; failing again it sets SEALFAIL. CVU_AVIN judges VALUE against its slot: FIRST arms an unarmed slot, the next counter
sets AVOK, the same one AVREP, any other AVSKIP, the last two raising CVU_MISMATCH; AVLAST becomes the value. While a batch
check runs it is discarded and sets AVWERR, as a write of AVCFG is. AVCFG.GO begins a batch check; its end leaves the counters
in AVLAST and raises CVU_DONE; one that breaks R490 sets AVERR and judges nothing. (R474, R476, R477, R478, R479, R480, R486,
R493, R488, R489, R490, R491) -/
def Obligations.CheckValues : Prop :=
  (∀ (s : State) (k : Fin 8), s.canonical = true → s.jobAllowed k = true →
    let one : BitVec 8 := BitVec.ofNat 8 (2 ^ k.val)
    let begun := fun (t : State) => t.jobRuns k = true ∧ t.bitOf Reg.CVU_ST.BUSY k = true ∧
      t.fld Reg.CVU_JOB_RESULT.VALUE k = s.fld Reg.CVU_JOB_INIT.VALUE k ∧ t.fld Reg.CVU_JOB_STAT.POS k = 0 ∧ t.ctxs = s.ctxs ∧ t.mem = s.mem
    (s.jobRuns k = false → s.jobRangeGood k = true → Completes (.cvuGo .host one) s begun) ∧
    (s.jobRuns k = true → Completes (.cvuGo .host one) s fun t => t = s) ∧
    (3 ≤ k.val → s.jobRuns k = false → s.jobRangeGood k = false → Completes (.cvuGo .host one) s fun t => t.jobRuns k = false ∧
      t.fld Reg.CVU_JOB_STAT.OUTCOME k = 3 ∧ t.fld Reg.CVU_JOB_STAT.ERR k = 1 ∧ (∀ c, t.rang c Ev.CVU_MISMATCH) ∧ s.coreKept t) ∧
    (∀ t0 : Nat, s.jobPeriod k ≠ 0 → s.jobStarted k = some t0 →
      (s.jobRuns k = false → s.jobRangeGood k = true → Completes (.cvuJobStart k) s fun t => begun t ∧ s.cameTo t (t0 + s.jobPeriod k) ∧
        t.jobStarted k = some t.now) ∧
      (s.jobRuns k = true → Completes (.cvuJobStart k) s fun t => s.cameTo t (t0 + s.jobPeriod k) ∧ t.jobRuns k = true ∧
        t.flag Reg.CVU_JOB_STAT.OVERDUE k = true ∧ t.flag Reg.CVU_ST.OVERDUE = true ∧
        t.fld Reg.CVU_JOB_RESULT.VALUE k = s.fld Reg.CVU_JOB_RESULT.VALUE k ∧ t.ctxs = s.ctxs ∧ t.mem = s.mem)) ∧
    (s.scanHolds = true ∨ s.flag Reg.CVU_ST.AVBUSY = true ∨ (∃ j, s.jobNext = some j ∧ j ≠ k.val ∧ s.jobLeft k ≠ 0) →
      Completes (.cvuJobDone k) s fun t => t = s) ∧
    (s.jobRuns k = true → s.jobWaits k (s.jobLeft k) = false → bitAt s.cvu.again k = false → s.scanHolds = false →
      s.flag Reg.CVU_ST.AVBUSY = false → (s.jobNext = some k.val ∨ s.jobLeft k = 0) →
      (let p := s.jobPoly k
       let sound := fun (n : Nat) => ∀ i < n, s.jobAt k + 4 * i ∉ s.eccBad
       let crc := fun (n : Nat) => crcBytes p (s.fld Reg.CVU_JOB_RESULT.VALUE k) (s.bytes (s.jobAt k) (4 * n)) % 2 ^ crcWidth p
       let r := if s.flag Reg.CVU_JOB_CTRL.FINAL k then Nat.xor (crc (s.jobLeft k)) (crcFinal p) else crc (s.jobLeft k)
       let differs := s.flag Reg.CVU_JOB_CTRL.CMP k = true ∧ r ≠ s.fld Reg.CVU_JOB_EXPECT.VALUE k % 2 ^ crcWidth p
       (sound (s.jobLeft k) →
       (¬differs → Completes (.cvuJobDone k) s fun t => t.jobRuns k = false ∧ t.fld Reg.CVU_JOB_STAT.OUTCOME k = 1 ∧
          t.fld Reg.CVU_JOB_RESULT.VALUE k = r ∧ t.fld Reg.CVU_JOB_LAST.TICK k = t.rackTicks % 2 ^ 32 ∧ t.now = s.now + s.jobLeft k ∧
          s.coreKept t ∧ (s.flag Reg.CVU_JOB_CTRL.DEV k = true → ∀ c, t.rang c Ev.CVU_DONE)) ∧
       (differs → 3 ≤ k.val → Completes (.cvuJobDone k) s fun t => t.jobRuns k = false ∧ t.fld Reg.CVU_JOB_STAT.OUTCOME k = 2 ∧
          t.fld Reg.CVU_JOB_RESULT.VALUE k = r ∧ s.coreKept t ∧ ∀ c, t.rang c Ev.CVU_MISMATCH) ∧
       (differs → k.val < 3 → bitAt s.cvu.second k = false → Completes (.cvuJobDone k) s fun t => t.jobRuns k = true ∧
          t.fld Reg.CVU_JOB_STAT.POS k = 0 ∧ t.flag Reg.CVU_ST.SEALFAIL = s.flag Reg.CVU_ST.SEALFAIL ∧ ∀ c, t.rang c Ev.CVU_MISMATCH) ∧
       (differs → k.val < 3 → bitAt s.cvu.second k = true → Completes (.cvuJobDone k) s fun t => t.jobRuns k = false ∧
          t.flag Reg.CVU_ST.SEALFAIL = true ∧ (∀ c, t.rang c Ev.CVU_MISMATCH) ∧
          (s.hasSafety = true → bitAt (t.fld Reg.SAFE_DSRC.SRC) Src.SEALJOB = true))) ∧
       (∀ (w : BitVec 32) (i : Nat), 3 ≤ k.val → w.toNat = s.jobAt k + 4 * i → s.jobFrom k % 4 = 0 → i < s.jobLeft k → sound i →
          Completes (.cvuJobError k w) s fun t => t.jobRuns k = false ∧ t.fld Reg.CVU_JOB_STAT.OUTCOME k = 3 ∧
            t.fld Reg.CVU_JOB_STAT.ERR k = 2 ∧ t.fld Reg.CVU_JOB_STAT.POS k = s.jobPos k + i ∧ (0 < i →
              t.fld Reg.CVU_JOB_RESULT.VALUE k = crc i) ∧ ∀ c, t.rang c Ev.CVU_MISMATCH)))) ∧
    (∀ (s : State) (w : Word), s.canonical = true →
    let slot := w.toNat / 2 ^ 16 % 64
    let v := w.toNat % 2 ^ 16
    let bit := fun (t : State) (f : Fld) => t.bitOf f (slot % 32) (slot / 32)
    let last := s.fld Reg.CVU_AVLAST.VALUE slot
    (s.flag Reg.CVU_ST.AVBUSY = false → s.unwritten →
      (Completes (.cvuAvin .host w) s fun t => t.fld Reg.CVU_AVLAST.VALUE slot = v ∧ bit t Reg.CVU_AVARM.SLOTS = true ∧
        (∀ i < 64, i ≠ slot → t.fld Reg.CVU_AVLAST.VALUE i = s.fld Reg.CVU_AVLAST.VALUE i) ∧ s.coreKept t ∧
        let armed := bit s Reg.CVU_AVARM.SLOTS = true
        let next := v = (last + 1) % 2 ^ 16
        (bit t Reg.CVU_AVOK.SLOTS = true ↔ bit s Reg.CVU_AVOK.SLOTS = true ∨ (armed ∧ next)) ∧
        (bit t Reg.CVU_AVREP.SLOTS = true ↔ bit s Reg.CVU_AVREP.SLOTS = true ∨ (armed ∧ ¬next ∧ v = last)) ∧
        (bit t Reg.CVU_AVSKIP.SLOTS = true ↔ bit s Reg.CVU_AVSKIP.SLOTS = true ∨ (armed ∧ ¬next ∧ v ≠ last)) ∧
        (armed → ¬next → ∀ c, t.rang c Ev.CVU_MISMATCH)) ∧
      (Completes (.cvuAvcfgGo .host w) s fun t => t.flag Reg.CVU_ST.AVBUSY = true ∧ t.fld Reg.CVU_AVCFG.STRIDE = w.toNat % 256 ∧
        t.fld Reg.CVU_AVCFG.COUNT = w.toNat / 256 % 64 ∧ t.fld Reg.CVU_AVCFG.FIRST = slot ∧ t.ctxs = s.ctxs ∧ t.mem = s.mem)) ∧
    (s.flag Reg.CVU_ST.AVBUSY = true →
      (Completes (.cvuAvin .host w) s fun t => t.flag Reg.CVU_ST.AVWERR = true ∧ t.ctxs = s.ctxs ∧
        ∀ i < 64, t.fld Reg.CVU_AVLAST.VALUE i = s.fld Reg.CVU_AVLAST.VALUE i) ∧
      (Completes (.cvuAvcfgGo .host w) s fun t => t.flag Reg.CVU_ST.AVWERR = true ∧ t.ctxs = s.ctxs ∧
        t.fld Reg.CVU_AVCFG.STRIDE = s.fld Reg.CVU_AVCFG.STRIDE ∧ t.fld Reg.CVU_AVCFG.COUNT = s.fld Reg.CVU_AVCFG.COUNT) ∧
      (let a := s.fld Reg.CVU_AVBASE.ADDR
       let st := s.fld Reg.CVU_AVCFG.STRIDE
       let n := s.fld Reg.CVU_AVCFG.COUNT
       let first := s.fld Reg.CVU_AVCFG.FIRST
       s.hfo = true → s.asleep = false → s.scanHolds = false →
       (a % 2 = 1 ∨ st = 0 ∨ st % 2 = 1 ∨ 64 < first + n → Completes .cvuBatchDone s fun t => t.flag Reg.CVU_ST.AVERR = true ∧
          t.flag Reg.CVU_ST.AVBUSY = false ∧ (∀ i < 64, t.fld Reg.CVU_AVLAST.VALUE i = s.fld Reg.CVU_AVLAST.VALUE i) ∧
          (∀ c, t.rang c Ev.CVU_DONE) ∧ s.coreKept t) ∧
       (a % 2 = 0 → st ≠ 0 → st % 2 = 0 → first + n ≤ 64 → a + n * st ≤ 0x10000 → (∀ i < n, (a + i * st) / 4 * 4 ∉ s.eccBad) →
          (s.unwritten ∨ s.cvu.batchSetup ≠ 0) → Completes .cvuBatchDone s fun t => t.flag Reg.CVU_ST.AVBUSY = false ∧
            (∀ i, s.cvu.batchAt ≤ i → i < n → t.fld Reg.CVU_AVLAST.VALUE (first + i) = s.num (a + i * st) 2) ∧ (∀ c, t.rang c Ev.CVU_DONE) ∧ s.coreKept t))))

/-- With HOLDUP_OK and no commit running, the first record of the recommits, else of the queue, goes to the next good, unpinned
position, after the writes that NVM has been asked for; a sticky one of the queue whose turn comes with 64 pinned sets STICKY_FULL
(log 39); without HOLDUP_OK nothing changes, and before its turn a commit does not end. A verified commit leaves the record and its
CRC there and no other byte changed, pins it when sticky, a recommitted one in place of its old position, and raises BBX; a mismatch
marks the sector bad, changes bytes of that position only, has the record recommitted with MOVED, sets MEDIA and raises it in CTX0.
A burn that has begun fills its row, HOLDUP_OK or not, and one that has not begun fills none. The scan sets READY; an erased ring starts at position 0 with SEQ 0. An acknowledgement unpins what matches, else sets
ACKMISS; during a commit it waits. RELEASE empties an area. A summary is appended each period. (R95, R495, R498, R500, R502,
R503, R506, R507, R509, R515, R520, R521) -/
def Obligations.BlackBoxCommits : Prop :=
  ∀ (s : State), s.canonical = true →
    (∀ (r : Rec) (o : Option Cid) (rest : List (Rec × Option Cid)) (q : Nat), s.bbx.queue = (r, o) :: rest → s.bbx.redo = [] →
      s.bbx.commit = none → (r.sticky = true → s.bbx.pins.length < 64) → s.flag Reg.BBX_STAT.HOLDUP_OK = true → s.flag Reg.BBX_STAT.DEGRADED = false → s.nextFree s.bbx.nextPos = some q →
      Completes .bbxCommitStart s fun t => t.bbx.commit = some (r, q) ∧ t.bbx.queue = rest ∧ t.flag Reg.BBX_STAT.BUSY = true ∧
        t.nvmQ = s.nvmQ ++ [⟨ringAddr q, [], .commit⟩] ∧ t.fld Reg.BBX_NEXT.POS = (q + 1) % 512 ∧ t.mem = s.mem ∧ ∀ c, (s.ctx c).keeps (t.ctx c)) ∧
    (∀ (r : Rec) (m q : Nat) (rest : List (Rec × Option Nat)), s.bbx.redo = (r, some m) :: rest → s.bbx.commit = none →
      s.flag Reg.BBX_STAT.HOLDUP_OK = true → s.flag Reg.BBX_STAT.DEGRADED = false → s.nextFree s.bbx.nextPos = some q →
      Completes .bbxCommitStart s fun t => t.bbx.commit = some (r, q) ∧ t.bbx.moving = some m ∧ t.bbx.redo = rest ∧
        t.bbx.queue = s.bbx.queue ∧ t.bbx.pins = s.bbx.pins ∧ t.mem = s.mem) ∧
    (∀ (r : Rec) (o : Option Cid) (rest : List (Rec × Option Cid)) (q : Nat), s.bbx.queue = (r, o) :: rest → s.bbx.redo = [] →
      s.bbx.commit = none → r.sticky = true → 64 ≤ s.bbx.pins.length → s.flag Reg.BBX_STAT.HOLDUP_OK = true →
      s.nextFree s.bbx.nextPos = some q → Completes .bbxCommitStart s fun t => t.bbx.commit = none ∧ t.bbx.queue = rest ∧
        t.bbx.pins = s.bbx.pins ∧ t.flag Reg.BBX_STAT.STICKY_FULL = true ∧ (∀ c, t.rang c Ev.BBX) ∧ t.mem = s.mem) ∧
    (s.flag Reg.BBX_STAT.HOLDUP_OK = false ∨ s.bbx.commit.isSome = true → Completes .bbxCommitStart s fun t => t = s) ∧
    (∀ ok : Bool, s.commitTurn = false → s.serving = [] → Completes (.bbxCommitDone ok) s fun t => t = s) ∧
    (∀ (r : Rec) (q : Nat), s.bbx.commit = some (r, q) → q < 512 → s.commitTurn = true → s.serving = [] → s.bbx.acks = [] →
      s.bbx.breads = [] →
      (Completes (.bbxCommitDone true) s fun t => t.bbx.commit = none ∧ t.bytes (ringAddr q) 60 = r.bytes ∧
        isCommitted (t.bytes (ringAddr q) 64) = true ∧ (∀ a, a < ringAddr q ∨ ringAddr q + 64 ≤ a → t.byte a = s.byte a) ∧
        (s.bbx.moving = none → t.bbx.pins = s.bbx.pins ++ (if r.sticky then [q] else [])) ∧
        (∀ m, s.bbx.moving = some m → m ∈ s.bbx.pins → t.bbx.pins = s.bbx.pins.filter (· ≠ m) ++ [q]) ∧
        t.bbx.moving = none ∧ ∀ c, t.rang c Ev.BBX) ∧
      (Completes (.bbxCommitDone false) s fun t => t.bbx.commit = none ∧
        (∀ a, a < ringAddr q ∨ ringAddr q + 64 ≤ a → t.byte a = s.byte a) ∧ t.badSector (q / 8) = true ∧
        (s.flag Reg.BBX_STAT.READY = true → t.bbx.pins = s.bbx.pins) ∧
        ({ r with moved := true }, s.bbx.moving) ∈ t.bbx.redo ∧ t.flag Reg.BBX_STAT.MEDIA = true ∧ t.rang 0 Ev.MEDIA)) ∧
    (∀ (row : Nat) (v : BitVec 64) (rest : List (Nat × BitVec 64)), row < 8 → s.bbx.burning = (row, v) :: rest →
      s.bbx.burnOn = true → Completes .tombstoneBurnDone s fun t => t.bbx.burning = rest ∧
        t.fld Reg.BBX_TOMB_LO.ROW row + 2 ^ 32 * t.fld Reg.BBX_TOMB_HI.ROW row = v.toNat ∧ t.ctxs = s.ctxs ∧ t.mem = s.mem) ∧
    (s.bbx.burnOn = false → Completes .tombstoneBurnDone s fun t => t = s) ∧
    (s.boot.inReset = false → s.boot.march = true → s.bbx.commit = none → s.flag Reg.BBX_STAT.READY = false →
      Completes .bbxRingScanDone s fun t => t.flag Reg.BBX_STAT.READY = true ∧ t.mem = s.mem ∧ (∀ c, (s.ctx c).keeps (t.ctx c)) ∧
        (s.bbx.queue = [] → s.bbx.early = [] → (∀ a, 0x10010000 ≤ a → a < 0x10018000 → s.byte a = 0xFF) →
          (∀ a ∈ s.eccBad, a < 0x10010000 ∨ 0x10018000 ≤ a) →
          t.fld Reg.BBX_NEXT.POS = 0 ∧ t.fld Reg.BBX_NEXT.SEQ = 1 ∧ t.fld Reg.BBX_TORN.COUNT = s.fld Reg.BBX_TORN.COUNT)) ∧
    (∀ (seq : BitVec 16) (all : Bool), s.bbx.pins.length ≤ 64 → s.flag Reg.BBX_STAT.READY = true →
      let hit := s.bbx.pins.filter fun k => all || (!s.pinUnread k && s.pinSeq k = seq)
      (s.bbx.commit = none → hit ≠ [] → Completes (.bbxAckWrite .host seq all) s fun t =>
        t.bbx.pins = (s.bbx.pins.filter fun k => !hit.contains k) ∧ t.fld Reg.BBX_PINS.COUNT = t.bbx.pins.length ∧ t.mem = s.mem) ∧
      (s.bbx.commit = none → hit = [] → (∀ k ∈ s.bbx.pins, s.pinUnread k = false) → Completes (.bbxAckWrite .host seq all) s fun t => t.flag Reg.BBX_STAT.ACKMISS = true ∧
        t.bbx = s.bbx ∧ t.ctxs = s.ctxs ∧ t.mem = s.mem) ∧
      (s.bbx.commit.isSome = true → Completes (.bbxAckWrite .host seq all) s fun t => t.bbx.acks = s.bbx.acks ++ [(seq, all)] ∧
        t.bbx.pins = s.bbx.pins ∧ t.regs = s.regs ∧ t.ctxs = s.ctxs ∧ t.mem = s.mem)) ∧
    (∀ u d : Bool, Completes (.bbxShctlRelease .host u d) s fun t => t.ctxs = s.ctxs ∧ t.mem = s.mem ∧
      (u = true → t.areaHeld 1 = false ∧ ∀ i, 1 ≤ i → i < 128 → isErased (t.shadowAt 1 i) = true) ∧
      (d = true → t.areaHeld 2 = false ∧ ∀ i, 1 ≤ i → i < 128 → isErased (t.shadowAt 2 i) = true) ∧
      (u = false → ∀ i < 128, t.shadowAt 1 i = s.shadowAt 1 i) ∧ (d = false → ∀ i < 128, t.shadowAt 2 i = s.shadowAt 2 i)) ∧
    (s.hfo = true → s.fld Reg.BBX_CFG.SUMPER ≠ 0 → s.flag Reg.BBX_STAT.READY = true → s.flag Reg.BBX_STAT.DEGRADED = false →
      s.bbx.queue.length + s.bbx.early.length < 16 → (s.nextFree s.bbx.nextPos).isSome = true → Completes .summaryTimer s fun t =>
        s.cameTo t (s.bbx.summaryAt + ms (60000 * s.fld Reg.BBX_CFG.SUMPER)) ∧ t.bbx.summaryAt = t.now ∧
        (∃ r, t.bbx.queue = s.bbx.queue ++ [(r, none)] ∧ r.kind = 0x10 ∧ r.sticky = false ∧ r.seq = s.bbx.nextSeq) ∧
        t.bbx.nextSeq = s.bbx.nextSeq + 1 ∧ t.ctxs = s.ctxs ∧ t.mem = s.mem)

/-- Messages that their link accepts. MREC from a bound port is stored at its place with its CRC, or answered MREJ with UNBOUND,
OWNER or FULL. MREL from the owner of the area frees the pool position of its SEQ, bad sectors skipped; from another node it frees
none. MREJ from a bound port counts, and OWNER or UNBOUND ends mirroring to that partner: no copy waits or is kept for it. BREAD
is answered with the item for a manager of the plan, REFUSED for anyone else, after a commit in progress. A manager with a
request outstanding keeps the answer of a BDATA; GO sends the BREAD; after 10 ms the status is TIMEOUT. UNFIT at a manager
becomes a sticky record; a DEGRADED die repeats its notice. (R512, R513, R514, R515, R516, R518, R523, R525, R526) -/
def Obligations.MirrorsAndReads : Prop :=
  ∀ (s : State) (a : Arrival), s.canonical = true → s.isMine a.frame.dest = true →
    let p := a.port
    let b := a.frame.payload
    let b60 := (b.drop 4).take 60
    (s.admits (a.asOp Ty.MIRROR 0x01) → a.frame.hops = 0 → b.length = 64 →
      let rejects := fun (t : State) (reason : Byte) => (t.leaves p fun g => g.ftype = Ty.MIRROR ∧
        g.payload = [0x03, reason] ++ leBytes 2 (fieldOf b60 2 2)) ∧ t.nvmQ = s.nvmQ ∧ t.ctxs = s.ctxs ∧ t.mem = s.mem
      (s.areaOf p = none → Completes (.mrec a) s fun t => rejects t 3) ∧
      (∀ area : Nat, s.areaOf p = some area → let mine := fieldOf (s.shadowAt area 0) 0 8 = s.seenUid p
        (s.areaHeld area = true → ¬mine → Completes (.mrec a) s fun t => rejects t 1) ∧
        ((s.areaHeld area = true → mine) → s.shadowPlace area b60 = none → Completes (.mrec a) s fun t => rejects t 2) ∧
        (∀ i : Nat, (s.areaHeld area = true → mine) → s.shadowPlace area b60 = some (some i) → Completes (.mrec a) s fun t =>
          t.shadowAt area i = b60 ++ commitWord b60 ∧ t.ctxs = s.ctxs ∧ t.mem = s.mem))) ∧
    (∀ area i : Nat, s.admits (a.asOp Ty.MIRROR 0x02) → a.frame.hops = 0 → b.length = 4 → s.areaOf p = some area → 24 ≤ i → i < 128 →
      let owner := s.areaHeld area = true ∧ fieldOf (s.shadowAt area 0) 0 8 = s.seenUid p
      let holds := fun (j : Nat) => isCommitted (s.shadowAt area j) = true ∧ fieldOf (s.shadowAt area j) 2 2 = fieldOf b 2 2 ∧
        s.shadowBad area j = false
      (¬owner → Completes (.mrel a) s fun t => t.nvmQ = s.nvmQ ∧ t.ctxs = s.ctxs ∧ t.mem = s.mem) ∧
      (owner → holds i → (∀ j, 24 ≤ j → j < i → ¬holds j) → Completes (.mrel a) s fun t => isErased (t.shadowAt area i) = true ∧
        (∀ j, 24 ≤ j → j < 128 → j ≠ i → t.shadowAt area j = s.shadowAt area j) ∧ t.ctxs = s.ctxs ∧ t.mem = s.mem)) ∧
    (s.admits (a.asOp Ty.MIRROR 0x03) → a.frame.hops = 0 → b.length = 4 → Completes (.mrej a) s fun t =>
      (s.areaOf p = none → t.fld Reg.BBX_MIRLOST.COUNT = s.fld Reg.BBX_MIRLOST.COUNT) ∧
      (s.areaOf p ≠ none → t.fld Reg.BBX_MIRLOST.COUNT = min (s.fld Reg.BBX_MIRLOST.COUNT + 1) (2 ^ 32 - 1)) ∧
      (s.areaOf p ≠ none → fieldOf b 1 1 = 1 ∨ fieldOf b 1 1 = 3 →
        (∀ i ∈ (t.port p).queue, i.isMrec = false) ∧ ∀ o ∈ (t.port p).outs, o.item.isMrec = false) ∧
      (s.boundU = some p → (t.flag Reg.BBX_STAT.NOPART_U = true ↔ s.flag Reg.BBX_STAT.NOPART_U = true ∨
        fieldOf b 1 1 = 1 ∨ fieldOf b 1 1 = 3)) ∧ t.ctxs = s.ctxs ∧ t.mem = s.mem) ∧
    (∀ (q : Port) (up : Bool), s.admits (a.asOp Ty.MIRROR 0x10) → b.length = 4 → s.isMine a.frame.src = false → s.route a.frame.src = some (q, up) →
      s.link q = Link.UP → s.check q ≠ 3 →
      (s.bbx.commit = none → let r := if s.isMgrAddr a.frame.src then s.boxItem (fieldOf b 1 1) (fieldOf b 2 2) else (5, List.replicate 60 0)
        Completes (.bread a) s fun t => (t.leaves q fun g => g.ftype = Ty.MIRROR ∧ g.dest = a.frame.src ∧
          g.payload = [0x90, BitVec.ofNat 8 r.1] ++ leBytes 2 (fieldOf b 2 2) ++ r.2) ∧ (r.1 ≠ 3 → t.ctxs = s.ctxs) ∧ t.mem = s.mem) ∧
      (s.bbx.commit.isSome = true → Completes (.bread a) s fun t =>
        t.bbx.breads = s.bbx.breads ++ [(p, a.frame.src, fieldOf b 1 1, fieldOf b 2 2)] ∧ t.ctxs = s.ctxs ∧ t.mem = s.mem)) ∧
    (s.admits (a.asOp Ty.MIRROR 0x90) → b.length = 64 → s.isManager = true → s.fld Reg.BBX_RDST.STATUS = 7 → Completes (.bdata a) s fun t =>
      t.fld Reg.BBX_RDST.STATUS = fieldOf b 1 1 % 8 ∧ (∀ i < 15, t.fld Reg.BBX_RDBUF.DATA i = fieldOf b (4 + 4 * i) 4) ∧
        t.fld Reg.BBX_RDBUF.DATA 15 = 0 ∧ t.ctxs = s.ctxs ∧ t.mem = s.mem) ∧
    (s.fld Reg.BBX_RDST.STATUS = 7 → Completes .breadTimeout s fun t => t.fld Reg.BBX_RDST.STATUS = 6 ∧ s.cameTo t s.bbx.rdreqAt ∧
      t.ctxs = s.ctxs ∧ t.mem = s.mem) ∧
    (∀ (v : Word) (q : Port) (up : Bool), s.isManager = true → s.fld Reg.BBX_RDST.STATUS ≠ 7 → s.isMine (v.truncate 16) = false →
      s.route (v.truncate 16) = some (q, up) → s.link q = Link.UP → s.check q ≠ 3 → Completes (.bbxRdreqGo .host v) s fun t =>
        (t.leaves q fun g => g.ftype = Ty.MIRROR ∧ g.ackreq = true ∧ g.dest = v.truncate 16 ∧
          g.payload = [0x10, BitVec.ofNat 8 (v.toNat / 2 ^ 16 % 4)] ++ leBytes 2 (v.toNat / 2 ^ 18 % 1024)) ∧
        t.fld Reg.BBX_RDST.STATUS = 7 ∧ t.bbx.rdreqAt = s.now + ms 10 ∧ t.ctxs = s.ctxs ∧ t.mem = s.mem) ∧
    (s.admits (a.asOp Ty.MIRROR 0x20) → b.length = 12 → s.isManager = true → s.flag Reg.BBX_STAT.READY = true →
      s.flag Reg.BBX_STAT.DEGRADED = false → s.bbx.queue.length + s.bbx.early.length < 16 → s.bbx.pins.length < 64 →
      Completes (.unfit a) s fun t => (∃ r, t.bbx.queue = s.bbx.queue ++ [(r, none)] ∧ r.kind = 0x0D ∧ r.sticky = true ∧
        r.content = (a.asOp Ty.MIRROR 0x20).frame.payload) ∧ t.ctxs = s.ctxs ∧ t.mem = s.mem) ∧
    (∀ q : Port, s.flag Reg.BBX_STAT.DEGRADED = true → s.primPort = some q → s.usable q = true → s.link q = Link.UP →
      Completes .unfitRepeat s fun t => s.cameTo t s.bbx.unfitAt ∧ t.bbx.unfitAt = t.now + ms 60000 ∧
        t.leaves q fun g => g.ftype = Ty.MIRROR ∧ g.prio = 1 ∧ g.ackreq = true ∧ g.payload.length = 12 ∧ g.payload.head? = some 0x20)

/-- While the safety block runs. A level accepted by both channels is the input's, 3 ms after the level before it, and outside a test
pulse where these mask it; a RELEASED pair, sound and not disagreeing, one of whose inputs now indicates demand is in DEMAND, its
source set and PERMIT cleared. A disagreement past its time gives the input that did not change the fault DISCREPANCY. The outputs
pulse in turn, one at a time, the pulse 291 µs and the turns 4,850 µs long at the least (R543's times less 3 %, as log 4 has them);
a test pulse that ends judges each input, and the pulse that begins after two passed ends every fault but DISCREPANCY (the turns and
when a full period has passed are log 30's choice); a failed read-back sets TPO and keeps both outputs low; 3 ms later,
seen with the next comparison (log 30), a sound RELEASED pair that is not EQUIV_EXT is in DEMAND. A difference of the
channels that lasts 5 ms, or a missed heartbeat, sets CHB; the heartbeat's loss turns channel B's outputs off. PAIRACK releases a
pair in DEMAND whose inputs rest, and one in FAULT whose inputs rest after both have indicated demand (log 30); while an input indicates
demand it is discarded. (R529, R530, R538, R539, R540, R543, R544, R545, R547) -/
def Obligations.SafetyInputs : Prop :=
  ∀ (s : State) (j : Fin 4), s.canonical = true → s.safe.running = true → s.hasSafety = true →
    let pair := fun (t : State) => pairSt (t.fld Reg.SAFE_ST.PAIRS) j
    let mode := s.pairMode j
    let demands := fun (acc : Nat) => indicates mode acc (2 * j) || indicates mode acc (2 * j + 1)
    (∀ (n : Fin 12) (level a b : Bool), s.masked n.val = true → s.pulsing = true → Completes (.sinLevelAccepted n level a b) s fun t =>
      t = s) ∧
    (∀ (n : Fin 12) (level : Bool), n.val < 8 → (s.masked n.val = false ∨ s.pulsing = false) → Completes (.sinLevelAccepted n level true true) s fun t =>
      (∀ i < 12, bitAt t.safe.accA i = (if i = n.val then level else bitAt s.safe.accA i) ∧
        bitAt t.safe.accB i = (if i = n.val then level else bitAt s.safe.accB i)) ∧ s.coreKept t ∧
      (bitAt s.safe.accA n ≠ level → s.safe.sinA[n] + ms 3 ≤ t.now) ∧ (bitAt s.safe.accB n ≠ level → s.safe.sinB[n] + ms 3 ≤ t.now) ∧
      (n.val / 2 = j.val → pair s = 1 → s.dsrc = 0 → s.discOf j = none → s.causeOf (2 * j) = 0 → s.causeOf (2 * j + 1) = 0 →
        demands t.safe.accA = true → pair t = 2 ∧ bitAt t.dsrc j = true ∧ t.flag Reg.SAFE_TRQ.PERMIT = false ∧
          t.flag Reg.SAFE_TRQ.OWN = false ∧ t.rang 0 Ev.SAFE)) ∧
    (∀ t0 u : Nat, s.discOf j = some (t0, u) → u / 2 = j.val → s.causeOf u = 0 → Completes (.discrepancyExpiry j) s fun t =>
      s.cameTo t (t0 + s.discTime + 1) ∧ t.causeOf u = 3 ∧ pair t = 3 ∧ bitAt t.dsrc j = true ∧ t.rang 0 Ev.SAFE) ∧
    (s.discOf j = none → Completes (.discrepancyExpiry j) s fun t => t = s) ∧
    (bitAt s.dsrc Src.TPO = false → s.flag Reg.SYS_SUPPLY.COIL_OK = true → ∀ (b : Bool) (low high : BitVec 12),
      (∀ t0, s.safe.pulse = some (b, t0) → (if b then s.safe.pulseB else s.safe.pulseA) = true →
        Completes (.testPulse b true true low high) s fun t => s.cameTo t (t0 + us 291) ∧ ∀ i < 8, let c := s.pulseCheck b low.toNat high.toNat i
        (c ≠ 0 → s.causeOf i = 0 → t.causeOf i = c ∧ pairSt (t.fld Reg.SAFE_ST.PAIRS) (i / 2) = 3) ∧
        (c = 0 → t.causeOf i = s.causeOf i ∧ countOf t.safe.passes i = min 2 (countOf s.safe.passes i + 1))) ∧
      (s.pulseTurn b = true → Completes (.testPulse b false true low high) s fun t =>
        t.safe.pulseB = b ∧ t.safe.pulseA = !b ∧ t.safe.pulse = some (b, t.now) ∧ t.pulseTurn b = false ∧ s.coreKept t ∧
        (∀ last t0, s.safe.pulse = some (last, t0) → s.cameTo t (t0 + us 4850)) ∧
        ∀ i < 12, t.causeOf i = if 2 ≤ countOf s.safe.passes i ∧ s.causeOf i ≠ 3 then
          (if s.causeOf i ≠ 0 ∧ countOf s.safe.cause2 i = 3 then 3 else 0) else s.causeOf i) ∧
      (s.pulseTurn b = false → Completes (.testPulse b false true low high) s fun t => t = s) ∧
      (∀ e, Completes (.testPulse b e false low high) s fun t => t.safe.pulseA = true ∧ t.safe.pulseB = true ∧
        bitAt t.dsrc Src.TPO = true ∧ t.safe.bothLow = some (s.safe.bothLow.getD s.now))) ∧
    (let compares := fun (t : State) => s.cameTo t (s.safe.cmpAt + ms 1) ∧ t.safe.cmpAt = t.now
     (∀ t0, s.safe.bothLow = some t0 → t0 + ms 3 ≤ max s.now (s.safe.cmpAt + ms 1) → pair s = 1 → mode ≠ 2 → s.causeOf (2 * j) = 0 →
        s.causeOf (2 * j + 1) = 0 → Completes .chbCompare s fun t => compares t ∧ pair t = 2 ∧ bitAt t.dsrc j = true) ∧
     (s.safe.bothLow = none →
     (s.chDiffer = true → ∀ t0, s.safe.chbSince = some t0 → t0 + ms 5 ≤ max s.now (s.safe.cmpAt + ms 1) →
        Completes .chbCompare s fun t => compares t ∧ bitAt t.dsrc Src.CHB = true) ∧
     (s.chDiffer = true → s.safe.chbSince = none → Completes .chbCompare s fun t => compares t ∧ t.safe.chbSince = some t.now ∧
        t.regs = s.regs) ∧
     (s.chDiffer = false → Completes .chbCompare s fun t => compares t ∧ t.safe.chbSince = none ∧ t.regs = s.regs ∧
        t.ctxs = s.ctxs))) ∧
    (Completes .chbHeartbeatMiss s fun t => t.safe.chbOff = true ∧ t.safe.chbMiss = some s.now ∧ bitAt t.dsrc Src.CHB = true ∧ t.flag Reg.SAFE_TRQ.OWN = false ∧
      t.flag Reg.SAFE_CONST.HSA = false ∧ t.flag Reg.SAFE_CONST.HSB = false) ∧
    (let one : BitVec 4 := BitVec.ofNat 4 (2 ^ j.val)
     let sound := s.causeOf (2 * j) = 0 ∧ s.causeOf (2 * j + 1) = 0
     (pair s = 2 → sound → s.pairDemands j s.safe.accA = false → s.pairDemands j s.safe.accB = false → Completes (.pairack .host one) s fun t => pair t = 1) ∧
     (pair s = 3 → sound → bitAt s.safe.bothSeen j = true → s.pairDemands j s.safe.accA = false → s.pairDemands j s.safe.accB = false →
       Completes (.pairack .host one) s fun t => pair t = 1) ∧
     (pair s = 3 → s.pairDemands j s.safe.accA = true → Completes (.pairack .host one) s fun t => pair t = 3) ∧
     (pair s = 3 → bitAt s.safe.bothSeen j = false → Completes (.pairack .host one) s fun t => pair t = 3))

/-- On a die whose safety block runs. DEMAND written 1 sets PROG, clears PERMIT, drops the pin and raises SAFE in CTX0; written 0 it
ends PROG. PERMIT is taken on a manager only, without demand. A failed read-back of the own off-pulse, two missing pulses of the partner, a
low of its line outside the window, or one that does not rise in time, set their error and source and drop the pin. ACK ends the
latching sources whose conditions have ended: TPO, WDOG, TRQRB, PARTOFF and COIL always, CHB only while the channels agree and the
heartbeat is back, 100 µs after its loss (which conditions last is log 30's choice), and a matching HOLD goes to RUN. TRCONF, TIWAIT and
SDDELAY open the coils in HOLD, TIWAIT on a manager only under a source of SAFE_SDMASK, and clear their ON bits unless a write of the
tick has changed them; channel B cuts its switches off TIWAIT + 10 ms after its own word became other than 0 (log 16). (R529, R532, R535, R550, R551, R553, R554, R570, R578, R580) -/
def Obligations.TorqueAndDemand : Prop :=
  ∀ (s : State), s.canonical = true → s.hasSafety = true →
    let dropped := fun (t : State) (src : Nat) => bitAt t.dsrc src = true ∧ t.flag Reg.SAFE_TRQ.PERMIT = false ∧
      t.flag Reg.SAFE_TRQ.OWN = false ∧ t.rang 0 Ev.SAFE ∧ s.coreKept t
    let opened := fun (t : State) => ∀ n < 4, s.phase n = 3 → t.phase n = 4 ∧ (s.unwritten → t.coilOn n = false)
    (s.dsrc = 0 → Completes (.safeDemandWrite .host true) s fun t => t.flag Reg.SAFE_CTL.DEMAND = true ∧ dropped t Src.PROG ∧
      bitAt (t.fld Reg.SAFE_DLATCH.SRC) Src.PROG = true) ∧
    (Completes (.safeDemandWrite .host false) s fun t => t.flag Reg.SAFE_CTL.DEMAND = false ∧
      ∀ n < 17, bitAt t.dsrc n = (bitAt s.dsrc n && n ≠ Src.PROG)) ∧
    (s.isManager = false → ∀ v, Completes (.permitWrite .host v) s fun t => t = s) ∧
    (s.isManager = true → s.dsrc = 0 → Completes (.permitWrite .host true) s fun t => t.flag Reg.SAFE_TRQ.PERMIT = true ∧
      t.flag Reg.SAFE_TRQ.OWN = (s.flag Reg.SAFE_TRQ.DRIVES && s.safeMode = 1 && s.chbWord = 0 && !s.safe.chbOff)) ∧
    (s.isManager = true → s.dsrc ≠ 0 → Completes (.permitWrite .host true) s fun t => t.flag Reg.SAFE_TRQERR.REFUSED = true ∧
      t.flag Reg.SAFE_TRQ.PERMIT = s.flag Reg.SAFE_TRQ.PERMIT ∧ t.flag Reg.SAFE_TRQ.OWN = s.flag Reg.SAFE_TRQ.OWN) ∧
    (s.isManager = true → Completes (.permitWrite .host false) s fun t => t.flag Reg.SAFE_TRQ.PERMIT = false ∧ t.flag Reg.SAFE_TRQ.OWN = false) ∧
    (s.flag Reg.SAFE_TRQ.OWN = true → s.dsrc = 0 →
      (let pulsed := fun (t : State) => t.now = s.now + s.ticksTo (s.nextPhase s.offPeriod (s.offPhase true)) + us 300
       (Completes (.trqOffPulse true) s fun t => pulsed t ∧ t.regs = s.regs ∧ t.ctxs = s.ctxs ∧ t.mem = s.mem) ∧
       (Completes (.trqOffPulse false) s fun t => pulsed t ∧ t.flag Reg.SAFE_TRQERR.OWN = true ∧ dropped t Src.TRQRB)) ∧
      (s.isManager = true → s.safe.running = true → s.safe.partSeen = true → s.flag Reg.SAFE_TRQ.PART = true →
        (s.inWindow = false → Completes (.partnerLineChange false) s fun t => t.flag Reg.SAFE_TRQERR.PARTOFF = true ∧ dropped t Src.PARTOFF) ∧
        (s.inWindow = true → Completes (.partnerLineChange false) s fun t => t.flag Reg.SAFE_TRQ.PART = false ∧ t.dsrc = 0 ∧
          t.safe.partLow = some s.now ∧ t.flag Reg.SAFE_TRQ.OWN = true)) ∧
      (s.safe.partMiss = 0 → Completes .partnerPulseMissing s fun t => s.cameToTick t s.windowEnd ∧ t.safe.partMiss = 1 ∧ t.regs = s.regs) ∧
      (0 < s.safe.partMiss → Completes .partnerPulseMissing s fun t => s.cameToTick t s.windowEnd ∧ t.flag Reg.SAFE_TRQERR.PART_NOPULSE = true ∧ dropped t Src.TRQRB) ∧
      (∀ t0, s.safe.ownHigh = some t0 → s.safe.partSeen = false → Completes .partnerRiseTimeout s fun t => s.cameTo t (t0 + ms 20) ∧
        t.flag Reg.SAFE_TRQERR.PARTOFF = true ∧ dropped t Src.PARTOFF)) ∧
    (Completes (.safeAck .host) s fun t =>
      (∀ n ∈ [Src.TPO, Src.WDOG, Src.TRQRB, Src.PARTOFF, Src.COIL], bitAt t.dsrc n = false) ∧
      (∀ n ∈ [Src.SEALJOB, Src.NOPARAM, Src.PROG, Src.SEQRST, Src.LOAD], bitAt t.dsrc n = bitAt s.dsrc n) ∧
      (s.chDiffer = false → s.beats = true → bitAt t.dsrc Src.CHB = false) ∧
      (s.chDiffer = true ∨ s.beats = false → bitAt t.dsrc Src.CHB = bitAt s.dsrc Src.CHB) ∧
      t.safeMode = (if s.safeMode = 3 ∧ bitAt (s.fld Reg.SEAL_ACC.WORD) 9 = false ∧ s.safe.sealMatrix = false ∧
        s.flag Reg.SEAL_ST.MATCH = true then 1 else s.safeMode)) ∧
    (s.isTray = true → s.dsrc ≠ 0 → Completes (.safeTrconf .host) s fun t => opened t ∧ t.safe.tiRun = false ∧ s.coreKept t) ∧
    (∀ t0, s.safe.chbAt = some t0 → s.isTray = true ∨ Nat.land s.chbWord (s.fld Reg.SAFE_SDMASK.SRC) ≠ 0 →
      Completes .chbOutputCutoff s fun t => s.cameTo t (t0 + s.tiWait + ms 10) ∧ t.flag Reg.SAFE_CONST.HSA = false ∧
        t.flag Reg.SAFE_CONST.HSB = false ∧ t.ctxs = s.ctxs ∧ t.mem = s.mem) ∧
    (s.safe.chbAt = none → Completes .chbOutputCutoff s fun t => t = s) ∧
    (s.dsrc = 0 → Completes (.safeTrconf .host) s fun t => t = s) ∧
    (s.safe.tiRun = true → (s.isTray = true ∨ s.sdWanted = true) → Completes .tiwaitExpiry s fun t =>
      s.cameTo t (s.safe.demandAt + s.tiWait) ∧ opened t ∧ t.safe.tiRun = false ∧ t.ctxs = s.ctxs ∧ t.mem = s.mem) ∧
    (s.safe.tiRun = true → s.isTray = false → s.sdWanted = false → Completes .tiwaitExpiry s fun t =>
      s.cameTo t (s.safe.demandAt + s.tiWait) ∧ t.safe.tiRun = false ∧ t.safe.tiDone = false ∧ t.regs = s.regs) ∧
    (∀ t0, s.safe.sdAt = some t0 → Completes .sddelayExpiry s fun t => s.cameTo t (t0 + ms (10 * s.fld Reg.SAFE_TIMING.SDDELAY)) ∧
      opened t ∧ t.ctxs = s.ctxs ∧ t.mem = s.mem)

/-- With no demand in RUN, an ON bit that is set makes its coil pick up; while the other coil of its switch picks up with at most 40
ms left it waits, with more it is rejected with OVERLAP; otherwise it is REFUSED. A cleared bit opens the coil, CON0 only once
it need not hand over (in PICKUP as in HOLD: log 30). PICKUP ends in HOLD after 50 ms and lets the waiting coil go, as any end of PICKUP does (log 30). Too little current after 10 ms, or no
feedback accepted low by 80 ms after PICKUP began, turns the coil off without demand; a short, an overloaded switch, or a contact that does not open, with COIL. Handover
ends 20 ms after FB1. (R559, R560, R561, R562, R563, R564) -/
def Obligations.Coils : Prop :=
  ∀ (s : State) (n : Fin 4), s.canonical = true → s.hasSafety = true → s.fld Reg.RACK_TST.STATE = 0 → s.rack.aborting = false →
    let m := if n.val % 2 = 0 then n.val + 1 else n.val - 1
    let on : BitVec 4 := BitVec.ofNat 4 (s.fld Reg.SAFE_CON.ON ||| 2 ^ n.val)
    let off : BitVec 4 := BitVec.ofNat 4 (s.fld Reg.SAFE_CON.ON &&& (15 - 2 ^ n.val))
    let dead := fun (t : State) => t.phase n = 0 ∧ t.coilOn n = false
    let stopped := fun (t : State) => t.phase n = 0 ∧ (s.unwritten → t.coilOn n = false)
    (s.coilOn n = false → s.flag Reg.SAFE_CONST.HANDOVER = false → s.phase n = 0 →
      (s.dsrc = 0 → s.safeMode = 1 →
        (s.phase m ≠ 2 → Completes (.safeConWrite .host on) s fun t => t.coilOn n = true ∧ t.phase n = 2 ∧ t.coilTime n = s.now ∧
          t.ctxs = s.ctxs ∧ t.mem = s.mem) ∧
        (s.phase m = 2 → s.coilTime m + ms 50 ≤ s.now + ms 40 → Completes (.safeConWrite .host on) s fun t => t.coilOn n = true ∧
          t.phase n = 1) ∧
        (s.phase m = 2 → s.now + ms 40 < s.coilTime m + ms 50 → Completes (.safeConWrite .host on) s fun t => dead t ∧
          t.bitOf Reg.CON_ERR.OVERLAP n = true)) ∧
      (s.dsrc ≠ 0 ∨ s.safeMode ≠ 1 → Completes (.safeConWrite .host on) s fun t => dead t ∧ t.bitOf Reg.CON_ERR.REFUSED n = true)) ∧
    (s.coilOn n = true → s.phase n = 3 →
      (n.val ≠ 0 ∨ s.handsOver = false → Completes (.safeConWrite .host off) s fun t => t.coilOn n = false ∧ t.phase n = 4 ∧
        t.coilTime n = s.now ∧ t.ctxs = s.ctxs ∧ t.mem = s.mem) ∧
      (n.val = 0 → s.handsOver = true → Completes (.safeConWrite .host off) s fun t => t.coilOn n = false ∧ t.phase n = 3 ∧
        t.flag Reg.SAFE_CONST.HANDOVER = true)) ∧
    (s.phase n = 2 →
      (Completes (.pickupEnd n) s fun t => s.cameTo t (s.coilTime n + ms 50) ∧ t.phase n = 3 ∧
        t.coilTime n = s.coilTime n + ms 50 ∧ (s.phase m = 1 → t.phase m = 2 ∧ t.coilTime m = t.now) ∧ t.ctxs = s.ctxs ∧ t.mem = s.mem) ∧
      (∀ a : Nat, Completes (.coilOpenCheck n a) s fun t => s.cameTo t (s.coilTime n + ms 10) ∧
        t.dsrc = s.dsrc ∧
        (a < 1500 ∨ s.highSide n = false → stopped t ∧ t.fld Reg.CON_I.MA n = 0 ∧ t.bitOf Reg.CON_ERR.COIL_OPEN n = true) ∧
        (1500 ≤ a → s.highSide n = true → t.phase n = 2 ∧ t.fld Reg.CON_I.MA n = min a 0xFFFF))) ∧
    (∀ a : Nat, (s.phase n = 2 ∨ s.phase n = 3) → s.highSide n = true → s.isCut n = false → 3500 < a → Completes (.coilShort n a) s fun t => stopped t ∧
      t.bitOf Reg.CON_ERR.COIL_SHORT n = true ∧ bitAt t.dsrc Src.COIL = true) ∧
    (∀ w : Fin 2, s.flag ⟨0x9034, 0, 17 + w.val, 1⟩ = true → Completes (.hsOver w) s fun t =>
      t.phase (2 * w) = 0 ∧ t.phase (2 * w + 1) = 0 ∧ (s.unwritten → t.coilOn (2 * w) = false ∧ t.coilOn (2 * w + 1) = false) ∧
      t.flag ⟨0x9034, 0, 17 + w.val, 1⟩ = false ∧ t.bitOf Reg.CON_ERR.HS_OVER w = true ∧ bitAt t.dsrc Src.COIL = true) ∧
    (s.phase n = 2 ∨ s.phase n = 3 → s.fbUsed n = true → bitAt s.safe.closed n = false → Completes (.noclose n) s fun t =>
      s.cameTo t (s.coilTime n + (if s.phase n = 3 then ms 30 else ms 80)) ∧ stopped t ∧ t.bitOf Reg.CON_ERR.NOCLOSE n = true ∧ t.dsrc = s.dsrc) ∧
    (s.phase n = 4 → s.coilOn n = false → s.fbUsed n = true →
      (s.fbHigh n = true → Completes (.openingEnd n) s fun t => dead t ∧ t.dsrc = s.dsrc ∧ t.ctxs = s.ctxs ∧ t.mem = s.mem) ∧
      (s.fbHigh n = false → Completes (.openingEnd n) s fun t => s.cameTo t (s.coilTime n + ms 80) ∧ dead t ∧
        t.bitOf Reg.CON_ERR.WELD n = true ∧ bitAt t.dsrc Src.COIL = true)) ∧
    (∀ t0, s.safe.fb1Low = some t0 → s.flag Reg.SAFE_CONST.HANDOVER = true → s.phase 0 = 2 ∨ s.phase 0 = 3 → Completes .handoverEnd s fun t =>
      s.cameTo t (t0 + ms 20) ∧ t.phase 0 = 4 ∧ t.flag Reg.SAFE_CONST.HANDOVER = false ∧ t.ctxs = s.ctxs ∧ t.mem = s.mem)

/-- While the safety block runs, scans come 10 ms apart, less 3 % as the model takes it (log 4); the second of two equal clean ones accepts the word, forms the Varnish and its match, and moves
the safety mode as Table 13-10 says; a new word is only noted. A column high with no row driven sets MATRIX and leads to HOLD,
from PARAM too (log 30; Table 13-10 has PARAM left only as SEAL9 goes off).
In PARAM with the right key a sealed write is queued: afterwards the area holds the magic word, the count and entries, and its
CRC; otherwise ERR is set. Its end is DONE, or FAIL on a mismatch. (R567, R569, R570, R572, R574, R577) -/
def Obligations.SealAndParameters : Prop :=
  ∀ (s : State) (w : BitVec 12), s.canonical = true → s.safe.running = true → s.hasSafety = true →
    (s.safe.sealMatrix = false → s.safe.sealLast = some w.toNat → let old := s.fld Reg.SEAL_ACC.WORD
      let v := s.varnishOf w.toNat (s.num 0x1001DFFC 4)
      Completes (.sealScan w false) s fun t => s.cameTo t (s.safe.scanAt + us 9700) ∧ t.safe.scanAt = t.now ∧
        t.fld Reg.SEAL_RAW.WORD = w.toNat ∧ t.fld Reg.SEAL_ACC.WORD = w.toNat ∧
        t.fld Reg.SAFE_VARNISH.DIG = v ∧ t.fld Reg.SAFE_VEXP.DIG = s.num 0x1001C0F0 4 ∧
        t.flag Reg.SEAL_ST.MATCH = decide (v = s.num 0x1001C0F0 4) ∧
        t.safeMode = (if w.getLsbD 9 then 2 else if s.safeMode = 0 ∧ v = s.num 0x1001C0F0 4 then 1
          else if s.safeMode = 1 ∧ w.toNat = old then 1 else 3) ∧
        (s.safeMode = 1 → s.dsrc = 0 → t.safeMode ≠ 1 → bitAt t.dsrc Src.MODE = true ∧ t.flag Reg.SAFE_TRQ.PERMIT = false) ∧
        s.coreKept t) ∧
    (s.safe.sealLast ≠ some w.toNat → Completes (.sealScan w false) s fun t => t.fld Reg.SEAL_RAW.WORD = w.toNat ∧
      t.safe.sealLast = some w.toNat ∧ t.fld Reg.SEAL_ACC.WORD = s.fld Reg.SEAL_ACC.WORD ∧ t.safeMode = s.safeMode ∧
      t.dsrc = s.dsrc ∧ t.ctxs = s.ctxs ∧ t.mem = s.mem) ∧
    (Completes (.sealScan w true) s fun t => t.flag Reg.SEAL_ST.MATRIX = true ∧ t.safeMode = 3 ∧
      t.fld Reg.SEAL_ACC.WORD = s.fld Reg.SEAL_ACC.WORD ∧ s.coreKept t) ∧
    (s.safeMode = 2 → s.safe.sealing = none → Completes (.sealedWrite .host 0x5EA1) s fun t => t.flag Reg.SAFE_SEALWR.BUSY = true ∧
      t.safe.sealing.isSome = true ∧ t.settled.num 0x1001C400 4 = 0x52415053 ∧ t.settled.num 0x1001C404 4 = rsKeys.length ∧
      t.settled.num 0x1001DFFC 4 = crc32c (t.settled.bytes 0x1001C400 7164) ∧ t.ctxs = s.ctxs ∧ t.mem = s.mem) ∧
    (∀ key : BitVec 16, key ≠ 0x5EA1 ∨ s.safeMode ≠ 2 → Completes (.sealedWrite .host key) s fun t =>
      t.flag Reg.SAFE_SEALWR.ERR = true ∧ t.nvmQ = s.nvmQ ∧ t.safe = s.safe ∧ t.ctxs = s.ctxs ∧ t.mem = s.mem) ∧
    (∀ l : List (Nat × List Byte), s.safe.sealing = some l → (∀ q ∈ s.nvmQ, q.writer ≠ .sealedWrite) →
      ((∀ e ∈ l, s.bytes e.1 e.2.length = e.2) → Completes .sealedWriteDone s fun t => t.flag Reg.SAFE_SEALWR.DONE = true ∧
        t.flag Reg.SAFE_SEALWR.BUSY = false ∧ t.safe.sealing = none ∧ t.mem = s.mem) ∧
      ((∃ e ∈ l, s.bytes e.1 e.2.length ≠ e.2) → Completes .sealedWriteDone s fun t => t.flag Reg.SAFE_SEALWR.FAIL = true ∧
        t.flag Reg.SAFE_SEALWR.BUSY = false ∧ t.safe.sealing = none ∧ t.mem = s.mem))

/-- With no operation in progress, FORM on an enabled TX slot with D at most 36 and a buffer in SRAM writes the payload of Table 14-1,
its CRC formed from the CID, changes no other byte, and counts CN on; otherwise FORMERR and memory is unchanged. A write of
SFU_OP sets BUSY, and while an operation is in progress the next is discarded. CHECK gives a verdict; ACCEPT to exactly the
frames that pass every row of Table 14-3 with a CN newer by 1 to 8, or with no L valid; an accepted frame becomes L, VALID and the pair's kept data, any other changes neither L, VALID
nor EXP; PAIRED needs the other slot to have accepted the same. Arming sets EXP and clears VALID; disarming a slot with ACT is
refused under PERMIT or a closed coil. An expired slot is disarmed, raises SAFE and, with ACT, sets DEMAND. (R583, R584, R586,
R588, R589, R591, R595, R596, R597, R602) -/
def Obligations.SafetyFrames : Prop :=
  ∀ (s : State) (k : Fin 16), s.canonical = true → s.hasSafety = true →
    (∀ (o : SfuOp) (u : Nat) (d : BitVec 6), s.sfu.op = some (o, u) → s.now < u →
      (∀ i ∈ [Instr.sfuForm .host k d, .sfuCheck .host k], Completes i s fun t => t = s) ∧
      ∀ w : Word, Completes (.registerWrite .host 0x9108 w) s fun t => t.sfu = s.sfu ∧ t.regs = s.regs ∧ t.ctxs = s.ctxs ∧ t.mem = s.mem) ∧
    (∀ w : Word, s.sfu.op = none → w.getLsbD 12 ≠ w.getLsbD 13 → Completes (.registerWrite .host 0x9108 w) s fun t =>
      t.flag Reg.SFU_RES.BUSY = true ∧ t.sfu.op.isSome = true ∧ t.ctxs = s.ctxs ∧ t.mem = s.mem) ∧
    (s.sfu.op = none → ∀ d : BitVec 6,
      (s.slotOn k true = true → d.toNat ≤ 36 → s.sfuBufGood = true → let cn := s.fld Reg.SCON_CN.CN k
        let pay := safetyPayload (s.fld Reg.SCON_CFG.KIND k) cn (s.rack32 / 256) (s.fld Reg.SCON_CID.CID k)
          (s.formData d.toNat (s.flag Reg.SCON_CFG.TRBIT k))
        Completes (.sfuForm .host k d) s fun t => pay.length = 10 + d.toNat ∧ t.bytes s.sfuBuf pay.length = pay ∧
          (∀ a, a < s.sfuBuf ∨ s.sfuBuf + pay.length ≤ a → t.byte a = s.byte a) ∧ t.fld Reg.SCON_CN.CN k = (cn + 1) % 2 ^ 16 ∧
          t.fld Reg.SFU_RES.VERDICT = Verdict.FORMED ∧ t.fld Reg.SFU_RES.CN = cn ∧ t.fld Reg.SFU_RES.SLOT = k.val ∧ t.ctxs = s.ctxs) ∧
      (s.slotOn k true = false ∨ 36 < d.toNat ∨ s.sfuBufGood = false → Completes (.sfuForm .host k d) s fun t =>
        t.fld Reg.SFU_RES.VERDICT = Verdict.FORMERR ∧ t.fld Reg.SCON_CN.CN k = s.fld Reg.SCON_CN.CN k ∧ t.mem = s.mem ∧ t.ctxs = s.ctxs)) ∧
    (s.sfu.op = none → s.sfuBufGood = true → let f := s.frameAt s.sfuBuf
      let n := f.payload.length
      let d := (fieldOf f.payload 1 2 + 65536 - s.fld Reg.SCON_CN.CN k) % 65536
      let passes := s.slotOn k false = true ∧ s.bitOf Reg.SFU_ARM.SLOTS k = true ∧ f.type = 1 ∧ 10 ≤ n ∧ n ≤ 46 ∧
        f.src = s.fld Reg.SCON_CFG.PEER k ∧ fieldOf f.payload 0 1 = s.fld Reg.SCON_CFG.KIND k ∧
        fieldOf f.payload (n - 4) 4 = safetyCrc (s.fld Reg.SCON_CID.CID k) (f.payload.take (n - 4)) ∧
        -24000 ≤ s.ageOf (fieldOf f.payload 3 3) ∧ s.ageOf (fieldOf f.payload 3 3) ≤ s.maxAge
      Completes (.sfuCheck .host k) s fun t => let v := t.fld Reg.SFU_RES.VERDICT
        (v = Verdict.ACCEPT ↔ passes ∧ (s.flag Reg.SCON_CN.VALID k = false ∨ (1 ≤ d ∧ d ≤ 8))) ∧ (v = Verdict.RESYNC → passes) ∧
        (v = Verdict.ACCEPT ∨ v = Verdict.RESYNC → t.fld Reg.SCON_CN.CN k = fieldOf f.payload 1 2 ∧ t.flag Reg.SCON_CN.VALID k = true ∧
          t.keptOf k = some (s.now, fieldOf f.payload 0 1, (f.payload.drop 6).take (n - 10)) ∧
          t.flag Reg.SFU_RES.PAIRED = s.pairsWith k f) ∧
        (¬(v = Verdict.ACCEPT ∨ v = Verdict.RESYNC) → t.fld Reg.SCON_CN.CN k = s.fld Reg.SCON_CN.CN k ∧
          t.flag Reg.SCON_CN.VALID k = s.flag Reg.SCON_CN.VALID k ∧ t.fld Reg.SCON_EXP.TICK k = s.fld Reg.SCON_EXP.TICK k ∧
          t.keptOf k = s.keptOf k ∧ t.flag Reg.SFU_RES.PAIRED = false) ∧ t.mem = s.mem ∧ t.ctxs = s.ctxs) ∧
    (s.sfu.op = none → s.sfuBufGood = false → Completes (.sfuCheck .host k) s fun t => t.fld Reg.SFU_RES.VERDICT = Verdict.BADBUF ∧
      t.fld Reg.SCON_CN.CN k = s.fld Reg.SCON_CN.CN k ∧ t.mem = s.mem ∧ t.ctxs = s.ctxs) ∧
    (∀ w : BitVec 16, Completes (.sfuArmWrite .host w) s fun t => t.ctxs = s.ctxs ∧ t.mem = s.mem ∧
      (w.getLsbD k = true → t.bitOf Reg.SFU_ARM.SLOTS k = true ∧ t.fld Reg.SCON_EXP.TICK k = (s.rack32 + s.deadline) % 2 ^ 32 ∧
        t.flag Reg.SCON_CN.VALID k = false) ∧
      (w.getLsbD k = false → let kept := s.flag Reg.SCON_CFG.ACT k = true ∧ (s.flag Reg.SAFE_TRQ.PERMIT = true ∨ s.allOff = false)
        (kept → t.bitOf Reg.SFU_ARM.SLOTS k = s.bitOf Reg.SFU_ARM.SLOTS k) ∧ (¬kept → t.bitOf Reg.SFU_ARM.SLOTS k = false))) ∧
    (s.rackTicks % 12000 = 0 → s.unwritten → s.bitOf Reg.SFU_ARM.SLOTS k = true → s.slotOn k false = true →
      (s.expired Reg.SCON_EXP.TICK k = true → Completes .sfuExpiryExamine s fun t => t.bitOf Reg.SFU_ARM.SLOTS k = false ∧
        t.bitOf Reg.SFU_EXPIRED.SLOTS k = true ∧ t.rang 0 Ev.SAFE ∧
        (s.flag Reg.SCON_CFG.ACT k = true → t.flag Reg.SAFE_CTL.DEMAND = true) ∧ t.mem = s.mem) ∧
      (s.expired Reg.SCON_EXP.TICK k = false → Completes .sfuExpiryExamine s fun t => t.bitOf Reg.SFU_ARM.SLOTS k = true ∧
        t.bitOf Reg.SFU_EXPIRED.SLOTS k = s.bitOf Reg.SFU_EXPIRED.SLOTS k ∧ t.mem = s.mem))

/-- At an exchange instant, the next multiple of 12,000 ticks or at once the last one that the count has passed since the block started,
a manager with a sealed plan and a cross-link identity sends, over the UP cross-link, the XCHG with its
state and live votes, a waiting COMMIT taken; without them no XCHG is sent; manager A sends TIME in any way. An XCHG is judged at its
EOF; one that passes the checks becomes L, EXP and the partner's votes, and those of the exchange within 100 µs of its instant, or wait
for an instant whose own command has not come. An operation in progress it ends at once, XRX has an EXP of its own, and an instant comes
without plan or identity too (log 32's choices). 100 µs after the instant the exchange is
AGREE, MISMATCH or MISSING, the last always without a plan or identity: a second disagreement in a row, or the fourth MISSING, sets
XLINK, the latter SURVIVOR too with CAPOUT low. COMMIT waits for the next instant. Manager A starts the cross-link from
DOWN, but not within the pauses between attempts. (R606, R607, R608, R609, R610, R611, R613, R669, R826) -/
def Obligations.ManagerPair : Prop :=
  ∀ (s : State), s.canonical = true → s.isManager = true →
    (let last := s.rackNow - s.rackTicks % 12000
     let due := (∀ t0, s.sfu.instant = some t0 → t0 < last) ∧ (s.sfu.instant = none → s.sfu.since ≤ last)
     s.safe.running = true →
    (¬due → Completes .exchangeInstant s
      fun t => s.cameToTick t (s.nextMultiple 12000) ∧ t.sfu.instant = some (s.nextMultiple 12000) ∧ t.sfu.judged = false ∧
        t.ctxs = s.ctxs ∧ t.mem = s.mem) ∧
    (due →
      let live := if s.sfu.commit then Vector.ofFn fun (i : Fin 8) => s.reg (0x9140 + 4 * i.val) else s.sfu.live
      (Completes .exchangeInstant s fun t => t.sfu.live = live ∧ t.sfu.sent = live ∧ t.sfu.commit = false ∧ t.sfu.judged = false ∧
        t.now = s.now ∧ t.sfu.instant = some last ∧ t.sfu.got = s.gotAt last ∧ t.sfu.early = none ∧ t.ctxs = s.ctxs ∧ t.mem = s.mem) ∧
      (s.isMgrA = true → s.link xlink = Link.UP → Completes .exchangeInstant s fun t => t.leaves xlink fun g => g.ftype = Ty.TIME) ∧
      (s.sealed = true → s.fld Reg.SFU_XCID.CID ≠ 0 → s.link xlink = Link.UP → let cn := s.fld Reg.SFU_XST.TXCN
        Completes .exchangeInstant s fun t => t.fld Reg.SFU_XST.TXCN = (cn + 1) % 2 ^ 16 ∧ t.leaves xlink fun g =>
          g.ftype = Ty.SAFE ∧ g.dest = s.partner ∧ g.payload = safetyPayload 0x10 cn (last % 2 ^ 32 / 256) (s.fld Reg.SFU_XCID.CID)
            (leBytes 4 s.xchgState ++ live.toList.flatMap fun w => leBytes 4 w.toNat)) ∧
      (s.sealed = false ∨ s.fld Reg.SFU_XCID.CID = 0 → Completes .exchangeInstant s fun t =>
        t.fld Reg.SFU_XST.TXCN = s.fld Reg.SFU_XST.TXCN ∧ (s.isMgrA = false → t.ports = s.ports ∧ t.regs = s.regs)))) ∧
    (∀ a : Arrival, let b : Arrival := { a with port := xlink, frame := { a.frame with ftype := Ty.SAFE } }
      s.lineOf b = .good → s.noSide b → s.link xlink = Link.UP →
      let eof := s.advance b.frame.ticks
      let at_ := eof.rackNow
      let v := eof.checkFrame s.xrxEnd ⟨1, a.frame.src.toNat, a.frame.payload⟩
      let votes := (List.range 8).map fun i => BitVec.ofNat 32 (fieldOf a.frame.payload (10 + 4 * i) 4)
      let new : Nat := (fieldOf a.frame.payload 3 3 * 256 + s.deadline) % 2 ^ 32
      (∀ o, s.sfu.op = some o → Completes (.xchg a) s fun t => t.sfu.op = none) ∧
      (s.sfu.op = none → accepts v = true → Completes (.xchg a) s fun t => t.fld Reg.SFU_XRX.L = fieldOf a.frame.payload 1 2 ∧
        t.flag Reg.SFU_XRX.VALID = true ∧ (∀ i < 8, t.fld Reg.SFU_PVOTE.VALUE i = fieldOf a.frame.payload (10 + 4 * i) 4) ∧
        (∀ t0, s.sfu.instant = some t0 → s.sfu.judged = false → s.sfu.got = none → t0 ≤ at_ → at_ ≤ t0 + 2400 → t.sfu.got = some votes) ∧
        (∀ t0, s.sfu.instant = some t0 → s.sfu.early = none → (let m := at_ - at_ % 2 ^ 48 % 12000
          t0 + 2400 < at_ → t0 < m → at_ ≤ m + 2400 → t.sfu.early = some (at_, votes) ∧ t.sfu.got = s.sfu.got)) ∧
        t.sfu.xExp = (if 0 < signed 32 (unsigned 32 ((new : Int) - s.sfu.xExp)) then new else s.sfu.xExp) ∧ t.ctxs = s.ctxs ∧ t.mem = s.mem) ∧
      (s.sfu.op = none → accepts v = false → Completes (.xchg a) s fun t => t.sfu.xExp = s.sfu.xExp ∧ t.fld Reg.SFU_XRX.L = s.fld Reg.SFU_XRX.L ∧
        t.flag Reg.SFU_XRX.VALID = s.flag Reg.SFU_XRX.VALID ∧ t.sfu.got = s.sfu.got ∧ t.ctxs = s.ctxs ∧ t.mem = s.mem)) ∧
    (∀ t0 : Nat, s.safe.running = true → s.sfu.instant = some t0 → s.sfu.judged = false →
      let was := s.flag Reg.SFU_XST.LAST_MISMATCH
      let judged := fun (t : State) => t.sfu.judged = true ∧ s.cameToTick t (t0 + 2400) ∧ t.mem = s.mem
      (s.exchanges = true → s.sfu.got = some s.sfu.sent.toList → Completes .exchangeJudge s fun t => judged t ∧ t.flag Reg.SFU_XST.LAST_MISMATCH = false ∧
        t.flag Reg.SFU_XST.LAST_MISSING = false ∧ t.fld Reg.SFU_XST.AGREERUN = min 15 (s.fld Reg.SFU_XST.AGREERUN + 1) ∧
        t.dsrc = s.dsrc ∧ (3 ≤ s.fld Reg.SFU_XST.AGREERUN → t.flag Reg.RACK_MST.SURVIVOR = false)) ∧
      (∀ v, s.exchanges = true → s.sfu.got = some v → v ≠ s.sfu.sent.toList → Completes .exchangeJudge s fun t => judged t ∧
        t.flag Reg.SFU_XST.LAST_MISMATCH = true ∧ t.fld Reg.SFU_XST.AGREERUN = 0 ∧
        (was = true → bitAt t.dsrc Src.XLINK = true) ∧ (was = false → t.dsrc = s.dsrc)) ∧
      (s.exchanges = false ∨ s.sfu.got = none → Completes .exchangeJudge s fun t => judged t ∧ t.flag Reg.SFU_XST.LAST_MISSING = true ∧
        t.fld Reg.SFU_XST.AGREERUN = 0 ∧ (was = true ∨ 3 ≤ s.sfu.missing → bitAt t.dsrc Src.XLINK = true) ∧
        (3 ≤ s.sfu.missing → t.flag Reg.RACK_MST.SURVIVOR = true ∧ t.fld Reg.RACK_CAPOUT.DUTY = 0) ∧
        (was = false → s.sfu.missing < 3 → t.dsrc = s.dsrc ∧ t.sfu.missing = s.sfu.missing + 1))) ∧
    (Completes (.voteCommit .host) s fun t => t.sfu.commit = true ∧ t.sfu.live = s.sfu.live ∧ t.regs = s.regs ∧ t.ctxs = s.ctxs) ∧
    (s.isMgrA = true → s.link xlink = Link.DOWN → (s.port xlink).phase ≠ .none → Completes .crossLinkStart s fun t => t = s) ∧
    (s.isMgrA = true → s.link xlink = Link.DOWN → (s.port xlink).phase = .none → s.portOn xlink = true → Completes .crossLinkStart s fun t =>
      t.link xlink = Link.RESET ∧ (t.port xlink).phase = .start ∧ (t.port xlink).initiator = true ∧ t.ctxs = s.ctxs ∧ t.mem = s.mem)

/-- On a TRAY-role die. JOIN in OPEN starts an attempt with CON2 picking up, or sets PRECOND; in LOCKOUT it sets JREFUSED, elsewhere
nothing. LEAVE opens a JOINED tray under control, ends an attempt with cause LEAVE and a retry wait. UNLOCK clears LOCKOUT. A voltage sample in PRECHARGE
leads to SETTLE when ΔV is within VWIN, and back; it ends 85 µs after the conversion began (the model's, log 43). At the end of SETTLE, MAIN: CON1 picks up and CON0's bit clears. The precharge
timeout and inrush end the attempt with their cause. After 30 s a retry starts, or PRECOND. LEAVING clears CON1's bit at OPENI
or after OPENT. (R646, R647, R648, R649, R650, R652, R653, R654, R656) -/
def Obligations.JoinEngine : Prop :=
  ∀ (s : State), s.canonical = true → s.isTray = true → s.rack.aborting = false →
    let quiet := fun (t : State) => t.ctxs = s.ctxs ∧ t.mem = s.mem
    let ready := fun (seq : Nat) => s.safeMode = 1 ∧ s.dsrc = 0 ∧ (∀ n < 4, s.phase n = 0) ∧ s.flag Reg.RACK_TCAP.VALID = true ∧
      s.fld Reg.RACK_TCAP.SEQ = seq ∧ s.flag Reg.BBX_STAT.UNFIT = false
    let begun := fun (t : State) => t.joinState = 1 ∧ t.flag Reg.RACK_TST.JOINWANT = true ∧ t.coilOn 2 = true ∧ t.phase 2 = 2 ∧ quiet t
    (∀ q : BitVec 16,
      (s.joinState = 0 → ready q.toNat → s.unwritten → s.coilOn 2 = false → s.fbHigh 2 = true → Completes (.join .host q) s begun) ∧
      (s.joinState = 0 → ¬ready q.toNat → Completes (.join .host q) s fun t => t.joinState = 0 ∧ t.fld Reg.RACK_TST.CAUSE = 6 ∧
        t.fld Reg.RACK_TST.TRIES = s.fld Reg.RACK_TST.TRIES ∧ t.rack = s.rack ∧ t.safe = s.safe ∧ quiet t) ∧
      (s.joinState = 8 → Completes (.join .host q) s fun t => t.joinState = 8 ∧ t.flag Reg.RACK_TST.JREFUSED = true ∧ quiet t) ∧
      (s.joinState ≠ 0 → s.joinState ≠ 8 → Completes (.join .host q) s fun t => t = s)) ∧
    (s.joinState = 5 → Completes (.leave .host) s fun t => t.joinState = 6 ∧ quiet t ∧
      t.rack.leaveAt = some (s.now + ms (100 * s.fld Reg.RACK_OPEN.OPENT))) ∧
    (s.joinState = 7 → Completes (.leave .host) s fun t => t.joinState = 0 ∧ t.rack.retryAt = none ∧
      t.flag Reg.RACK_TST.JOINWANT = false ∧ quiet t) ∧
    (1 ≤ s.joinState → s.joinState ≤ 4 → Completes (.leave .host) s fun t => t.fld Reg.RACK_TST.CAUSE = 5 ∧
      (s.unwritten → t.coilOn 0 = false ∧ t.coilOn 1 = false) ∧ t.fld Reg.RACK_TST.TRIES = s.fld Reg.RACK_TST.TRIES ∧ quiet t) ∧
    (s.joinState = 0 ∨ s.joinState = 6 ∨ s.joinState = 8 → Completes (.leave .host) s fun t => t = s) ∧
    (s.joinState = 8 → Completes (.unlock .host) s fun t => t.joinState = 0 ∧ t.fld Reg.RACK_TST.TRIES = 0 ∧ quiet t) ∧
    (s.joinState ≠ 8 → Completes (.unlock .host) s fun t => t = s) ∧
    (∀ x y : Nat, s.joinRuns = true → Completes (.joinVoltageSample x y) s fun t =>
      let vb := t.fld Reg.RACK_VBUS.V
      let vt := t.fld Reg.RACK_VTRAY.V
      let near := max vb vt - min vb vt ≤ s.fld Reg.RACK_VWIN.V
      (∀ v, x * s.fld Reg.RACK_DIV.RATIO = 100000 * v → vb = min 0xFFFF v) ∧
      (∀ v, y * s.fld Reg.RACK_DIV.RATIO = 100000 * v → vt = min 0xFFFF v) ∧
      s.cameTo t (s.rack.voltsFrom + us 85) ∧
      (s.joinState = 2 → (near → t.joinState = 3 ∧ t.rack.settleAt = some t.now) ∧ (¬near → t.joinState = 2)) ∧
      (s.joinState = 3 → s.flag Reg.RACK_TST.HOLD = false → ¬near → t.joinState = 2 ∧ t.rack.settleAt = none)) ∧
    (∀ t0, s.joinState = 3 → s.rack.settleAt = some t0 →
      (s.unwritten → s.flag Reg.RACK_TST.HOLD = false → s.dvNear = true → s.dsrc = 0 → s.safeMode = 1 → s.phase 0 = 3 → s.coilOn 0 = true → s.phase 1 = 0 →
        s.coilOn 1 = false → Completes .settleEnd s fun t => s.cameTo t (t0 + ms (10 * s.fld Reg.RACK_JTIME.SETTLE)) ∧
          t.joinState = 4 ∧ t.coilOn 1 = true ∧ t.phase 1 = 2 ∧ t.coilOn 0 = false ∧ quiet t) ∧
      (s.flag Reg.RACK_TST.HOLD = true → Completes .settleEnd s fun t => t.joinState = 3 ∧ t.safe = s.safe)) ∧
    (∀ t0, (s.joinState = 2 ∨ s.joinState = 3) → s.rack.preAt = some t0 → s.fld Reg.RACK_TST.TRIES < 7 →
      Completes .prechargeTimeout s fun t => s.cameTo t (t0 + ms (10 * s.fld Reg.RACK_JTIME.PRE) + s.rack.preHeld) ∧
        t.fld Reg.RACK_TST.CAUSE = 2 ∧ t.fld Reg.RACK_TST.TRIES = s.fld Reg.RACK_TST.TRIES + 1 ∧
        (s.unwritten → t.coilOn 0 = false ∧ t.coilOn 1 = false) ∧ quiet t) ∧
    (∀ k : Int, 1 ≤ s.joinState → s.joinState ≤ 6 → s.fld Reg.RACK_RSHUNT.UOHM ≠ 0 → k.natAbs ≤ 32767 →
      Completes (.trayCurrentSample (100 * s.fld Reg.RACK_RSHUNT.UOHM * k)) s fun t => s.cameTo t (s.rack.ampsAt + us 100) ∧ t.fld Reg.RACK_ITRAY.A = unsigned 16 k ∧
        t.fld Reg.RACK_IPEAK.A = max k.natAbs (s.fld Reg.RACK_IPEAK.A) ∧
        (2 ≤ s.joinState → s.joinState ≤ 4 → s.fld Reg.RACK_ILIM.A < k.natAbs → t.fld Reg.RACK_TST.CAUSE = 1 ∧
          (s.unwritten → t.coilOn 0 = false ∧ t.coilOn 1 = false)) ∧
        (s.joinState = 6 → s.rack.leaveAt.isSome = true → k.natAbs ≤ s.fld Reg.RACK_OPEN.OPENI →
          (s.unwritten → t.coilOn 1 = false) ∧ t.rack.leaveAt = none)) ∧
    (∀ t0, s.joinState = 7 → s.rack.retryAt = some t0 →
      (s.unwritten → ready (s.fld Reg.RACK_TCAP.SEQ) → s.coilOn 2 = false → s.fbHigh 2 = true → Completes .joinRetry s fun t => begun t ∧ s.cameTo t t0) ∧
      (¬ready (s.fld Reg.RACK_TCAP.SEQ) → Completes .joinRetry s fun t => t.joinState = 0 ∧ t.fld Reg.RACK_TST.CAUSE = 6 ∧
        s.cameTo t t0 ∧ quiet t)) ∧
    (∀ t0, s.joinState = 6 → s.rack.leaveAt = some t0 → Completes .openingWaitEnd s fun t => s.cameTo t t0 ∧ (s.unwritten → t.coilOn 1 = false) ∧
      t.rack.leaveAt = none ∧ quiet t)

/-- On a tray CAPIN with GO is judged: the first, or a newer CAPSEQ, is applied; the same one with equal values counts CAPDUP, with
others the lower are applied and CAPDIFF set; an older one counts CAPOLD. HOLD ends after its time; a current over the cap for
its time sets OVERCAP. On a manager the first multiple of 2,400 ticks after the CAPOUT period's start begins another, which takes
RACK_CAPSET, or 0 as SURVIVOR. FORM_RS and FORM_CMD on an entry in use
write the payload of their kind and count its CN on, unless an operation is in progress; CHECK_ST gives ACCEPT to exactly the frames that
pass every row of Table 14-3 with a CN newer by 1 to 8, or with no L valid, and accepts into the entry's L; an entry not in use answers SLOT.
Arming an entry sets EXP and clears VALID. (R638, R639, R640, R641, R660, R661, R662, R665) -/
def Obligations.RackCaps : Prop :=
  ∀ (s : State), s.canonical = true →
    (∀ w : Word, s.isTray = true → s.fld Reg.RACK_CAPIN0.CAP ≤ 1000 → let seq := s.fld Reg.RACK_CAPIN0.CAPSEQ
      let cap := s.fld Reg.RACK_CAPIN0.CAP
      let itray := w.toNat % 2 ^ 16
      let d := (seq + 65536 - s.fld Reg.RACK_TCAP.SEQ) % 65536
      let known := s.flag Reg.RACK_TCAP.VALID
      let old := s.fld Reg.RACK_TCAP.CAP
      (known = false ∨ (1 ≤ d ∧ d < 32768) → Completes (.capinGo .host w) s fun t => t.fld Reg.RACK_TCAP.SEQ = seq ∧
        t.fld Reg.RACK_TCAP.CAP = cap ∧ t.flag Reg.RACK_TCAP.VALID = true ∧ t.rack.itray = itray ∧
        (1 ≤ s.joinState → s.joinState ≤ 3 → known = false ∨ cap ≠ old ∨ itray ≠ s.rack.itray →
          t.flag Reg.RACK_TST.HOLD = true ∧ t.rack.holdUntil = some (s.now + ms 2)) ∧ t.ctxs = s.ctxs ∧ t.mem = s.mem) ∧
      (known = true → d = 0 → cap = old → itray = s.rack.itray → Completes (.capinGo .host w) s fun t =>
        t.fld Reg.RACK_CAPCNT.CAPDUP = min (s.fld Reg.RACK_CAPCNT.CAPDUP + 1) 65535 ∧ t.fld Reg.RACK_TCAP.CAP = old ∧ t.rack = s.rack) ∧
      (known = true → d = 0 → cap ≠ old ∨ itray ≠ s.rack.itray → Completes (.capinGo .host w) s fun t =>
        t.fld Reg.RACK_TCAP.CAP = min cap old ∧ t.rack.itray = min itray s.rack.itray ∧ t.flag Reg.RACK_TST.CAPDIFF = true) ∧
      (known = true → 32768 ≤ d → Completes (.capinGo .host w) s fun t =>
        t.fld Reg.RACK_CAPCNT.CAPOLD = min (s.fld Reg.RACK_CAPCNT.CAPOLD + 1) 65535 ∧ t.fld Reg.RACK_TCAP.CAP = old ∧ t.rack = s.rack)) ∧
    (∀ (o : SfuOp) (u : Nat) (k : Fin 64) (d : BitVec 6), s.isManager = true → s.sfu.op = some (o, u) → s.now < u →
      ∀ i ∈ [Instr.formRs .host k d, .formCmd .host k d, .checkSt .host k], Completes i s fun t => t = s) ∧
    (∀ t0, s.rack.holdUntil = some t0 → Completes .capHoldEnd s fun t => s.cameTo t t0 ∧ t.flag Reg.RACK_TST.HOLD = false ∧
      t.rack.holdUntil = none ∧ t.ctxs = s.ctxs ∧ t.mem = s.mem) ∧
    (∀ t0, s.rack.overSince = some t0 → s.joinState = 5 → Completes .overcapTimer s fun t =>
      s.cameTo t (t0 + ms (10 * max 1 (s.fld Reg.RACK_CFG.OCT))) ∧ t.flag Reg.RACK_TST.OVERCAP = true ∧ t.ctxs = s.ctxs ∧ t.mem = s.mem) ∧
    (s.isManager = true → Completes .capoutPeriod s fun t =>
      s.cameToTick t (multipleAfter 2400 (min s.rack.capFrom s.rackNow)) ∧ t.rack.capFrom = t.rackNow ∧
      t.fld Reg.RACK_CAPOUT.DUTY = (if s.flag Reg.RACK_MST.SURVIVOR then 0 else min 1000 (s.fld Reg.RACK_CAPSET.CAP)) ∧
      t.ctxs = s.ctxs ∧ t.mem = s.mem) ∧
    (∀ (k : Fin 64) (d : BitVec 6), s.isManager = true → s.sfu.op = none →
      let wrote := fun (t : State) (kind cn cid : Nat) (tr : Bool) =>
        let pay := safetyPayload kind cn (s.rack32 / 256) cid (s.formData d.toNat tr)
        t.bytes s.sfuBuf pay.length = pay ∧ (∀ a, a < s.sfuBuf ∨ s.sfuBuf + pay.length ≤ a → t.byte a = s.byte a) ∧
          t.fld Reg.RACK_TRES.VERDICT = Verdict.FORMED ∧ t.fld Reg.RACK_TRES.CN = cn ∧ t.ctxs = s.ctxs
      (s.flag Reg.TRAY_CFG.EN k = true → s.sfuBufGood = true →
        (d.toNat ≤ 36 → (Completes (.formRs .host k d) s fun t => wrote t 2 (s.fld Reg.TRAY_CN.RSCN k) (s.fld Reg.TRAY_RSCID.STCID k) true ∧
            t.fld Reg.TRAY_CN.RSCN k = (s.fld Reg.TRAY_CN.RSCN k + 1) % 2 ^ 16) ∧
          (Completes (.formCmd .host k d) s fun t => wrote t 3 (s.fld Reg.TRAY_CN.CMCN k) (s.fld Reg.TRAY_CMCID.STCID k) false ∧
            t.fld Reg.TRAY_CN.CMCN k = (s.fld Reg.TRAY_CN.CMCN k + 1) % 2 ^ 16)) ∧
        (let f := s.frameAt s.sfuBuf
         let n := f.payload.length
         let dn := (fieldOf f.payload 1 2 + 65536 - s.fld Reg.TRAY_RX.L k) % 65536
         let passes := s.bitOf Reg.RACK_TARM.ENTRIES (k % 32) (k / 32) = true ∧ f.type = 1 ∧ 10 ≤ n ∧ n ≤ 46 ∧
           f.src = s.fld Reg.TRAY_CFG.TADDR k ∧ fieldOf f.payload 0 1 = 1 ∧
           fieldOf f.payload (n - 4) 4 = safetyCrc (s.fld Reg.TRAY_STCID.STCID k) (f.payload.take (n - 4)) ∧
           -24000 ≤ s.ageOf (fieldOf f.payload 3 3) ∧ s.ageOf (fieldOf f.payload 3 3) ≤ s.maxAge
         Completes (.checkSt .host k) s fun t => let v := t.fld Reg.RACK_TRES.VERDICT
          t.mem = s.mem ∧ t.ctxs = s.ctxs ∧
          (v = Verdict.ACCEPT ↔ passes ∧ (s.flag Reg.TRAY_RX.VALID k = false ∨ (1 ≤ dn ∧ dn ≤ 8))) ∧ (v = Verdict.RESYNC → passes) ∧
          (v = Verdict.ACCEPT ∨ v = Verdict.RESYNC → t.fld Reg.TRAY_RX.L k = fieldOf f.payload 1 2 ∧
            t.flag Reg.TRAY_RX.VALID k = true) ∧
          (¬(v = Verdict.ACCEPT ∨ v = Verdict.RESYNC) → t.fld Reg.TRAY_RX.L k = s.fld Reg.TRAY_RX.L k ∧
            t.fld Reg.TRAY_EXP.EXP k = s.fld Reg.TRAY_EXP.EXP k))) ∧
      (s.flag Reg.TRAY_CFG.EN k = false → ∀ i ∈ [Instr.formRs .host k d, .formCmd .host k d, .checkSt .host k],
        Completes i s fun t => t.fld Reg.RACK_TRES.VERDICT = Verdict.SLOT ∧ t.mem = s.mem ∧ t.ctxs = s.ctxs) ∧
      (∀ w : Word, w.getLsbD (k % 32) = true → Completes (.rackTarmWrite .host (Fin.ofNat 2 (k / 32)) w) s fun t =>
        t.bitOf Reg.RACK_TARM.ENTRIES (k % 32) (k / 32) = true ∧ t.fld Reg.TRAY_EXP.EXP k = (s.rack32 + s.deadline) % 2 ^ 32 ∧
        t.flag Reg.TRAY_RX.VALID k = false ∧ t.ctxs = s.ctxs ∧ t.mem = s.mem))

/-- While a condition of Table 16-4 holds nothing is entered, and an entry in progress is aborted, the ports that sent SLEEP_NOTE for it, and no
others, resuming. With HFO running
and none of them, the state that the WAITING contexts permit is entered where the guard leaves time for it, but NAP in SLEEP's place with
no SCHED held for a compare (log 29): UP ports first send three NULLs
with SLEEP_NOTE and fall ASLEEP (two commands, log 28); rack time is no longer LOCKED, HFO stops. Below DOZE a temperature sample, four a second, aims the wake timer the guard, at least 160 µs, CLK_GMIN and the learned guard, ahead of the earliest
armed target. The wake timer takes the die to DOZE, records source 0 and, from SLEEP, leaves unkept banks zero. HFO stable,
ASLEEP ports resume and the safety block runs. A rate measurement over one second writes the present bin. (R409, R680, R681, R684, R685, R687, R690, R691, R693,
R696, R697) -/
def Obligations.PowerStates : Prop :=
  ∀ (s : State), s.canonical = true →
    (s.heldAwake = true →
      (s.power.entering = false → Completes .powerStateEntry s fun t => t = s) ∧
      (s.power.entering = true → s.hfo = true → Completes .powerStateEntry s fun t => t.power.entering = false ∧
        t.power.below = s.power.below ∧ ∀ p, t.link p = if p ∈ s.power.noted ∧ s.link p = Link.ASLEEP then Link.RESUMING else s.link p)) ∧
    (s.hfo = true → s.power.below = 0 → s.boot.inReset = false → s.boot.refs = true → s.heldAwake = false → 2 ≤ s.permitted →
      let entered := fun (t : State) => t.power.below = s.entryState ∧ (s.heldSched = false → t.power.below ≠ 3) ∧ t.power.entering = false ∧ t.hfo = false ∧
        t.flag Reg.RT_ST.LOCKED = false ∧ t.power.enteredAt = s.now ∧ t.now = s.now ∧ s.coreKept t
      (s.power.entering = true → Completes .powerStateEntry s entered) ∧
      (s.power.entering = false → s.aimGuard.targetFar = true → (∀ p, s.link p ≠ Link.UP) → Completes .powerStateEntry s entered) ∧
      (s.power.entering = false → s.aimGuard.targetFar = true → (∀ p, (s.port p).queue = []) →
        (∀ c, (s.ctx c).evmask.getLsbD Ev.PORT = false ∧ (s.ctx c).evpend &&& (s.ctx c).evmask = 0) →
        ∀ q, s.link q = Link.UP → Completes .powerStateEntry s fun t => t.power.entering = true ∧ t.power.below = 0 ∧ t.hfo = true ∧
          t.now = s.now + 3 * 104 ∧ (∀ p, s.link p = Link.UP → t.link p = Link.ASLEEP) ∧ s.coreKept t)) ∧
    (∀ temp : Int, (s.power.below = 2 ∨ s.power.below = 3) → Completes (.guardRecompute temp) s fun t =>
      s.cameTo t (s.power.guardSampled + ms 250) ∧ t.fld Reg.CLK_TEMP.MC = unsigned 32 temp ∧ t.power.target = s.earliest ∧
      (∀ te, s.earliest = some te → let g := t.fld Reg.CLK_GUARD.EFFECTIVE
        t.power.aim = some (te - us g) ∧ 160 ≤ g ∧ s.fld Reg.CLK_GMIN.US ≤ g ∧ t.fld Reg.CLK_GUARD.LEARNED ≤ g ∧
        (s.power.rackHeard = none → t.fld Reg.CLK_GUARD.LEARNED = 10000 ∧ t.flag Reg.CLK_ST.GSAT = true)) ∧
      t.ctxs = s.ctxs ∧ t.mem = s.mem) ∧
    (∀ (early : Fin 733) (a te : Nat), s.power.aim = some a → s.power.target = some te → (s.power.below = 2 ∨ s.power.below = 3) →
      Completes (.wakeTimerFire early) s fun t => s.cameToTick t (a - early.val) ∧ t.power.below = 0 ∧
        t.power.waking = true ∧ t.power.guardAt = some t.now ∧ t.bitOf Reg.CLK_WAKESRC.SRC 0 = true ∧
        t.fld Reg.CLK_ST.LAST = s.power.below ∧ t.ctxs = s.ctxs ∧ (s.power.below = 2 → t.mem = s.mem) ∧
        (s.power.below = 3 → ∀ x, t.byte x = if x < 0x10000 ∧ s.bitOf Reg.CLK_RETAIN.BANKS (x / 0x4000) = false then 0 else s.byte x)) ∧
    (s.hfo = false → s.power.below = 0 → s.boot.inReset = false → Completes .hfoStable s fun t => t.hfo = true ∧
      t.power.waking = false ∧ t.mem = s.mem ∧ (s.boot.refs = true → (∀ p, s.link p = Link.ASLEEP → t.link p = Link.RESUMING) ∧
        t.safe.running = (s.safe.running || s.hasSafety))) ∧
    (s.hfo = true → Completes .hfoStable s fun t => t = s) ∧
    (∀ dev : Int, -524288 ≤ dev → dev < 524288 → s.hfo = true →
      (s.flag Reg.RT_ST.LOCKED = true → Completes (.lfoRateMeasure dev) s fun t => s.cameTo t (s.power.lfoAt + 24000000) ∧
        t.flag Reg.CLK_LFOBIN.VALID (binOf s.temp) = true ∧ signed 20 (t.fld Reg.CLK_LFOBIN.RATE (binOf s.temp)) = dev ∧
        (∀ k, k ≠ binOf s.temp → t.fld Reg.CLK_LFOBIN.RATE k = s.fld Reg.CLK_LFOBIN.RATE k) ∧ t.ctxs = s.ctxs ∧ t.mem = s.mem) ∧
      (s.flag Reg.RT_ST.LOCKED = false → Completes (.lfoRateMeasure dev) s fun t => t = s))

/-- G + 160 µs after a guard wake still unanswered SEARCH begins: with HFO, ASLEEP ports resume and one WAKE goes out on each enabled
port that SEARCH names; without it they wait. Its end lies at least 10 ms and at most the greater of 10 ms and MAX seconds ahead. Its expiry makes the die LOST. A
LOST die's retry wakes it and searches 10 ms without a record. The relay sends one WAKE upstream after 400 µs without TIME and
ends after 50 ms, or there where a TIME has already gone back or the die is asleep again. (R414, R699, R700, R701, R702, R703) -/
def Obligations.SearchAndRelay : Prop :=
  ∀ (s : State), s.canonical = true →
    (∀ t0 : Nat, s.power.guardAt = some t0 → s.flag Reg.CLK_CFG.SRCH = true → s.power.below = 0 → Completes .searchEntry s fun t =>
      s.cameTo t (t0 + us (s.fld Reg.CLK_GUARD.EFFECTIVE + 160)) ∧ t.flag Reg.CLK_ST.SEARCH = true ∧ t.power.guardAt = none ∧
      (∃ e, t.power.searchEnd = some e ∧ t.now + ms 10 ≤ e ∧ e ≤ t.now + max (ms 10) (ms (1000 * max 1 (s.fld Reg.CLK_SRCHCFG.MAX)))) ∧
      (∀ p ∈ s.searchPorts, s.portOn p = true → if s.hfo then (t.port p).wakesSent = (s.port p).wakesSent + 1
        else (t.port p).wakePend = true ∧ (t.port p).wakesSent = (s.port p).wakesSent) ∧
      (s.hfo = true → ∀ p, s.link p = Link.ASLEEP → t.link p = Link.RESUMING) ∧ t.mem = s.mem) ∧
    (s.power.guardAt = none ∨ s.flag Reg.CLK_CFG.SRCH = false → Completes .searchEntry s fun t => t = s) ∧
    (∀ t0 : Nat, s.power.searchEnd = some t0 → Completes .searchExpired s fun t => s.cameTo t t0 ∧ t.flag Reg.CLK_ST.SEARCH = false ∧
      t.flag Reg.CLK_ST.LOST = true ∧ t.power.searchEnd = none ∧
      (s.power.lostSearch = false → t.power.retryAt = some (t.now + ms (1000 * max 1 (s.fld Reg.CLK_SRCHCFG.RETRY)))) ∧
      t.ctxs = s.ctxs ∧ t.mem = s.mem) ∧
    (∀ t0 : Nat, s.power.retryAt = some t0 → s.flag Reg.CLK_ST.LOST = true → s.flag Reg.CLK_ST.SEARCH = false →
      s.power.below < 4 → s.power.below ≠ 1 → Completes .lostRetry s fun t => s.cameTo t t0 ∧ t.power.below = 0 ∧
        t.flag Reg.CLK_ST.SEARCH = true ∧ t.power.searchEnd = some (t.now + ms 10) ∧ t.power.lostSearch = true ∧
        t.power.retryAt = some (t.now + ms (1000 * max 1 (s.fld Reg.CLK_SRCHCFG.RETRY))) ∧ t.bbx = s.bbx) ∧
    (∀ (p : Port) (t0 : Nat), s.power.relay = some (p, t0, false) → s.power.below = 0 → (∀ u, s.lastTime = some u → u < t0) →
      Completes .wakeRelay s fun t => s.cameTo t (t0 + us 400) ∧
      t.power.relay = (if s.power.relayed then none else some (p, t0, true)) ∧
      (∀ up, s.activeUp = some up → (s.link up = Link.ASLEEP ∨ s.link up = Link.DOWN) → s.portOn up = true → s.hfo = true →
        (t.port up).wakesSent = (s.port up).wakesSent + 1) ∧
      t.regs = s.regs ∧ t.ctxs = s.ctxs ∧ t.mem = s.mem) ∧
    (∀ (p : Port) (t0 : Nat), s.power.relay = some (p, t0, false) → s.power.below ≠ 0 → Completes .wakeRelay s fun t =>
      t.power.relay = none ∧ t.ports = s.ports ∧ t.regs = s.regs ∧ t.ctxs = s.ctxs ∧ t.mem = s.mem) ∧
    (∀ (p : Port) (t0 : Nat) (b : Bool), s.power.relay = some (p, t0, b) → Completes .relayHoldEnd s fun t => s.cameTo t (t0 + ms 50) ∧
      t.power.relay = none ∧ t.regs = s.regs ∧ t.ctxs = s.ctxs ∧ t.mem = s.mem)

/-- A sample, every millisecond or below DOZE four a second, sets each monitor bit beyond its threshold and clears it once back by the hysteresis; a bit that becomes set is latched
in CROSSED, raises MONITOR and wakes the die; none is taken in reset. The right key restarts the watchdog, any other makes it expire at once. At 75 % of
the timeout WARN is set and WDOG_WARN raised; at its end, or SLPMAX × 100 ms after a missed wake-timer target, the sequencer is
reset, with WDOG as demand source where the safety block is. The ledger, a millisecond or below DOZE 250 ms after its last
update at most, adds the charge of the work done since then, its fused costs at most those of Table 20-4 (log 36), and its energy, and
never wraps. (R706, R708,
R709, R710, R711, R712, R713) -/
def Obligations.MonitorsWatchdogLedger : Prop :=
  ∀ (s : State), s.canonical = true →
    let expired := fun (t : State) => t.power.wdOn = false ∧ t.boot.started = false ∧
      t.fld Reg.SYS_RSTCNT.SEQ = min 0xFFFF (s.fld Reg.SYS_RSTCNT.SEQ + 1) ∧ (s.hasSafety = true → bitAt t.dsrc Src.WDOG = true) ∧
      (∀ c, (t.ctx c).state = .idle ∨ (t.ctx c).state = .parked) ∧ (∀ c, (t.ctx c).x = (s.ctx c).x)
    (∀ (temp : Int) (v : Nat), s.power.below = 4 ∨ s.stillReset = true → Completes (.monitorSample temp v) s fun t => t = s) ∧
    (∀ (temp : Int) (v : Nat), s.power.below < 4 → s.stillReset = false → Completes (.monitorSample temp v) s fun t =>
      let hi := 1000 * signed 8 (s.fld Reg.CLK_MONCFG.THI)
      let lo := 1000 * signed 8 (s.fld Reg.CLK_MONCFG.TLO)
      let low := 10 * s.fld Reg.CLK_MONCFG.VLO
      let was := fun b => bitAt (s.fld Reg.CLK_MONST.NOW) b
      let is := fun b => bitAt (t.fld Reg.CLK_MONST.NOW) b
      s.cameTo t (s.power.monAt + if s.asleep then ms 250 else ms 1) ∧ t.fld Reg.CLK_TEMP.MC = unsigned 32 temp ∧
      is 0 = (decide (hi < temp) || (was 0 && decide (hi - 2000 < temp))) ∧
      is 1 = (decide (temp < lo) || (was 1 && decide (temp < lo + 2000))) ∧
      is 2 = (if s.asleep then was 2 else decide (v < low) || (was 2 && decide (v < low + 200))) ∧
      (∀ b < 3, is b = true → was b = false → bitAt (t.fld Reg.CLK_MONST.CROSSED) b = true ∧ (∀ c, t.rang c Ev.MONITOR) ∧ t.power.below < 2) ∧
      ((∀ b < 3, is b = true → was b = true) → t.ctxs = s.ctxs ∧ t.mem = s.mem ∧ t.power.below = s.power.below)) ∧
    (s.wdRuns = true →
      (Completes (.wdkick .host 0x6B1D) s fun t => t = { s with power := { s.power with wdAt := s.now } }) ∧
      (∀ key, key ≠ 0x6B1D → Completes (.wdkick .host key) s expired) ∧
      (s.power.below = 0 →
        (s.power.wdWarned ≠ some s.power.wdAt → Completes .wdogWarn s fun t => s.cameTo t (s.power.wdAt + 3 * s.wdTimeout / 4) ∧ t.flag Reg.CLK_WDST.WARN = true ∧ t.rang 0 Ev.WDOG_WARN ∧
          t.mem = s.mem) ∧
        (Completes .watchdogExpiry s fun t => s.cameTo t (s.power.wdAt + s.wdTimeout) ∧ expired t)) ∧
      (∀ te : Nat, s.power.target = some te → (s.power.below = 2 ∨ s.power.below = 3) → Completes .sleepLimitExpiry s fun t =>
        s.cameToTick t (te + ms (100 * max 1 (s.fld Reg.CLK_WDCFG.SLPMAX))) ∧ expired t ∧ t.power.below = 0 ∧
        t.bitOf Reg.CLK_WAKESRC.SRC 5 = true)) ∧
    (s.wdRuns = false → Completes .watchdogExpiry s fun t => t = s) ∧
    (∀ n : Nat,
     let due := s.power.ledgerAt + min n s.ledgerPeriod
     let u := s.reach due
     let nc := u.power.drawn / nanoCoulomb
     s.power.below ≠ 4 → nc * s.power.vstk % 1000 = 0 → Completes (.ledgerUpdate n) s fun t => s.cameTo t due ∧
      let q := fun (u : State) => u.fld Reg.CLK_QLED_LO.VALUE + 2 ^ 32 * u.fld Reg.CLK_QLED_HI.VALUE
      let e := fun (u : State) => u.fld Reg.CLK_ELED_LO.VALUE + 2 ^ 32 * u.fld Reg.CLK_ELED_HI.VALUE
      q t = min (q s + nc) (2 ^ 64 - 1) ∧ e t = min (e s + nc * s.power.vstk / 1000) (2 ^ 64 - 1) ∧
        t.power.drawn = u.power.drawn % nanoCoulomb ∧ t.ctxs = s.ctxs ∧ t.mem = s.mem)

/-- CS_N falling on an enabled port selects it and wakes the die. CMD and ADDR whose HCRC fails set HDRCRC, and an invalid CMD sets
OP: the transaction is discarded, counted and rung. With a good header and HFO: NOP answers STATUS; a READ in SRAM answers
STATUS, two zeros, the words, RSTAT OK with N and RCRC; its STATUS is that of before the writes it waits for, and which words may be LATE
is the model's to say (both log 26); outside the regions every word is zero, CODE is ADDR and ADDR is set;
without HFO CODE is ASLEEP; SREAD answers the first words of its stream and leaves it. A WRITE or SWRITE that passes Table 17-4
awaits its effect; a wrong WCRC sets CRC and nothing awaits. (R719, R722, R723, R724, R725, R726, R729, R731, R741, R742) -/
def Obligations.HostTransactions : Prop :=
  ∀ (s : State) (cmd addr : Word), s.canonical = true → s.flag Reg.HOST_CFG.EN = true →
    let n := cmd.toNat / 2 ^ 16 % 128
    let tag := cmd.toNat / 256 % 256
    let a := addr.toNat
    let rowOf := fun (rest : List Word) => [Instr.hostNop cmd addr, .hostRead cmd addr [], .hostWrite cmd addr rest, .hostSread cmd addr, .hostSwrite cmd addr rest]
    let kept := fun (t : State) => t.ctxs = s.ctxs ∧ t.mem = s.mem ∧ t.hostPort.waiting = s.hostPort.waiting ∧ t.hostPort.selected = true
    let discarded := fun (f : Fld) (t : State) => t.flag f = true ∧ t.fld Reg.HOST_DISC.COUNT = min (s.fld Reg.HOST_DISC.COUNT + 1) (2 ^ 32 - 1) ∧
      (∀ c, t.rang c Ev.HOST_ERR) ∧ t.hostPort.waiting = s.hostPort.waiting ∧ (∃ x, t.hostPort.trans = some x ∧ x.failed = true) ∧ s.coreKept t
    let answers := fun (data : List Word) (rstat : Nat) (t : State) => ∃ x, t.hostPort.trans = some x ∧ x.tag = tag ∧ x.words = n + 5 ∧
      x.sent = [s.statusWord, 0, 0] ++ data ++ [BitVec.ofNat 32 rstat, BitVec.ofNat 32 (wordsCrc ([cmd, addr] ++ data ++ [BitVec.ofNat 32 rstat]))]
    (s.hostPort.selected = false → Completes .hostSelect s fun t => t.hostPort.selected = true ∧ t.hostPort.trans = none ∧
      t.hostPort.waiting = s.hostPort.waiting ∧ t.power.entering = (s.power.entering && s.asleep) ∧
      ((s.power.below = 2 ∨ s.power.below = 3) → t.power.below = 0 ∧ t.bitOf Reg.CLK_WAKESRC.SRC 4 = true ∧ t.ctxs = s.ctxs) ∧
      (s.power.below < 2 → s.power.entering = false → t.regs = s.regs ∧ t.ctxs = s.ctxs ∧ t.mem = s.mem)) ∧
    (s.hostPort.selected = true → s.hostPort.trans = none → ∀ rest : List Word,
      (headerCrc cmd addr ≠ cmd.toNat % 256 → ∀ i ∈ rowOf rest, Completes i s (discarded Reg.HOST_ERR.HDRCRC)) ∧
      (headerCrc cmd addr = cmd.toNat % 256 →
        (cmdOp cmd = none → ∀ i ∈ rowOf rest, Completes i s (discarded Reg.HOST_ERR.OP)) ∧
        (cmdOp cmd = some .nop → Completes (.hostNop cmd addr) s fun t => kept t ∧ t.regs = s.regs ∧
          ∃ x, t.hostPort.trans = some x ∧ x.words = 2 ∧ x.sent = [s.statusWord, 0]) ∧
        (cmdOp cmd = some .read →
          (∀ late : List Nat, (∀ i < n, i ∈ late → s.mayBeLate (a + 4 * i) = false) → a % 4 = 0 → a + 4 * n ≤ 0x10000 → s.hfo = true →
            s.hostPort.waiting = [] → s.sfu.op = none → s.hostPort.mout = none → (∀ k, s.swapped k = none) → (∀ i < n, s.eccHit (a + 4 * i) = false) →
            Completes (.hostRead cmd addr late) s fun t => kept t ∧ t.regs = s.regs ∧
              answers ((List.range n).map fun i => s.word (a + 4 * i)) (2 ^ 16 * n) t) ∧
          (mayReadAt a n = true → s.hfo = true → Completes (.hostRead cmd addr []) s fun t =>
            ∃ x, t.hostPort.trans = some x ∧ x.sent.head? = some s.statusWord) ∧
          (mayReadAt a n = false → Completes (.hostRead cmd addr []) s fun t => discarded Reg.HOST_ERR.ADDR t ∧ answers (List.replicate n 0) 3 t) ∧
          (mayReadAt a n = true → s.hfo = false → Completes (.hostRead cmd addr []) s fun t => kept t ∧ t.regs = s.regs ∧ answers (List.replicate n 0) 2 t)) ∧
        (cmdOp cmd = some .sread → (∀ e, s.hostPort.mout = some e → s.now < e.2) →
          (s.mayDrain a = true → s.hfo = true → Completes (.hostSread cmd addr) s fun t => kept t ∧ t.regs = s.regs ∧ t.stream a = s.stream a ∧
            answers ((s.stream a).take n ++ List.replicate (n - (s.stream a).length) 0) (2 ^ 16 * min n (s.stream a).length) t) ∧
          (s.mayDrain a = false → Completes (.hostSread cmd addr) s fun t => discarded Reg.HOST_ERR.ADDR t ∧ answers (List.replicate n 0) 3 t)) ∧
        (∀ (data : List Word) (w : Word), data.length = n → s.hostPort.waiting.length < 2 →
          (cmdOp cmd = some .write → mayWriteAt a n = true →
            (w.toNat = wordsCrc (cmd :: addr :: data) → Completes (.hostWrite cmd addr (data ++ [w])) s fun t =>
              t.hostPort.waiting = s.hostPort.waiting ++ [⟨false, a, data⟩] ∧ t.regs = s.regs ∧ t.ctxs = s.ctxs ∧ t.mem = s.mem ∧
              ∃ x, t.hostPort.trans = some x ∧ x.committed = true) ∧
            (w.toNat ≠ wordsCrc (cmd :: addr :: data) → Completes (.hostWrite cmd addr (data ++ [w])) s (discarded Reg.HOST_ERR.CRC))) ∧
          (cmdOp cmd = some .write → mayWriteAt a n = false → Completes (.hostWrite cmd addr (data ++ [w])) s (discarded Reg.HOST_ERR.ADDR)) ∧
          (cmdOp cmd = some .swrite → s.mayFeed a = true → w.toNat = wordsCrc (cmd :: addr :: data) →
            ((s.stream a).length + s.promised a + n ≤ streamSize a → wholeMessages (a = 1) n data = true →
              Completes (.hostSwrite cmd addr (data ++ [w])) s fun t => t.hostPort.waiting = s.hostPort.waiting ++ [⟨true, a, data⟩] ∧
                t.regs = s.regs ∧ t.ctxs = s.ctxs ∧ t.mem = s.mem ∧ ∃ x, t.hostPort.trans = some x ∧ x.committed = true) ∧
            (streamSize a < (s.stream a).length + s.promised a + n →
              Completes (.hostSwrite cmd addr (data ++ [w])) s (discarded Reg.HOST_ERR.FULL)) ∧
            ((s.stream a).length + s.promised a + n ≤ streamSize a → wholeMessages (a = 1) n data = false →
              Completes (.hostSwrite cmd addr (data ++ [w])) s (discarded Reg.HOST_ERR.FORMAT))))))

/-- On the rise of CS_N: a committed write stands, counts in HOST_DONE and gives its TAG and LASTOK; a write cut short sets EDGES at
a word boundary or PARTIAL within a word, clears LASTOK and counts in HOST_DISC; more edges set TRAIL; a whole SREAD takes its
words from the stream, and a whole READ of HOST_BELLRD clears the code bits it returned, but not one that was LATE (R755; that it has no
effect at all is log 26's choice); a write discarded for OP gives its TAG and, nothing of it being committed, LASTOK 0 (log 26). A waiting write of a SRAM word takes
effect, and one to MSGIN or WININ is appended. MSGIN's first message enters MCTX's queue once that and the shared buffers have room (log
18), and WININ's ends its request.
HOST_BELLOUT of a context ORs its code into HOST_BELLRD and shows in HOST_ALERT; MOUT GO appends its message, sets FULL, or is discarded during a copy,
the bytes those that stand at GO (log 26). (R423, R728, R732, R733, R734, R735, R736, R744, R745, R748, R755) -/
def Obligations.HostEndingsAndStreams : Prop :=
  ∀ (s : State), s.canonical = true → s.flag Reg.HOST_CFG.EN = true →
    (∀ (x : Trans) (edges : Nat), s.hostPort.selected = true → s.hostPort.disable = false → s.hostPort.trans = some x → x.short = false → x.late = false →
      let gone := fun (t : State) => t.hostPort.selected = false ∧ t.hostPort.trans = none ∧ t.hostPort.waiting = s.hostPort.waiting ∧ t.mem = s.mem
      let more := fun (f : Fld) (t : State) => t.fld f = min (s.fld f + 1) (2 ^ 32 - 1)
      let cut := fun (t : State) => (if edges % 32 = 0 then t.flag Reg.HOST_ERR.EDGES = true else t.flag Reg.HOST_ERR.PARTIAL = true) ∧
        (∀ c, t.rang c Ev.HOST_ERR) ∧ more Reg.HOST_DISC.COUNT t
      ((x.op = .write ∨ x.op = .swrite) → x.failed = false → x.tag < 256 → Completes (.hostDeselect edges) s fun t => gone t ∧
        t.fld Reg.HOST_ST.LASTTAG = x.tag ∧ t.flag Reg.HOST_ST.LASTOK = x.committed ∧
        (x.committed = true → more Reg.HOST_DONE.COUNT t ∧ (32 * x.words < edges → t.flag Reg.HOST_ERR.TRAIL = true ∧ ∀ c, t.rang c Ev.HOST_ERR) ∧
          (edges ≤ 32 * x.words → t.ctxs = s.ctxs)) ∧
        (x.committed = false → cut t)) ∧
      (x.op = .sread → x.failed = false → 0 < x.taken →
        (edges = 32 * x.words → Completes (.hostDeselect edges) s fun t => gone t ∧ more Reg.HOST_DONE.COUNT t ∧
          (s.mayDrain x.stream = true → t.stream x.stream = (s.stream x.stream).drop x.taken) ∧ t.ctxs = s.ctxs) ∧
        (edges < 32 * x.words → Completes (.hostDeselect edges) s fun t => gone t ∧ cut t ∧ ∀ n, t.stream n = s.stream n)) ∧
      (∀ w : Word, x.op = .read → x.failed = false → x.rc = [(0xB020, w)] → x.hold = [] → x.ecc = [] →
        (edges = 32 * x.words → Completes (.hostDeselect edges) s fun t => gone t ∧ more Reg.HOST_DONE.COUNT t ∧ t.ctxs = s.ctxs ∧
          ∀ b < 17, (t.reg 0xB020).getLsbD b = ((s.reg 0xB020).getLsbD b && !w.getLsbD b)) ∧
        (edges < 32 * x.words → Completes (.hostDeselect edges) s fun t => gone t ∧ cut t ∧ t.reg 0xB020 = s.reg 0xB020))) ∧
    (∀ (x : Trans) (edges : Nat), s.hostPort.selected = true → s.hostPort.disable = false → s.hostPort.trans = some x →
      (x.op = .read → x.late = true → Completes (.hostDeselect edges) s fun t => t.fld Reg.HOST_DONE.COUNT = s.fld Reg.HOST_DONE.COUNT ∧
        t.reg 0xB020 = s.reg 0xB020 ∧ t.latches = s.latches ∧ t.hostPort.trans = none) ∧
      (x.op = .bad → x.badWrite = true → x.committed = false → x.tag < 256 → Completes (.hostDeselect edges) s fun t =>
        t.fld Reg.HOST_ST.LASTTAG = x.tag ∧ t.flag Reg.HOST_ST.LASTOK = false ∧ t.hostPort.trans = none ∧ t.ctxs = s.ctxs)) ∧
    (∀ (a : Nat) (w : Word) (rest : List HostWrite), s.hostPort.waiting = ⟨false, a, [w]⟩ :: rest → s.hfo = true → a % 4 = 0 → a < 0x10000 →
      s.hostPort.disable = false → Completes .hostWriteApply s fun t => t.hostPort.waiting = rest ∧ t.word a = w ∧
        (∀ x, x < a ∨ a + 4 ≤ x → t.byte x = s.byte x) ∧ t.regs = s.regs ∧ t.ctxs = s.ctxs) ∧
    (∀ (a : Nat) (l : List Word) (rest : List HostWrite), s.hostPort.waiting = ⟨true, a, l⟩ :: rest → s.hfo = true → (a = 1 ∨ a = 2) →
      s.hostPort.disable = false → Completes .hostWriteApply s fun t => t.hostPort.waiting = rest ∧ t.stream a = s.stream a ++ l ∧
        t.regs = s.regs ∧ t.ctxs = s.ctxs ∧ t.mem = s.mem) ∧
    (s.hfo = false → Completes .hostWriteApply s fun t => t = s) ∧
    (∀ (k : Nat) (b : List Byte) (rest : List Word), takeMessage s.hostPort.msgIn = some (k, b, rest) → s.hfo = true →
      let c : Cid := Fin.ofNat 8 (s.fld Reg.HOST_CFG.MCTX)
      ((s.ctx c).rx.length < 8 → s.buffersUsed < 32 → Completes .msginDeliver s fun t => t.hostPort.msgIn = rest ∧ (∀ d, t.rang d Ev.RX) ∧ t.regs = s.regs ∧
        t.mem = s.mem ∧ (∀ d, (t.ctx d).rx = (s.ctx d).rx ++ if d = c then [⟨s.msgFrame b, 0xFF⟩] else [])) ∧
      (8 ≤ (s.ctx c).rx.length ∨ 32 ≤ s.buffersUsed → Completes .msginDeliver s fun t => t = s)) ∧
    (∀ (k : Nat) (b : List Byte) (rest : List Word) (c : Cid) (r : Request) (x : Answer), takeMessage s.hostPort.winIn = some (k, b, rest) →
      s.hfo = true → fieldOf b 2 2 % 16 = c.val → (s.ctx c).req = some r → answerFits r b s.now = some x → Completes .wininAnswer s fun t =>
        t.hostPort.winIn = rest ∧ (t.ctx c).req = none ∧ (t.ctx c).slot = some (r, x) ∧ t.regs = s.regs ∧ t.mem = s.mem ∧
        (∀ d, (t.ctx d).x = (s.ctx d).x ∧ (t.ctx d).pc = (s.ctx d).pc)) ∧
    (∀ (code : BitVec 16)
      (c : Cid), Completes (.hostBellout (.ctx c) code) s fun t => t.fld Reg.HOST_BELLRD.CODE = Nat.lor (s.fld Reg.HOST_BELLRD.CODE) code.toNat ∧
        t.flag Reg.HOST_BELLRD.OVR = (s.flag Reg.HOST_BELLRD.OVR || s.fld Reg.HOST_BELLRD.CODE ≠ 0) ∧
        (code ≠ 0 → bitAt t.hostAlert 1 = true) ∧ t.ctxs = s.ctxs ∧ t.mem = s.mem) ∧
    (∀ v : Word, let n := v.toNat % 128
      let a := 4 * s.fld Reg.HOST_MOUT_ADDR.ADDR
      let fits := s.isManager = true ∧ n ≤ 64 ∧ a + n ≤ 0x10000 ∧ s.hostPort.msgOut.length + 1 + (n + 3) / 4 ≤ 128
      (∀ e, s.hostPort.mout = some e → s.now < e.2 → Completes (.hostMoutGo .host v) s fun t => t.hostPort = s.hostPort ∧
        t.ctxs = s.ctxs ∧ t.mem = s.mem) ∧
      (s.hostPort.mout = none → fits → Completes (.hostMoutGo .host v) s fun t => t.hostPort.msgOut = s.hostPort.msgOut ++ streamMessage (v.toNat / 256 % 256) (s.bytes a n) ∧
        t.ctxs = s.ctxs ∧ t.mem = s.mem) ∧
      (s.hostPort.mout = none → s.isManager = true → a + n ≤ 0x10000 → ¬ fits → Completes (.hostMoutGo .host v) s fun t => t.flag Reg.HOST_MOUT_CTL.FULL = true ∧ t.hostPort.msgOut = s.hostPort.msgOut ∧
        t.ctxs = s.ctxs ∧ t.mem = s.mem))

/-- POR, BROWNOUT, PIN and TAP while asserted, SHIP_WAKE in SHIP, SOFT with its key, and CLOCK beyond 15 %, enter a die reset: the
source is recorded, at bit code − 1 of CAUSES (log 31), and as PRIMARY when it is the only one; HFO is off, contexts are at reset, SRAM reads 0, NVM is kept where
nothing but the engine's commit was being written, but for the marker of a die in LOAD, which is clear; links are DOWN, rack time is
0, a commit in progress goes on except on POR; but for POR and SHIP_WAKE the ledger and the LFO bins are
kept and RSTCNT counts. The test-access port's instruction decides on TAP: BYPASS, IDCODE and SAMPLE/PRELOAD let the die run. A wrong key, and SHIP_WAKE outside SHIP, do nothing. 10 µs after the last source has ended the reset
ends. (R113, R686, R707, R767, R768, R769, R770, R776) -/
def Obligations.Resets : Prop :=
  ∀ (s : State), s.canonical = true → (∀ w, s.nvmQ.head? = some w → w.writer = .commit ∧ w.bytes = []) →
    let entered := fun (code : Nat) (t : State) => t.boot.inReset = true ∧ bitAt (t.fld Reg.SYS_RSTCAUSE.CAUSES) (code - 1) = true ∧
      (s.stillReset = false → t.fld Reg.SYS_RSTCAUSE.CAUSES = 2 ^ (code - 1) ∧ t.fld Reg.SYS_RSTCAUSE.PRIMARY = code) ∧ t.hfo = false ∧
      (∀ c, t.ctx c = Ctx.reset c) ∧ (∀ p, t.link p = Link.DOWN) ∧ t.rtime = 0 ∧ t.pending = s.pending ∧
      (∀ x, x < 0x10000 → t.byte x = 0) ∧ (code ≠ 1 ∨ s.bbx.commit = none → ∀ x, 0x10000 ≤ x → t.byte x =
        if (s.load.any fun l => !l.committed) = true ∧ 0x1001C200 ≤ x ∧ x < 0x1001C204 then 0 else s.byte x) ∧
      t.bbx.commit = (if code = 1 then none else s.bbx.commit) ∧
      (3 ≤ code → (∀ k < 4, t.reg (0x1050 + 4 * k) = s.reg (0x1050 + 4 * k)) ∧ (∀ k < 15, t.reg (0x1100 + 4 * k) = s.reg (0x1100 + 4 * k)) ∧
        (s.stillReset = false → t.fld Reg.SYS_RSTCNT.DIE = min 0xFFFF (s.fld Reg.SYS_RSTCNT.DIE + 1)))
    Completes (.porReset true) s (entered 1) ∧ Completes (.brownout true) s (entered 3) ∧ Completes (.pinReset true) s (entered 5) ∧
    (∀ i, tapRuns i = false → Completes (.tapReset i) s fun t => entered 6 t ∧ t.boot.tap = i) ∧ Completes (.softReset .host 0xD1E5) s (entered 7) ∧
    (∀ key, key ≠ 0xD1E5 → Completes (.softReset .host key) s fun t => t = s) ∧
    (s.power.below = 4 → Completes .shipWake s (entered 2)) ∧ (s.power.below ≠ 4 → Completes .shipWake s fun t => t = s) ∧
    (∀ dev : Int, s.hfo = true → (150 < dev.natAbs → Completes (.clockMonitor dev) s (entered 4)) ∧
      (dev.natAbs ≤ 60 → Completes (.clockMonitor dev) s fun t => t = s)) ∧
    (∀ i ∈ [(Instr.porReset false, 0), (.brownout false, 2), (.pinReset false, 4)],
      (s.boot.active = 2 ^ i.2 → Completes i.1 s fun t => t = { s with boot := { s.boot with active := 0, quietAt := s.now } }) ∧
      (bitAt s.boot.active i.2 = false → Completes i.1 s fun t => t = s)) ∧
    (∀ i, tapRuns i = true → let u : State := { s with boot := { s.boot with tap := i } }
      (s.boot.active = 2 ^ 5 → Completes (.tapReset i) s fun t => t = { u with boot := { u.boot with active := 0, quietAt := s.now } }) ∧
      (bitAt s.boot.active 5 = false → Completes (.tapReset i) s fun t => t = u)) ∧
    (s.boot.inReset = true → s.boot.active = 0 → Completes .resetEnd s fun t => s.cameTo t (s.boot.quietAt + us 10) ∧
      t.boot.inReset = false ∧ t.regs = s.regs ∧ t.mem = s.mem ∧ t.ctxs = s.ctxs) ∧
    (s.boot.active ≠ 0 → Completes .resetEnd s fun t => t = s)

/-- With HFO after a reset the fuses give UID, revision and MEAS_TREF; a wrong CRC repeats the load 100 ms later. Both straps read
alike give the role, and HOST_CFG.EN follows it; an open one is read again 100 ms later. The march sets SYS_BIST.SRAM and clears SRAM; the
reference check sets REF, starts the links of enabled AUTOSTART ports and the safety block. V5 follows V5IN with its hysteresis,
HOLDUP_OK and VHOLD follow VHOLD, COIL_OK follows VCOIL, and without it both high-side switches are off and both test-pulse outputs
low. A die whose fuses or straps are to be read again is still in reset, and the fuses hold what their first good load found (log
31). (R404, R761, R764,
R766, R772, R773, R774) -/
def Obligations.StartUpAndSupplies : Prop :=
  ∀ (s : State), s.canonical = true →
    (s.boot.inReset = false →
      (∀ (uid : BitVec 64) (rev : BitVec 8) (tref : BitVec 24), s.hfo = true → s.boot.fuses = false →
        (let f := s.boot.fused.getD (uid, rev, tref)
         Completes (.fuseLoadDone true uid rev tref) s fun t => s.cameTo t (s.boot.stepAt + us 100) ∧ t.boot.fuses = true ∧
          t.boot.held = false ∧ t.boot.fused = some f ∧
          t.fld Reg.SYS_UID_LO.UID + 2 ^ 32 * t.fld Reg.SYS_UID_HI.UID = f.1.toNat ∧ t.fld Reg.SYS_ID.REV = f.2.1.toNat ∧
          t.fld Reg.MEAS_TREF.VALUE = f.2.2.toNat ∧ t.ctxs = s.ctxs ∧ t.mem = s.mem) ∧
        (Completes (.fuseLoadDone false uid rev tref) s fun t => s.cameTo t (s.boot.stepAt + us 100) ∧ t.boot.fuses = false ∧
          t.stillReset = true ∧ t.boot.stepAt = s.boot.stepAt + ms 100 ∧ t.regs = s.regs ∧ t.ctxs = s.ctxs ∧ t.mem = s.mem)) ∧
      (s.boot.fuses = true → s.boot.straps = false →
        (∀ a b : Bool, Completes (.strapRead (some a) (some b)) s fun t => s.cameTo t (s.boot.stepAt + us 20) ∧ t.boot.straps = true ∧
          t.role = (if a then 1 else 0) + (if b then 2 else 0) ∧ t.flag Reg.HOST_CFG.EN = (a && b) ∧ t.mem = s.mem ∧ t.pending = s.pending) ∧
        (∀ x : Option Bool, ∀ i ∈ [Instr.strapRead none x, .strapRead x none], Completes i s fun t => s.cameTo t (s.boot.stepAt + us 20) ∧
          t.boot.straps = false ∧ t.stillReset = true ∧ t.boot.stepAt = s.boot.stepAt + ms 100 ∧ t.regs = s.regs ∧ t.ctxs = s.ctxs ∧ t.mem = s.mem)) ∧
      (∀ bad : BitVec 4, s.boot.straps = true → s.boot.march = false → Completes (.sramMarchDone bad) s fun t => s.cameTo t (s.boot.stepAt + 45056) ∧ t.boot.march = true ∧
        t.fld Reg.SYS_BIST.SRAM = bad.toNat ∧ (∀ x, t.byte x = if x < 0x10000 then 0 else s.byte x) ∧ t.ctxs = s.ctxs) ∧
      (∀ bad : Bool, s.boot.straps = true → s.boot.refs = false → Completes (.referenceCheckDone bad) s fun t => s.cameTo t (s.boot.stepAt + us 500) ∧ t.boot.refs = true ∧
        t.flag Reg.SYS_BIST.REF = bad ∧ t.safe.running = (s.safe.running || s.hasSafety) ∧ t.mem = s.mem ∧
        ∀ p ∈ allPorts, s.flag Reg.PORT_CTL.EN p = true → s.flag Reg.PORT_CTL.AUTOSTART p = true → t.link p = Link.RESET ∧ (t.port p).phase = .start)) ∧
    (∀ mv : Nat,
      (4400 ≤ mv → Completes (.supplySwitchover mv) s fun t => t.flag Reg.SYS_SUPPLY.V5 = true ∧ t.ctxs = s.ctxs ∧ t.mem = s.mem) ∧
      (mv < 4200 → Completes (.supplySwitchover mv) s fun t => t.flag Reg.SYS_SUPPLY.V5 = false ∧ t.ctxs = s.ctxs ∧ t.mem = s.mem) ∧
      (4200 ≤ mv → mv < 4400 → Completes (.supplySwitchover mv) s fun t => t = s) ∧
      Completes (.holdupOkChange mv) s fun t => t.flag Reg.BBX_STAT.HOLDUP_OK = decide (7000 ≤ mv) ∧
        t.fld Reg.SYS_SUPPLY.VHOLD = min (mv / 10) 4095 ∧ t.ctxs = s.ctxs ∧ t.mem = s.mem) ∧
    (Completes .vcoilLow s fun t => t.flag Reg.SYS_SUPPLY.COIL_OK = false ∧ t.flag Reg.SAFE_CONST.HSA = false ∧
      t.flag Reg.SAFE_CONST.HSB = false ∧ t.safe.pulseA = true ∧ t.safe.pulseB = true ∧ s.coreKept t) ∧
    (Completes .vcoilReturn s fun t => t.flag Reg.SYS_SUPPLY.COIL_OK = true ∧ (s.allOff = true → t.flag Reg.SAFE_CONST.HSA = false) ∧
      (bitAt s.dsrc Src.TPO = false → t.safe.pulseA = (!s.safe.running && s.safe.pulseA) ∧
        t.safe.pulseB = (!s.safe.running && s.safe.pulseB)) ∧ s.coreKept t)

/-- A host write to HOST_BELL ORs its CODE into HOST_BELLIN and raises DOORBELL in every context; when HOST_BELLIN.CODE was not 0 it
also sets OVR. A write by any other master is discarded, and with the port disabled, as R24 has it for its page, the host's too: nothing
changes (what the page's selection is then, log 26). (R24, R747) -/
def Obligations.HostBell : Prop :=
  ∀ (s : State) (code : BitVec 16), s.canonical = true →
    (s.flag Reg.HOST_CFG.EN = false → Completes (.hostBell .host code) s fun t => t = s) ∧
    (s.flag Reg.HOST_CFG.EN = true → Completes (.hostBell .host code) s fun t => t.fld Reg.HOST_BELLIN.CODE = Nat.lor (s.fld Reg.HOST_BELLIN.CODE) code.toNat ∧
      t.flag Reg.HOST_BELLIN.OVR = (s.flag Reg.HOST_BELLIN.OVR || s.fld Reg.HOST_BELLIN.CODE ≠ 0) ∧ (∀ c, t.rang c Ev.DOORBELL) ∧
      s.coreKept t) ∧
    (∀ m : Master, m ≠ .host → Completes (.hostBell m code) s fun t => t = s)

/-- State.reset is canonical and its queue is empty; SYS_ID.PART is 0x2412, CLK_GMIN 160 µs, CLK_ST.UNLEARNED 1, PORT_CTL.EN and
AUTOSTART 1 on each port, HOST_ST.RSTSEEN 1; every link is DOWN, rack time 0 and no compare armed; each context is IDLE with X0
reading 0, CTXID its number, PRIV 1 for CTX0 alone and EVMASK, EVPEND and TVEC 0. (R12, R77, R288, R720) -/
def Obligations.ResetState : Prop :=
  State.reset.canonical = true ∧ State.reset.pending = [] ∧ State.reset.fld Reg.SYS_ID.PART = 0x2412 ∧ State.reset.fld Reg.CLK_GMIN.US = 160 ∧
    State.reset.flag Reg.CLK_ST.UNLEARNED = true ∧ State.reset.flag Reg.HOST_ST.RSTSEEN = true ∧ State.reset.rtime = 0 ∧
    (∀ p : Fin 4, State.reset.flag Reg.PORT_CTL.EN p = true ∧ State.reset.flag Reg.PORT_CTL.AUTOSTART p = true ∧
      State.reset.fld Reg.PORT_ST.STATE p = 0 ∧ State.reset.rtcArmed p = false) ∧
    (∀ c : Cid, (State.reset.ctx c).state = .idle ∧ (State.reset.ctx c).getX 0 = 0 ∧ bitsAt (State.reset.ctx c).status.toNat 8 3 = c.val ∧
      (State.reset.ctx c).status.getLsbD 11 = decide (c = 0) ∧ (State.reset.ctx c).evmask = 0 ∧ (State.reset.ctx c).evpend = 0 ∧
      (State.reset.ctx c).tvec = 0)

/-- From every state whose register, latch and memory maps list strictly rising keys and no entry at its default, a step that
answers a next state leads to such a state. The canonical form is the model's own representation (log 2). (R12, R89) -/
def Obligations.CanonicalKept : Prop :=
  ∀ s t : State, s.canonical = true → Machine.step s = .next t → t.canonical = true

/-- From every state in which each receive queue holds at most 8 frames, at most two committed host writes wait, and each of the host
port's six streams, with the words promised to it, is within its size of Table 17-5 (LOADIN 64 words, MSGIN, WININ and MSGOUT 128,
LOADOUT 16, WINOUT 192), a step that answers a next state leads to such a state. (R423, R733, R745, R746) -/
def Obligations.QueuesBounded : Prop :=
  ∀ s t : State, s.queuesBounded = true → Machine.step s = .next t → t.queuesBounded = true

/-- For every command and every state exec answers a next state, with the queue of commands as it was: no command of the table faults or
is refused, each having an effect, if only to be discarded. No rule says so: this is the model's own design (log 3). (95_what_each_step_holds.md) -/
def Obligations.CommandsComplete : Prop :=
  ∀ (i : Instr) (s : State), Completes i s fun t => t.pending = s.pending

/-- For every command and every word: the word encodes the command exactly when the word decodes to it; and the 59 Basvo instructions have
a word with every value of every field, no other command has one. (R119, R121) -/
def Obligations.WordsRoundTrip : Prop :=
  (∀ (i : Instr) (w : Word), encodeWord i = some w ↔ decodeWord w = some i) ∧ ∀ i : Instr, (encodeWord i).isSome = isBasvo i

/-- 0x44D0_3FF8 is ADDI X3, X4, −8; 0x8C14_3FFD is BNE X5, X0 with off14 0x3FFD; 0xCDD8_0001 is MEAS X7, X6, sel 1; 0x0488_C000 is
ADD X2, X2, X3; an opcode 0x00 or 0x3F is no instruction; HCRC over 20 02 07 40 00 B0 08 is 0xA3. (R119, R121, R722) -/
def Obligations.WordsDecode : Prop :=
  decodeWord 0x44D03FF8 = some (.addi 3 4 0 0x3FF8) ∧ decodeWord 0x8C143FFD = some (.bne 0 5 0 0x3FFD) ∧
    decodeWord 0xCDD80001 = some (.meas 7 6 0 1) ∧ decodeWord 0x0488C000 = some (.add 2 2 3 0) ∧ decodeWord 0 = none ∧
    decodeWord 0xFC000000 = none ∧ headerCrc 0x200207A3 0x4000B008 = 0xA3

/-- Every command of a link's start, loss and control and of its lifeline completes where its rule lets it act, and what the port's
link, phase or lifeline then is: LINK_START, LINK_HOLD_END, RST_END, PRESENCE_WINDOW_END, TRAINING_TX_START, TRAINING_TIMEOUT,
LINK_RETRY_PAUSE_END, LINK_AUTOSTART_RETRY, LINK_SILENCE, FAR_END_HOLD, PORT_RESUME, RESUMING_TIMEOUT, RESPONDER_WAIT_TIMEOUT,
PORT_CTL_START, PORT_CTL_WAKE, PORT_CTL_EN_WRITE, LIFELINE_WAKE, LIFELINE_ALARM, LIFELINE_NOISE, ALARM_REPEAT, ALARM_GIVE_UP.
(R367, R404, R405, R407, R408, R409, R410, R411, R415, R416, R417, R825) -/
def Obligations.LinkCommandsComplete : Prop :=
  ∀ (s : State) (p : Port) (q : Fin 4) (quiet : Bool), s.canonical = true →
    let starts := fun (t : State) (r : Port) => t.link r = Link.RESET ∧ (t.port r).phase = .start ∧ (t.port r).initiator = true
    ((s.port p).phase = .start → s.hfo = true → ∃ t, exec (.linkStart p quiet) s = .next t ∧ (t.port p).phase = .hold) ∧
    ((s.port p).phase = .hold → ∃ t, exec (.linkHoldEnd p) s = .next t ∧ (t.port p).phase = .mark ∧ t.link p = Link.PRESENCE) ∧
    (s.portOn p = true → (s.port p).initiator = false → ∃ t, exec (.rstEnd p) s = .next t ∧ (t.port p).phase = .answering ∧
      t.link p = Link.RESET) ∧
    ((s.port p).phase = .mark → ∃ t, exec (.presenceWindowEnd p []) s = .next t ∧ t.flag Reg.PORT_ST.P_ABSENT p = true ∧
      t.link p = Link.DOWN) ∧
    ((s.port p).phase = .ready ∨ (s.port p).phase = .answering → ∃ t, exec (.trainingTxStart p) s = .next t ∧
      (t.port p).phase = .training ∧ t.link p = Link.TRAINING) ∧
    (s.link p = Link.TRAINING → ∃ t, exec (.trainingTimeout p) s = .next t ∧ t.link p = Link.DOWN) ∧
    ((s.port p).phase = .pausing → s.portOn p = true → ∃ t, exec (.linkRetryPauseEnd p) s = .next t ∧ starts t p) ∧
    ((s.port p).phase = .failed → s.autoStart p = true → s.portOn p = true → ∃ t, exec (.linkAutostartRetry p) s = .next t ∧
      starts t p ∧ t.fld Reg.PORT_ST.FAILS p = 0) ∧
    (s.link p = Link.UP → ∃ t, exec (.linkSilence p) s = .next t ∧ t.flag Reg.PORT_ST.LOST p = true ∧ t.link p = Link.RESET) ∧
    (s.portOn p = true → s.inPrimer p = false → s.link p = Link.UP → (s.port p).farSleep = false →
      ∃ t, exec (.farEndHold p) s = .next t ∧ t.flag Reg.PORT_ST.LOST p = true ∧ t.link p = Link.RESET) ∧
    (s.hfo = true → s.portOn p = true → s.link p = Link.ASLEEP → ∃ t, exec (.portResume p) s = .next t ∧ t.link p = Link.RESUMING) ∧
    (s.link p = Link.RESUMING → (s.port p).resumeTry ≠ 0 → s.portOn p = true → (p = xlink → s.isMgrA = true) →
      ∃ t, exec (.resumingTimeout p) s = .next t ∧ starts t p) ∧
    ((s.port p).phase = .observing → s.autoStart p = false → ∃ t, exec (.responderWaitTimeout p) s = .next t ∧ t.link p = Link.DOWN) ∧
    (s.portOn (portOf q) = true → ∃ t, exec (.portCtlStart .host q) s = .next t ∧ starts t (portOf q)) ∧
    (s.portOn (portOf q) = true → s.hfo = true → ∃ t, exec (.portCtlWake .host q) s = .next t ∧
      (t.port (portOf q)).wakesSent = (s.port (portOf q)).wakesSent + 1) ∧
    (s.flag Reg.PORT_CTL.EN (portOf q) = true → ∃ t, exec (.portCtlEnWrite .host q false) s = .next t ∧
      t.flag Reg.PORT_CTL.EN (portOf q) = false ∧ t.link (portOf q) = Link.DOWN) ∧
    (s.hears p = true → s.power.below ≠ 4 →
      (∃ t, exec (.lifelineWake p) s = .next t ∧ t.flag Reg.PORT_ST.LL_WAKE p = true ∧ ∀ c, t.rang c Ev.LIFELINE) ∧
      ∃ t, exec (.lifelineAlarm p) s = .next t ∧ t.flag Reg.PORT_ST.LL_ALARM p = true ∧ ∀ c, t.rang c Ev.LIFELINE) ∧
    (s.listens p = true → ∃ t, exec (.lifelineNoise p 1) s = .next t ∧
      t.fld Reg.PORT_LLNOISE.COUNT p = min (s.fld Reg.PORT_LLNOISE.COUNT p + 1) (2 ^ 32 - 1)) ∧
    (∀ t0, (s.port p).alarmUntil = some t0 →
      (s.hfo = true → s.portOn p = true → ∃ t, exec (.alarmRepeat p) s = .next t ∧
        (t.port p).alarmsSent = (s.port p).alarmsSent + 1) ∧
      ∃ t, exec (.alarmGiveUp p) s = .next t ∧ (t.port p).alarmUntil = none ∧ t.flag Reg.PORT_ST.ALARM_TX p = false)
end

