-- ==== Sys2Proof/Laws/Bits.lean ====
section
/-! SUPPORT. Bit fields: what reading a field gives after a field is replaced. -/

namespace Sys2Proof.Machine

theorem bitsAt_lt (n lo w : Nat) : bitsAt n lo w < 2 ^ w := Nat.mod_lt _ (Nat.two_pow_pos w)

theorem bitsAt_testBit (n lo w i : Nat) : (bitsAt n lo w).testBit i = (decide (i < w) && n.testBit (lo + i)) := by
  simp [bitsAt, Nat.testBit_mod_two_pow, Nat.testBit_div_two_pow, Nat.add_comm]

theorem withBits_testBit (n lo w v i : Nat) :
    (withBits n lo w v).testBit i = if i < lo then n.testBit i else if i < lo + w then v.testBit (i - lo) else n.testBit i := by
  have h1 : n % 2 ^ lo + (v % 2 ^ w) * 2 ^ lo < 2 ^ (lo + w) := by
    have a := Nat.mod_lt n (Nat.two_pow_pos lo)
    have b := Nat.mod_lt v (Nat.two_pow_pos w)
    have c : (v % 2 ^ w + 1) * 2 ^ lo ≤ 2 ^ w * 2 ^ lo := Nat.mul_le_mul_right _ b
    rw [Nat.pow_add]
    linarith [Nat.mul_comm (2 ^ lo) (2 ^ w)]
  have e : withBits n lo w v = 2 ^ (lo + w) * (n / 2 ^ (lo + w)) + (2 ^ lo * (v % 2 ^ w) + n % 2 ^ lo) := by
    unfold withBits; ring
  rw [e, Nat.testBit_two_pow_mul_add _ (by linarith [Nat.mul_comm (2 ^ lo) (v % 2 ^ w)])]
  rw [Nat.testBit_two_pow_mul_add _ (Nat.mod_lt _ (Nat.two_pow_pos lo))]
  by_cases a : i < lo
  · have : i < lo + w := by omega
    simp [a, this, Nat.testBit_mod_two_pow]
  · by_cases b : i < lo + w
    · have : i - lo < w := by omega
      simp [a, b, this, Nat.testBit_mod_two_pow]
    · simp [a, b, Nat.testBit_div_two_pow, Nat.sub_add_cancel (Nat.le_of_not_lt b)]

/-- The field just written reads the low bits of the value. -/
@[simp] theorem bitsAt_withBits_same (n lo w v : Nat) : bitsAt (withBits n lo w v) lo w = v % 2 ^ w := by
  apply Nat.eq_of_testBit_eq
  intro i
  rw [bitsAt_testBit, withBits_testBit, Nat.testBit_mod_two_pow]
  have h1 : ¬ lo + i < lo := by omega
  by_cases h : i < w
  · simp [h, h1]
  · simp [h]

/-- A field that does not meet the one written reads as before. -/
theorem bitsAt_withBits_other (n lo w v lo' w' : Nat) (h : lo' + w' ≤ lo ∨ lo + w ≤ lo') :
    bitsAt (withBits n lo w v) lo' w' = bitsAt n lo' w' := by
  apply Nat.eq_of_testBit_eq
  intro i
  rw [bitsAt_testBit, bitsAt_testBit, withBits_testBit]
  by_cases hi : i < w'
  · have : lo' + i < lo ∨ lo + w ≤ lo' + i := by omega
    rcases this with a | a
    · simp [a]
    · have h1 : ¬ lo' + i < lo := by omega
      have h2 : ¬ lo' + i < lo + w := by omega
      simp [h1, h2]
  · simp [hi]

/-- Cutting to 32 bits loses nothing of a field inside them. -/
@[simp] theorem bitsAt_word (n lo w : Nat) (h : lo + w ≤ 32) : bitsAt (BitVec.ofNat 32 n).toNat lo w = bitsAt n lo w := by
  apply Nat.eq_of_testBit_eq
  intro i
  rw [bitsAt_testBit, bitsAt_testBit, BitVec.toNat_ofNat, Nat.testBit_mod_two_pow]
  by_cases hi : i < w
  · have : lo + i < 32 := by omega
    simp [this]
  · simp [hi]

end Sys2Proof.Machine
end

