-- ==== Sys2Proof/Laws/Maps.lean ====
section
/-! SUPPORT. The sparse maps: what a write leaves at each key, and that it keeps the canonical form. -/

namespace Sys2Proof.Machine

variable {α : Type} [DecidableEq α] {d : Nat → α}

@[simp] theorem look_put_same (m : List (Nat × α)) (k : Nat) (v : α) (lo : Nat) (h : wfFrom d lo m = true) :
    look d (put d m k v) k = v := by
  induction m generalizing lo with
  | nil => unfold put; split <;> simp_all [look]
  | cons e t ih =>
    obtain ⟨j, u⟩ := e
    simp only [wfFrom, Bool.and_eq_true, decide_eq_true_eq] at h
    unfold put
    split
    · split
      · next hk hv =>
        subst hk
        cases t with
        | nil => simp [look, hv]
        | cons e t =>
          obtain ⟨i, w⟩ := e
          have := h.2
          simp only [wfFrom, Bool.and_eq_true, decide_eq_true_eq] at this
          have h1 : ¬ k = i := by omega
          have h2 : k < i := by omega
          simp [look, h1, h2, hv]
      · simp [look]
    · split
      · split <;> simp_all [look]
      · next h1 h2 => simp [look, h1, h2, ih _ h.2]

/-- A key below the map's reads its default. -/
theorem look_below (m : List (Nat × α)) (k lo : Nat) (h : wfFrom d lo m = true) (hk : k < lo) : look d m k = d k := by
  cases m with
  | nil => rfl
  | cons e t =>
    obtain ⟨j, u⟩ := e
    simp only [wfFrom, Bool.and_eq_true, decide_eq_true_eq] at h
    have h1 : ¬ k = j := by omega
    have h2 : k < j := by omega
    simp [look, h1, h2]

theorem look_put_other (m : List (Nat × α)) (k j : Nat) (v : α) (lo : Nat) (h : wfFrom d lo m = true) (hj : j ≠ k) :
    look d (put d m k v) j = look d m j := by
  induction m generalizing lo with
  | nil =>
    unfold put; split
    · rfl
    · simp only [look, hj, if_false]; split <;> rfl
  | cons e t ih =>
    obtain ⟨i, u⟩ := e
    simp only [wfFrom, Bool.and_eq_true, decide_eq_true_eq] at h
    unfold put
    split
    · next hk =>
      subst hk
      split
      · simp only [look, hj, if_false]
        split
        · exact look_below t j _ h.2 (by omega)
        · rfl
      · simp [look, hj]
    · split
      · split
        · rfl
        · next h2 _ =>
          by_cases a : j < k
          · have b : j < i := by omega
            have c : ¬ j = i := by omega
            simp [look, hj, a, b, c]
          · simp [look, hj, a]
      · simp only [look]; rw [ih _ h.2]

theorem wfFrom_mono (m : List (Nat × α)) {lo hi : Nat} (h : wfFrom d hi m = true) (hl : lo ≤ hi) : wfFrom d lo m = true := by
  cases m with
  | nil => rfl
  | cons e t => simp only [wfFrom, Bool.and_eq_true, decide_eq_true_eq] at *; exact ⟨⟨by omega, h.1.2⟩, h.2⟩

/-- A write keeps the canonical form. -/
theorem wfFrom_put (m : List (Nat × α)) (k : Nat) (v : α) (lo : Nat) (h : wfFrom d lo m = true) (hk : lo ≤ k) :
    wfFrom d lo (put d m k v) = true := by
  induction m generalizing lo with
  | nil => unfold put; split <;> simp_all [wfFrom]
  | cons e t ih =>
    obtain ⟨j, u⟩ := e
    simp only [wfFrom, Bool.and_eq_true, decide_eq_true_eq] at h
    unfold put
    split
    · next e =>
      subst e
      split
      · exact wfFrom_mono t h.2 (by omega)
      · simp_all [wfFrom]
    · split
      · split
        · simp_all [wfFrom]
        · simp only [wfFrom, Bool.and_eq_true, decide_eq_true_eq]
          exact ⟨⟨hk, by assumption⟩, ⟨⟨by omega, h.1.2⟩, h.2⟩⟩
      · simp only [wfFrom, Bool.and_eq_true, decide_eq_true_eq]
        exact ⟨h.1, ih (j + 1) h.2 (by omega)⟩

/-- Removing entries keeps the canonical form. -/
theorem wfFrom_filter (m : List (Nat × α)) (p : Nat × α → Bool) (lo : Nat) (h : wfFrom d lo m = true) :
    wfFrom d lo (m.filter p) = true := by
  induction m generalizing lo with
  | nil => rfl
  | cons e t ih =>
    obtain ⟨j, u⟩ := e
    simp only [wfFrom, Bool.and_eq_true, decide_eq_true_eq] at h
    rw [List.filter_cons]
    split
    · simp only [wfFrom, Bool.and_eq_true, decide_eq_true_eq]; exact ⟨h.1, ih _ h.2⟩
    · exact ih _ (wfFrom_mono t h.2 (by omega))

end Sys2Proof.Machine
end

