-- ==== Sys2Proof/Laws/State.lean ====
section
/-! SUPPORT. What each named update leaves of the state's other fields, and what reading gives after a write. -/

namespace Sys2Proof.Machine

variable (s : State)

/-! ## setReg -/

@[simp] theorem setReg_pending (k : Nat) (w : Word) : (s.setReg k w).pending = s.pending := rfl
@[simp] theorem setReg_now (k : Nat) (w : Word) : (s.setReg k w).now = s.now := rfl
@[simp] theorem setReg_free (k : Nat) (w : Word) : (s.setReg k w).free = s.free := rfl
@[simp] theorem setReg_rtime (k : Nat) (w : Word) : (s.setReg k w).rtime = s.rtime := rfl
@[simp] theorem setReg_rtHold (k : Nat) (w : Word) : (s.setReg k w).rtHold = s.rtHold := rfl
@[simp] theorem setReg_hfo (k : Nat) (w : Word) : (s.setReg k w).hfo = s.hfo := rfl
@[simp] theorem setReg_lastTime (k : Nat) (w : Word) : (s.setReg k w).lastTime = s.lastTime := rfl
@[simp] theorem setReg_latches (k : Nat) (w : Word) : (s.setReg k w).latches = s.latches := rfl
@[simp] theorem setReg_mem (k : Nat) (w : Word) : (s.setReg k w).mem = s.mem := rfl
@[simp] theorem setReg_eccBad (k : Nat) (w : Word) : (s.setReg k w).eccBad = s.eccBad := rfl
@[simp] theorem setReg_ctxs (k : Nat) (w : Word) : (s.setReg k w).ctxs = s.ctxs := rfl
@[simp] theorem setReg_holder (k : Nat) (w : Word) : (s.setReg k w).holder = s.holder := rfl
@[simp] theorem setReg_hostSel (k : Nat) (w : Word) : (s.setReg k w).hostSel = s.hostSel := rfl
@[simp] theorem setReg_servedSel (k : Nat) (w : Word) : (s.setReg k w).servedSel = s.servedSel := rfl
@[simp] theorem setReg_dma (k : Nat) (w : Word) : (s.setReg k w).dma = s.dma := rfl
@[simp] theorem setReg_serving (k : Nat) (w : Word) : (s.setReg k w).serving = s.serving := rfl
@[simp] theorem setReg_load (k : Nat) (w : Word) : (s.setReg k w).load = s.load := rfl
@[simp] theorem setReg_nvmQ (k : Nat) (w : Word) : (s.setReg k w).nvmQ = s.nvmQ := rfl
@[simp] theorem setReg_ports (k : Nat) (w : Word) : (s.setReg k w).ports = s.ports := rfl
@[simp] theorem setReg_trips (k : Nat) (w : Word) : (s.setReg k w).trips = s.trips := rfl
@[simp] theorem setReg_primSince (k : Nat) (w : Word) : (s.setReg k w).primSince = s.primSince := rfl
@[simp] theorem setReg_upFrom (k : Nat) (w : Word) : (s.setReg k w).upFrom = s.upFrom := rfl
@[simp] theorem setReg_struck (k : Nat) (w : Word) : (s.setReg k w).struck = s.struck := rfl
@[simp] theorem setReg_wrote (k : Nat) (w : Word) : (s.setReg k w).wrote = s.wrote := rfl
@[simp] theorem setReg_replyAt (k : Nat) (w : Word) : (s.setReg k w).replyAt = s.replyAt := rfl
@[simp] theorem setReg_bbx (k : Nat) (w : Word) : (s.setReg k w).bbx = s.bbx := rfl
@[simp] theorem setReg_meas (k : Nat) (w : Word) : (s.setReg k w).meas = s.meas := rfl
@[simp] theorem setReg_ladle (k : Nat) (w : Word) : (s.setReg k w).ladle = s.ladle := rfl
@[simp] theorem setReg_snap (k : Nat) (w : Word) : (s.setReg k w).snap = s.snap := rfl
@[simp] theorem setReg_power (k : Nat) (w : Word) : (s.setReg k w).power = s.power := rfl
@[simp] theorem setReg_safe (k : Nat) (w : Word) : (s.setReg k w).safe = s.safe := rfl
@[simp] theorem setReg_sfu (k : Nat) (w : Word) : (s.setReg k w).sfu = s.sfu := rfl
@[simp] theorem setReg_rack (k : Nat) (w : Word) : (s.setReg k w).rack = s.rack := rfl
@[simp] theorem setReg_hostPort (k : Nat) (w : Word) : (s.setReg k w).hostPort = s.hostPort := rfl
@[simp] theorem setReg_boot (k : Nat) (w : Word) : (s.setReg k w).boot = s.boot := rfl
@[simp] theorem setReg_lt (k : Nat) (w : Word) : (s.setReg k w).lt = s.lt := rfl
@[simp] theorem setReg_cvu (k : Nat) (w : Word) : (s.setReg k w).cvu = s.cvu := rfl

/-! ## setFld -/

@[simp] theorem setFld_pending (f : Fld) (v i : Nat) : (s.setFld f v i).pending = s.pending := rfl
@[simp] theorem setFld_now (f : Fld) (v i : Nat) : (s.setFld f v i).now = s.now := rfl
@[simp] theorem setFld_free (f : Fld) (v i : Nat) : (s.setFld f v i).free = s.free := rfl
@[simp] theorem setFld_rtime (f : Fld) (v i : Nat) : (s.setFld f v i).rtime = s.rtime := rfl
@[simp] theorem setFld_rtHold (f : Fld) (v i : Nat) : (s.setFld f v i).rtHold = s.rtHold := rfl
@[simp] theorem setFld_hfo (f : Fld) (v i : Nat) : (s.setFld f v i).hfo = s.hfo := rfl
@[simp] theorem setFld_lastTime (f : Fld) (v i : Nat) : (s.setFld f v i).lastTime = s.lastTime := rfl
@[simp] theorem setFld_latches (f : Fld) (v i : Nat) : (s.setFld f v i).latches = s.latches := rfl
@[simp] theorem setFld_mem (f : Fld) (v i : Nat) : (s.setFld f v i).mem = s.mem := rfl
@[simp] theorem setFld_eccBad (f : Fld) (v i : Nat) : (s.setFld f v i).eccBad = s.eccBad := rfl
@[simp] theorem setFld_ctxs (f : Fld) (v i : Nat) : (s.setFld f v i).ctxs = s.ctxs := rfl
@[simp] theorem setFld_holder (f : Fld) (v i : Nat) : (s.setFld f v i).holder = s.holder := rfl
@[simp] theorem setFld_hostSel (f : Fld) (v i : Nat) : (s.setFld f v i).hostSel = s.hostSel := rfl
@[simp] theorem setFld_servedSel (f : Fld) (v i : Nat) : (s.setFld f v i).servedSel = s.servedSel := rfl
@[simp] theorem setFld_dma (f : Fld) (v i : Nat) : (s.setFld f v i).dma = s.dma := rfl
@[simp] theorem setFld_serving (f : Fld) (v i : Nat) : (s.setFld f v i).serving = s.serving := rfl
@[simp] theorem setFld_load (f : Fld) (v i : Nat) : (s.setFld f v i).load = s.load := rfl
@[simp] theorem setFld_nvmQ (f : Fld) (v i : Nat) : (s.setFld f v i).nvmQ = s.nvmQ := rfl
@[simp] theorem setFld_ports (f : Fld) (v i : Nat) : (s.setFld f v i).ports = s.ports := rfl
@[simp] theorem setFld_trips (f : Fld) (v i : Nat) : (s.setFld f v i).trips = s.trips := rfl
@[simp] theorem setFld_primSince (f : Fld) (v i : Nat) : (s.setFld f v i).primSince = s.primSince := rfl
@[simp] theorem setFld_upFrom (f : Fld) (v i : Nat) : (s.setFld f v i).upFrom = s.upFrom := rfl
@[simp] theorem setFld_struck (f : Fld) (v i : Nat) : (s.setFld f v i).struck = s.struck := rfl
@[simp] theorem setFld_wrote (f : Fld) (v i : Nat) : (s.setFld f v i).wrote = s.wrote := rfl
@[simp] theorem setFld_replyAt (f : Fld) (v i : Nat) : (s.setFld f v i).replyAt = s.replyAt := rfl
@[simp] theorem setFld_bbx (f : Fld) (v i : Nat) : (s.setFld f v i).bbx = s.bbx := rfl
@[simp] theorem setFld_meas (f : Fld) (v i : Nat) : (s.setFld f v i).meas = s.meas := rfl
@[simp] theorem setFld_ladle (f : Fld) (v i : Nat) : (s.setFld f v i).ladle = s.ladle := rfl
@[simp] theorem setFld_snap (f : Fld) (v i : Nat) : (s.setFld f v i).snap = s.snap := rfl
@[simp] theorem setFld_power (f : Fld) (v i : Nat) : (s.setFld f v i).power = s.power := rfl
@[simp] theorem setFld_safe (f : Fld) (v i : Nat) : (s.setFld f v i).safe = s.safe := rfl
@[simp] theorem setFld_sfu (f : Fld) (v i : Nat) : (s.setFld f v i).sfu = s.sfu := rfl
@[simp] theorem setFld_rack (f : Fld) (v i : Nat) : (s.setFld f v i).rack = s.rack := rfl
@[simp] theorem setFld_hostPort (f : Fld) (v i : Nat) : (s.setFld f v i).hostPort = s.hostPort := rfl
@[simp] theorem setFld_boot (f : Fld) (v i : Nat) : (s.setFld f v i).boot = s.boot := rfl
@[simp] theorem setFld_lt (f : Fld) (v i : Nat) : (s.setFld f v i).lt = s.lt := rfl
@[simp] theorem setFld_cvu (f : Fld) (v i : Nat) : (s.setFld f v i).cvu = s.cvu := rfl

/-! ## setFlag -/

@[simp] theorem setFlag_pending (f : Fld) (b : Bool) (i : Nat) : (s.setFlag f b i).pending = s.pending := rfl
@[simp] theorem setFlag_now (f : Fld) (b : Bool) (i : Nat) : (s.setFlag f b i).now = s.now := rfl
@[simp] theorem setFlag_free (f : Fld) (b : Bool) (i : Nat) : (s.setFlag f b i).free = s.free := rfl
@[simp] theorem setFlag_rtime (f : Fld) (b : Bool) (i : Nat) : (s.setFlag f b i).rtime = s.rtime := rfl
@[simp] theorem setFlag_rtHold (f : Fld) (b : Bool) (i : Nat) : (s.setFlag f b i).rtHold = s.rtHold := rfl
@[simp] theorem setFlag_hfo (f : Fld) (b : Bool) (i : Nat) : (s.setFlag f b i).hfo = s.hfo := rfl
@[simp] theorem setFlag_lastTime (f : Fld) (b : Bool) (i : Nat) : (s.setFlag f b i).lastTime = s.lastTime := rfl
@[simp] theorem setFlag_latches (f : Fld) (b : Bool) (i : Nat) : (s.setFlag f b i).latches = s.latches := rfl
@[simp] theorem setFlag_mem (f : Fld) (b : Bool) (i : Nat) : (s.setFlag f b i).mem = s.mem := rfl
@[simp] theorem setFlag_eccBad (f : Fld) (b : Bool) (i : Nat) : (s.setFlag f b i).eccBad = s.eccBad := rfl
@[simp] theorem setFlag_ctxs (f : Fld) (b : Bool) (i : Nat) : (s.setFlag f b i).ctxs = s.ctxs := rfl
@[simp] theorem setFlag_holder (f : Fld) (b : Bool) (i : Nat) : (s.setFlag f b i).holder = s.holder := rfl
@[simp] theorem setFlag_hostSel (f : Fld) (b : Bool) (i : Nat) : (s.setFlag f b i).hostSel = s.hostSel := rfl
@[simp] theorem setFlag_servedSel (f : Fld) (b : Bool) (i : Nat) : (s.setFlag f b i).servedSel = s.servedSel := rfl
@[simp] theorem setFlag_dma (f : Fld) (b : Bool) (i : Nat) : (s.setFlag f b i).dma = s.dma := rfl
@[simp] theorem setFlag_serving (f : Fld) (b : Bool) (i : Nat) : (s.setFlag f b i).serving = s.serving := rfl
@[simp] theorem setFlag_load (f : Fld) (b : Bool) (i : Nat) : (s.setFlag f b i).load = s.load := rfl
@[simp] theorem setFlag_nvmQ (f : Fld) (b : Bool) (i : Nat) : (s.setFlag f b i).nvmQ = s.nvmQ := rfl
@[simp] theorem setFlag_ports (f : Fld) (b : Bool) (i : Nat) : (s.setFlag f b i).ports = s.ports := rfl
@[simp] theorem setFlag_trips (f : Fld) (b : Bool) (i : Nat) : (s.setFlag f b i).trips = s.trips := rfl
@[simp] theorem setFlag_primSince (f : Fld) (b : Bool) (i : Nat) : (s.setFlag f b i).primSince = s.primSince := rfl
@[simp] theorem setFlag_upFrom (f : Fld) (b : Bool) (i : Nat) : (s.setFlag f b i).upFrom = s.upFrom := rfl
@[simp] theorem setFlag_struck (f : Fld) (b : Bool) (i : Nat) : (s.setFlag f b i).struck =
    if b then noteIn s.struck s.now (f.base + f.stride * i) (BitVec.ofNat 32 (2 ^ f.lo)) else s.struck := rfl
@[simp] theorem setFlag_wrote (f : Fld) (b : Bool) (i : Nat) : (s.setFlag f b i).wrote = s.wrote := rfl
@[simp] theorem setFlag_replyAt (f : Fld) (b : Bool) (i : Nat) : (s.setFlag f b i).replyAt = s.replyAt := rfl
@[simp] theorem setFlag_bbx (f : Fld) (b : Bool) (i : Nat) : (s.setFlag f b i).bbx = s.bbx := rfl
@[simp] theorem setFlag_meas (f : Fld) (b : Bool) (i : Nat) : (s.setFlag f b i).meas = s.meas := rfl
@[simp] theorem setFlag_ladle (f : Fld) (b : Bool) (i : Nat) : (s.setFlag f b i).ladle = s.ladle := rfl
@[simp] theorem setFlag_snap (f : Fld) (b : Bool) (i : Nat) : (s.setFlag f b i).snap = s.snap := rfl
@[simp] theorem setFlag_power (f : Fld) (b : Bool) (i : Nat) : (s.setFlag f b i).power = s.power := rfl
@[simp] theorem setFlag_safe (f : Fld) (b : Bool) (i : Nat) : (s.setFlag f b i).safe = s.safe := rfl
@[simp] theorem setFlag_sfu (f : Fld) (b : Bool) (i : Nat) : (s.setFlag f b i).sfu = s.sfu := rfl
@[simp] theorem setFlag_rack (f : Fld) (b : Bool) (i : Nat) : (s.setFlag f b i).rack = s.rack := rfl
@[simp] theorem setFlag_hostPort (f : Fld) (b : Bool) (i : Nat) : (s.setFlag f b i).hostPort = s.hostPort := rfl
@[simp] theorem setFlag_boot (f : Fld) (b : Bool) (i : Nat) : (s.setFlag f b i).boot = s.boot := rfl
@[simp] theorem setFlag_lt (f : Fld) (b : Bool) (i : Nat) : (s.setFlag f b i).lt = s.lt := rfl
@[simp] theorem setFlag_cvu (f : Fld) (b : Bool) (i : Nat) : (s.setFlag f b i).cvu = s.cvu := rfl

/-! ## setBitOf -/

@[simp] theorem setBitOf_pending (f : Fld) (n : Nat) (b : Bool) (i : Nat) : (s.setBitOf f n b i).pending = s.pending := rfl
@[simp] theorem setBitOf_now (f : Fld) (n : Nat) (b : Bool) (i : Nat) : (s.setBitOf f n b i).now = s.now := rfl
@[simp] theorem setBitOf_free (f : Fld) (n : Nat) (b : Bool) (i : Nat) : (s.setBitOf f n b i).free = s.free := rfl
@[simp] theorem setBitOf_rtime (f : Fld) (n : Nat) (b : Bool) (i : Nat) : (s.setBitOf f n b i).rtime = s.rtime := rfl
@[simp] theorem setBitOf_rtHold (f : Fld) (n : Nat) (b : Bool) (i : Nat) : (s.setBitOf f n b i).rtHold = s.rtHold := rfl
@[simp] theorem setBitOf_hfo (f : Fld) (n : Nat) (b : Bool) (i : Nat) : (s.setBitOf f n b i).hfo = s.hfo := rfl
@[simp] theorem setBitOf_lastTime (f : Fld) (n : Nat) (b : Bool) (i : Nat) : (s.setBitOf f n b i).lastTime = s.lastTime := rfl
@[simp] theorem setBitOf_latches (f : Fld) (n : Nat) (b : Bool) (i : Nat) : (s.setBitOf f n b i).latches = s.latches := rfl
@[simp] theorem setBitOf_mem (f : Fld) (n : Nat) (b : Bool) (i : Nat) : (s.setBitOf f n b i).mem = s.mem := rfl
@[simp] theorem setBitOf_eccBad (f : Fld) (n : Nat) (b : Bool) (i : Nat) : (s.setBitOf f n b i).eccBad = s.eccBad := rfl
@[simp] theorem setBitOf_ctxs (f : Fld) (n : Nat) (b : Bool) (i : Nat) : (s.setBitOf f n b i).ctxs = s.ctxs := rfl
@[simp] theorem setBitOf_holder (f : Fld) (n : Nat) (b : Bool) (i : Nat) : (s.setBitOf f n b i).holder = s.holder := rfl
@[simp] theorem setBitOf_hostSel (f : Fld) (n : Nat) (b : Bool) (i : Nat) : (s.setBitOf f n b i).hostSel = s.hostSel := rfl
@[simp] theorem setBitOf_servedSel (f : Fld) (n : Nat) (b : Bool) (i : Nat) : (s.setBitOf f n b i).servedSel = s.servedSel := rfl
@[simp] theorem setBitOf_dma (f : Fld) (n : Nat) (b : Bool) (i : Nat) : (s.setBitOf f n b i).dma = s.dma := rfl
@[simp] theorem setBitOf_serving (f : Fld) (n : Nat) (b : Bool) (i : Nat) : (s.setBitOf f n b i).serving = s.serving := rfl
@[simp] theorem setBitOf_load (f : Fld) (n : Nat) (b : Bool) (i : Nat) : (s.setBitOf f n b i).load = s.load := rfl
@[simp] theorem setBitOf_nvmQ (f : Fld) (n : Nat) (b : Bool) (i : Nat) : (s.setBitOf f n b i).nvmQ = s.nvmQ := rfl
@[simp] theorem setBitOf_ports (f : Fld) (n : Nat) (b : Bool) (i : Nat) : (s.setBitOf f n b i).ports = s.ports := rfl
@[simp] theorem setBitOf_trips (f : Fld) (n : Nat) (b : Bool) (i : Nat) : (s.setBitOf f n b i).trips = s.trips := rfl
@[simp] theorem setBitOf_primSince (f : Fld) (n : Nat) (b : Bool) (i : Nat) : (s.setBitOf f n b i).primSince = s.primSince := rfl
@[simp] theorem setBitOf_upFrom (f : Fld) (n : Nat) (b : Bool) (i : Nat) : (s.setBitOf f n b i).upFrom = s.upFrom := rfl
@[simp] theorem setBitOf_struck (f : Fld) (n : Nat) (b : Bool) (i : Nat) : (s.setBitOf f n b i).struck =
    if b then noteIn s.struck s.now (f.base + f.stride * i) (BitVec.ofNat 32 (2 ^ (f.lo + n))) else s.struck := rfl
@[simp] theorem setBitOf_wrote (f : Fld) (n : Nat) (b : Bool) (i : Nat) : (s.setBitOf f n b i).wrote = s.wrote := rfl
@[simp] theorem setBitOf_replyAt (f : Fld) (n : Nat) (b : Bool) (i : Nat) : (s.setBitOf f n b i).replyAt = s.replyAt := rfl
@[simp] theorem setBitOf_bbx (f : Fld) (n : Nat) (b : Bool) (i : Nat) : (s.setBitOf f n b i).bbx = s.bbx := rfl
@[simp] theorem setBitOf_meas (f : Fld) (n : Nat) (b : Bool) (i : Nat) : (s.setBitOf f n b i).meas = s.meas := rfl
@[simp] theorem setBitOf_ladle (f : Fld) (n : Nat) (b : Bool) (i : Nat) : (s.setBitOf f n b i).ladle = s.ladle := rfl
@[simp] theorem setBitOf_snap (f : Fld) (n : Nat) (b : Bool) (i : Nat) : (s.setBitOf f n b i).snap = s.snap := rfl
@[simp] theorem setBitOf_power (f : Fld) (n : Nat) (b : Bool) (i : Nat) : (s.setBitOf f n b i).power = s.power := rfl
@[simp] theorem setBitOf_safe (f : Fld) (n : Nat) (b : Bool) (i : Nat) : (s.setBitOf f n b i).safe = s.safe := rfl
@[simp] theorem setBitOf_sfu (f : Fld) (n : Nat) (b : Bool) (i : Nat) : (s.setBitOf f n b i).sfu = s.sfu := rfl
@[simp] theorem setBitOf_rack (f : Fld) (n : Nat) (b : Bool) (i : Nat) : (s.setBitOf f n b i).rack = s.rack := rfl
@[simp] theorem setBitOf_hostPort (f : Fld) (n : Nat) (b : Bool) (i : Nat) : (s.setBitOf f n b i).hostPort = s.hostPort := rfl
@[simp] theorem setBitOf_boot (f : Fld) (n : Nat) (b : Bool) (i : Nat) : (s.setBitOf f n b i).boot = s.boot := rfl
@[simp] theorem setBitOf_lt (f : Fld) (n : Nat) (b : Bool) (i : Nat) : (s.setBitOf f n b i).lt = s.lt := rfl
@[simp] theorem setBitOf_cvu (f : Fld) (n : Nat) (b : Bool) (i : Nat) : (s.setBitOf f n b i).cvu = s.cvu := rfl

/-! ## countBy -/

@[simp] theorem countBy_pending (f : Fld) (n i : Nat) : (s.countBy f n i).pending = s.pending := rfl
@[simp] theorem countBy_now (f : Fld) (n i : Nat) : (s.countBy f n i).now = s.now := rfl
@[simp] theorem countBy_free (f : Fld) (n i : Nat) : (s.countBy f n i).free = s.free := rfl
@[simp] theorem countBy_rtime (f : Fld) (n i : Nat) : (s.countBy f n i).rtime = s.rtime := rfl
@[simp] theorem countBy_rtHold (f : Fld) (n i : Nat) : (s.countBy f n i).rtHold = s.rtHold := rfl
@[simp] theorem countBy_hfo (f : Fld) (n i : Nat) : (s.countBy f n i).hfo = s.hfo := rfl
@[simp] theorem countBy_lastTime (f : Fld) (n i : Nat) : (s.countBy f n i).lastTime = s.lastTime := rfl
@[simp] theorem countBy_latches (f : Fld) (n i : Nat) : (s.countBy f n i).latches = s.latches := rfl
@[simp] theorem countBy_mem (f : Fld) (n i : Nat) : (s.countBy f n i).mem = s.mem := rfl
@[simp] theorem countBy_eccBad (f : Fld) (n i : Nat) : (s.countBy f n i).eccBad = s.eccBad := rfl
@[simp] theorem countBy_ctxs (f : Fld) (n i : Nat) : (s.countBy f n i).ctxs = s.ctxs := rfl
@[simp] theorem countBy_holder (f : Fld) (n i : Nat) : (s.countBy f n i).holder = s.holder := rfl
@[simp] theorem countBy_hostSel (f : Fld) (n i : Nat) : (s.countBy f n i).hostSel = s.hostSel := rfl
@[simp] theorem countBy_servedSel (f : Fld) (n i : Nat) : (s.countBy f n i).servedSel = s.servedSel := rfl
@[simp] theorem countBy_dma (f : Fld) (n i : Nat) : (s.countBy f n i).dma = s.dma := rfl
@[simp] theorem countBy_serving (f : Fld) (n i : Nat) : (s.countBy f n i).serving = s.serving := rfl
@[simp] theorem countBy_load (f : Fld) (n i : Nat) : (s.countBy f n i).load = s.load := rfl
@[simp] theorem countBy_nvmQ (f : Fld) (n i : Nat) : (s.countBy f n i).nvmQ = s.nvmQ := rfl
@[simp] theorem countBy_ports (f : Fld) (n i : Nat) : (s.countBy f n i).ports = s.ports := rfl
@[simp] theorem countBy_trips (f : Fld) (n i : Nat) : (s.countBy f n i).trips = s.trips := rfl
@[simp] theorem countBy_primSince (f : Fld) (n i : Nat) : (s.countBy f n i).primSince = s.primSince := rfl
@[simp] theorem countBy_upFrom (f : Fld) (n i : Nat) : (s.countBy f n i).upFrom = s.upFrom := rfl
@[simp] theorem countBy_struck (f : Fld) (n i : Nat) : (s.countBy f n i).struck = s.struck := rfl
@[simp] theorem countBy_wrote (f : Fld) (n i : Nat) : (s.countBy f n i).wrote = s.wrote := rfl
@[simp] theorem countBy_replyAt (f : Fld) (n i : Nat) : (s.countBy f n i).replyAt = s.replyAt := rfl
@[simp] theorem countBy_bbx (f : Fld) (n i : Nat) : (s.countBy f n i).bbx = s.bbx := rfl
@[simp] theorem countBy_meas (f : Fld) (n i : Nat) : (s.countBy f n i).meas = s.meas := rfl
@[simp] theorem countBy_ladle (f : Fld) (n i : Nat) : (s.countBy f n i).ladle = s.ladle := rfl
@[simp] theorem countBy_snap (f : Fld) (n i : Nat) : (s.countBy f n i).snap = s.snap := rfl
@[simp] theorem countBy_power (f : Fld) (n i : Nat) : (s.countBy f n i).power = s.power := rfl
@[simp] theorem countBy_safe (f : Fld) (n i : Nat) : (s.countBy f n i).safe = s.safe := rfl
@[simp] theorem countBy_sfu (f : Fld) (n i : Nat) : (s.countBy f n i).sfu = s.sfu := rfl
@[simp] theorem countBy_rack (f : Fld) (n i : Nat) : (s.countBy f n i).rack = s.rack := rfl
@[simp] theorem countBy_hostPort (f : Fld) (n i : Nat) : (s.countBy f n i).hostPort = s.hostPort := rfl
@[simp] theorem countBy_boot (f : Fld) (n i : Nat) : (s.countBy f n i).boot = s.boot := rfl
@[simp] theorem countBy_lt (f : Fld) (n i : Nat) : (s.countBy f n i).lt = s.lt := rfl
@[simp] theorem countBy_cvu (f : Fld) (n i : Nat) : (s.countBy f n i).cvu = s.cvu := rfl

/-! ## count -/

@[simp] theorem count_pending (f : Fld) (i : Nat) : (s.count f i).pending = s.pending := rfl
@[simp] theorem count_now (f : Fld) (i : Nat) : (s.count f i).now = s.now := rfl
@[simp] theorem count_free (f : Fld) (i : Nat) : (s.count f i).free = s.free := rfl
@[simp] theorem count_rtime (f : Fld) (i : Nat) : (s.count f i).rtime = s.rtime := rfl
@[simp] theorem count_rtHold (f : Fld) (i : Nat) : (s.count f i).rtHold = s.rtHold := rfl
@[simp] theorem count_hfo (f : Fld) (i : Nat) : (s.count f i).hfo = s.hfo := rfl
@[simp] theorem count_lastTime (f : Fld) (i : Nat) : (s.count f i).lastTime = s.lastTime := rfl
@[simp] theorem count_latches (f : Fld) (i : Nat) : (s.count f i).latches = s.latches := rfl
@[simp] theorem count_mem (f : Fld) (i : Nat) : (s.count f i).mem = s.mem := rfl
@[simp] theorem count_eccBad (f : Fld) (i : Nat) : (s.count f i).eccBad = s.eccBad := rfl
@[simp] theorem count_ctxs (f : Fld) (i : Nat) : (s.count f i).ctxs = s.ctxs := rfl
@[simp] theorem count_holder (f : Fld) (i : Nat) : (s.count f i).holder = s.holder := rfl
@[simp] theorem count_hostSel (f : Fld) (i : Nat) : (s.count f i).hostSel = s.hostSel := rfl
@[simp] theorem count_servedSel (f : Fld) (i : Nat) : (s.count f i).servedSel = s.servedSel := rfl
@[simp] theorem count_dma (f : Fld) (i : Nat) : (s.count f i).dma = s.dma := rfl
@[simp] theorem count_serving (f : Fld) (i : Nat) : (s.count f i).serving = s.serving := rfl
@[simp] theorem count_load (f : Fld) (i : Nat) : (s.count f i).load = s.load := rfl
@[simp] theorem count_nvmQ (f : Fld) (i : Nat) : (s.count f i).nvmQ = s.nvmQ := rfl
@[simp] theorem count_ports (f : Fld) (i : Nat) : (s.count f i).ports = s.ports := rfl
@[simp] theorem count_trips (f : Fld) (i : Nat) : (s.count f i).trips = s.trips := rfl
@[simp] theorem count_primSince (f : Fld) (i : Nat) : (s.count f i).primSince = s.primSince := rfl
@[simp] theorem count_upFrom (f : Fld) (i : Nat) : (s.count f i).upFrom = s.upFrom := rfl
@[simp] theorem count_struck (f : Fld) (i : Nat) : (s.count f i).struck = s.struck := rfl
@[simp] theorem count_wrote (f : Fld) (i : Nat) : (s.count f i).wrote = s.wrote := rfl
@[simp] theorem count_replyAt (f : Fld) (i : Nat) : (s.count f i).replyAt = s.replyAt := rfl
@[simp] theorem count_bbx (f : Fld) (i : Nat) : (s.count f i).bbx = s.bbx := rfl
@[simp] theorem count_meas (f : Fld) (i : Nat) : (s.count f i).meas = s.meas := rfl
@[simp] theorem count_ladle (f : Fld) (i : Nat) : (s.count f i).ladle = s.ladle := rfl
@[simp] theorem count_snap (f : Fld) (i : Nat) : (s.count f i).snap = s.snap := rfl
@[simp] theorem count_power (f : Fld) (i : Nat) : (s.count f i).power = s.power := rfl
@[simp] theorem count_safe (f : Fld) (i : Nat) : (s.count f i).safe = s.safe := rfl
@[simp] theorem count_sfu (f : Fld) (i : Nat) : (s.count f i).sfu = s.sfu := rfl
@[simp] theorem count_rack (f : Fld) (i : Nat) : (s.count f i).rack = s.rack := rfl
@[simp] theorem count_hostPort (f : Fld) (i : Nat) : (s.count f i).hostPort = s.hostPort := rfl
@[simp] theorem count_boot (f : Fld) (i : Nat) : (s.count f i).boot = s.boot := rfl
@[simp] theorem count_lt (f : Fld) (i : Nat) : (s.count f i).lt = s.lt := rfl
@[simp] theorem count_cvu (f : Fld) (i : Nat) : (s.count f i).cvu = s.cvu := rfl

/-! ## setByte -/

@[simp] theorem setByte_pending (a : Nat) (b : Byte) : (s.setByte a b).pending = s.pending := rfl
@[simp] theorem setByte_now (a : Nat) (b : Byte) : (s.setByte a b).now = s.now := rfl
@[simp] theorem setByte_free (a : Nat) (b : Byte) : (s.setByte a b).free = s.free := rfl
@[simp] theorem setByte_rtime (a : Nat) (b : Byte) : (s.setByte a b).rtime = s.rtime := rfl
@[simp] theorem setByte_rtHold (a : Nat) (b : Byte) : (s.setByte a b).rtHold = s.rtHold := rfl
@[simp] theorem setByte_hfo (a : Nat) (b : Byte) : (s.setByte a b).hfo = s.hfo := rfl
@[simp] theorem setByte_lastTime (a : Nat) (b : Byte) : (s.setByte a b).lastTime = s.lastTime := rfl
@[simp] theorem setByte_regs (a : Nat) (b : Byte) : (s.setByte a b).regs = s.regs := rfl
@[simp] theorem setByte_latches (a : Nat) (b : Byte) : (s.setByte a b).latches = s.latches := rfl
@[simp] theorem setByte_eccBad (a : Nat) (b : Byte) : (s.setByte a b).eccBad = s.eccBad := rfl
@[simp] theorem setByte_ctxs (a : Nat) (b : Byte) : (s.setByte a b).ctxs = s.ctxs := rfl
@[simp] theorem setByte_holder (a : Nat) (b : Byte) : (s.setByte a b).holder = s.holder := rfl
@[simp] theorem setByte_hostSel (a : Nat) (b : Byte) : (s.setByte a b).hostSel = s.hostSel := rfl
@[simp] theorem setByte_servedSel (a : Nat) (b : Byte) : (s.setByte a b).servedSel = s.servedSel := rfl
@[simp] theorem setByte_dma (a : Nat) (b : Byte) : (s.setByte a b).dma = s.dma := rfl
@[simp] theorem setByte_serving (a : Nat) (b : Byte) : (s.setByte a b).serving = s.serving := rfl
@[simp] theorem setByte_load (a : Nat) (b : Byte) : (s.setByte a b).load = s.load := rfl
@[simp] theorem setByte_nvmQ (a : Nat) (b : Byte) : (s.setByte a b).nvmQ = s.nvmQ := rfl
@[simp] theorem setByte_ports (a : Nat) (b : Byte) : (s.setByte a b).ports = s.ports := rfl
@[simp] theorem setByte_trips (a : Nat) (b : Byte) : (s.setByte a b).trips = s.trips := rfl
@[simp] theorem setByte_primSince (a : Nat) (b : Byte) : (s.setByte a b).primSince = s.primSince := rfl
@[simp] theorem setByte_upFrom (a : Nat) (b : Byte) : (s.setByte a b).upFrom = s.upFrom := rfl
@[simp] theorem setByte_struck (a : Nat) (b : Byte) : (s.setByte a b).struck = s.struck := rfl
@[simp] theorem setByte_wrote (a : Nat) (b : Byte) : (s.setByte a b).wrote = s.wrote := rfl
@[simp] theorem setByte_replyAt (a : Nat) (b : Byte) : (s.setByte a b).replyAt = s.replyAt := rfl
@[simp] theorem setByte_bbx (a : Nat) (b : Byte) : (s.setByte a b).bbx = s.bbx := rfl
@[simp] theorem setByte_meas (a : Nat) (b : Byte) : (s.setByte a b).meas = s.meas := rfl
@[simp] theorem setByte_ladle (a : Nat) (b : Byte) : (s.setByte a b).ladle = s.ladle := rfl
@[simp] theorem setByte_snap (a : Nat) (b : Byte) : (s.setByte a b).snap = s.snap := rfl
@[simp] theorem setByte_power (a : Nat) (b : Byte) : (s.setByte a b).power = s.power := rfl
@[simp] theorem setByte_safe (a : Nat) (b : Byte) : (s.setByte a b).safe = s.safe := rfl
@[simp] theorem setByte_sfu (a : Nat) (b : Byte) : (s.setByte a b).sfu = s.sfu := rfl
@[simp] theorem setByte_rack (a : Nat) (b : Byte) : (s.setByte a b).rack = s.rack := rfl
@[simp] theorem setByte_hostPort (a : Nat) (b : Byte) : (s.setByte a b).hostPort = s.hostPort := rfl
@[simp] theorem setByte_boot (a : Nat) (b : Byte) : (s.setByte a b).boot = s.boot := rfl
@[simp] theorem setByte_lt (a : Nat) (b : Byte) : (s.setByte a b).lt = s.lt := rfl
@[simp] theorem setByte_cvu (a : Nat) (b : Byte) : (s.setByte a b).cvu = s.cvu := rfl

/-! ## setCtx -/

@[simp] theorem setCtx_pending (c : Cid) (v : Ctx) : (s.setCtx c v).pending = s.pending := rfl
@[simp] theorem setCtx_now (c : Cid) (v : Ctx) : (s.setCtx c v).now = s.now := rfl
@[simp] theorem setCtx_free (c : Cid) (v : Ctx) : (s.setCtx c v).free = s.free := rfl
@[simp] theorem setCtx_rtime (c : Cid) (v : Ctx) : (s.setCtx c v).rtime = s.rtime := rfl
@[simp] theorem setCtx_rtHold (c : Cid) (v : Ctx) : (s.setCtx c v).rtHold = s.rtHold := rfl
@[simp] theorem setCtx_hfo (c : Cid) (v : Ctx) : (s.setCtx c v).hfo = s.hfo := rfl
@[simp] theorem setCtx_lastTime (c : Cid) (v : Ctx) : (s.setCtx c v).lastTime = s.lastTime := rfl
@[simp] theorem setCtx_regs (c : Cid) (v : Ctx) : (s.setCtx c v).regs = s.regs := rfl
@[simp] theorem setCtx_latches (c : Cid) (v : Ctx) : (s.setCtx c v).latches = s.latches := rfl
@[simp] theorem setCtx_mem (c : Cid) (v : Ctx) : (s.setCtx c v).mem = s.mem := rfl
@[simp] theorem setCtx_eccBad (c : Cid) (v : Ctx) : (s.setCtx c v).eccBad = s.eccBad := rfl
@[simp] theorem setCtx_holder (c : Cid) (v : Ctx) : (s.setCtx c v).holder = s.holder := rfl
@[simp] theorem setCtx_hostSel (c : Cid) (v : Ctx) : (s.setCtx c v).hostSel = s.hostSel := rfl
@[simp] theorem setCtx_servedSel (c : Cid) (v : Ctx) : (s.setCtx c v).servedSel = s.servedSel := rfl
@[simp] theorem setCtx_dma (c : Cid) (v : Ctx) : (s.setCtx c v).dma = s.dma := rfl
@[simp] theorem setCtx_serving (c : Cid) (v : Ctx) : (s.setCtx c v).serving = s.serving := rfl
@[simp] theorem setCtx_load (c : Cid) (v : Ctx) : (s.setCtx c v).load = s.load := rfl
@[simp] theorem setCtx_nvmQ (c : Cid) (v : Ctx) : (s.setCtx c v).nvmQ = s.nvmQ := rfl
@[simp] theorem setCtx_ports (c : Cid) (v : Ctx) : (s.setCtx c v).ports = s.ports := rfl
@[simp] theorem setCtx_trips (c : Cid) (v : Ctx) : (s.setCtx c v).trips = s.trips := rfl
@[simp] theorem setCtx_primSince (c : Cid) (v : Ctx) : (s.setCtx c v).primSince = s.primSince := rfl
@[simp] theorem setCtx_upFrom (c : Cid) (v : Ctx) : (s.setCtx c v).upFrom = s.upFrom := rfl
@[simp] theorem setCtx_struck (c : Cid) (v : Ctx) : (s.setCtx c v).struck = s.struck := rfl
@[simp] theorem setCtx_wrote (c : Cid) (v : Ctx) : (s.setCtx c v).wrote = s.wrote := rfl
@[simp] theorem setCtx_replyAt (c : Cid) (v : Ctx) : (s.setCtx c v).replyAt = s.replyAt := rfl
@[simp] theorem setCtx_bbx (c : Cid) (v : Ctx) : (s.setCtx c v).bbx = s.bbx := rfl
@[simp] theorem setCtx_meas (c : Cid) (v : Ctx) : (s.setCtx c v).meas = s.meas := rfl
@[simp] theorem setCtx_ladle (c : Cid) (v : Ctx) : (s.setCtx c v).ladle = s.ladle := rfl
@[simp] theorem setCtx_snap (c : Cid) (v : Ctx) : (s.setCtx c v).snap = s.snap := rfl
@[simp] theorem setCtx_power (c : Cid) (v : Ctx) : (s.setCtx c v).power = s.power := rfl
@[simp] theorem setCtx_safe (c : Cid) (v : Ctx) : (s.setCtx c v).safe = s.safe := rfl
@[simp] theorem setCtx_sfu (c : Cid) (v : Ctx) : (s.setCtx c v).sfu = s.sfu := rfl
@[simp] theorem setCtx_rack (c : Cid) (v : Ctx) : (s.setCtx c v).rack = s.rack := rfl
@[simp] theorem setCtx_hostPort (c : Cid) (v : Ctx) : (s.setCtx c v).hostPort = s.hostPort := rfl
@[simp] theorem setCtx_boot (c : Cid) (v : Ctx) : (s.setCtx c v).boot = s.boot := rfl
@[simp] theorem setCtx_lt (c : Cid) (v : Ctx) : (s.setCtx c v).lt = s.lt := rfl
@[simp] theorem setCtx_cvu (c : Cid) (v : Ctx) : (s.setCtx c v).cvu = s.cvu := rfl

/-! ## modCtx -/

@[simp] theorem modCtx_pending (c : Cid) (f : Ctx → Ctx) : (s.modCtx c f).pending = s.pending := rfl
@[simp] theorem modCtx_now (c : Cid) (f : Ctx → Ctx) : (s.modCtx c f).now = s.now := rfl
@[simp] theorem modCtx_free (c : Cid) (f : Ctx → Ctx) : (s.modCtx c f).free = s.free := rfl
@[simp] theorem modCtx_rtime (c : Cid) (f : Ctx → Ctx) : (s.modCtx c f).rtime = s.rtime := rfl
@[simp] theorem modCtx_rtHold (c : Cid) (f : Ctx → Ctx) : (s.modCtx c f).rtHold = s.rtHold := rfl
@[simp] theorem modCtx_hfo (c : Cid) (f : Ctx → Ctx) : (s.modCtx c f).hfo = s.hfo := rfl
@[simp] theorem modCtx_lastTime (c : Cid) (f : Ctx → Ctx) : (s.modCtx c f).lastTime = s.lastTime := rfl
@[simp] theorem modCtx_regs (c : Cid) (f : Ctx → Ctx) : (s.modCtx c f).regs = s.regs := rfl
@[simp] theorem modCtx_latches (c : Cid) (f : Ctx → Ctx) : (s.modCtx c f).latches = s.latches := rfl
@[simp] theorem modCtx_mem (c : Cid) (f : Ctx → Ctx) : (s.modCtx c f).mem = s.mem := rfl
@[simp] theorem modCtx_eccBad (c : Cid) (f : Ctx → Ctx) : (s.modCtx c f).eccBad = s.eccBad := rfl
@[simp] theorem modCtx_holder (c : Cid) (f : Ctx → Ctx) : (s.modCtx c f).holder = s.holder := rfl
@[simp] theorem modCtx_hostSel (c : Cid) (f : Ctx → Ctx) : (s.modCtx c f).hostSel = s.hostSel := rfl
@[simp] theorem modCtx_servedSel (c : Cid) (f : Ctx → Ctx) : (s.modCtx c f).servedSel = s.servedSel := rfl
@[simp] theorem modCtx_dma (c : Cid) (f : Ctx → Ctx) : (s.modCtx c f).dma = s.dma := rfl
@[simp] theorem modCtx_serving (c : Cid) (f : Ctx → Ctx) : (s.modCtx c f).serving = s.serving := rfl
@[simp] theorem modCtx_load (c : Cid) (f : Ctx → Ctx) : (s.modCtx c f).load = s.load := rfl
@[simp] theorem modCtx_nvmQ (c : Cid) (f : Ctx → Ctx) : (s.modCtx c f).nvmQ = s.nvmQ := rfl
@[simp] theorem modCtx_ports (c : Cid) (f : Ctx → Ctx) : (s.modCtx c f).ports = s.ports := rfl
@[simp] theorem modCtx_trips (c : Cid) (f : Ctx → Ctx) : (s.modCtx c f).trips = s.trips := rfl
@[simp] theorem modCtx_primSince (c : Cid) (f : Ctx → Ctx) : (s.modCtx c f).primSince = s.primSince := rfl
@[simp] theorem modCtx_upFrom (c : Cid) (f : Ctx → Ctx) : (s.modCtx c f).upFrom = s.upFrom := rfl
@[simp] theorem modCtx_struck (c : Cid) (f : Ctx → Ctx) : (s.modCtx c f).struck = s.struck := rfl
@[simp] theorem modCtx_wrote (c : Cid) (f : Ctx → Ctx) : (s.modCtx c f).wrote = s.wrote := rfl
@[simp] theorem modCtx_replyAt (c : Cid) (f : Ctx → Ctx) : (s.modCtx c f).replyAt = s.replyAt := rfl
@[simp] theorem modCtx_bbx (c : Cid) (f : Ctx → Ctx) : (s.modCtx c f).bbx = s.bbx := rfl
@[simp] theorem modCtx_meas (c : Cid) (f : Ctx → Ctx) : (s.modCtx c f).meas = s.meas := rfl
@[simp] theorem modCtx_ladle (c : Cid) (f : Ctx → Ctx) : (s.modCtx c f).ladle = s.ladle := rfl
@[simp] theorem modCtx_snap (c : Cid) (f : Ctx → Ctx) : (s.modCtx c f).snap = s.snap := rfl
@[simp] theorem modCtx_power (c : Cid) (f : Ctx → Ctx) : (s.modCtx c f).power = s.power := rfl
@[simp] theorem modCtx_safe (c : Cid) (f : Ctx → Ctx) : (s.modCtx c f).safe = s.safe := rfl
@[simp] theorem modCtx_sfu (c : Cid) (f : Ctx → Ctx) : (s.modCtx c f).sfu = s.sfu := rfl
@[simp] theorem modCtx_rack (c : Cid) (f : Ctx → Ctx) : (s.modCtx c f).rack = s.rack := rfl
@[simp] theorem modCtx_hostPort (c : Cid) (f : Ctx → Ctx) : (s.modCtx c f).hostPort = s.hostPort := rfl
@[simp] theorem modCtx_boot (c : Cid) (f : Ctx → Ctx) : (s.modCtx c f).boot = s.boot := rfl
@[simp] theorem modCtx_lt (c : Cid) (f : Ctx → Ctx) : (s.modCtx c f).lt = s.lt := rfl
@[simp] theorem modCtx_cvu (c : Cid) (f : Ctx → Ctx) : (s.modCtx c f).cvu = s.cvu := rfl

/-! ## modAll -/

@[simp] theorem modAll_pending (f : Cid → Ctx → Ctx) : (s.modAll f).pending = s.pending := rfl
@[simp] theorem modAll_now (f : Cid → Ctx → Ctx) : (s.modAll f).now = s.now := rfl
@[simp] theorem modAll_free (f : Cid → Ctx → Ctx) : (s.modAll f).free = s.free := rfl
@[simp] theorem modAll_rtime (f : Cid → Ctx → Ctx) : (s.modAll f).rtime = s.rtime := rfl
@[simp] theorem modAll_rtHold (f : Cid → Ctx → Ctx) : (s.modAll f).rtHold = s.rtHold := rfl
@[simp] theorem modAll_hfo (f : Cid → Ctx → Ctx) : (s.modAll f).hfo = s.hfo := rfl
@[simp] theorem modAll_lastTime (f : Cid → Ctx → Ctx) : (s.modAll f).lastTime = s.lastTime := rfl
@[simp] theorem modAll_regs (f : Cid → Ctx → Ctx) : (s.modAll f).regs = s.regs := rfl
@[simp] theorem modAll_latches (f : Cid → Ctx → Ctx) : (s.modAll f).latches = s.latches := rfl
@[simp] theorem modAll_mem (f : Cid → Ctx → Ctx) : (s.modAll f).mem = s.mem := rfl
@[simp] theorem modAll_eccBad (f : Cid → Ctx → Ctx) : (s.modAll f).eccBad = s.eccBad := rfl
@[simp] theorem modAll_holder (f : Cid → Ctx → Ctx) : (s.modAll f).holder = s.holder := rfl
@[simp] theorem modAll_hostSel (f : Cid → Ctx → Ctx) : (s.modAll f).hostSel = s.hostSel := rfl
@[simp] theorem modAll_servedSel (f : Cid → Ctx → Ctx) : (s.modAll f).servedSel = s.servedSel := rfl
@[simp] theorem modAll_dma (f : Cid → Ctx → Ctx) : (s.modAll f).dma = s.dma := rfl
@[simp] theorem modAll_serving (f : Cid → Ctx → Ctx) : (s.modAll f).serving = s.serving := rfl
@[simp] theorem modAll_load (f : Cid → Ctx → Ctx) : (s.modAll f).load = s.load := rfl
@[simp] theorem modAll_nvmQ (f : Cid → Ctx → Ctx) : (s.modAll f).nvmQ = s.nvmQ := rfl
@[simp] theorem modAll_ports (f : Cid → Ctx → Ctx) : (s.modAll f).ports = s.ports := rfl
@[simp] theorem modAll_trips (f : Cid → Ctx → Ctx) : (s.modAll f).trips = s.trips := rfl
@[simp] theorem modAll_primSince (f : Cid → Ctx → Ctx) : (s.modAll f).primSince = s.primSince := rfl
@[simp] theorem modAll_upFrom (f : Cid → Ctx → Ctx) : (s.modAll f).upFrom = s.upFrom := rfl
@[simp] theorem modAll_struck (f : Cid → Ctx → Ctx) : (s.modAll f).struck = s.struck := rfl
@[simp] theorem modAll_wrote (f : Cid → Ctx → Ctx) : (s.modAll f).wrote = s.wrote := rfl
@[simp] theorem modAll_replyAt (f : Cid → Ctx → Ctx) : (s.modAll f).replyAt = s.replyAt := rfl
@[simp] theorem modAll_bbx (f : Cid → Ctx → Ctx) : (s.modAll f).bbx = s.bbx := rfl
@[simp] theorem modAll_meas (f : Cid → Ctx → Ctx) : (s.modAll f).meas = s.meas := rfl
@[simp] theorem modAll_ladle (f : Cid → Ctx → Ctx) : (s.modAll f).ladle = s.ladle := rfl
@[simp] theorem modAll_snap (f : Cid → Ctx → Ctx) : (s.modAll f).snap = s.snap := rfl
@[simp] theorem modAll_power (f : Cid → Ctx → Ctx) : (s.modAll f).power = s.power := rfl
@[simp] theorem modAll_safe (f : Cid → Ctx → Ctx) : (s.modAll f).safe = s.safe := rfl
@[simp] theorem modAll_sfu (f : Cid → Ctx → Ctx) : (s.modAll f).sfu = s.sfu := rfl
@[simp] theorem modAll_rack (f : Cid → Ctx → Ctx) : (s.modAll f).rack = s.rack := rfl
@[simp] theorem modAll_hostPort (f : Cid → Ctx → Ctx) : (s.modAll f).hostPort = s.hostPort := rfl
@[simp] theorem modAll_boot (f : Cid → Ctx → Ctx) : (s.modAll f).boot = s.boot := rfl
@[simp] theorem modAll_lt (f : Cid → Ctx → Ctx) : (s.modAll f).lt = s.lt := rfl
@[simp] theorem modAll_cvu (f : Cid → Ctx → Ctx) : (s.modAll f).cvu = s.cvu := rfl

/-! ## setPort -/

@[simp] theorem setPort_pending (p : Port) (v : PortSt) : (s.setPort p v).pending = s.pending := rfl
@[simp] theorem setPort_now (p : Port) (v : PortSt) : (s.setPort p v).now = s.now := rfl
@[simp] theorem setPort_free (p : Port) (v : PortSt) : (s.setPort p v).free = s.free := rfl
@[simp] theorem setPort_rtime (p : Port) (v : PortSt) : (s.setPort p v).rtime = s.rtime := rfl
@[simp] theorem setPort_rtHold (p : Port) (v : PortSt) : (s.setPort p v).rtHold = s.rtHold := rfl
@[simp] theorem setPort_hfo (p : Port) (v : PortSt) : (s.setPort p v).hfo = s.hfo := rfl
@[simp] theorem setPort_lastTime (p : Port) (v : PortSt) : (s.setPort p v).lastTime = s.lastTime := rfl
@[simp] theorem setPort_regs (p : Port) (v : PortSt) : (s.setPort p v).regs = s.regs := rfl
@[simp] theorem setPort_latches (p : Port) (v : PortSt) : (s.setPort p v).latches = s.latches := rfl
@[simp] theorem setPort_mem (p : Port) (v : PortSt) : (s.setPort p v).mem = s.mem := rfl
@[simp] theorem setPort_eccBad (p : Port) (v : PortSt) : (s.setPort p v).eccBad = s.eccBad := rfl
@[simp] theorem setPort_ctxs (p : Port) (v : PortSt) : (s.setPort p v).ctxs = s.ctxs := rfl
@[simp] theorem setPort_holder (p : Port) (v : PortSt) : (s.setPort p v).holder = s.holder := rfl
@[simp] theorem setPort_hostSel (p : Port) (v : PortSt) : (s.setPort p v).hostSel = s.hostSel := rfl
@[simp] theorem setPort_servedSel (p : Port) (v : PortSt) : (s.setPort p v).servedSel = s.servedSel := rfl
@[simp] theorem setPort_dma (p : Port) (v : PortSt) : (s.setPort p v).dma = s.dma := rfl
@[simp] theorem setPort_serving (p : Port) (v : PortSt) : (s.setPort p v).serving = s.serving := rfl
@[simp] theorem setPort_load (p : Port) (v : PortSt) : (s.setPort p v).load = s.load := rfl
@[simp] theorem setPort_nvmQ (p : Port) (v : PortSt) : (s.setPort p v).nvmQ = s.nvmQ := rfl
@[simp] theorem setPort_trips (p : Port) (v : PortSt) : (s.setPort p v).trips = s.trips := rfl
@[simp] theorem setPort_primSince (p : Port) (v : PortSt) : (s.setPort p v).primSince = s.primSince := rfl
@[simp] theorem setPort_upFrom (p : Port) (v : PortSt) : (s.setPort p v).upFrom = s.upFrom := rfl
@[simp] theorem setPort_struck (p : Port) (v : PortSt) : (s.setPort p v).struck = s.struck := rfl
@[simp] theorem setPort_wrote (p : Port) (v : PortSt) : (s.setPort p v).wrote = s.wrote := rfl
@[simp] theorem setPort_replyAt (p : Port) (v : PortSt) : (s.setPort p v).replyAt = s.replyAt := rfl
@[simp] theorem setPort_bbx (p : Port) (v : PortSt) : (s.setPort p v).bbx = s.bbx := rfl
@[simp] theorem setPort_meas (p : Port) (v : PortSt) : (s.setPort p v).meas = s.meas := rfl
@[simp] theorem setPort_ladle (p : Port) (v : PortSt) : (s.setPort p v).ladle = s.ladle := rfl
@[simp] theorem setPort_snap (p : Port) (v : PortSt) : (s.setPort p v).snap = s.snap := rfl
@[simp] theorem setPort_power (p : Port) (v : PortSt) : (s.setPort p v).power = s.power := rfl
@[simp] theorem setPort_safe (p : Port) (v : PortSt) : (s.setPort p v).safe = s.safe := rfl
@[simp] theorem setPort_sfu (p : Port) (v : PortSt) : (s.setPort p v).sfu = s.sfu := rfl
@[simp] theorem setPort_rack (p : Port) (v : PortSt) : (s.setPort p v).rack = s.rack := rfl
@[simp] theorem setPort_hostPort (p : Port) (v : PortSt) : (s.setPort p v).hostPort = s.hostPort := rfl
@[simp] theorem setPort_boot (p : Port) (v : PortSt) : (s.setPort p v).boot = s.boot := rfl
@[simp] theorem setPort_lt (p : Port) (v : PortSt) : (s.setPort p v).lt = s.lt := rfl
@[simp] theorem setPort_cvu (p : Port) (v : PortSt) : (s.setPort p v).cvu = s.cvu := rfl

/-! ## modPort -/

@[simp] theorem modPort_pending (p : Port) (f : PortSt → PortSt) : (s.modPort p f).pending = s.pending := rfl
@[simp] theorem modPort_now (p : Port) (f : PortSt → PortSt) : (s.modPort p f).now = s.now := rfl
@[simp] theorem modPort_free (p : Port) (f : PortSt → PortSt) : (s.modPort p f).free = s.free := rfl
@[simp] theorem modPort_rtime (p : Port) (f : PortSt → PortSt) : (s.modPort p f).rtime = s.rtime := rfl
@[simp] theorem modPort_rtHold (p : Port) (f : PortSt → PortSt) : (s.modPort p f).rtHold = s.rtHold := rfl
@[simp] theorem modPort_hfo (p : Port) (f : PortSt → PortSt) : (s.modPort p f).hfo = s.hfo := rfl
@[simp] theorem modPort_lastTime (p : Port) (f : PortSt → PortSt) : (s.modPort p f).lastTime = s.lastTime := rfl
@[simp] theorem modPort_regs (p : Port) (f : PortSt → PortSt) : (s.modPort p f).regs = s.regs := rfl
@[simp] theorem modPort_latches (p : Port) (f : PortSt → PortSt) : (s.modPort p f).latches = s.latches := rfl
@[simp] theorem modPort_mem (p : Port) (f : PortSt → PortSt) : (s.modPort p f).mem = s.mem := rfl
@[simp] theorem modPort_eccBad (p : Port) (f : PortSt → PortSt) : (s.modPort p f).eccBad = s.eccBad := rfl
@[simp] theorem modPort_ctxs (p : Port) (f : PortSt → PortSt) : (s.modPort p f).ctxs = s.ctxs := rfl
@[simp] theorem modPort_holder (p : Port) (f : PortSt → PortSt) : (s.modPort p f).holder = s.holder := rfl
@[simp] theorem modPort_hostSel (p : Port) (f : PortSt → PortSt) : (s.modPort p f).hostSel = s.hostSel := rfl
@[simp] theorem modPort_servedSel (p : Port) (f : PortSt → PortSt) : (s.modPort p f).servedSel = s.servedSel := rfl
@[simp] theorem modPort_dma (p : Port) (f : PortSt → PortSt) : (s.modPort p f).dma = s.dma := rfl
@[simp] theorem modPort_serving (p : Port) (f : PortSt → PortSt) : (s.modPort p f).serving = s.serving := rfl
@[simp] theorem modPort_load (p : Port) (f : PortSt → PortSt) : (s.modPort p f).load = s.load := rfl
@[simp] theorem modPort_nvmQ (p : Port) (f : PortSt → PortSt) : (s.modPort p f).nvmQ = s.nvmQ := rfl
@[simp] theorem modPort_trips (p : Port) (f : PortSt → PortSt) : (s.modPort p f).trips = s.trips := rfl
@[simp] theorem modPort_primSince (p : Port) (f : PortSt → PortSt) : (s.modPort p f).primSince = s.primSince := rfl
@[simp] theorem modPort_upFrom (p : Port) (f : PortSt → PortSt) : (s.modPort p f).upFrom = s.upFrom := rfl
@[simp] theorem modPort_struck (p : Port) (f : PortSt → PortSt) : (s.modPort p f).struck = s.struck := rfl
@[simp] theorem modPort_wrote (p : Port) (f : PortSt → PortSt) : (s.modPort p f).wrote = s.wrote := rfl
@[simp] theorem modPort_replyAt (p : Port) (f : PortSt → PortSt) : (s.modPort p f).replyAt = s.replyAt := rfl
@[simp] theorem modPort_bbx (p : Port) (f : PortSt → PortSt) : (s.modPort p f).bbx = s.bbx := rfl
@[simp] theorem modPort_meas (p : Port) (f : PortSt → PortSt) : (s.modPort p f).meas = s.meas := rfl
@[simp] theorem modPort_ladle (p : Port) (f : PortSt → PortSt) : (s.modPort p f).ladle = s.ladle := rfl
@[simp] theorem modPort_snap (p : Port) (f : PortSt → PortSt) : (s.modPort p f).snap = s.snap := rfl
@[simp] theorem modPort_power (p : Port) (f : PortSt → PortSt) : (s.modPort p f).power = s.power := rfl
@[simp] theorem modPort_safe (p : Port) (f : PortSt → PortSt) : (s.modPort p f).safe = s.safe := rfl
@[simp] theorem modPort_sfu (p : Port) (f : PortSt → PortSt) : (s.modPort p f).sfu = s.sfu := rfl
@[simp] theorem modPort_rack (p : Port) (f : PortSt → PortSt) : (s.modPort p f).rack = s.rack := rfl
@[simp] theorem modPort_hostPort (p : Port) (f : PortSt → PortSt) : (s.modPort p f).hostPort = s.hostPort := rfl
@[simp] theorem modPort_boot (p : Port) (f : PortSt → PortSt) : (s.modPort p f).boot = s.boot := rfl
@[simp] theorem modPort_lt (p : Port) (f : PortSt → PortSt) : (s.modPort p f).lt = s.lt := rfl
@[simp] theorem modPort_cvu (p : Port) (f : PortSt → PortSt) : (s.modPort p f).cvu = s.cvu := rfl

/-! ## setDma -/

@[simp] theorem setDma_pending (n : Fin 4) (v : DmaCh) : (s.setDma n v).pending = s.pending := rfl
@[simp] theorem setDma_now (n : Fin 4) (v : DmaCh) : (s.setDma n v).now = s.now := rfl
@[simp] theorem setDma_free (n : Fin 4) (v : DmaCh) : (s.setDma n v).free = s.free := rfl
@[simp] theorem setDma_rtime (n : Fin 4) (v : DmaCh) : (s.setDma n v).rtime = s.rtime := rfl
@[simp] theorem setDma_rtHold (n : Fin 4) (v : DmaCh) : (s.setDma n v).rtHold = s.rtHold := rfl
@[simp] theorem setDma_hfo (n : Fin 4) (v : DmaCh) : (s.setDma n v).hfo = s.hfo := rfl
@[simp] theorem setDma_lastTime (n : Fin 4) (v : DmaCh) : (s.setDma n v).lastTime = s.lastTime := rfl
@[simp] theorem setDma_regs (n : Fin 4) (v : DmaCh) : (s.setDma n v).regs = s.regs := rfl
@[simp] theorem setDma_latches (n : Fin 4) (v : DmaCh) : (s.setDma n v).latches = s.latches := rfl
@[simp] theorem setDma_mem (n : Fin 4) (v : DmaCh) : (s.setDma n v).mem = s.mem := rfl
@[simp] theorem setDma_eccBad (n : Fin 4) (v : DmaCh) : (s.setDma n v).eccBad = s.eccBad := rfl
@[simp] theorem setDma_ctxs (n : Fin 4) (v : DmaCh) : (s.setDma n v).ctxs = s.ctxs := rfl
@[simp] theorem setDma_holder (n : Fin 4) (v : DmaCh) : (s.setDma n v).holder = s.holder := rfl
@[simp] theorem setDma_hostSel (n : Fin 4) (v : DmaCh) : (s.setDma n v).hostSel = s.hostSel := rfl
@[simp] theorem setDma_servedSel (n : Fin 4) (v : DmaCh) : (s.setDma n v).servedSel = s.servedSel := rfl
@[simp] theorem setDma_serving (n : Fin 4) (v : DmaCh) : (s.setDma n v).serving = s.serving := rfl
@[simp] theorem setDma_load (n : Fin 4) (v : DmaCh) : (s.setDma n v).load = s.load := rfl
@[simp] theorem setDma_nvmQ (n : Fin 4) (v : DmaCh) : (s.setDma n v).nvmQ = s.nvmQ := rfl
@[simp] theorem setDma_ports (n : Fin 4) (v : DmaCh) : (s.setDma n v).ports = s.ports := rfl
@[simp] theorem setDma_trips (n : Fin 4) (v : DmaCh) : (s.setDma n v).trips = s.trips := rfl
@[simp] theorem setDma_primSince (n : Fin 4) (v : DmaCh) : (s.setDma n v).primSince = s.primSince := rfl
@[simp] theorem setDma_upFrom (n : Fin 4) (v : DmaCh) : (s.setDma n v).upFrom = s.upFrom := rfl
@[simp] theorem setDma_struck (n : Fin 4) (v : DmaCh) : (s.setDma n v).struck = s.struck := rfl
@[simp] theorem setDma_wrote (n : Fin 4) (v : DmaCh) : (s.setDma n v).wrote = s.wrote := rfl
@[simp] theorem setDma_replyAt (n : Fin 4) (v : DmaCh) : (s.setDma n v).replyAt = s.replyAt := rfl
@[simp] theorem setDma_bbx (n : Fin 4) (v : DmaCh) : (s.setDma n v).bbx = s.bbx := rfl
@[simp] theorem setDma_meas (n : Fin 4) (v : DmaCh) : (s.setDma n v).meas = s.meas := rfl
@[simp] theorem setDma_ladle (n : Fin 4) (v : DmaCh) : (s.setDma n v).ladle = s.ladle := rfl
@[simp] theorem setDma_snap (n : Fin 4) (v : DmaCh) : (s.setDma n v).snap = s.snap := rfl
@[simp] theorem setDma_power (n : Fin 4) (v : DmaCh) : (s.setDma n v).power = s.power := rfl
@[simp] theorem setDma_safe (n : Fin 4) (v : DmaCh) : (s.setDma n v).safe = s.safe := rfl
@[simp] theorem setDma_sfu (n : Fin 4) (v : DmaCh) : (s.setDma n v).sfu = s.sfu := rfl
@[simp] theorem setDma_rack (n : Fin 4) (v : DmaCh) : (s.setDma n v).rack = s.rack := rfl
@[simp] theorem setDma_hostPort (n : Fin 4) (v : DmaCh) : (s.setDma n v).hostPort = s.hostPort := rfl
@[simp] theorem setDma_boot (n : Fin 4) (v : DmaCh) : (s.setDma n v).boot = s.boot := rfl
@[simp] theorem setDma_lt (n : Fin 4) (v : DmaCh) : (s.setDma n v).lt = s.lt := rfl
@[simp] theorem setDma_cvu (n : Fin 4) (v : DmaCh) : (s.setDma n v).cvu = s.cvu := rfl

/-! ## advance -/

@[simp] theorem advance_pending (n : Nat) : (s.advance n).pending = s.pending := rfl
@[simp] theorem advance_hfo (n : Nat) : (s.advance n).hfo = s.hfo := rfl
@[simp] theorem advance_lastTime (n : Nat) : (s.advance n).lastTime = s.lastTime := rfl
@[simp] theorem advance_regs (n : Nat) : (s.advance n).regs = s.regs := rfl
@[simp] theorem advance_latches (n : Nat) : (s.advance n).latches = s.latches := rfl
@[simp] theorem advance_mem (n : Nat) : (s.advance n).mem = s.mem := rfl
@[simp] theorem advance_eccBad (n : Nat) : (s.advance n).eccBad = s.eccBad := rfl
@[simp] theorem advance_ctxs (n : Nat) : (s.advance n).ctxs = s.ctxs := rfl
@[simp] theorem advance_holder (n : Nat) : (s.advance n).holder = s.holder := rfl
@[simp] theorem advance_hostSel (n : Nat) : (s.advance n).hostSel = s.hostSel := rfl
@[simp] theorem advance_servedSel (n : Nat) : (s.advance n).servedSel = s.servedSel := rfl
@[simp] theorem advance_dma (n : Nat) : (s.advance n).dma = s.dma := rfl
@[simp] theorem advance_serving (n : Nat) : (s.advance n).serving = s.serving := rfl
@[simp] theorem advance_load (n : Nat) : (s.advance n).load = s.load := rfl
@[simp] theorem advance_nvmQ (n : Nat) : (s.advance n).nvmQ = s.nvmQ := rfl
@[simp] theorem advance_ports (n : Nat) : (s.advance n).ports = s.passPrimers n := rfl
@[simp] theorem passPrimers_idle (n : Nat) (h : s.primerRuns = false) : s.passPrimers n = s.ports := by
  simp [State.passPrimers, h]
@[simp] theorem advance_trips (n : Nat) : (s.advance n).trips = s.trips := rfl
@[simp] theorem advance_primSince (n : Nat) : (s.advance n).primSince = s.primSince := rfl
@[simp] theorem advance_upFrom (n : Nat) : (s.advance n).upFrom = s.upFrom := rfl
@[simp] theorem advance_struck (n : Nat) : (s.advance n).struck = s.struck := rfl
@[simp] theorem advance_wrote (n : Nat) : (s.advance n).wrote = s.wrote := rfl
@[simp] theorem advance_replyAt (n : Nat) : (s.advance n).replyAt = s.replyAt := rfl
@[simp] theorem advance_bbx (n : Nat) : (s.advance n).bbx = s.bbx := rfl
@[simp] theorem advance_snap (n : Nat) : (s.advance n).snap = s.snap := rfl
@[simp] theorem advance_safe (n : Nat) : (s.advance n).safe = s.safe := rfl
@[simp] theorem advance_sfu (n : Nat) : (s.advance n).sfu = s.sfu := rfl
@[simp] theorem advance_rack (n : Nat) : (s.advance n).rack = s.rack := rfl
@[simp] theorem advance_hostPort (n : Nat) : (s.advance n).hostPort = s.hostPort := rfl
@[simp] theorem advance_boot (n : Nat) : (s.advance n).boot = s.boot := rfl
@[simp] theorem advance_lt (n : Nat) : (s.advance n).lt = s.lt := rfl
@[simp] theorem advance_cvu (n : Nat) : (s.advance n).cvu = s.cvu := rfl

@[simp] theorem advance_now (n : Nat) : (s.advance n).now = s.now + n := rfl
@[simp] theorem advance_meas (n : Nat) : (s.advance n).meas = s.passMeas n := rfl
@[simp] theorem advance_ladle (n : Nat) : (s.advance n).ladle = s.passLadle n := rfl
@[simp] theorem advance_power (n : Nat) : (s.advance n).power = s.passPower n := rfl

/-- The clock is brought to `t`, never back. -/
theorem reach_now (t : Nat) : (s.reach t).now = max t s.now := by
  unfold State.reach
  split
  · omega
  · simp only [advance_now]; omega

/-- A time that has come changes nothing. -/
theorem reach_passed (t : Nat) (h : t ≤ s.now) : s.reach t = s := if_pos h

/-- What the passing of time leaves, reaching a time leaves. -/
theorem reach_keeps {α : Type} (f : State → α) (h : ∀ (u : State) (n : Nat), f (u.advance n) = f u) (t : Nat) :
    f (s.reach t) = f s := by
  unfold State.reach
  split
  · rfl
  · exact h _ _

/-- What the passing of time leaves, reaching a rack time leaves. -/
theorem reachTick_keeps {α : Type} (f : State → α) (h : ∀ (u : State) (n : Nat), f (u.advance n) = f u) (t : Nat) :
    f (s.reachTick t) = f s := by
  unfold State.reachTick
  split
  · rfl
  · exact h _ _

/-! ## draw -/

@[simp] theorem draw_pending : (s.draw.2).pending = s.pending := rfl
@[simp] theorem draw_now : (s.draw.2).now = s.now := rfl
@[simp] theorem draw_rtime : (s.draw.2).rtime = s.rtime := rfl
@[simp] theorem draw_rtHold : (s.draw.2).rtHold = s.rtHold := rfl
@[simp] theorem draw_hfo : (s.draw.2).hfo = s.hfo := rfl
@[simp] theorem draw_lastTime : (s.draw.2).lastTime = s.lastTime := rfl
@[simp] theorem draw_regs : (s.draw.2).regs = s.regs := rfl
@[simp] theorem draw_latches : (s.draw.2).latches = s.latches := rfl
@[simp] theorem draw_mem : (s.draw.2).mem = s.mem := rfl
@[simp] theorem draw_eccBad : (s.draw.2).eccBad = s.eccBad := rfl
@[simp] theorem draw_ctxs : (s.draw.2).ctxs = s.ctxs := rfl
@[simp] theorem draw_holder : (s.draw.2).holder = s.holder := rfl
@[simp] theorem draw_hostSel : (s.draw.2).hostSel = s.hostSel := rfl
@[simp] theorem draw_servedSel : (s.draw.2).servedSel = s.servedSel := rfl
@[simp] theorem draw_dma : (s.draw.2).dma = s.dma := rfl
@[simp] theorem draw_serving : (s.draw.2).serving = s.serving := rfl
@[simp] theorem draw_load : (s.draw.2).load = s.load := rfl
@[simp] theorem draw_nvmQ : (s.draw.2).nvmQ = s.nvmQ := rfl
@[simp] theorem draw_ports : (s.draw.2).ports = s.ports := rfl
@[simp] theorem draw_trips : (s.draw.2).trips = s.trips := rfl
@[simp] theorem draw_primSince : (s.draw.2).primSince = s.primSince := rfl
@[simp] theorem draw_upFrom : (s.draw.2).upFrom = s.upFrom := rfl
@[simp] theorem draw_struck : (s.draw.2).struck = s.struck := rfl
@[simp] theorem draw_wrote : (s.draw.2).wrote = s.wrote := rfl
@[simp] theorem draw_replyAt : (s.draw.2).replyAt = s.replyAt := rfl
@[simp] theorem draw_bbx : (s.draw.2).bbx = s.bbx := rfl
@[simp] theorem draw_meas : (s.draw.2).meas = s.meas := rfl
@[simp] theorem draw_ladle : (s.draw.2).ladle = s.ladle := rfl
@[simp] theorem draw_snap : (s.draw.2).snap = s.snap := rfl
@[simp] theorem draw_power : (s.draw.2).power = s.power := rfl
@[simp] theorem draw_safe : (s.draw.2).safe = s.safe := rfl
@[simp] theorem draw_sfu : (s.draw.2).sfu = s.sfu := rfl
@[simp] theorem draw_rack : (s.draw.2).rack = s.rack := rfl
@[simp] theorem draw_hostPort : (s.draw.2).hostPort = s.hostPort := rfl
@[simp] theorem draw_boot : (s.draw.2).boot = s.boot := rfl
@[simp] theorem draw_lt : (s.draw.2).lt = s.lt := rfl
@[simp] theorem draw_cvu : (s.draw.2).cvu = s.cvu := rfl

/-! ## raise -/

@[simp] theorem raise_pending (e : Nat) : (s.raise e).pending = s.pending := by unfold State.raise; split <;> rfl
@[simp] theorem raise_now (e : Nat) : (s.raise e).now = s.now := by unfold State.raise; split <;> rfl
@[simp] theorem raise_free (e : Nat) : (s.raise e).free = s.free := by unfold State.raise; split <;> rfl
@[simp] theorem raise_rtime (e : Nat) : (s.raise e).rtime = s.rtime := by unfold State.raise; split <;> rfl
@[simp] theorem raise_rtHold (e : Nat) : (s.raise e).rtHold = s.rtHold := by unfold State.raise; split <;> rfl
@[simp] theorem raise_hfo (e : Nat) : (s.raise e).hfo = s.hfo := by unfold State.raise; split <;> rfl
@[simp] theorem raise_lastTime (e : Nat) : (s.raise e).lastTime = s.lastTime := by unfold State.raise; split <;> rfl
@[simp] theorem raise_regs (e : Nat) : (s.raise e).regs = s.regs := by unfold State.raise; split <;> rfl
@[simp] theorem raise_latches (e : Nat) : (s.raise e).latches = s.latches := by unfold State.raise; split <;> rfl
@[simp] theorem raise_mem (e : Nat) : (s.raise e).mem = s.mem := by unfold State.raise; split <;> rfl
@[simp] theorem raise_eccBad (e : Nat) : (s.raise e).eccBad = s.eccBad := by unfold State.raise; split <;> rfl
@[simp] theorem raise_holder (e : Nat) : (s.raise e).holder = s.holder := by unfold State.raise; split <;> rfl
@[simp] theorem raise_hostSel (e : Nat) : (s.raise e).hostSel = s.hostSel := by unfold State.raise; split <;> rfl
@[simp] theorem raise_servedSel (e : Nat) : (s.raise e).servedSel = s.servedSel := by unfold State.raise; split <;> rfl
@[simp] theorem raise_dma (e : Nat) : (s.raise e).dma = s.dma := by unfold State.raise; split <;> rfl
@[simp] theorem raise_serving (e : Nat) : (s.raise e).serving = s.serving := by unfold State.raise; split <;> rfl
@[simp] theorem raise_load (e : Nat) : (s.raise e).load = s.load := by unfold State.raise; split <;> rfl
@[simp] theorem raise_nvmQ (e : Nat) : (s.raise e).nvmQ = s.nvmQ := by unfold State.raise; split <;> rfl
@[simp] theorem raise_ports (e : Nat) : (s.raise e).ports = s.ports := by unfold State.raise; split <;> rfl
@[simp] theorem raise_trips (e : Nat) : (s.raise e).trips = s.trips := by unfold State.raise; split <;> rfl
@[simp] theorem raise_primSince (e : Nat) : (s.raise e).primSince = s.primSince := by unfold State.raise; split <;> rfl
@[simp] theorem raise_upFrom (e : Nat) : (s.raise e).upFrom = s.upFrom := by unfold State.raise; split <;> rfl
@[simp] theorem raise_struck (e : Nat) : (s.raise e).struck = s.struck := by unfold State.raise; split <;> rfl
@[simp] theorem raise_wrote (e : Nat) : (s.raise e).wrote = s.wrote := by unfold State.raise; split <;> rfl
@[simp] theorem raise_replyAt (e : Nat) : (s.raise e).replyAt = s.replyAt := by unfold State.raise; split <;> rfl
@[simp] theorem raise_bbx (e : Nat) : (s.raise e).bbx = s.bbx := by unfold State.raise; split <;> rfl
@[simp] theorem raise_meas (e : Nat) : (s.raise e).meas = s.meas := by unfold State.raise; split <;> rfl
@[simp] theorem raise_ladle (e : Nat) : (s.raise e).ladle = s.ladle := by unfold State.raise; split <;> rfl
@[simp] theorem raise_snap (e : Nat) : (s.raise e).snap = s.snap := by unfold State.raise; split <;> rfl
@[simp] theorem raise_power (e : Nat) : (s.raise e).power = s.power := by unfold State.raise; split <;> rfl
@[simp] theorem raise_safe (e : Nat) : (s.raise e).safe = s.safe := by unfold State.raise; split <;> rfl
@[simp] theorem raise_sfu (e : Nat) : (s.raise e).sfu = s.sfu := by unfold State.raise; split <;> rfl
@[simp] theorem raise_rack (e : Nat) : (s.raise e).rack = s.rack := by unfold State.raise; split <;> rfl
@[simp] theorem raise_hostPort (e : Nat) : (s.raise e).hostPort = s.hostPort := by unfold State.raise; split <;> rfl
@[simp] theorem raise_boot (e : Nat) : (s.raise e).boot = s.boot := by unfold State.raise; split <;> rfl
@[simp] theorem raise_lt (e : Nat) : (s.raise e).lt = s.lt := by unfold State.raise; split <;> rfl
@[simp] theorem raise_cvu (e : Nat) : (s.raise e).cvu = s.cvu := by unfold State.raise; split <;> rfl

/-! ## Reading after writing -/

@[simp] theorem setReg_regs (k : Nat) (w : Word) : (s.setReg k w).regs = put regDefault s.regs k w := rfl

theorem reg_setReg_same (k : Nat) (w : Word) (h : wfFrom regDefault 0 s.regs = true) : (s.setReg k w).reg k = w :=
  look_put_same _ _ _ 0 h

theorem reg_setReg_other (k j : Nat) (w : Word) (h : wfFrom regDefault 0 s.regs = true) (hj : j ≠ k) :
    (s.setReg k w).reg j = s.reg j := look_put_other _ _ _ _ 0 h hj

/-- A field just written reads the value's low bits. -/
theorem fld_setFld_same (f : Fld) (v i : Nat) (h : wfFrom regDefault 0 s.regs = true) (hf : f.lo + f.width ≤ 32) :
    (s.setFld f v i).fld f i = v % 2 ^ f.width := by
  unfold State.fld State.setFld
  rw [reg_setReg_same _ _ _ h, bitsAt_word _ _ _ hf, bitsAt_withBits_same]

/-- A field of another register reads as before. -/
theorem fld_setFld_apart (f g : Fld) (v i j : Nat) (h : wfFrom regDefault 0 s.regs = true)
    (hk : g.base + g.stride * j ≠ f.base + f.stride * i) : (s.setFld f v i).fld g j = s.fld g j := by
  unfold State.fld State.setFld
  rw [reg_setReg_other _ _ _ _ h hk]

/-- Another field of the same register reads as before. -/
theorem fld_setFld_beside (f g : Fld) (v i j : Nat) (h : wfFrom regDefault 0 s.regs = true)
    (hk : g.base + g.stride * j = f.base + f.stride * i) (hg : g.lo + g.width ≤ 32)
    (ha : g.lo + g.width ≤ f.lo ∨ f.lo + f.width ≤ g.lo) : (s.setFld f v i).fld g j = s.fld g j := by
  unfold State.fld State.setFld
  rw [hk, reg_setReg_same _ _ _ h, bitsAt_word _ _ _ hg, bitsAt_withBits_other _ _ _ _ _ _ ha]

/-- The register map stays canonical. -/
theorem regs_wf_setReg (k : Nat) (w : Word) (h : wfFrom regDefault 0 s.regs = true) :
    wfFrom regDefault 0 (s.setReg k w).regs = true := wfFrom_put _ _ _ 0 h (Nat.zero_le k)

theorem regs_wf_setFld (f : Fld) (v i : Nat) (h : wfFrom regDefault 0 s.regs = true) :
    wfFrom regDefault 0 (s.setFld f v i).regs = true := regs_wf_setReg _ _ _ h

/-- Memory stays canonical. -/
theorem mem_wf_setByte (a : Nat) (b : Byte) (h : Memory.wf s.mem = true) : Memory.wf (s.setByte a b).mem = true :=
  wfFrom_put _ _ _ 0 h (Nat.zero_le a)

theorem mem_wf_setBytes (bs : List Byte) (a : Nat) (h : Memory.wf s.mem = true) : Memory.wf (s.setBytes a bs).mem = true := by
  induction bs generalizing s a with
  | nil => exact h
  | cons b t ih => exact ih _ _ (mem_wf_setByte s a b h)

theorem byte_setByte_same (a : Nat) (b : Byte) (h : Memory.wf s.mem = true) : (s.setByte a b).byte a = b :=
  look_put_same _ _ _ 0 h

theorem byte_setByte_other (a c : Nat) (b : Byte) (h : Memory.wf s.mem = true) (hc : c ≠ a) :
    (s.setByte a b).byte c = s.byte c := look_put_other _ _ _ _ 0 h hc

/-- A byte outside the range written reads as before. -/
theorem byte_setBytes_outside (bs : List Byte) (a c : Nat) (h : Memory.wf s.mem = true) (hc : c < a ∨ a + bs.length ≤ c) :
    (s.setBytes a bs).byte c = s.byte c := by
  induction bs generalizing s a with
  | nil => rfl
  | cons b t ih =>
    simp only [List.length_cons] at hc
    rw [State.setBytes, ih _ _ (mem_wf_setByte s a b h) (by omega), byte_setByte_other _ _ _ _ h (by omega)]

@[simp] theorem setBytes_regs (bs : List Byte) (a : Nat) : (s.setBytes a bs).regs = s.regs := by
  induction bs generalizing s a with
  | nil => rfl
  | cons b t ih => exact (ih _ _).trans rfl

@[simp] theorem setBytes_ctxs (bs : List Byte) (a : Nat) : (s.setBytes a bs).ctxs = s.ctxs := by
  induction bs generalizing s a with
  | nil => rfl
  | cons b t ih => exact (ih _ _).trans rfl

@[simp] theorem ctx_setCtx_same (c : Cid) (v : Ctx) : (s.setCtx c v).ctx c = v := by
  simp [State.ctx, State.setCtx]

theorem ctx_setCtx_other (c d : Cid) (v : Ctx) (h : d ≠ c) : (s.setCtx c v).ctx d = s.ctx d := by
  have : c.val ≠ d.val := fun e => h (Fin.ext e.symm)
  simp [State.ctx, State.setCtx, this]

@[simp] theorem ctx_modCtx_same (c : Cid) (f : Ctx → Ctx) : (s.modCtx c f).ctx c = f (s.ctx c) := ctx_setCtx_same s c _

theorem ctx_modCtx_other (c d : Cid) (f : Ctx → Ctx) (h : d ≠ c) : (s.modCtx c f).ctx d = s.ctx d := ctx_setCtx_other s c d _ h

@[simp] theorem ctx_modAll (f : Cid → Ctx → Ctx) (c : Cid) : (s.modAll f).ctx c = f c (s.ctx c) := by
  simp [State.ctx, State.modAll]

@[simp] theorem ctx_advance (n : Nat) (c : Cid) : (s.advance n).ctx c = s.ctx c := rfl
@[simp] theorem ctx_setFld (f : Fld) (v i : Nat) (c : Cid) : (s.setFld f v i).ctx c = s.ctx c := rfl
@[simp] theorem ctx_setReg (k : Nat) (w : Word) (c : Cid) : (s.setReg k w).ctx c = s.ctx c := rfl

/-- X0 reads zero (R77). -/
@[simp] theorem getX_zero (v : Ctx) : v.getX 0 = 0 := rfl

/-- What a register reads after a write of another or the same one (R77). -/
theorem getX_setX (v : Ctx) (r q : RegNo) (w : Word) : (v.setX r w).getX q = if q = r ∧ q ≠ 0 then w else v.getX q := by
  by_cases hr : r = 0
  · subst hr; simp [Ctx.setX]
  · by_cases hq : q = 0
    · subst hq; simp [Ctx.getX]
    · by_cases e : q = r
      · subst e; simp [Ctx.setX, Ctx.getX, hr]
      · have : r.val ≠ q.val := fun x => e (Fin.ext x.symm)
        simp [Ctx.setX, Ctx.getX, hr, hq, e, this]

end Sys2Proof.Machine
end

