-- ==== Sys2Proof/WellFormed.lean ====
section
/-! DEFINITION. Which terms of `Instr` are commands that can reach the die: frames with fields that fit theirs (Table 9-4), register
offsets that name a word (R91), selector writes to a page that has one (R96), samples for each channel sampled. -/

namespace Sys2Proof

/-- Every field fits its width; a well-formed frame on the wire has at most 64 payload bytes (Table 9-4, R378). -/
def Arrival.wf (a : Arrival) : Bool :=
  decide (a.frame.hops < 64) && decide (a.frame.prio < 8) && decide (a.frame.payload.length < 256) &&
    (!a.formed || decide (a.frame.payload.length ≤ 64))

/-- A PROG message from LOADIN has at most 64 bytes (R740). -/
def ProgFrom.wf : ProgFrom → Bool
  | .fabric a => a.wf
  | .host b => decide (b.length ≤ 64)

/-- A page offset that names a word. -/
def wordOff {n : Nat} (off : BitVec n) : Bool := decide (off.toNat % 4 = 0)

/-- Pages with a selector (R96, Table 3-7). -/
def hasSelector (page : Fin 16) : Bool := [2, 4, 5, 9, 13, 14].contains page.val

/-- The command is well formed. -/
def Instr.wellFormed : Instr → Bool
  | .registerWrite _ off _ => wordOff off
  | .rcRead _ off => wordOff off
  | .loWordRead _ off => wordOff off
  | .selectorWrite _ page _ => hasSelector page
  | .add _ _ _ _ => true
  | .sub _ _ _ _ => true
  | .adc _ _ _ _ => true
  | .sbc _ _ _ _ => true
  | .and _ _ _ _ => true
  | .or _ _ _ _ => true
  | .xor _ _ _ _ => true
  | .shl _ _ _ _ => true
  | .shr _ _ _ _ => true
  | .sar _ _ _ _ => true
  | .mul _ _ _ _ => true
  | .mulh _ _ _ _ => true
  | .divu _ _ _ _ => true
  | .remu _ _ _ _ => true
  | .slt _ _ _ _ => true
  | .sltu _ _ _ _ => true
  | .addi _ _ _ _ => true
  | .andi _ _ _ _ => true
  | .ori _ _ _ _ => true
  | .xori _ _ _ _ => true
  | .shli _ _ _ _ => true
  | .shri _ _ _ _ => true
  | .sari _ _ _ _ => true
  | .slti _ _ _ _ => true
  | .lui _ _ _ => true
  | .ldw _ _ _ _ => true
  | .ldh _ _ _ _ => true
  | .ldhu _ _ _ _ => true
  | .ldb _ _ _ _ => true
  | .ldbu _ _ _ _ => true
  | .stw _ _ _ _ => true
  | .sth _ _ _ _ => true
  | .stb _ _ _ _ => true
  | .beq _ _ _ _ => true
  | .bne _ _ _ _ => true
  | .blt _ _ _ _ => true
  | .bge _ _ _ _ => true
  | .bltu _ _ _ _ => true
  | .bgeu _ _ _ _ => true
  | .jal _ _ => true
  | .jalr _ _ _ _ => true
  | .csrr _ _ _ _ => true
  | .csrw _ _ _ _ => true
  | .selch _ _ _ _ => true
  | .waite _ _ _ _ => true
  | .sleep _ _ _ _ => true
  | .yield _ _ _ _ => true
  | .fence _ _ _ _ => true
  | .rete _ _ _ _ => true
  | .trap _ _ _ => true
  | .meas _ _ _ _ => true
  | .bal _ _ _ _ => true
  | .snap _ _ _ _ => true
  | .send _ _ _ _ => true
  | .recv _ _ _ _ => true
  | .scan _ _ _ _ => true
  | .movb _ _ _ _ => true
  | .logb _ _ _ _ => true
  | .rmov _ _ _ _ => true
  | .ctxStart _ _ => true
  | .ctxStop _ _ => true
  | .evRaise _ _ => true
  | .ctxSelectedWrite _ off _ => wordOff off
  | .programStart => true
  | .loadBegin f => f.wf
  | .loadData f => f.wf
  | .loadCommit f => f.wf
  | .loadAbort f => f.wf
  | .loadQuery f => f.wf
  | .loadStatus a => a.wf
  | .loadTimeout => true
  | .nvmSectorWriteDone _ => true
  | .rread a => a.wf
  | .rwrite a => a.wf
  | .rdata a => a.wf
  | .rdone a => a.wf
  | .rrefuse a => a.wf
  | .remoteTimeout _ => true
  | .dmaStart _ _ => true
  | .dmaResume _ _ => true
  | .dmaHalt _ _ => true
  | .dmaBeat => true
  | .dmaRemoteDone _ => true
  | .conversionDone _ _ _ => true
  | .auxInputStart => true
  | .auxrefOn => true
  | .quietWindowPause => true
  | .quietWindowResume => true
  | .sentinelSample cells => decide (cells.length = 12)
  | .sentStWrite _ _ => true
  | .sentCfgWrite _ _ _ => true
  | .openWireStart => true
  | .openWirePhaseEnd cells => decide (cells.length = 12)
  | .leakageStart => true
  | .leakageDeferredStart => true
  | .leakageDone v => decide (v.length = 13)
  | .grChangeEffect => true
  | .rtcLoWrite _ _ _ => true
  | .rtcHiWrite _ _ _ => true
  | .rtcDisarm _ _ => true
  | .rtcFire _ => true
  | .epochWrap => true
  | .epochWarn => true
  | .timeOriginate => true
  | .time a => a.wf
  | .lockStale => true
  | .linkDelayMeasure _ => true
  | .dlyReq _ => true
  | .dlyRsp _ _ => true
  | .dlyReqRetry _ => true
  | .sched a => a.wf
  | .snapshotCompareFire => true
  | .snapHfoLatch => true
  | .snapGo _ _ => true
  | .snapTripRel _ => true
  | .snapAck _ => true
  | .governorUpdate _ others => decide (others.length = 5)
  | .impedanceMeasure _ _ _ => true
  | .shuttleTargetReached _ => true
  | .shuttleVoltageLimit _ => true
  | .shuttleSupplyChange _ _ => true
  | .bleedFrame _ => true
  | .bleedDutyOpen => true
  | .bleedCurrentSample amps => decide (amps.length = 12)
  | .bleedTargetReached _ => true
  | .balCeilWrite _ _ _ => true
  | .null a => a.wf
  | .nullSend _ => true
  | .ack a => a.wf
  | .nak a => a.wf
  | .retransmitTimeout _ _ => true
  | .abort c => c.1.wf && decide (c.2 ≤ 88 + 8 * c.1.frame.payload.length)
  | .codeError _ => true
  | .sideMessageReceived _ _ => true
  | .sideTxGo _ _ _ => true
  | .linkStart _ _ => true
  | .linkHoldEnd _ => true
  | .rstEnd _ => true
  | .presenceWindowEnd _ _ => true
  | .trainingTxStart _ => true
  | .trainingTimeout _ => true
  | .linkRetryPauseEnd _ => true
  | .linkAutostartRetry _ => true
  | .portResume _ => true
  | .resumingTimeout _ => true
  | .linkSilence _ => true
  | .farEndHold _ => true
  | .responderWaitTimeout _ => true
  | .portCtlStart _ _ => true
  | .portCtlWake _ _ => true
  | .portCtlEnWrite _ _ _ => true
  | .lifelineWake _ => true
  | .lifelineAlarm _ => true
  | .lifelineNoise _ _ => true
  | .alarmRepeat _ => true
  | .alarmGiveUp _ => true
  | .data a => a.wf
  | .safe a => a.wf
  | .config a => a.wf
  | .bcast a => a.wf
  | .trip a => a.wf
  | .tripDeliver => true
  | .failbackHoldEnd => true
  | .directedForward a => a.wf
  | .enumQuery a => a.wf
  | .enumAssign a => a.wf
  | .enumRoute a => a.wf
  | .enumPrimer a => a.wf
  | .enumPrimerDelayEnd _ => true
  | .enumLtread a => a.wf
  | .info a => a.wf
  | .ltinfo a => a.wf
  | .announce a => a.wf
  | .announceResend _ => true
  | .announceSilent _ => true
  | .fenceReport a => a.wf
  | .fabRecheck _ _ => true
  | .primerStart _ _ => true
  | .primerReq a => a.wf
  | .primerAck a => a.wf
  | .primerNak a => a.wf
  | .primerNoAnswer _ => true
  | .primerPatternStart _ => true
  | .primerEnd _ _ _ _ => true
  | .primerRelink _ => true
  | .primerStop _ _ => true
  | .intervalCycleStart => true
  | .ltCycle _ => true
  | .intervalTurnEnd => true
  | .testFrameSend => true
  | .test a => a.wf
  | .cvuJobStart _ => true
  | .cvuGo _ _ => true
  | .cvuJobDone _ => true
  | .cvuJobError _ _ => true
  | .cvuAvin _ _ => true
  | .cvuAvcfgGo _ _ => true
  | .cvuBatchDone => true
  | .bbxCommitStart => true
  | .bbxCommitDone _ => true
  | .tombstoneBurnDone => true
  | .bbxRingScanDone => true
  | .summaryTimer => true
  | .mrec a => a.wf
  | .mrel a => a.wf
  | .mrej a => a.wf
  | .bread a => a.wf
  | .bdata a => a.wf
  | .breadTimeout => true
  | .bbxRdreqGo _ _ => true
  | .unfit a => a.wf
  | .unfitRepeat => true
  | .bbxAckWrite _ _ _ => true
  | .bbxShctlRelease _ _ _ => true
  | .sinLevelAccepted _ _ _ _ => true
  | .discrepancyExpiry _ => true
  | .testPulse _ _ _ _ _ => true
  | .chbCompare => true
  | .chbHeartbeatMiss => true
  | .safeAck _ => true
  | .safeTrconf _ => true
  | .safeDemandWrite _ _ => true
  | .pairack _ _ => true
  | .permitWrite _ _ => true
  | .trqOffPulse _ => true
  | .partnerLineChange _ => true
  | .partnerPulseMissing => true
  | .partnerRiseTimeout => true
  | .safeConWrite _ _ => true
  | .pickupEnd _ => true
  | .coilOpenCheck _ _ => true
  | .coilShort _ _ => true
  | .hsOver _ => true
  | .noclose _ => true
  | .openingEnd _ => true
  | .handoverEnd => true
  | .sealScan _ _ => true
  | .sealedWrite _ _ => true
  | .sealedWriteDone => true
  | .tiwaitExpiry => true
  | .sddelayExpiry => true
  | .chbOutputCutoff => true
  | .sfuForm _ _ _ => true
  | .sfuCheck _ _ => true
  | .sfuExpiryExamine => true
  | .sfuArmWrite _ _ => true
  | .exchangeInstant => true
  | .xchg a => a.wf
  | .exchangeJudge => true
  | .voteCommit _ => true
  | .crossLinkStart => true
  | .join _ _ => true
  | .leave _ => true
  | .unlock _ => true
  | .joinVoltageSample _ _ => true
  | .settleEnd => true
  | .prechargeTimeout => true
  | .trayCurrentSample _ => true
  | .joinRetry => true
  | .openingWaitEnd => true
  | .capinGo _ _ => true
  | .capHoldEnd => true
  | .overcapTimer => true
  | .capoutPeriod => true
  | .formRs _ _ _ => true
  | .formCmd _ _ _ => true
  | .checkSt _ _ => true
  | .rackTarmWrite _ _ _ => true
  | .powerStateEntry => true
  | .wakeTimerFire _ => true
  | .hfoStable => true
  | .guardRecompute _ => true
  | .lfoRateMeasure _ => true
  | .searchEntry => true
  | .searchExpired => true
  | .lostRetry => true
  | .wakeRelay => true
  | .relayHoldEnd => true
  | .monitorSample _ _ => true
  | .clockMonitor _ => true
  | .wdkick _ _ => true
  | .wdogWarn => true
  | .watchdogExpiry => true
  | .sleepLimitExpiry => true
  | .ledgerUpdate _ => true
  | .hostSelect => true
  | .hostNop _ _ => true
  | .hostRead _ _ late => late.all (fun i => decide (i < 64))
  | .hostWrite _ _ _ => true
  | .hostSread _ _ => true
  | .hostSwrite _ _ _ => true
  | .hostDeselect _ => true
  | .hostWriteApply => true
  | .msginDeliver => true
  | .wininAnswer => true
  | .hostBell _ _ => true
  | .hostBellout _ _ => true
  | .hostMoutGo _ _ => true
  | .porReset _ => true
  | .shipWake => true
  | .brownout _ => true
  | .pinReset _ => true
  | .tapReset _ => true
  | .softReset _ _ => true
  | .resetEnd => true
  | .fuseLoadDone _ _ _ _ => true
  | .strapRead _ _ => true
  | .sramMarchDone _ => true
  | .referenceCheckDone _ => true
  | .supplySwitchover _ => true
  | .vcoilLow => true
  | .holdupOkChange _ => true
  | .frameEofSent _ => true
  | .vcoilReturn => true

end Sys2Proof
end

