-- ==== Sys2Proof/Tests/Slice0.lean ====
section
/-! SUPPORT. Tests: WellFormed smoke, values of the specification, and for each statement that has hypotheses a state and operands
that meet them. -/

namespace Sys2Proof.Tests
open Sys2Proof.Machine

set_option synthInstance.maxSize 4000
set_option synthInstance.maxHeartbeats 400000
set_option maxRecDepth 4000
set_option Elab.async false

/-! ## Helpers -/

/-- Fields set: field, instance, value. -/
def put (s : State) (l : List (Fld × Nat × Nat)) : State := l.foldl (fun s e => s.setFld e.1 e.2.2 e.2.1) s

/-- After start-up, with HFO. -/
def awake : State := { State.reset with hfo := true, boot := ⟨0, 0, false, 0, 0, true, true, true, true, true, true, false, none, .idcode⟩ }

/-- CTX0 is READY; window 0 is SRAM, window 1 remote. -/
def core (f : Ctx → Ctx) : State :=
  (put awake [(Reg.WIN_LIMIT.ADDR, 0, 0x400), (Reg.WIN_CTRL.VALID, 0, 1), (Reg.WIN_CTRL.R, 0, 1), (Reg.WIN_CTRL.W, 0, 1),
    (Reg.WIN_CTRL.X, 0, 1), (Reg.WIN_VBASE.ADDR, 1, 0x800000), (Reg.WIN_LIMIT.ADDR, 1, 0x800400), (Reg.WIN_CTRL.VALID, 1, 1),
    (Reg.WIN_CTRL.R, 1, 1), (Reg.WIN_CTRL.W, 1, 1), (Reg.WIN_CTRL.REMOTE, 1, 1)]).modCtx 0 fun v => f { v with state := .ready }

/-- CTX0 is READY with these registers from X1 on. -/
def coreX (l : List Word) : State := core fun v => { v with x := Vector.ofFn fun i => ((0 :: l)[i.val]?).getD 0 }

/-- An addressed node whose port 0 is UP and OPEN, and its primary upstream. -/
def node : State :=
  put awake [(Reg.FAB_ADDR.VALID, 0, 1), (Reg.FAB_ADDR.ADDR, 0, 5), (Reg.PORT_CTL.EN, 0, 1), (Reg.PORT_ST.STATE, 0, Link.UP),
    (Reg.FAB_CHK.CHECK, 0, 2), (Reg.FAB_UP.PRIMV, 0, 1), (Reg.FAB_UP.NONE, 0, 0), (Reg.PORT_CTL.EN, 1, 1)]

def frame (t : Fin 16) (pay : List Byte) : Frame := ⟨t, 0, false, false, 0, false, 5, 7, 1, pay⟩
def arrives (f : Frame) : Arrival := ⟨0, f, BitVec.ofNat 16 (frameCrc f), true⟩
def item (f : Frame) (u : TxFor) : TxItem := ⟨f, u, some 1, 0, 0, false, false, .fixed, none⟩

/-! ## Hypotheses met: the core -/

theorem witness_ArithmeticResults : (coreX [2, 3]).executing = some 0 ∧
    (∃ e, aluTable (.add 3 1 2 0) ((coreX [2, 3]).ctx 0) = some e) ∧ (∃ e, aluTable (.sari 3 1 0 31) ((coreX [2]).ctx 0) = some e) ∧
    (∃ e, aluTable (.divu 0 1 2 0) ((coreX [2]).ctx 0) = some e) ∧ ∃ e, aluTable (.lui 3 0 0x3FFFF) ((coreX []).ctx 0) = some e :=
  ⟨by decide +kernel, ⟨_, rfl⟩, ⟨_, rfl⟩, ⟨_, rfl⟩, ⟨_, rfl⟩⟩

/-- CTX0 with an answer in its slot for an access by the instruction `word` at 0x2000_0000; LDW X2, 0(X1) and STW X2, 0(X1). -/
def slotted (word : Word) (w : Bool) (a : Answer) : State :=
  (coreX [0x20000000]).modCtx 0 fun v => { v with slot := some (⟨word, 1, 0x20000000, 0, w, 9, false, 0, 4, 0, [], 0⟩, a) }

def ldwWord : Word := wordOf 0x1A 2 1 0 0
def stwWord : Word := wordOf 0x1F 2 1 0 0

theorem noneAt_of (s : State) (c : Cid) (va : Nat) (h : (s.ctx c).slot = none) (k : (s.ctx c).req = none) : s.noneAt c va :=
  ⟨fun r a e => by (rw [h] at e; cases e), fun r e => by (rw [k] at e; cases e)⟩

theorem witness_noneAt : (coreX [0xFFFC]).noneAt 0 0xFFFC ∧ (coreX [1]).noneAt 0 0xFFFFFFFF :=
  ⟨noneAt_of _ _ _ (by decide +kernel) (by decide +kernel), noneAt_of _ _ _ (by decide +kernel) (by decide +kernel)⟩

theorem witness_slots : (slotted ldwWord false (.data [1, 2, 3, 4])).executing = some 0 ∧ (slotted stwWord true .done).executing = some 0 ∧
    ((slotted stwWord true .done).ctx 0).getX 1 + (0 : BitVec 14).signExtend 32 = 0x20000000 ∧
    (((slotted ldwWord false (.data [1, 2, 3, 4])).ctx 0).slot.map fun e => (e.1.word, e.1.va, e.1.opnd, e.1.write, e.2)) =
      some (ldwWord, 0x20000000, 0, false, .data [1, 2, 3, 4]) ∧ ((slotted stwWord true .done).ctx 0).getX 2 = 0 ∧
    (((slotted stwWord true .done).ctx 0).slot.map fun e => (e.1.word, e.1.va, e.1.opnd, e.1.write, e.2)) =
      some (stwWord, 0x20000000, 0, true, .done) := by decide +kernel

theorem witness_LoadsAndStores : (coreX [0xFFFC]).executing = some 0 ∧ (coreX [0xFFFC]).canonical = true ∧
    (∃ e, loadTable (.ldw 2 1 0 0) = some e) ∧ (coreX [0xFFFC]).place 0 ⟨0xFFFC, 4, false, 0, false, false⟩ = .here 0xFFFC 0 ∧
    isSram 0xFFFC = true ∧ (coreX []).eccHit 0xFFFC = false ∧ (∃ e, storeTable (.stb 2 1 0 3) = some e) ∧
    (coreX []).place 0 ⟨0xFFFF, 1, true, 1, false, false⟩ = .here 0xFFFF 0 :=
  ⟨by decide +kernel, by decide +kernel, ⟨_, rfl⟩, by decide +kernel, by decide +kernel, by decide +kernel, ⟨_, rfl⟩, by decide +kernel⟩

theorem witness_FlowResults : (∃ e, flowTable (.beq 0 1 2 0x3FFF) ((coreX []).ctx 0) = some e) ∧
    (∃ e, flowTable (.jal 15 0) ((coreX []).ctx 0) = some e) ∧ ∃ e, flowTable (.jalr 15 1 0 0) ((coreX []).ctx 0) = some e :=
  ⟨⟨_, rfl⟩, ⟨_, rfl⟩, ⟨_, rfl⟩⟩

theorem witness_ControlRegisters : (coreX [3]).executing = some 0 ∧ (∃ w, csrTable 0 ((coreX []).ctx 0) 0xD = some w) ∧
    ((coreX [15]).ctx 0).getX 1 = 15 ∧ ((coreX [16]).ctx 0).getX 1 = 16 ∧ ((coreX [16]).ctx 0).status.getLsbD 4 = false :=
  ⟨by decide +kernel, ⟨_, rfl⟩, by decide +kernel, by decide +kernel, by decide +kernel⟩

theorem witness_ReadOnlyCsrWrites : (coreX []).executing = some 0 ∧ (0xB : BitVec 14).toNat ∈ [3, 4, 8, 9, 0xA, 0xB] ∧
    (3 : BitVec 14).toNat ∈ [3, 4, 8, 9, 0xA, 0xB] := by decide +kernel

/-- CTX0 with an enabled event pending. -/
def eventful : State := core fun v => { v with evpend := 0x40, evmask := 0x40, x := Vector.ofFn fun _ => 3 }

theorem witness_EventInstructions : eventful.executing = some 0 ∧ ((eventful.ctx 0).evpend &&& (eventful.ctx 0).evmask) ≠ 0 ∧
    ((eventful.ctx 0).getX 1).toNat % 8 = 3 ∧ ((coreX []).ctx 0).evpend &&& ((coreX []).ctx 0).evmask = 0 ∧
    (∀ d, (0 : Cid) < d → ((coreX []).ctx d).state ≠ .ready ∧ ((coreX []).ctx d).state ≠ .running) ∧ ((coreX []).ctx 0).req = none ∧
    ∀ n : Fin 4, (coreX []).dmaState n = 0 ∨ (coreX []).dmaState n = 3 := by decide +kernel

theorem witness_TrapAndReturn : (coreX []).executing = some 0 ∧ ((coreX []).ctx 0).status.getLsbD 4 = false := by decide +kernel

theorem witness_InstructionTraps : (coreX [1]).executing = some 0 ∧ ((coreX [1]).ctx 0).status.getLsbD 4 = false ∧
    (1 : BitVec 14) ≠ 0 ∧ (8 : BitVec 4) ≠ 0 ∧ (((coreX [1]).ctx 0).getX 1 + (0x3FFE : BitVec 14).signExtend 32).toNat % 4 ≠ 0 := by
  decide +kernel

/-- A CELL die with compare 0 armed. -/
def armed : State :=
  put (coreX [0x1001]) [(Reg.RTC_ST.ARMED, 0, 1), (Reg.RTC_LO.TIME, 0, 9)]

theorem witness_DeviceInstructions : armed.canonical = true ∧ armed.executing = some 0 ∧ armed.rtcArmed 0 = true ∧
    armed.rackNow + 4 < armed.rtcTarget 0 ∧ ((armed.ctx 0).getX 1).toNat < 2 ^ 13 ∧ armed.hasCells = true := by decide +kernel

/-- CTX0 on a connected node, with a frame received. -/
def messenger : State :=
  { (put node [(Reg.WIN_LIMIT.ADDR, 0, 0x400), (Reg.WIN_CTRL.VALID, 0, 1), (Reg.WIN_CTRL.R, 0, 1), (Reg.WIN_CTRL.W, 0, 1)]) with
    ctxs := awake.ctxs.set 0 { Ctx.reset 0 with state := .ready, x := Vector.ofFn fun i => if i.val = 1 then 0x00000009 else 0x40 } }
def receiver : State := messenger.modCtx 0 fun v => { v with rx := [⟨frame Ty.DATA [1, 2, 3, 4, 5], 0⟩] }

theorem witness_SendAndReceive : messenger.canonical = true ∧ messenger.executing = some 0 ∧
    ((messenger.ctx 0).getX 1).toNat / 2 ^ 28 = 0 ∧ ((messenger.ctx 0).getX 2).toNat % 4 = 0 ∧ messenger.freeTags ≠ [] ∧
    messenger.isMine (BitVec.ofNat 16 ((messenger.ctx 0).getX 1).toNat) = false ∧
    (messenger.programFrame ((messenger.ctx 0).getX 1).toNat []).isBroadcast = false ∧ messenger.link (portOf 0) = Link.UP ∧
    messenger.check (portOf 0) = 2 ∧ messenger.inPrimer (portOf 0) = false ∧ (messenger.ctx 0).rx = [] ∧
    receiver.canonical = true ∧ receiver.executing = some 0 ∧ (receiver.ctx 0).rx = [⟨frame Ty.DATA [1, 2, 3, 4, 5], 0⟩] ∧
    ((receiver.ctx 0).getX 2).toNat % 4 = 0 ∧
    (∀ j < 5, receiver.place 0 ⟨0x40 + 4 * j, 4, true, 1, false, true⟩ = .here (0x40 + 4 * j) 0) := by decide +kernel

def moved : Request := ⟨wordOf 0x3B 3 1 2 1, 1, 0x20000000, 0x100 + 2 ^ 32 * 4, true, 9, false, 0, 4, 0, [1, 2, 3, 4], 0⟩
/-- CTX0 with a transfer out acknowledged. -/
def moving : State := (coreX [0x20000000, 4, 0x100]).modCtx 0 fun v => { v with slot := some (moved, .done) }
/-- CTX0 with a record staged. -/
def logging : State := (put (coreX [0, 0, 1]) [(Reg.BBX_STAT.READY, 0, 1)]).modCtx 0 fun v => { v with stage := List.replicate 48 7 }

theorem witness_LongInstructions : (coreX [0xFFF8, 8, 1]).canonical = true ∧ (coreX [0xFFF8, 8, 1]).executing = some 0 ∧
    (∀ j < 2, (coreX [0xFFF8, 8, 1]).place 0 ⟨0xFFF8 + 4 * j, 4, false, 3, false, false⟩ = .here (0xFFF8 + 4 * j) 0 ∧
      isSram (0xFFF8 + 4 * j) = true ∧ (coreX [0xFFF8, 8, 1]).eccHit (0xFFF8 + 4 * j) = false ∧ isRemoteRange (0xFFF8 + 4 * j) = false) ∧ ((coreX [0xFFF8, 8, 1]).ctx 0).getX 2 = 8 ∧
    (coreX [8, 4, 0x100]).place 0 ⟨0x100, 4, true, 3, false, false⟩ = .here 0x100 0 ∧ ((coreX [8, 4, 0x100]).ctx 0).getX 2 = 4 ∧
    (coreX [8, 4, 0x100]).place 0 ⟨8, 4, false, 3, false, false⟩ = .here 8 0 ∧ isSram 8 = true ∧ (coreX [8, 4, 0x100]).eccHit 8 = false ∧
    (coreX [8, 4, 0x100]).eccHit 0x100 = false ∧ isRemoteRange 8 = false ∧ isRemoteRange 0x100 = false ∧
    logging.canonical = true ∧ logging.executing = some 0 ∧ (logging.ctx 0).stage.length = 48 ∧ logging.logbMayHand 0 = true ∧
    (logging.ctx 0).getX 2 = 0 ∧ moving.executing = some 0 ∧ isRemoteRange ((moving.ctx 0).getX 1).toNat = true ∧ moved.word = wordOf 0x3B 3 1 2 1 ∧ moved.write = true ∧
    (moving.ctx 0).slot = some (moved, .done) ∧ moved.opnd = ((moving.ctx 0).getX 3).toNat + 2 ^ 32 * moved.len ∧
    ((moving.ctx 0).getX 2).toNat = moved.len ∧ moved.va = ((moving.ctx 0).getX 1).toNat ∧ 0 < moved.len := by decide +kernel

theorem witness_RegisterBusRows : awake.canonical = true := by decide +kernel

theorem witness_WriteJudgement : awake.seal9 = false ∧ (awake.reg 0x3008 ^^^ (awake.reg 0x3008 ^^^ 0x10000000)).getLsbD 28 = true ∧
    (awake.ctx 1).status.getLsbD 4 = false ∧ (7 : Cid) ≠ 0 := by decide +kernel

theorem witness_ContextControl : awake.selOf .host 2 = (0 : Cid).val ∧ (awake.ctx 0).state = .idle ∧
    ((core fun v => { v with state := .parked }).ctx 0).state = .parked ∧ ((coreX []).ctx 0).state = .ready := by decide +kernel

/-! ## Hypotheses met: links -/

/-- Port 0 with a frame on its transmitter and one outstanding. -/
def talking : State :=
  node.modPort 0 fun v => { v with
    cur := some (item { frame Ty.DATA [1] with ackreq := true } (.program 1)), nextSeq := 2
    outs := [⟨item (frame Ty.DATA [2]) (.program 15), 100⟩] }
def trained : State := (put node [(Reg.PORT_ST.STATE, 0, Link.TRAINING)]).modPort 0 fun v => { v with nulls := 15 }
def worn : State := talking.modPort 0 fun v =>
  { v with outs := [⟨{ item (frame Ty.DATA [2]) (.program 1) with tries := 5 }, 100⟩], cur := some (item (frame Ty.DATA []) (.program 15)) }

/-- 128 LSEQs after the outstanding frame's; one whose time has come for a second transmission. -/
def aged : State := talking.modPort 0 fun v => { v with
  nextSeq := 130, outs := [⟨item { frame Ty.DATA [2] with ackreq := true } (.program 15), 100⟩] }
def again : State := node.modPort 0 fun v => { v with nextSeq := 2, outs := [⟨{ item (frame Ty.DATA [2]) (.program 1) with tries := 1 }, 100⟩] }

theorem witness_LinkFrameEnds : node.receives 0 = true ∧ node.check 0 ≠ 3 ∧ (talking.port 0).failRow < 3 ∧
    (talking.port 0).cur.map (·.tries) = some 0 ∧
    (((talking.port 0).outs.map (·.item) ++ (talking.port 0).queue).all fun j =>
      j.seq.all fun l => decide (((talking.port 0).nextSeq - l).toNat < 129)) = true ∧
    ((talking.port 0).cur.all fun j => j.seq.all fun l => decide (((talking.port 0).nextSeq - l).toNat < 129)) = true ∧
    (aged.port 0).cur.map (·.tries) = some 0 ∧ aged.canonical = true ∧
    (aged.port 0).outs.map (fun o => (o.item.seq, o.item.frame.ackreq, o.item.use)) = [(some 1, true, .program 15)] ∧
    129 ≤ ((aged.port 0).nextSeq - 1).toNat ∧ again.canonical = true ∧ (again.port 0).again 1 = false ∧ (worn.port 0).again 1 = false ∧
    ((again.port 0).outs.find? (fun x => x.item.seq = some 1)).map (fun o => (o.item.tries, o.item.stamp, linkLocal o.item.frame.ftype)) =
      some (1, .fixed, false) ∧ again.link 0 = Link.UP ∧ again.check 0 = 2 ∧ again.inPrimer 0 = false ∧ (again.port 0).cur = none ∧
    (again.port 0).queue = [] ∧ (worn.port 0).farSleep = false := by decide +kernel

theorem witness_LinkFramesAndRetries : trained.canonical = true ∧ trained.lineOf (arrives (frame Ty.NULL [])) = .good ∧
    trained.link 0 = Link.TRAINING ∧ (trained.port 0).nulls = 15 ∧ node.canonical = true ∧
    node.lineOf (arrives (frame Ty.NULL [])) = .good ∧ node.link 0 = Link.UP ∧ (node.port 0).cur = none ∧ (node.port 0).sideRx = none ∧
    talking.canonical = true ∧ talking.lineOf (arrives (frame Ty.ACK [])) = .good ∧ (frame Ty.ACK []).sideStart = false ∧
    (talking.port 0).outs.find? (fun x => x.item.seq = some 1) = some ⟨item (frame Ty.DATA [2]) (.program 15), 100⟩ ∧
    talking.lineOf (arrives (frame Ty.NAK [1])) = .good ∧ node.portOn 0 = true ∧ node.inPrimer 0 = false ∧
    node.copyPorts 0 (frame Ty.DATA []) = [] ∧ ((talking.port 0).cur.map fun i => (i.poison, i.frame.ackreq)) = some (false, true) ∧
    ((worn.port 0).cur.map fun i => (i.poison, i.frame.ackreq, i.use)) = some (false, false, .program 15) ∧ worn.canonical = true ∧
    ((talking.port 0).nextSeq - 1).toNat < 128 ∧ (worn.port 0).outs.find? (fun x => x.item.seq = some 1) =
      some ⟨{ item (frame Ty.DATA [2]) (.program 1) with tries := 5 }, 100⟩ ∧ (worn.port 0).failRow = 0 := by decide +kernel

/-- A frame of type `t` whose OP is `op`, as it comes to a node on port 0. -/
def mail (t : Fin 16) (op : Byte) (rest : List Byte) : Arrival := arrives (frame t (op :: rest))

theorem witness_SideChannel : node.canonical = true ∧ node.link 0 = Link.UP ∧
    (let n := (0x80 * 2 ^ 56 + crc16 (beBytes 6 (0x80 * 2 ^ 40)) : Nat); crc16 (beBytes 6 (n / 2 ^ 16)) = n % 2 ^ 16 ∧
      0x80 ≤ n / 2 ^ 56 ∧ n < 2 ^ 64) ∧ crc16 (beBytes 6 0) ≠ 1 ∧ (node.port (portOf 3)).sideProg = none ∧
    ((node.modPort 3 fun v => { v with sideProg := some (0x80, 1) }).port (portOf 3)).sideProg.isSome = true ∧
    ((node.modPort 0 fun v => { v with dlyT1 := some 0 }).port 0).dlyT1 = some 0 ∧ (0 : Port) ≠ xlink ∧
    ((node.modPort 0 fun v => { v with dlyReqSent := some 7 }).port 0).dlyReqSent = some 7 ∧ node.linkAlive 0 = true := by decide +kernel

/-- Port 1 in a phase of its link start. -/
def starting (f : StartPhase) (i : Bool) (st : Nat) : State :=
  (put node [(Reg.PORT_ST.STATE, 1, st)]).modPort 1 fun v => { v with phase := f, initiator := i }

theorem witness_LinkStart : (starting .start true 1).hfo = true ∧ (starting .start true 1).portOn 1 = true ∧
    ((starting .none false Link.UP).port 1).farSleep = false ∧ (starting .none false Link.UP).link 1 = Link.UP ∧
    ((starting .ready true 2).port 1).cur = none ∧ (starting .ready true 2).inPrimer 1 = false ∧
    (starting .training false 3).link 1 = Link.TRAINING ∧ ((starting .training false 3).port 1).initiator = false ∧
    (starting .pausing true 0).portOn 1 = true ∧ (starting .failed true 0).portOn 1 = true ∧ (starting .start true 1).canonical = true ∧ ((starting .start true 1).port 1).phase = .start ∧
    ((starting .hold true 1).port 1).phase = .hold ∧ ((starting .mark true 2).port 1).phase = .mark ∧
    (starting .none false 1).portOn 1 = true ∧ ((starting .none false 1).port 1).initiator = false ∧
    (starting .none false 1).link 1 ≠ Link.UP ∧ (starting .hold true 1).portOn 1 = true ∧
    ((starting .hold true 1).port 1).initiator = true ∧ ((starting .ready true 2).port 1).phase = .ready ∧
    ((starting .answering false 1).port 1).phase = .answering ∧ (starting .training true 3).link 1 = Link.TRAINING ∧
    ((starting .training true 3).port 1).initiator = true ∧ ((starting .pausing true 0).port 1).phase = .pausing ∧
    ((starting .failed true 0).port 1).phase = .failed ∧ (put (starting .failed true 0) [(Reg.PORT_CTL.AUTOSTART, 1, 1)]).autoStart 1 = true ∧
    300 ≤ (⟨300, 55, 24⟩ : Pulse).delay ∧ (⟨900, 30, 0⟩ : Pulse).delay ≤ 900 := by decide +kernel

theorem witness_LinkLossAndControl : (starting .none false Link.RESUMING).hfo = true ∧ (starting .none false Link.RESUMING).portOn 1 = true ∧
    (starting .none false Link.ASLEEP).portOn 1 = true ∧ node.canonical = true ∧ node.link 0 = Link.UP ∧ node.portOn 0 = true ∧ node.inPrimer 0 = false ∧
    (node.port 0).farSleep = false ∧ node.hfo = true ∧ (starting .none false Link.ASLEEP).link 1 = Link.ASLEEP ∧
    (starting .none false Link.RESUMING).link 1 = Link.RESUMING ∧ ((starting .none false Link.RESUMING).port 1).resumeTry = 0 ∧
    (((starting .none false Link.RESUMING).modPort 1 fun v => { v with resumeTry := 1 }).port 1).resumeTry ≠ 0 ∧
    ((starting .observing false 1).port 1).phase = .observing ∧ (put (starting .observing false 1) [(Reg.PORT_CTL.AUTOSTART, 1, 0)]).autoStart 1 = false ∧
    node.portOn (portOf 1) = true ∧ node.flag Reg.PORT_CTL.EN (portOf 1) = true ∧ (put node [(Reg.PORT_CTL.EN, 2, 0)]).flag Reg.PORT_CTL.EN (portOf 2) = false ∧
    (put node [(Reg.PORT_CTL.AUTOSTART, 2, 1)]).flag Reg.PORT_CTL.AUTOSTART (portOf 2) = true ∧ node.boot.inReset = false ∧
    node.boot.refs = true := by decide +kernel

def alarming : State := node.modPort 0 fun v => { v with alarmUntil := some 5 }

theorem witness_LifelineAndFrame : node.hears 0 = true ∧ node.power.below ≠ 4 ∧
    { node with power := { node.power with below := 2 } }.hears 0 = true ∧ node.portOn 0 = true ∧ (node.port 0).phase ≠ .mark ∧
    (alarming.port 0).alarmUntil = some 5 ∧ alarming.portOn 0 = true ∧ alarming.hfo = true ∧ alarming.canonical = true := by decide +kernel

theorem witness_LinkCommandsComplete : ((starting .start true 1).port 1).phase = .start ∧ (starting .start true 1).hfo = true ∧
    ((starting .hold true 1).port 1).phase = .hold ∧ (starting .none false 1).portOn 1 = true ∧ ((starting .none false 1).port 1).initiator = false ∧
    ((starting .mark true 2).port 1).phase = .mark ∧ ((starting .answering false 1).port 1).phase = .answering ∧
    (starting .training true 3).link 1 = Link.TRAINING ∧ ((starting .pausing true 0).port 1).phase = .pausing ∧
    (starting .pausing true 0).portOn 1 = true ∧ ((starting .failed true 0).port 1).phase = .failed ∧ (starting .failed true 0).autoStart 1 = true ∧
    (starting .failed true 0).portOn 1 = true ∧ node.link 0 = Link.UP ∧ node.portOn 0 = true ∧ node.inPrimer 0 = false ∧
    (node.port 0).farSleep = false ∧ node.hfo = true ∧ (starting .none false Link.ASLEEP).portOn 1 = true ∧
    (starting .none false Link.ASLEEP).link 1 = Link.ASLEEP ∧ (starting .none false Link.RESUMING).link 1 = Link.RESUMING ∧
    (((starting .none false Link.RESUMING).modPort 1 fun v => { v with resumeTry := 1 }).port 1).resumeTry ≠ 0 ∧
    (starting .none false Link.RESUMING).portOn 1 = true ∧ ((starting .observing false 1).port 1).phase = .observing ∧
    (put (starting .observing false 1) [(Reg.PORT_CTL.AUTOSTART, 1, 0)]).autoStart 1 = false ∧ node.flag Reg.PORT_CTL.EN (portOf 1) = true ∧
    node.hears 0 = true ∧ node.power.below ≠ 4 ∧ (node.port 0).phase ≠ .mark ∧ (alarming.port 0).alarmUntil = some 5 ∧
    alarming.portOn 0 = true ∧ node.canonical = true := by decide +kernel

theorem witness_FramesDelivered : node.canonical = true ∧ node.admits ((arrives (frame Ty.DATA [1])).as Ty.DATA) ∧
    node.isMine 5 = true ∧ node.admits (arrives (frame Ty.SAFE [1])) ∧ node.admits (arrives (frame Ty.CONFIG [0x20])) ∧
    windowMessage [0x20] = false ∧ node.admits (arrives (frame Ty.TRIP (List.replicate 12 0))) ∧
    node.admits (arrives { frame Ty.BCAST [1] with dest := 0 }) ∧ node.takesFrom 0 = true ∧
    node.admits ((mail Ty.PROG 0x81 (List.replicate 63 0)).asOp Ty.PROG 0x81) ∧ (5 : BitVec 16) ≠ 7 ∧
    node.admits (mail Ty.IDENT 0x20 [0, 0, 0]) ∧ node.admits (mail Ty.IDENT 0x81 (List.replicate 59 0)) ∧
    node.admits (mail Ty.IDENT 0x85 (List.replicate 59 0)) ∧ (frame Ty.IDENT []).hops = 0 := by
  unfold State.admits State.sound State.noSide; decide +kernel

/-- `node` with port 1 UP and OPEN, and a route to node 9 there. -/
def relay : State :=
  put node [(Reg.PORT_ST.STATE, 1, Link.UP), (Reg.FAB_CHK.CHECK, 1, 2), (Reg.FAB_RT_A.BASE, 0, 9), (Reg.FAB_RT_A.MASK, 0, 0xFFFF),
    (Reg.FAB_RT_B.PORT, 0, 1), (Reg.FAB_RT_B.VALID, 0, 1)]
def lost : State := put node [(Reg.FAB_UP.PRIMV, 0, 0), (Reg.FAB_UP.NONE, 0, 1)]
def passing : Arrival := arrives { frame Ty.DATA [1, 2] with dest := 9, hops := 1 }
def tripped : State := { put node [(Reg.SFU_CFG.TRIPDEM, 0, 1), (Reg.SYS_ROLE.ROLE, 0, roleManager)] with trips := [frame Ty.TRIP []] }
/-- A directed QUERY with one entry of its PATH left, to port 1. -/
def pathed : Arrival := arrives { frame Ty.ENUM ([1, 2, 0, 0, 5] ++ List.replicate 31 0) with hops := 1 }

theorem witness_ForwardingAndUpstream : relay.check 1 ≠ 3 ∧ pathed.frame.isDirected = true ∧ relay.admits pathed ∧
    (arrives (frame Ty.DATA [])).frame.isDirected = false ∧
    (put node [(Reg.FAB_CFG.REVERT, 0, 1)]).flag Reg.FAB_CFG.REVERT = true ∧ relay.canonical = true ∧ relay.admits (passing.as Ty.DATA) ∧ relay.isMine 9 = false ∧
    relay.route 9 = some (1, false) ∧ relay.link 1 = Link.UP ∧ (1 : Port) ≠ passing.port ∧ passing.frame.hops ≠ 0 ∧
    node.admits (arrives { frame Ty.DATA [] with dest := 9 }) ∧ lost.admits (passing.as Ty.DATA) ∧ lost.route 9 = none ∧
    node.admits (passing.as Ty.DATA) ∧ node.route 9 = some (passing.port, true) ∧ pathed.port = 0 ∧
    pathed.frame.hops < fieldOf pathed.frame.payload 1 1 ∧ pathEntry pathed.frame.payload 1 = 1 ∧ tripped.trips = [frame Ty.TRIP []] ∧
    tripped.flag Reg.SFU_CFG.TRIPDEM = true ∧ tripped.hasSafety = true ∧ { node with primSince := some 3 }.primSince = some 3 ∧
    (put { node with primSince := some 3 } [(Reg.FAB_UP.ONSEC, 0, 1)]).flag Reg.FAB_UP.ONSEC = true := by
  unfold State.admits State.sound State.noSide; decide +kernel

/-- The last 20 bytes of an ENUM for a die whose UID is 0. -/
def enumOf (op : Byte) (k : Nat) (l : List (Nat × Byte)) : Arrival :=
  arrives (frame Ty.ENUM ((List.range k).map fun i => ((l.find? fun e => e.1 = i).map Prod.snd).getD (if i = 0 then op else 0)))
def delayed : State := node.modPort 1 fun v => { v with primerDelay := some 9 }

theorem witness_EnumOperations : node.canonical = true ∧ node.sealed = false ∧ node.uid = 0 ∧ (enumOf 2 56 []).frame.hops = 0 ∧
    fieldOf (enumOf 2 56 [(52, 63)]).frame.payload 36 8 = node.uid ∧ node.admits (enumOf 1 36 []) ∧ node.admits (enumOf 2 56 [(52, 63)]) ∧
    fieldOf (enumOf 2 56 [(52, 63)]).frame.payload 52 1 = 63 ∧ node.admits (enumOf 3 52 [(44, 15)]) ∧
    fieldOf (enumOf 3 52 [(44, 15)]).frame.payload 44 1 = 15 ∧ node.admits (enumOf 4 48 [(44, 15), (45, 60)]) ∧
    (∀ p ∈ allPorts, node.primerBusy p = false ∧ (node.port p).primerDelay = none) ∧ node.admits (enumOf 5 48 [(44, 3)]) ∧
    (delayed.port 1).primerDelay = some 9 ∧ delayed.primerBusy 1 = false ∧ delayed.portOn 1 = true := by
  unfold State.admits State.sound State.noSide; decide +kernel

def pendingCheck : State := put node [(Reg.FAB_CHK.CHECK, 0, 1)]
def doubled : State := pendingCheck.modPort 0 fun v => { v with doubled := true }
def announced : Arrival := mail Ty.IDENT 0x10 ([1, 8] ++ List.replicate 21 0)

theorem witness_FarEndCheck : ((node.modPort 0 fun v => { v with annSeen := true }).port 0).annSeen = true ∧
    (node.modPort 0 fun v => { v with annSeen := true }).linkAlive 0 = true ∧ (0 : Port) ≠ xlink ∧ pendingCheck.canonical = true ∧ pendingCheck.admits announced ∧
    announceValid announced.frame.payload = true ∧ pendingCheck.check 0 = 1 ∧ pendingCheck.judge 0 announced.frame.payload = 0 ∧
    doubled.admits announced ∧ doubled.check 0 = 1 ∧ doubled.judge 0 announced.frame.payload ≠ 0 ∧ node.link 0 = Link.UP ∧
    ((node.modPort 0 fun v => { v with annSent := 9 }).port 0).annSent < 10 ∧ (node.port 0).annSeen = false ∧
    (pendingCheck.port 0).annSeen = false ∧ (1 : BitVec 4).toNat = 2 ^ (0 : Port).val ∧ (node.port 0).doubled = false := by
  unfold State.admits State.sound State.noSide; decide +kernel

/-- Port 0 in a phase of a Primer, and the turn of an interval test. -/
def primed (f : PrimerPhase) : State := node.modPort 0 fun v => { v with primer := f, primerInit := true }
/-- A link start of port 0 waits for its 2 s after a Primer. -/
def relinking : State := node.modPort 0 fun v => { v with relinkAt := some 9 }
def turning : State := { node with lt := ⟨some (0, 5), [], 0⟩ }

theorem witness_PrimersAndIntervals : node.hfo = true ∧ (primed .running).portOn 0 = true ∧ relinking.portOn 0 = true ∧ relinking.inPrimer 0 = false ∧ (primed .acked).asleep = false ∧
    turning.link 0 = Link.UP ∧ turning.usable 0 = true ∧ (mail Ty.IDENT 0x12 [1, 0, 0]).frame.payload.length = 4 ∧ node.canonical = true ∧ node.primerBusy 0 = false ∧ node.portOn 0 = true ∧ node.sealed = false ∧
    node.admits (mail Ty.IDENT 0x11 [60, 0, 0]) ∧ (primed .asked).admits (mail Ty.IDENT 0x12 [1, 0, 0]) ∧
    (primed .asked).admits (mail Ty.IDENT 0x13 [1, 0, 0]) ∧ ((primed .asked).port 0).primer = .asked ∧
    ((primed .acked).port 0).primer = .acked ∧ ((primed .acked).port 0).primerInit = true ∧ ((primed .acked).port 0).queue = [] ∧
    ((primed .acked).port 0).cur = none ∧
    ((primed .running).port 0).primer = .running ∧ (put (primed .running) [(Reg.LT_ST.PRIMER, 0, 1)]).inPrimer 0 = true ∧
    (relinking.port 0).relinkAt = some 9 ∧ node.lt.turn = none ∧ allPorts.find? node.usable = some 0 ∧
    (put node [(Reg.LT_CFG.AUTO, 0, 1)]).flag Reg.LT_CFG.AUTO = true ∧ (put node [(Reg.RT_ST.SET, 0, 1)]).flag Reg.RT_ST.SET = true ∧
    turning.lt.turn = some (0, 5) ∧ turning.lt.left = [] ∧ (turning.port 0).queue = [] ∧ (turning.port 0).cur = none ∧
    node.admits (arrives (frame Ty.TEST testPayload)) ∧ testPayload.length = 64 ∧ node.fld Reg.LT_BITS_LO.BITS 0 + 512 < 2 ^ 32 := by
  unfold State.admits State.sound State.noSide; decide +kernel

/-! ## An image in memory -/

/-- A run of bytes as cells. -/
def cellsOf (f : Nat → Byte) (base lo n : Nat) : List Host.Cell :=
  (List.range' lo n).filterMap fun i => if f i = memDefault (base + i) then none else some (base + i, f i)

theorem look_beyond (m : List Host.Cell) (k : Nat) (h : ∀ e ∈ m, k < e.1) : look memDefault m k = memDefault k := by
  cases m with
  | nil => rfl
  | cons e t => have := h e (by simp); obtain ⟨j, v⟩ := e; simp only at this; simp [look, Nat.ne_of_lt this, this]

theorem look_cells (f : Nat → Byte) (base : Nat) (tail : List Host.Cell) (n lo i : Nat) (ht : ∀ e ∈ tail, base + (lo + n) ≤ e.1)
    (hl : lo ≤ i) (hi : i < lo + n) : look memDefault (cellsOf f base lo n ++ tail) (base + i) = f i := by
  induction n generalizing lo with
  | zero => omega
  | succ n ih =>
    have above : ∀ e ∈ cellsOf f base (lo + 1) n ++ tail, base + lo < e.1 := by
      intro e he
      rcases List.mem_append.1 he with h | h
      · simp only [cellsOf, List.mem_filterMap, List.mem_range'_1] at h
        obtain ⟨j, hj, h⟩ := h
        split at h
        · cases h
        · cases h; show base + lo < base + j; omega
      · have := ht e h; omega
    have step : cellsOf f base lo (n + 1) =
        (if f lo = memDefault (base + lo) then [] else [(base + lo, f lo)]) ++ cellsOf f base (lo + 1) n := by
      simp only [cellsOf, List.range'_succ, List.filterMap_cons]; split <;> simp_all
    rw [step]
    by_cases e : i = lo
    · subst e
      split
      · next h => rw [List.nil_append, look_beyond _ _ above, h]
      · simp [look]
    · have := ih (lo + 1) (fun e he => by have := ht e he; omega) (by omega) (by omega)
      split
      · simpa using this
      · have h1 : ¬ base + i = base + lo := by omega
        have h2 : ¬ base + i < base + lo := by omega
        show look _ ((base + lo, f lo) :: _) _ = _
        rw [look, if_neg h1, if_neg h2]; exact this

theorem bytes_cells (s : State) (f : Nat → Byte) (base m : Nat) (h : ∀ i < m, s.byte (base + i) = f i) (n a : Nat) (ha : a + n ≤ m) :
    s.bytes (base + a) n = (List.range' a n).map f := by
  induction n generalizing a with
  | zero => rfl
  | succ n ih => simp only [State.bytes, List.range'_succ, List.map_cons]; rw [h a (by omega), Nat.add_assoc, ih (a + 1) (by omega)]

/-- A blank die's smallest image: one CODE section, eight contexts of which CTX0 is to start, 64 windows with no right. -/
def imageByte (crc i : Nat) : Byte :=
  if i < 60 then
    (leBytes 4 0x4F565342 ++ [1, 0, 64, 0] ++ leBytes 4 1236 ++ List.replicate 8 0 ++ [15, 1, 0, 0] ++ leBytes 4 64 ++
      leBytes 4 80 ++ leBytes 4 208).getD i 0
  else if i < 64 then BitVec.ofNat 8 (crc / 256 ^ (i - 60))
  else if i < 80 then ([1, 0, 0, 0, 64] : List Byte).getD (i - 64) 0
  else if i = 92 then 1 else 0
def image : Nat → Byte := imageByte (crc32c ((List.range 60).map (imageByte 0)))
/-- The image is stored, its marker set, and the check of it passed; `l` is under way. -/
def stored (l : Option Load) : State :=
  { put awake [(Reg.CVU_JOB_STAT.OUTCOME, 0, 1), (Reg.HOST_CFG.EN, 0, 1), (Reg.BBX_STAT.READY, 0, 1)] with
    load := l
    mem := cellsOf image progBase 0 1236 ++ cellsOf (fun i => (leBytes 4 0x5A5AA5A5).getD i 0) 0x1001C200 0 12
    boot := { awake.boot with started := false } }
/-- Its bytes as a function. -/
def imageNum (l : Option Load) (a n : Nat) : Nat := if a + n ≤ 1236 then leNat ((List.range' a n).map image) else (stored l).img a n

theorem byte_stored (l : Option Load) (i : Nat) (h : i < 1236) : (stored l).byte (progBase + i) = image i :=
  look_cells image progBase _ 1236 0 i (by decide +kernel) (by omega) (by omega)

theorem bytes_stored (l : Option Load) (a n : Nat) (h : a + n ≤ 1236) : (stored l).bytes (progBase + a) n = (List.range' a n).map image :=
  bytes_cells (stored l) image progBase 1236 (byte_stored l) n a h

theorem img_stored (l : Option Load) : (stored l).img = imageNum l := by
  funext a n
  unfold imageNum
  split
  · next h => exact congrArg leNat (bytes_stored l a n h)
  · rfl

/-- A load whose chunks have all come. -/
def allChunks : Load :=
  ⟨1, 1236, 0, 0, BitVec.ofNat 32 (crc32c ((List.range' 0 1236).map image)), false, List.range 39, [], none, none, false, 7⟩

theorem image_good : (stored none).imageGood 0 0 = true := by
  have h0 : (stored none).bytes progBase 60 = (List.range' 0 60).map image := bytes_stored none 0 60 (by decide)
  simp only [State.imageGood, State.sections, h0, bytes_stored none 0x28 20 (by decide)]
  rw [img_stored]
  decide +kernel

theorem image_good_loading : (stored (some allChunks)).imageGood 0 0 = true := by
  have h0 : (stored (some allChunks)).bytes progBase 60 = (List.range' 0 60).map image := bytes_stored _ 0 60 (by decide)
  simp only [State.imageGood, State.sections, h0, bytes_stored (some allChunks) 0x28 20 (by decide)]
  rw [img_stored]
  decide +kernel

theorem witness_start : (stored none).startDue = true ∧ (stored none).mayStart = true := by
  refine ⟨by decide +kernel, ?_⟩
  have h : (stored none).num 0x1001C204 4 = 0 ∧ (stored none).num 0x1001C208 4 = 0 := by decide +kernel
  simp only [State.mayStart, h, image_good]
  decide +kernel

theorem witness_commit : (stored (some allChunks)).load = some allChunks ∧ allChunks.commit = none ∧
    (stored (some allChunks)).settled.commitCode allChunks = none ∧ (stored (some allChunks)).loadAllowed .host = true ∧
    (stored (some allChunks)).flag Reg.HOST_CFG.EN = true := by
  refine ⟨rfl, rfl, ?_, by decide +kernel, by decide +kernel⟩
  have h0 : (stored (some allChunks)).bytes progBase 1236 = (List.range' 0 1236).map image := bytes_stored _ 0 1236 (by decide)
  show (stored (some allChunks)).commitCode allChunks = none
  have h1 : (stored (some allChunks)).imageGood allChunks.imgid.toNat allChunks.imgver.toNat = true := image_good_loading
  simp only [State.commitCode, h1, show allChunks.imglen = 1236 from rfl, h0]
  rw [img_stored]
  decide +kernel

/-! ## Hypotheses met: programs and remote memory -/

/-- A host that may load; a load of one chunk. -/
def hosted : State := put awake [(Reg.HOST_CFG.EN, 0, 1)]
def beginning : List Byte := [1, 1, 0, 0, 32] ++ List.replicate 15 0
def loadOf (n : Nat) (l : List Nat) (id crc : Word) : Load := ⟨1, n, id, 0, crc, false, l, [], none, none, false, 7⟩
def loading : State := { hosted with load := some (loadOf 32 [] 0 0) }

def unstarted : State := { put awake [(Reg.BBX_STAT.READY, 0, 1)] with boot := { awake.boot with started := false } }

theorem witness_LoaderAndStart : hosted.flag Reg.HOST_CFG.EN = true ∧ hosted.loadAllowed .host = true ∧ beginning.length = 20 ∧
    hosted.load = none ∧ bitAt (fieldOf beginning 1 1) hosted.role = true ∧ fieldOf beginning 4 4 = 32 ∧
    loading.load = some (loadOf 32 [] 0 0) ∧ (loadOf 32 [] 0 0).commit = none ∧ (0 : Nat) < (loadOf 32 [] 0 0).count ∧
    (loadOf 32 [] 0 0).slots.length < 32 ∧ (loadOf 32 [] 0 0).freePlaces.length = 512 ∧ loading.settled.commitCode (loadOf 32 [] 0 0) = some 2 ∧
    hosted.hostPort.loadOut.length + 4 ≤ 16 ∧ loading.canonical = true ∧
    unstarted.startDue = true ∧ unstarted.mayStart = false ∧
    { awake with nvmQ := [⟨0x1001C400, [1], .sealedWrite⟩] }.serving = [] := by decide +kernel

/-- Export 0 covers SRAM; CTX0 waits for a remote answer. -/
def exporting : State :=
  put node [(Reg.WIN_EXP_LIMIT.ADDR, 0, 0x4000), (Reg.WIN_EXP_CTRL.VALID, 0, 1), (Reg.WIN_EXP_CTRL.R, 0, 1), (Reg.WIN_EXP_CTRL.W, 0, 1)]
def asking (w : Bool) (n : Nat) : Request := ⟨1, 0, 0, 0, w, 7, false, 0, n, 0x10, [], 100⟩
def asked (w : Bool) (n : Nat) : State :=
  node.modCtx 0 fun v => { v with req := some (asking w n), state := .waiting, wait := some .remote }

theorem witness_RemoteRequests : exporting.check 0 ≠ 3 ∧ (mail Ty.CONFIG 0xAF [3, 0x10, 0]).frame.payload.length = 4 ∧
    exporting.canonical = true ∧ exporting.isMine 5 = true ∧ exporting.isMine 7 = false ∧
    exporting.route 7 = some (0, true) ∧ exporting.link 0 = Link.UP ∧
    exporting.admits (mail Ty.CONFIG 0x21 [4, 9, 9, 0xFC, 0xFF, 0, 0]) ∧
    exporting.refusal (mail Ty.CONFIG 0x21 [4, 9, 9, 0xFC, 0xFF, 0, 0]).frame = 0 ∧
    exporting.readWaits (mail Ty.CONFIG 0x21 [4, 9, 9, 0xFC, 0xFF, 0, 0]).frame = false ∧ isPage 0xFFFC = false ∧
    exporting.admits (mail Ty.CONFIG 0x22 [1, 9, 9, 0xFF, 0xFF, 0, 0, 3]) ∧
    exporting.refusal (mail Ty.CONFIG 0x22 [1, 9, 9, 0xFF, 0xFF, 0, 0, 3]).frame = 0 ∧ 0xFFFF + 1 ≤ 0x10000 ∧
    exporting.refusal (mail Ty.CONFIG 0x22 [2, 9, 9, 0xFF, 0xFF, 0, 0, 3, 3]).frame ≠ 0 ∧
    exporting.admits (mail Ty.CONFIG 0x22 [2, 9, 9, 0xFF, 0xFF, 0, 0, 3, 3]) ∧
    ((asked false 1).ctx 0).req = some (asking false 1) ∧ (asking false 1).tag.toNat % 16 = (0 : Cid).val ∧
    (asked false 1).canonical = true ∧ (asked false 1).now < (asking false 1).deadline ∧
    (asked false 1).admits (mail Ty.CONFIG 0xA1 [1, 0x10, 0, 8]) ∧ (asked true 4).admits (mail Ty.CONFIG 0xA2 [4, 0x10, 0]) ∧
    (asked true 4).admits (mail Ty.CONFIG 0xAF [3, 0x10, 0]) := by unfold State.admits State.sound State.noSide; decide +kernel

/-- Channel 0 with a descriptor at 0x100 of 16 bytes from 0 to 0x40, before and while it runs. -/
def described : State :=
  { put (core id) [(Reg.WIN_CTRL.D, 0, 1), (Reg.DMA_CFG.EN, 0, 1), (Reg.DMA_DESC.ADDR, 0, 0x40), (Reg.DMA_CURD.VALUE, 0, 0x100)] with
    mem := [(0x100, 1), (0x108, 0x40), (0x10C, 16), (0x114, 8)] }
def running : State :=
  { put described [(Reg.DMA_STAT.STATE, 0, 1)] with dma := described.dma.set 0 { DmaCh.reset with desc := some ⟨0, 0, 0x40, 16, 0⟩ } }
def answered : State :=
  { running with dma := described.dma.set 0 { DmaCh.reset with desc := some ⟨0, 0, 0x40, 16, 0⟩, ans := some (asking true 8, .done) } }

theorem witness_DmaChannels : (running.dmaCh 0).inBeat = false ∧ descInSram (running.fld Reg.DMA_CURD.VALUE 0) = true ∧
    running.boot.inReset = false ∧ 16 < 2 ^ 16 ∧ running.eccHit 0 = false ∧ isSram 0x40 = true ∧ described.canonical = true ∧ descInSram 0x100 = true ∧ (∀ i < 6, 0x100 + 4 * i ∉ described.eccBad) ∧
    descBad (described.word 0x100) (described.num 0x104 4) (described.num 0x108 4) (described.num 0x10C 4) (described.num 0x110 4) = false ∧
    described.flag Reg.DMA_CFG.EN 0 = true ∧ described.dmaState 0 = 0 ∧ 0x100 = 4 * described.fld Reg.DMA_DESC.ADDR 0 ∧
    0x100 = described.fld Reg.DMA_CURD.VALUE 0 ∧ 0 < described.num 0x114 2 ∧ running.dmaState 0 = 1 ∧ (running.dmaCh 0).req = none ∧
    (running.dmaCh 0).ans = none ∧ (running.dmaCh 0).desc = some ⟨0, 0, 0x40, 16, 0⟩ ∧ (running.dmaCh 0).stopping = none ∧
    running.dmaNext = some 0 ∧ running.fld Reg.DMA_CURN.VALUE 0 + 4 < 16 ∧
    running.place (running.dmaOwner 0) (dmaReach 0 false) = .here 0 0 ∧ running.place (running.dmaOwner 0) (dmaReach 0x40 true) = .here 0x40 0 ∧
    (answered.dmaCh 0).ans = some (asking true 8, .done) ∧ answered.fld Reg.DMA_CURN.VALUE 0 + 8 < 16 := by decide +kernel

/-! ## Hypotheses met: measuring, balancing, time -/

def aSet (t : Option (Fin 4)) (started : Bool) (left study : Nat) : MeasSet := ⟨t, started, false, left, study, false, false, 0, 0, 0, 0, Vector.replicate 12 0, Vector.replicate 12 0⟩
def measuring (l : List MeasSet) : State := { awake with meas := { awake.meas with sets := l } }
def meas (f : Meas → Meas) : State := { awake with meas := f awake.meas }
/-- Channel 13 scans inputs 2 and 7; sets tied to compare 0, due at 9, of channel 13 and of a Study. -/
def scanning (gap : Option Nat) : State :=
  { measuring [aSet none true 0x2000 0] with meas := { awake.meas with sets := [aSet none true 0x2000 0], auxLeft := [2, 7], auxGap := gap } }
def tiedTo (left study : Nat) : State :=
  { put armed [(Reg.MEAS_AUXCFG.BIAS, 0, 1)] with meas := { awake.meas with sets := [aSet (some 0) false left study] } }

theorem witness_Conversions : (measuring [aSet none true 0x8001 0]).convSet 15 = some (aSet none true 0x8001 0) ∧ (15 : Fin 16).val ≠ 13 ∧
    (scanning none).convSet 13 = some (aSet none true 0x2000 0) ∧ (scanning none).meas.auxLeft = [2, 7] ∧ (scanning none).meas.auxGap = none ∧
    (scanning (some 5)).meas.auxGap = some 5 ∧ (scanning none).canonical = true ∧
    (tiedTo 0x2000 0).firstTarget MeasSet.auxDue = some 9 ∧ (tiedTo 0x2000 0).flag Reg.MEAS_AUXCFG.BIAS = true ∧
    (tiedTo 0x2000 0).meas.auxref = false ∧ (tiedTo 1 1).firstTarget MeasSet.quietDue = some 9 ∧ (tiedTo 1 1).meas.pauseHeld = false ∧
    (tiedTo 1 1).canonical = true := by decide +kernel

theorem witness_MeasuringTests : (measuring [aSet none true 0x8001 0]).canonical = true ∧
    (measuring [aSet none true 0x8001 0]).meas.sets.find? (fun m => m.started && bitAt m.left 15) = some (aSet none true 0x8001 0) ∧
    bitAt (measuring [aSet (some 0) false 0x2000 0]).armedMask 13 = true ∧
    (put (measuring []) [(Reg.MEAS_AUXCFG.BIAS, 0, 1)]).flag Reg.MEAS_AUXCFG.BIAS = true ∧
    Nat.land (aSet (some 0) false 1 1).left (aSet (some 0) false 1 1).study ≠ 0 ∧ (measuring [aSet (some 0) false 1 1]).meas.pauseHeld = false ∧
    (meas fun m => { m with resumeAt := some 5, pauseHeld := true }).meas.resumeAt = some 5 ∧ awake.hasCells = true ∧
    Nat.land (Nat.lor awake.armedMask awake.convMask) 0xFFF = 0 ∧ awake.meas.leakAt = none ∧ awake.meas.leakWaiting = false ∧
    Nat.land (Nat.lor (measuring [aSet none true 0x800 0]).armedMask (measuring [aSet none true 0x800 0]).convMask) 0xFFF ≠ 0 ∧
    awake.meas.owPhase = 0 ∧ (meas fun m => { m with leakAt := some 2 }).meas.leakAt = some 2 ∧
    (meas fun m => { m with owPhase := 3 }).meas.owPhase = 3 ∧ bitAt (Nat.lor awake.armedMask awake.convMask) 15 = false ∧
    (meas fun m => { m with leakWaiting := true }).meas.leakWaiting = true ∧ awake.fld Reg.MEAS_RF.OHMS = 0 ∧
    (meas fun m => { m with grSince := some (true, 4) }).meas.grSince = some (true, 4) := by decide +kernel

/-- COUNT 1, SEAL9 of a TRAY die. -/
def guarding : State := put awake [(Reg.SENT_CFG.COUNT, 0, 1), (Reg.SYS_ROLE.ROLE, 0, roleTray), (Reg.SEAL_ACC.WORD, 0, 0x200)]

theorem witness_Sentinels : guarding.hasCells = true ∧ (put awake [(Reg.SYS_ROLE.ROLE, 0, roleManager)]).hasCells = false ∧ guarding.canonical = true ∧ guarding.sentRuns = true ∧ guarding.cfgBad = false ∧
    guarding.bitOf Reg.SENT_CFG.MASK 11 = true ∧ guarding.ovLimit 11 < 4500001 ∧ countOf guarding.meas.sentOver 11 + 1 = guarding.sentCount ∧
    (∀ n, n < 12 → guarding.uvLimit n + 20000 ≤ 1520000 ∧ (1520000 : Int) ≤ guarding.ovLimit n - 20000) ∧ guarding.seal9 = true := by
  decide +kernel

/-- Shuttle 0 at work to a target, bleed switch 0 closed. -/
def balancing : State :=
  { put awake [(Reg.BAL_ST.OP, 0, 1), (Reg.BAL_TARGET.UC, 0, 100), (Reg.BAL_BLEED.CLOSED, 0, 1), (Reg.BAL_CUR.APPLIED, 0, 100),
      (Reg.BAL_IB.I, 0, 7)] with
    ladle := { awake.ladle with closed := 1, targets := 2, leftNc := Vector.replicate 12 9 } }

theorem witness_LadleWork : balancing.shuttleHeld 0 = false ∧ 100 ≤ balancing.fld Reg.BAL_CUR.APPLIED 0 ∧ balancing.shuttleRuns 0 = true ∧
    (balancing.shuttle 0).meanOver (ms 1) ≤ 1000 ∧ (balancing.shuttle 0).doneNc + ((balancing.shuttle 0).part +
      (balancing.cycleCharge 0 (balancing.nextCycle - balancing.now)).2) / 24 < 1000 * 100 ∧ balancing.temp ≤ 55000 ∧
    balancing.ovLimit (balancing.servedCell 0 - 1) - 50000 ≤ balancing.ovLimit (balancing.servedCell 0 - 1) ∧ balancing.bleedRuns = true ∧
    bitAt balancing.ladle.dutyOff 0 = false ∧ balancing.fld Reg.BAL_ST.OP 0 = 1 ∧
    { balancing with ladle := { balancing.ladle with targets := 1 } }.hasTarget 1 = true ∧ balancing.fld Reg.BAL_IB.I 0 ≠ 0 := by
  decide +kernel

theorem witness_Balancing : balancing.canonical = true ∧ balancing.hasCells = true ∧ (balancing.shuttle 0).rise ≤ 45000 ∧
    balancing.fld Reg.BAL_CUR.APPLIED 0 ≤ 1000 ∧ balancing.zUsed 0 = 0 ∧ balancing.flag Reg.BAL_ST.SUPPLY 0 = false ∧
    balancing.shuttleActive 0 = true ∧ (10 * 30) % balancing.fld Reg.BAL_CUR.APPLIED 0 = 0 ∧ balancing.fld Reg.BAL_TARGET.UC 0 ≠ 0 ∧
    (balancing.shuttle 0).doneNc ≤ 1000 * balancing.fld Reg.BAL_TARGET.UC 0 ∧ balancing.studyRuns = false ∧
    (put balancing [(Reg.BAL_BDUTY.DUTY, 0, 99)]).fld Reg.BAL_BDUTY.DUTY < 100 ∧ bitAt balancing.ladle.closed 0 = true ∧ balancing.bitOf Reg.BAL_BLEED.CLOSED 0 = true := by
  decide +kernel

/-- A compare that is due already. -/
def overdue : State := put armed [(Reg.RTC_LO.TIME, 0, 0)]

theorem witness_RackTimeCompares : armed.rackStill = false ∧ armed.rtime < 2 ^ 62 ∧ overdue.rtcArmed 0 = true ∧
    overdue.rtcTarget 0 ≤ overdue.rackNow ∧ overdue.canonical = true ∧ (∀ j : Fin 4, armed.rtcArmed j = true → armed.rackNow < armed.rtcTarget j) ∧
    armed.snap.at0 = none ∧ armed.canonical = true ∧ awake.rackNow < 0 * 2 ^ 48 + 1 ∧ 0 * 2 ^ 48 + 0 ≤ awake.rackNow ∧
    armed.rtcArmed 0 = true ∧ { described with dma := described.dma.set 3 { DmaCh.reset with waitRtc := some 0 } }.dmaCh 3 =
      { DmaCh.reset with waitRtc := some 0 } ∧ { armed with snap := { armed.snap with tied := [(0, 65535)] } }.snap.tied.filter (fun e => e.1 = 0) = [(0, 65535)] ∧
    awake.rtHold = 0 ∧ awake.rackStill = false ∧ awake.rackTicks ≤ 0xFE1D33CF0000 ∧ awake.snap.warned ≠ some awake.epoch ∧
    { awake with snap := { awake.snap with warned := some 0 } }.snap.warned = some awake.epoch := by decide +kernel

def manager : State := put node [(Reg.SYS_ROLE.ROLE, 0, roleManager)]
/-- Port 0 is the active default upstream, of measured delay. -/
def timed : State := put node [(Reg.RT_LINKDLY.VALID, 0, 1), (Reg.RT_LINKDLY.DELAY, 0, 640)]
def twoUp : State :=
  put timed [(Reg.FAB_UP.SEC, 0, 0), (Reg.FAB_UP.SECV, 0, 1), (Reg.FAB_UP.PRIM, 0, 1), (Reg.FAB_UP.ACTIVE, 0, 1)]
def timeFrame (t : Fin 16) (b : List Byte) : Arrival := arrives { frame t b with dest := 0 }
def sched (l : List Byte) : Arrival := timeFrame Ty.SCHED l

theorem witness_RackTimeFrames : manager.timeRuns = true ∧ node.timeRuns = false ∧ node.snap.at0 ≠ some node.now ∧ manager.canonical = true ∧ manager.isManager = true ∧ manager.fld Reg.RT_CFG.PER ≠ 0 ∧
    manager.usable 0 = true ∧ node.isManager = false ∧ timed.admits (timeFrame Ty.TIME [1, 0, 0, 0, 0, 0, 0, 0]) ∧
    timed.takesFrom 0 = true ∧ timed.srcTrusted 7 = true ∧ timed.linkDelay 0 = some 640 ∧ timed.activeUp = some 0 ∧
    timed.flag Reg.RT_ST.SET = false ∧ twoUp.activeUp ≠ some 0 ∧ twoUp.takesFrom 0 = true ∧
    twoUp.admits (timeFrame Ty.TIME [1, 0, 0, 0, 0, 0, 0, 0]) ∧ node.linkDelay 0 = none ∧
    node.admits (timeFrame Ty.TIME [1, 0, 0, 0, 0, 0, 0, 0]) ∧ (put node [(Reg.RT_ST.LOCKED, 0, 1)]).flag Reg.RT_ST.LOCKED = true ∧
    node.admits (sched [2, 0, 0, 0, 1, 0, 0, 0, 0, 0, 0, 0]) ∧ node.schedGood (sched [2, 0, 0, 0, 1, 0, 0, 0, 0, 0, 0, 0]).frame = true ∧
    node.snap.lastSnap ≠ some 0 ∧ node.rackNow < 1 ∧ node.schedGood (sched [1, 0, 3, 0, 1, 0, 0, 0, 0, 0, 0, 0]).frame = true ∧
    node.snap.lastSweep ≠ some 3 ∧ { node with snap := { node.snap with lastSweep := some 3 } }.snap.lastSweep = some 3 ∧
    node.admits (sched [1]) ∧ node.schedGood (sched [1]).frame = false := by unfold State.admits State.sound State.noSide; decide +kernel

def managerNode : State := put armed [(Reg.SYS_ROLE.ROLE, 0, roleManager)]
def compared (l m : Option (Nat × Nat)) : State := { awake with snap := { awake.snap with armed := l, follow := m } }

theorem witness_Snapshots : { awake with snap := { awake.snap with at0 := some 0 } }.snap.at0 = some awake.now ∧ awake.snap.at0 ≠ some awake.now ∧
    (compared (some (7, 65535)) none).snap.follow = none ∧ (compared none (some (7, 65535))).snap.follow = some (7, 65535) ∧
    (compared none (some (7, 65535))).snap.armed = none ∧ (compared (some (8, 1)) (some (7, 2))).snap.armed = some (8, 1) ∧
    (compared (some (8, 1)) (some (7, 2))).snap.follow = some (7, 2) ∧ awake.hfo = true ∧ awake.canonical = true ∧ awake.isManager = false ∧ awake.snap.localNo < 2 ^ 15 ∧
    managerNode.canonical = true ∧ managerNode.isManager = true ∧ managerNode.rtcArmed 0 = true ∧ managerNode.rackNow < managerNode.rtcTarget 0 ∧
    managerNode.rtcArmed 3 = false ∧ (compared (some (7, 65535)) none).snap.armed = some (7, 65535) ∧ awake.snap.armed = none ∧
    { awake with snap := { awake.snap with hfoLate := [(1, none)] } }.snap.hfoLate = [(1, none)] := by decide +kernel

/-! ## Hypotheses met: check values and the black box -/

/-- Job `k` enabled over the word at 0, of CRC-8 with every INIT bit 0. -/
def jobOf (k : Nat) (l : List (Fld × Nat × Nat)) : State :=
  put awake ([(Reg.CVU_JOB_CTRL.EN, k, 1), (Reg.CVU_JOB_CTRL.POLY, k, 0), (Reg.CVU_JOB_CTRL.FINAL, k, 0), (Reg.CVU_JOB_CTRL.PERIOD, k, 1),
    (Reg.CVU_JOB_START.ADDR, k, 0), (Reg.CVU_JOB_LEN.BYTES, k, 4), (Reg.CVU_JOB_INIT.VALUE, k, 0), (Reg.LOAD_ST.BLANK, 0, 0)] ++ l)
def jobRun (k : Nat) (l : List (Fld × Nat × Nat)) : State :=
  jobOf k ([(Reg.CVU_JOB_STAT.RUNNING, k, 1), (Reg.CVU_JOB_CTRL.CMP, k, 1)] ++ l)

theorem witness_JobTurns : (jobRun 7 []).scanHolds = false ∧ (jobRun 7 []).flag Reg.CVU_ST.AVBUSY = false ∧
    (jobRun 7 []).jobNext = some 7 ∧ (jobRun 7 []).jobWaits 7 ((jobRun 7 []).jobLeft 7) = false ∧ (jobRun 7 []).jobLeft 7 = 1 ∧
    (jobRun 7 [(Reg.CVU_JOB_STAT.POS, 7, 1)]).jobLeft 7 = 0 ∧ (jobRun 7 []).jobFrom 7 % 4 = 0 ∧ (jobRun 7 []).jobAt 7 = 0 ∧
    (jobRun 7 [(Reg.CVU_JOB_CTRL.EN, 2, 1), (Reg.CVU_JOB_STAT.RUNNING, 2, 1), (Reg.CVU_JOB_LEN.BYTES, 2, 4)]).jobNext = some 2 ∧
    { jobRun 2 [] with cvu := { awake.cvu with second := 4 } }.jobRuns 2 = true ∧ (awake.eccBad = []) ∧ awake.asleep = false := by decide +kernel

theorem witness_CheckValues : (jobOf 7 []).canonical = true ∧ (jobOf 7 []).jobAllowed 7 = true ∧ (jobOf 7 []).jobRuns 7 = false ∧
    (jobOf 7 []).jobRangeGood 7 = true ∧ (jobRun 7 []).jobAllowed 7 = true ∧ (jobRun 7 []).jobRuns 7 = true ∧
    (jobOf 3 [(Reg.CVU_JOB_LEN.BYTES, 3, 0x10004)]).jobRangeGood 3 = false ∧ (jobOf 3 [(Reg.CVU_JOB_LEN.BYTES, 3, 0x10004)]).jobAllowed 3 = true ∧
    (jobOf 7 []).jobPeriod 7 ≠ 0 ∧ { jobOf 7 [] with cvu := ⟨Vector.replicate 8 (some 5), 0, 0, 0, 0, 0, none⟩ }.jobStarted 7 = some 5 ∧
    bitAt (jobRun 7 []).cvu.again 7 = false ∧
    crcBytes ((jobRun 7 []).jobPoly 7) 0 ((jobRun 7 []).bytes 0 4) % 2 ^ crcWidth 0 = (jobRun 7 []).fld Reg.CVU_JOB_EXPECT.VALUE 7 ∧
    (jobRun 2 [(Reg.CVU_JOB_EXPECT.VALUE, 2, 1)]).jobAllowed 2 = true ∧ (jobRun 2 [(Reg.CVU_JOB_EXPECT.VALUE, 2, 1)]).jobRuns 2 = true ∧
    (jobRun 2 [(Reg.CVU_JOB_EXPECT.VALUE, 2, 1)]).flag Reg.CVU_JOB_CTRL.CMP 2 = true ∧
    crcBytes ((jobRun 2 []).jobPoly 2) 0 ((jobRun 2 []).bytes 0 4) % 2 ^ crcWidth 0 ≠
      (jobRun 2 [(Reg.CVU_JOB_EXPECT.VALUE, 2, 1)]).fld Reg.CVU_JOB_EXPECT.VALUE 2 % 2 ^ crcWidth 0 ∧
    bitAt awake.cvu.second 2 = false ∧ bitAt (4 : Nat) 2 = true ∧ awake.flag Reg.CVU_ST.AVBUSY = false ∧
    (put awake [(Reg.CVU_ST.AVBUSY, 0, 1)]).flag Reg.CVU_ST.AVBUSY = true ∧ awake.fld Reg.CVU_AVCFG.STRIDE = 0 ∧
    (put awake [(Reg.CVU_AVCFG.STRIDE, 0, 2), (Reg.CVU_AVCFG.COUNT, 0, 63), (Reg.CVU_AVCFG.FIRST, 0, 1), (Reg.CVU_AVBASE.ADDR, 0, 0xFF82)]).fld
      Reg.CVU_AVCFG.COUNT = 63 := by decide +kernel

def aRec (k : Byte) (st : Bool) (n : BitVec 16) : Rec := ⟨k, st, false, false, n, 0, 0, 0xFF, List.replicate 44 0⟩
def box (l : List (Fld × Nat × Nat)) (f : Bbx → Bbx) : State :=
  let s := put awake ([(Reg.BBX_STAT.HOLDUP_OK, 0, 1), (Reg.BBX_STAT.READY, 0, 1)] ++ l)
  { s with bbx := f s.bbx }

theorem witness_BlackBoxTurns : (box [] id).commitTurn = false ∧ (box [] id).serving = [] ∧
    { box [] fun b => { b with commit := some (aRec 1 true 0, 511) } with nvmQ := [⟨ringAddr 511, [], .commit⟩] }.commitTurn = true ∧
    { box [] fun b => { b with commit := some (aRec 1 true 0, 511) } with nvmQ := [⟨ringAddr 511, [], .commit⟩] }.canonical = true ∧
    (box [] id).boot.inReset = false := by decide +kernel

theorem witness_BlackBoxCommits : (box [] fun b => { b with queue := [(aRec 1 false 0, none)], nextPos := 511 }).canonical = true ∧
    (box [] id).bbx.commit = none ∧ (box [] id).flag Reg.BBX_STAT.HOLDUP_OK = true ∧ (box [] id).flag Reg.BBX_STAT.DEGRADED = false ∧
    (box [] fun b => { b with nextPos := 511 }).nextFree 511 = some 511 ∧ awake.flag Reg.BBX_STAT.HOLDUP_OK = false ∧
    (box [] fun b => { b with commit := some (aRec 1 true 0, 511) }).bbx.acks = [] ∧
    (box [] fun b => { b with commit := some (aRec 1 true 0, 511) }).bbx.breads = [] ∧
    (box [] fun b => { b with burning := [(7, 9)] }).bbx.burning = [(7, 9)] ∧ awake.boot.march = true ∧
    awake.flag Reg.BBX_STAT.READY = false ∧ awake.bbx.queue = [] ∧ awake.bbx.early = [] ∧
    (box [] fun b => { b with pins := [3] }).pinSeq 3 = 0xFFFF ∧ (box [(Reg.BBX_CFG.SUMPER, 0, 1)] id).fld Reg.BBX_CFG.SUMPER ≠ 0 ∧
    ((box [] id).nextFree (box [] id).bbx.nextPos).isSome = true := by decide +kernel
theorem witness_erasedRing (a : Nat) (h : 0x10010000 ≤ a) : awake.byte a = 0xFF := by
  show look memDefault [] a = 0xFF
  simp only [look, memDefault]; rw [if_neg (by omega)]

/-- A sealed node whose port 0 is bound to area U. -/
def bound (l : List (Fld × Nat × Nat)) : State := put node ([(Reg.LOAD_ST.BLANK, 0, 0), (Reg.BBX_STAT.READY, 0, 1)] ++ l)
def mirrored (k : Byte) : Arrival := mail Ty.MIRROR 0x01 ([0, 0, 0, k, 0, 9, 0] ++ List.replicate 56 0)
def ownHeader : List Byte := [1, 0, 0, 0, 0, 0, 0, 0, 0, 0, 0, 1] ++ List.replicate 48 0
def owned : State := (bound []).setBytes 0x10018000 (ownHeader ++ commitWord ownHeader)
def pooled : State :=
  let b : List Byte := [1, 0, 9, 0] ++ List.replicate 56 0
  (bound []).setBytes (0x10018000 + 64 * 24) (b ++ commitWord b)
def answering : State := put manager [(Reg.BBX_RDST.STATUS, 0, 7), (Reg.BBX_STAT.READY, 0, 1)]

theorem witness_MirrorsAndReads : (bound []).canonical = true ∧ (bound []).isMine 5 = true ∧ (bound []).admits (mirrored 1) ∧
    (mirrored 1).frame.payload.length = 64 ∧ node.areaOf 0 = none ∧ node.admits (mirrored 1) ∧ (bound []).areaOf 0 = some 1 ∧
    owned.canonical = true ∧ owned.areaHeld 1 = true ∧ owned.areaOf 0 = some 1 ∧ owned.admits (mirrored 1) ∧
    fieldOf (owned.shadowAt 1 0) 0 8 ≠ owned.seenUid 0 ∧ (bound []).areaHeld 1 = false ∧
    (bound [(Reg.BBX_SHBAD.BAD, 0, 0xFFFFFFFF)]).shadowPlace 1 (((mirrored 0x0A).frame.payload.drop 4).take 60) = none ∧
    (bound [(Reg.BBX_SHBAD.BAD, 0, 0xFFFFFFFF)]).admits (mirrored 0x0A) ∧
    ((bound []).shadowPlace 1 (((mirrored 1).frame.payload.drop 4).take 60)).isSome = true ∧ pooled.canonical = true ∧
    pooled.admits (mail Ty.MIRROR 0x02 [0, 9, 0]) ∧ pooled.areaOf 0 = some 1 ∧ isCommitted (pooled.shadowAt 1 24) = true ∧
    fieldOf (pooled.shadowAt 1 24) 2 2 = 9 ∧ (∀ j < 24, isCommitted (pooled.shadowAt 1 j) = false) ∧
    (bound []).admits (mail Ty.MIRROR 0x03 [1, 9, 0]) ∧ (bound []).boundU = some 0 ∧ (bound []).admits (mail Ty.MIRROR 0x10 [0, 1, 0]) ∧
    (bound []).route 7 = some (0, true) ∧ (bound []).bbx.commit = none ∧ answering.admits (mail Ty.MIRROR 0x90 (List.replicate 63 1)) ∧
    answering.isManager = true ∧ answering.fld Reg.BBX_RDST.STATUS = 7 ∧ manager.fld Reg.BBX_RDST.STATUS ≠ 7 ∧
    manager.isMine 9 = false ∧ manager.route 9 = some (0, true) ∧ answering.admits (mail Ty.MIRROR 0x20 (List.replicate 11 0)) ∧
    answering.flag Reg.BBX_STAT.READY = true ∧ answering.flag Reg.BBX_STAT.DEGRADED = false ∧ answering.bbx.pins.length < 64 ∧
    (put node [(Reg.BBX_STAT.DEGRADED, 0, 1)]).flag Reg.BBX_STAT.DEGRADED = true ∧ node.primPort = some 0 ∧ node.usable 0 = true := by
  unfold State.admits State.sound State.noSide; decide +kernel

/-! ## Hypotheses met: safety -/

/-- A running safety block of a TRAY die with every pair in state `p`, plain pairs, no source. -/
def guarded (p : Nat) (l : List (Fld × Nat × Nat)) (f : Safe → Safe) : State :=
  let s := put awake ([(Reg.SYS_ROLE.ROLE, 0, roleTray), (Reg.SAFE_ST.PAIRS, 0, 0x55 * p), (Reg.SAFE_DSRC.SRC, 0, 0), (Reg.SYS_SUPPLY.COIL_OK, 0, 1)] ++ l)
  { s with safe := f { s.safe with running := true, pulseA := false, pulseB := false } }

/-- Channel A's output has begun a test pulse; the channels have differed for 5 ms. -/
def pulsing : State := guarded 1 [] fun f => { f with pulse := some (false, 0), pulseA := true, passes := Vector.replicate 12 1 }

theorem witness_Pulses : pulsing.canonical = true ∧ pulsing.safe.pulse = some (false, 0) ∧ pulsing.safe.pulseA = true ∧
    1 ≤ countOf pulsing.safe.passes 0 ∧ (guarded 1 [] id).pulseTurn true = true ∧
    (guarded 1 [] fun f => { f with pulse := some (true, 0), pulseB := false }).pulseTurn true = false ∧
    0 + ms 5 ≤ max { guarded 1 [] id with now := ms 5 }.now ((guarded 1 [] id).safe.cmpAt + ms 1) ∧
    (guarded 1 [] id).safe.chbSince = none ∧ (guarded 1 [] id).isManager = false ∧ (guarded 1 [] id).isTray = true := by decide +kernel

theorem witness_SafetyInputs : (guarded 1 [] id).canonical = true ∧ (guarded 1 [] id).hasSafety = true ∧
    pairSt ((guarded 1 [] id).fld Reg.SAFE_ST.PAIRS) 3 = 1 ∧ (guarded 1 [] id).dsrc = 0 ∧ (guarded 1 [] id).discOf 3 = none ∧
    (guarded 1 [] id).causeOf 6 = 0 ∧ indicates ((guarded 1 [] id).pairMode 3) 0x7F 7 = true ∧
    (guarded 1 [] fun f => { f with disc := Vector.replicate 4 (some (9, 7)) }).discOf 3 = some (9, 7) ∧
    bitAt (guarded 1 [] id).dsrc Src.TPO = false ∧ (guarded 1 [] id).flag Reg.SYS_SUPPLY.COIL_OK = true ∧
    (guarded 1 [] id).pulseCheck true 0 0 7 = 0 ∧ (guarded 1 [] fun f => { f with accA := 0x80 }).pulseCheck true 0 0 7 ≠ 0 ∧
    (guarded 1 [] fun f => { f with chbSince := some 0 }).chDiffer = true ∧ (guarded 0 [] id).chDiffer = false ∧
    { guarded 1 [] (fun f => { f with chbSince := some 0 }) with now := ms 5 }.now = 0 + ms 5 ∧ pairSt ((guarded 2 [] id).fld Reg.SAFE_ST.PAIRS) 3 = 2 ∧
    indicates ((guarded 2 [] id).pairMode 3) 0xFF 6 = false ∧ pairSt ((guarded 3 [] id).fld Reg.SAFE_ST.PAIRS) 3 = 3 ∧
    bitAt (guarded 3 [] fun f => { f with bothSeen := 8 }).safe.bothSeen 3 = true := by decide +kernel

/-- A running manager of the pair whose own line is high. -/
def torque (f : Safe → Safe) (l : List (Fld × Nat × Nat)) : State :=
  guarded 1 ([(Reg.SYS_ROLE.ROLE, 0, roleManager), (Reg.SAFE_TRQ.OWN, 0, 1), (Reg.SAFE_TRQ.PART, 0, 1)] ++ l) f
def later : State := { torque (fun f => { f with partSeen := true }) [] with rtime := 64 * ms 50 }

theorem witness_TorqueAndDemand : (torque id []).canonical = true ∧ (torque id []).hasSafety = true ∧ (torque id []).dsrc = 0 ∧
    (guarded 1 [(Reg.SAFE_DSRC.SRC, 0, 1)] id).dsrc ≠ 0 ∧ (torque id []).flag Reg.SAFE_TRQ.OWN = true ∧ (torque id []).isManager = true ∧
    (torque (fun f => { f with partSeen := true }) []).safe.partSeen = true ∧ (torque id []).flag Reg.SAFE_TRQ.PART = true ∧
    (torque (fun f => { f with partSeen := true }) []).inWindow = false ∧ later.inWindow = true ∧ (torque id []).safe.partMiss = 0 ∧
    0 < (torque (fun f => { f with partMiss := 1 }) []).safe.partMiss ∧ (torque (fun f => { f with ownHigh := some 3 }) []).safe.ownHigh = some 3 ∧
    (torque id []).chDiffer = true ∧ (guarded 1 [(Reg.SAFE_DSRC.SRC, 0, 1)] id).isTray = true ∧
    (guarded 1 [] fun f => { f with tiRun := true }).safe.tiRun = true ∧ (guarded 1 [] fun f => { f with sdAt := some 4 }).safe.sdAt = some 4 := by
  decide +kernel

/-- Coil phases of a TRAY die in RUN without demand. -/
def coils (mode : Nat) (ph : List Nat) (on : Nat) (l : List (Fld × Nat × Nat)) : State :=
  guarded 1 ([(Reg.SAFE_ST.MODE, 0, mode), (Reg.SAFE_CON.ON, 0, on)] ++
    ((List.range 4).map fun i => (phaseFld i, 0, ph.getD i 0)) ++ l) fun f => { f with coilAt := Vector.replicate 4 (ms 30) }
def at_ (s : State) (n : Nat) : State := { s with now := n }

theorem witness_Coils : (coils 1 [0, 0, 0, 0] 0 []).canonical = true ∧ (coils 1 [] 0 []).hasSafety = true ∧
    (coils 1 [] 0 []).fld Reg.RACK_TST.STATE = 0 ∧ (coils 1 [] 0 []).rack.aborting = false ∧ (coils 1 [] 0 []).coilOn 3 = false ∧
    (coils 1 [] 0 []).flag Reg.SAFE_CONST.HANDOVER = false ∧ (coils 1 [] 0 []).phase 3 = 0 ∧ (coils 1 [] 0 []).dsrc = 0 ∧
    (coils 1 [] 0 []).safeMode = 1 ∧ (coils 1 [] 0 []).phase 2 ≠ 2 ∧ (coils 1 [0, 0, 2, 0] 4 []).phase 2 = 2 ∧
    (coils 1 [0, 0, 2, 0] 4 []).coilTime 2 + ms 50 ≤ (at_ (coils 1 [0, 0, 2, 0] 4 []) (ms 40)).now + ms 40 ∧
    (at_ (coils 1 [0, 0, 2, 0] 4 []) (ms 40 - 1)).now + ms 40 < (coils 1 [0, 0, 2, 0] 4 []).coilTime 2 + ms 50 ∧
    (coils 3 [] 0 []).safeMode ≠ 1 ∧ (coils 1 [3, 0, 0, 0] 1 []).coilOn 0 = true ∧ (coils 1 [3, 0, 0, 0] 1 []).phase 0 = 3 ∧
    (coils 1 [3, 0, 0, 0] 1 []).handsOver = false ∧ (coils 1 [3, 3, 0, 0] 3 []).handsOver = true ∧
    (coils 1 [0, 0, 0, 2] 8 []).phase 3 = 2 ∧ (coils 1 [] 0 [(Reg.SAFE_CONST.HSB, 0, 1)]).flag ⟨0x9034, 0, 18, 1⟩ = true ∧
    (coils 1 [3] 1 [(Reg.SAFE_FB.ACC, 0, 1)]).fbUsed 0 = true ∧ (coils 1 [3] 1 [(Reg.SAFE_FB.ACC, 0, 1)]).fbHigh 0 = true ∧
    (at_ (coils 1 [3] 1 []) (ms 60)).now ≤ (coils 1 [3] 1 []).coilTime 0 + ms 30 ∧ (coils 1 [4] 0 []).phase 0 = 4 ∧
    (coils 1 [4] 0 []).coilOn 0 = false ∧ (coils 1 [4] 0 [(Reg.SAFE_FB.ACC, 0, 0)]).fbHigh 0 = false ∧
    (coils 1 [3, 3] 2 [(Reg.SAFE_CONST.HANDOVER, 0, 1)]).flag Reg.SAFE_CONST.HANDOVER = true := by decide +kernel

def sealing (l : List (Nat × List Byte)) : State := guarded 1 [(Reg.SAFE_ST.MODE, 0, 2)] fun f => { f with sealing := some l }

theorem witness_SealAndParameters : (guarded 1 [] id).safe.running = true ∧ (guarded 1 [] id).safe.sealMatrix = false ∧
    (guarded 1 [] fun f => { f with sealLast := some 0xFFF }).safe.sealLast = some (0xFFF : BitVec 12).toNat ∧
    (guarded 1 [] id).safe.sealLast ≠ some (0 : BitVec 12).toNat ∧ (guarded 1 [(Reg.SAFE_ST.MODE, 0, 2)] id).safeMode = 2 ∧
    (guarded 1 [(Reg.SAFE_ST.MODE, 0, 2)] id).safe.sealing = none ∧ (0x5EA0 : BitVec 16) ≠ 0x5EA1 ∧ (guarded 1 [] id).safeMode ≠ 2 ∧
    (sealing [(0x1001DFFF, [0xFF])]).safe.sealing = some [(0x1001DFFF, [0xFF])] ∧ (sealing []).nvmQ = [] ∧
    (sealing []).bytes 0x1001DFFF 1 = [0xFF] ∧ (sealing []).bytes 0x1001DFFF 1 ≠ [0] ∧ (sealing []).canonical = true := by decide +kernel

/-! ## Hypotheses met: safety frames and the rack -/

/-- Slot 15 enabled, armed, to receive (DIR 0) or to send. -/
def slots (tx : Nat) (l : List (Fld × Nat × Nat)) : State :=
  guarded 1 ([(Reg.SCON_CFG.EN, 15, 1), (Reg.SCON_CFG.DIR, 15, tx), (Reg.SCON_CFG.KIND, 15, 1), (Reg.SFU_ARM.SLOTS, 0, 0x8000)] ++ l) id

/-- An operation of the safety-frame unit is in progress until 9. -/
def busySfu : State := { slots 1 [(Reg.SYS_ROLE.ROLE, 0, roleManager)] with sfu := { (slots 1 []).sfu with op := some (.check 0, 9) } }

theorem witness_SafetyFrames : busySfu.sfu.op = some (.check 0, 9) ∧ busySfu.now < 9 ∧ busySfu.canonical = true ∧ busySfu.isManager = true ∧
    busySfu.hasSafety = true ∧ (slots 1 []).sfu.op = none ∧ (0x1000 : Word).getLsbD 12 ≠ (0x1000 : Word).getLsbD 13 ∧ (slots 1 []).canonical = true ∧ (slots 1 []).hasSafety = true ∧ (slots 1 []).slotOn 15 true = true ∧
    (36 : BitVec 6).toNat ≤ 36 ∧ (slots 1 []).sfuBufGood = true ∧ (slots 0 []).slotOn 15 true = false ∧ 36 < (37 : BitVec 6).toNat ∧
    (slots 1 [(Reg.SFU_BUF.ADDR, 0, 0x4000)]).sfuBufGood = false ∧ (0x8000 : BitVec 16).getLsbD 15 = true ∧
    (0 : BitVec 16).getLsbD 15 = false ∧ (slots 0 []).rackTicks % 12000 = 0 ∧ (slots 0 []).bitOf Reg.SFU_ARM.SLOTS 15 = true ∧
    (slots 0 []).slotOn 15 false = true ∧ (slots 0 []).expired Reg.SCON_EXP.TICK 15 = true ∧
    (slots 0 [(Reg.SCON_EXP.TICK, 15, 1)]).expired Reg.SCON_EXP.TICK 15 = false := by decide +kernel

/-- A sealed manager, not A of its plan, with its cross-link UP and armed. -/
def paired (l : List (Fld × Nat × Nat)) (f : Sfu → Sfu) : State :=
  let s := put node ([(Reg.SYS_ROLE.ROLE, 0, roleManager), (Reg.LOAD_ST.BLANK, 0, 0), (Reg.PORT_ST.STATE, 4, Link.UP), (Reg.SFU_XCID.CID, 0, 7),
    (Reg.SFU_XRX.ARMED, 0, 1)] ++ l)
  { s with safe := { s.safe with running := true }, sfu := f s.sfu }
def exchange (src : BitVec 16) : Arrival :=
  { arrives { frame Ty.SAFE (safetyPayload 0x10 1 0 7 (List.replicate 36 2)) with src := src } with port := xlink }

theorem witness_ManagerPair : (paired [] fun f => { f with instant := some 0 }).sfu.instant = some 0 ∧
    (paired [] id).rackNow ≤ 0 + (paired [] id).rackTicks % 12000 ∧ (paired [] id).canonical = true ∧ (paired [] id).isManager = true ∧ (paired [] id).safe.running = true ∧
    (paired [] id).sfu.instant = none ∧ (paired [] id).rackNow % 12000 = 0 ∧ (paired [] id).sealed = true ∧
    (paired [] id).fld Reg.SFU_XCID.CID ≠ 0 ∧ (paired [] id).link xlink = Link.UP ∧ manager.sealed = false ∧
    (paired [] id).lineOf (exchange 0xFFFF) = .good ∧ (exchange 0xFFFF).frame.sideStart = false ∧ ((paired [] id).port xlink).sideRx = none ∧
    accepts ((paired [] id).checkFrame (paired [] id).xrxEnd ⟨1, 0xFFFF, (exchange 0xFFFF).frame.payload⟩) = true ∧
    (paired [] id).lineOf (exchange 1) = .good ∧
    accepts ((paired [] id).checkFrame (paired [] id).xrxEnd ⟨1, 1, (exchange 1).frame.payload⟩) = false ∧
    (paired [] fun f => { f with instant := some 3, judged := false }).sfu.instant = some 3 ∧
    (paired [] fun f => { f with judged := false, got := some f.sent.toList }).sfu.got = some (paired [] id).sfu.sent.toList ∧
    List.replicate 8 (5 : Word) ≠ (paired [] id).sfu.sent.toList ∧ (paired [] id).sfu.got = none ∧
    3 ≤ (paired [] fun f => { f with missing := 3 }).sfu.missing ∧
    (paired [(Reg.FAB_ADDR.ADDR, 0, 0xFFFF), (Reg.PORT_ST.STATE, 4, Link.DOWN)] id).isMgrA = true ∧
    (paired [(Reg.FAB_ADDR.ADDR, 0, 0xFFFF), (Reg.PORT_ST.STATE, 4, Link.DOWN)] id).link xlink = Link.DOWN ∧
    (paired [] id).portOn xlink = true := by decide +kernel

/-- A tray in RUN whose join engine is in state `n`. -/
def joining (n : Nat) (ph : List Nat) (on : Nat) (l : List (Fld × Nat × Nat)) (f : Rack → Rack) : State :=
  let s := coils 1 ph on ([(Reg.RACK_TST.STATE, 0, n), (Reg.RACK_TCAP.VALID, 0, 1), (Reg.SAFE_FB.ACC, 0, 15), (Reg.RACK_RSHUNT.UOHM, 0, 50)] ++ l)
  { s with rack := f s.rack }

theorem witness_JoinEngine : (joining 0 [] 0 [] id).canonical = true ∧ (joining 0 [] 0 [] id).isTray = true ∧
    (joining 0 [] 0 [] id).rack.aborting = false ∧ (joining 0 [] 0 [] id).joinState = 0 ∧ (joining 0 [] 0 [] id).safeMode = 1 ∧
    (joining 0 [] 0 [] id).dsrc = 0 ∧ (∀ n < 4, (joining 0 [] 0 [] id).phase n = 0) ∧ (joining 0 [] 0 [] id).flag Reg.RACK_TCAP.VALID = true ∧
    (joining 0 [] 0 [] id).fld Reg.RACK_TCAP.SEQ = 0 ∧ (joining 0 [] 0 [] id).flag Reg.BBX_STAT.UNFIT = false ∧
    (joining 0 [] 0 [] id).coilOn 2 = false ∧ (joining 0 [] 0 [] id).fbHigh 2 = true ∧ (joining 8 [] 0 [] id).joinState = 8 ∧
    (joining 5 [] 0 [] id).joinState = 5 ∧ (joining 7 [] 0 [] id).joinState = 7 ∧ (joining 6 [] 0 [] id).joinState = 6 ∧
    (joining 2 [] 0 [] id).joinRuns = true ∧ (joining 3 [3] 1 [] fun r => { r with settleAt := some 5 }).rack.settleAt = some 5 ∧
    (joining 3 [3] 1 [] id).flag Reg.RACK_TST.HOLD = false ∧ (joining 3 [3] 1 [] id).phase 0 = 3 ∧ (joining 3 [3] 1 [] id).coilOn 0 = true ∧
    (joining 3 [3] 1 [] id).phase 1 = 0 ∧ (joining 3 [3] 1 [] id).coilOn 1 = false ∧
    (joining 3 [] 0 [(Reg.RACK_TST.HOLD, 0, 1)] id).flag Reg.RACK_TST.HOLD = true ∧
    (joining 2 [] 0 [] fun r => { r with preAt := some 5 }).rack.preAt = some 5 ∧
    (joining 2 [] 0 [(Reg.RACK_TST.TRIES, 0, 6)] id).fld Reg.RACK_TST.TRIES < 7 ∧ (joining 6 [] 0 [] id).fld Reg.RACK_RSHUNT.UOHM ≠ 0 ∧
    (-32767 : Int).natAbs ≤ 32767 ∧ (joining 7 [] 0 [] fun r => { r with retryAt := some 9 }).rack.retryAt = some 9 ∧
    (joining 6 [] 0 [] fun r => { r with leaveAt := some 9 }).rack.leaveAt = some 9 := by decide +kernel

def entry (l : List (Fld × Nat × Nat)) : State := put node ([(Reg.SYS_ROLE.ROLE, 0, roleManager), (Reg.TRAY_CFG.EN, 63, 1)] ++ l)

theorem witness_RackCaps : (joining 1 [] 0 [] id).isTray = true ∧ (joining 1 [] 0 [(Reg.RACK_CAPIN0.CAP, 0, 1000)] id).fld Reg.RACK_CAPIN0.CAP ≤ 1000 ∧
    (joining 1 [] 0 [(Reg.RACK_TCAP.VALID, 0, 0)] id).flag Reg.RACK_TCAP.VALID = false ∧
    ((joining 1 [] 0 [(Reg.RACK_CAPIN0.CAPSEQ, 0, 32767)] id).fld Reg.RACK_CAPIN0.CAPSEQ + 65536 - 0) % 65536 = 32767 ∧
    ((joining 1 [] 0 [(Reg.RACK_CAPIN0.CAPSEQ, 0, 32768)] id).fld Reg.RACK_CAPIN0.CAPSEQ + 65536 - 0) % 65536 = 32768 ∧
    (joining 1 [] 0 [] id).fld Reg.RACK_CAPIN0.CAP = (joining 1 [] 0 [] id).fld Reg.RACK_TCAP.CAP ∧ (joining 1 [] 0 [] id).rack.itray = 0 ∧
    (joining 1 [] 0 [] fun r => { r with holdUntil := some 9 }).rack.holdUntil = some 9 ∧
    (joining 5 [] 0 [] fun r => { r with overSince := some 9 }).rack.overSince = some 9 ∧ (entry []).canonical = true ∧
    (entry []).isManager = true ∧ (entry []).flag Reg.TRAY_CFG.EN 63 = true ∧ (entry []).sfuBufGood = true ∧
    (entry []).flag Reg.TRAY_CFG.EN 0 = false ∧ (0x80000000 : Word).getLsbD (63 % 32) = true := by decide +kernel

/-! ## Hypotheses met: power, time, the host, reset -/

/-- A die whose contexts let it sleep to `n`; a die in state `n`. -/
def drowsy (n : Nat) : State := awake.modCtx 0 fun v => { v with state := .waiting, wait := some (.sleep n) }
def below (n : Nat) (f : Power → Power) : State := { awake with hfo := false, power := f { awake.power with below := n, waking := false } }

theorem witness_PowerStates : (drowsy 2).canonical = true ∧ eventful.heldAwake = true ∧ (drowsy 2).hfo = true ∧ (drowsy 2).heldAwake = false ∧
    (drowsy 2).permitted = 2 ∧ (drowsy 2).targets = [] ∧ (∀ p, ((drowsy 2).port p).queue = []) ∧
    (∀ c, ((drowsy 2).ctx c).evmask.getLsbD Ev.PORT = false ∧ ((drowsy 2).ctx c).evpend &&& ((drowsy 2).ctx c).evmask = 0) ∧
    { armed with power := (below 2 id).power }.earliest = some 9 ∧ { armed with power := (below 2 id).power }.power.rackHeard = none ∧
    (below 3 fun p => { p with aim := some 5, target := some 9 }).power.aim = some 5 ∧ (below 0 id).hfo = false ∧ (below 0 id).power.below = 0 ∧
    awake.boot.refs = true ∧ (put awake [(Reg.RT_ST.LOCKED, 0, 1)]).flag Reg.RT_ST.LOCKED = true := by decide +kernel
/-- A die in SLEEP's search: GUARD open, SRCH set. -/
def searching (f : Power → Power) (l : List (Fld × Nat × Nat)) : State :=
  let s := put node ([(Reg.CLK_CFG.SRCH, 0, 1)] ++ l)
  { s with power := f { s.power with below := 0 } }

theorem witness_SearchAndRelay : 0 ∈ (searching id [(Reg.PORT_ST.STATE, 0, Link.ASLEEP)]).searchPorts ∧ (searching id []).portOn 0 = true ∧
    (searching id []).hfo = true ∧ { searching id [] with hfo := false }.hfo = false ∧ (searching id []).canonical = true ∧ (searching (fun p => { p with guardAt := some 3 }) []).power.guardAt = some 3 ∧
    (searching id []).flag Reg.CLK_CFG.SRCH = true ∧ (searching id []).power.below = 0 ∧ (searching id []).power.guardAt = none ∧
    (searching (fun p => { p with searchEnd := some 3 }) []).power.searchEnd = some 3 ∧
    (searching (fun p => { p with retryAt := some 3, below := 3 }) [(Reg.CLK_ST.LOST, 0, 1)]).power.retryAt = some 3 ∧
    (searching (fun p => { p with retryAt := some 3, below := 3 }) [(Reg.CLK_ST.LOST, 0, 1)]).flag Reg.CLK_ST.LOST = true ∧
    (searching (fun p => { p with retryAt := some 3, below := 3 }) [(Reg.CLK_ST.LOST, 0, 1)]).flag Reg.CLK_ST.SEARCH = false ∧
    (searching (fun p => { p with retryAt := some 3, below := 3 }) []).power.below = 3 ∧
    (searching (fun p => { p with relay := some (1, 3, false) }) []).power.relay = some (1, 3, false) ∧
    (searching (fun p => { p with relay := some (1, 3, false) }) []).lastTime = none ∧ (searching id []).activeUp = some 0 ∧
    (put node [(Reg.PORT_ST.STATE, 0, Link.ASLEEP)]).link 0 = Link.ASLEEP := by decide +kernel

/-- A die whose watchdog counts, in state `n`. -/
def watched (n : Nat) : State :=
  let s := put awake [(Reg.CLK_WDCFG.EN, 0, 1)]
  { s with power := { s.power with wdOn := true, below := n, target := some 9 } }

theorem witness_MonitorsWatchdogLedger : (watched 0).power.wdWarned ≠ some (watched 0).power.wdAt ∧
    ((awake.reach (awake.power.ledgerAt + min 3 awake.ledgerPeriod)).power.drawn / nanoCoulomb) * awake.power.vstk % 1000 = 0 ∧ (watched 0).canonical = true ∧ (watched 0).power.below < 4 ∧ (watched 0).boot.inReset = false ∧
    (watched 0).wdRuns = true ∧ (watched 0).power.below = 0 ∧ (0x6B1C : BitVec 16) ≠ 0x6B1D ∧ (watched 2).wdRuns = true ∧
    (watched 2).power.target = some 9 ∧ (watched 2).power.below = 2 ∧ awake.wdRuns = false ∧ 5 * 0 % 1000 = 0 ∧
    signed 8 (awake.fld Reg.CLK_MONCFG.THI) * 1000 < 200000 ∧ awake.power.below ≠ 4 := by decide +kernel

/-- A manager with its host port on; CMD with its HCRC. -/
def hosting (l : List (Fld × Nat × Nat)) (f : HostPort → HostPort) : State :=
  let s := put awake ([(Reg.HOST_CFG.EN, 0, 1), (Reg.SYS_ROLE.ROLE, 0, roleManager)] ++ l)
  { s with hostPort := f { s.hostPort with selected := true } }
def cmdOf (op n : Nat) (addr : Word) : Word :=
  let c := BitVec.ofNat 32 (2 ^ 28 * op + 2 ^ 16 * n + 2 ^ 8 * 7)
  c + BitVec.ofNat 32 (headerCrc c addr)
def wcrc (op n : Nat) (addr : Word) (data : List Word) : Word := BitVec.ofNat 32 (wordsCrc (cmdOf op n addr :: addr :: data))

theorem witness_HostTransactions : (hosting [] id).sfu.op = none ∧ (hosting [] id).hostPort.mout = none ∧ (hosting [] id).canonical = true ∧ (hosting [] id).flag Reg.HOST_CFG.EN = true ∧
    (hosting [] fun h => { h with selected := false }).hostPort.selected = false ∧ (hosting [] id).hostPort.selected = true ∧
    (hosting [] id).hostPort.trans = none ∧ headerCrc 0x200207A4 0x4000B008 ≠ (0x200207A4 : Word).toNat % 256 ∧
    headerCrc 0x200207A3 0x4000B008 = (0x200207A3 : Word).toNat % 256 ∧ cmdOp (cmdOf 6 1 0) = none ∧ cmdOp (cmdOf 2 65 0) = none ∧
    cmdOp (cmdOf 2 64 0) = some .read ∧ cmdOp (cmdOf 1 0 0) = some .nop ∧ cmdOp (cmdOf 3 1 0) = some .write ∧
    cmdOp (cmdOf 4 1 8) = some .sread ∧ cmdOp (cmdOf 5 1 1) = some .swrite ∧ 0xFF00 + 4 * 64 ≤ 0x10000 ∧ (hosting [] id).hfo = true ∧
    (hosting [] id).hostPort.waiting = [] ∧ (∀ i < 64, (hosting [] id).eccHit (0xFF00 + 4 * i) = false) ∧ mayReadAt 0xFF04 64 = false ∧
    mayReadAt 0x1001FF00 64 = true ∧ mayWriteAt 0x10000000 1 = false ∧ mayWriteAt 0x4000EF00 64 = true ∧ (hosting [] id).mayDrain 8 = true ∧
    (hosting [] id).mayDrain 0 = false ∧ (hosting [] id).mayFeed 1 = true ∧ (wcrc 3 1 0 [5]).toNat = wordsCrc [cmdOf 3 1 0, 0, 5] ∧
    wordsCrc [cmdOf 3 1 0, 0, 5] ≠ 0 ∧ wholeMessages true 1 [0xFF00] = true ∧ wholeMessages true 1 [0x41] = false ∧
    wholeMessages false 1 [0x100] = false ∧ (hosting [] fun h => { h with msgIn := List.replicate 127 0 }).promised 1 = 0 ∧
    128 < (hosting [] fun h => { h with msgIn := List.replicate 128 0 }).hostPort.msgIn.length + 1 := by decide +kernel

/-- A transaction in progress. -/
def conversing (x : Trans) : State := hosting [] fun h => { h with trans := some x, loadOut := [1, 2] }
def wr (k : Bool) : Trans := { Trans.start .write 7 1 [] with committed := k }
def drain : Trans := { Trans.start .sread 7 1 [] with stream := 8, taken := 1 }
def readErr : Trans := { Trans.start .read 7 1 [] with rc := [(0xB020, 3)] }
/-- A host write waits; a message waits. -/
def promising (w : HostWrite) : State := hosting [] fun h => { h with waiting := [w] }

theorem witness_HostEndingsAndStreams : (hosting [] fun h => { h with mout := some ([0], 9) }).hostPort.mout = some ([0], 9) ∧
    (hosting [] id).now < 9 ∧ (conversing (wr true)).canonical = true ∧ (conversing (wr true)).flag Reg.HOST_CFG.EN = true ∧
    (conversing (wr true)).hostPort.disable = false ∧ (wr true).committed = true ∧ (wr false).committed = false ∧ (wr false).short = false ∧
    (wr false).failed = false ∧ (wr false).tag < 256 ∧ 32 * (wr true).words = 128 ∧ drain.op = .sread ∧ 0 < drain.taken ∧ drain.failed = false ∧
    (conversing drain).mayDrain 8 = true ∧ drain.words = 6 ∧ readErr.op = .read ∧ readErr.rc = [(0xB020, 3)] ∧ readErr.hold = [] ∧
    readErr.ecc = [] ∧ readErr.failed = false ∧ (promising ⟨false, 0xFFFC, [5]⟩).hostPort.waiting = [⟨false, 0xFFFC, [5]⟩] ∧
    (promising ⟨true, 1, [0]⟩).hostPort.waiting = [⟨true, 1, [0]⟩] ∧ (promising ⟨true, 1, [0]⟩).hfo = true ∧
    (promising ⟨true, 1, [0]⟩).hostPort.disable = false ∧ takeMessage [0x102, 0xABCD, 9] = some (1, [0xCD, 0xAB], [9]) ∧
    ((hosting [] fun h => { h with msgIn := [0x102, 0xABCD, 9] }).ctx 0).rx.length < 8 ∧
    8 ≤ (((hosting [] id).modCtx 0 fun v => { v with rx := List.replicate 8 ⟨frame 4 [], 0⟩ }).ctx 0).rx.length ∧
    takeMessage [4, 0x000000A2 + 0x100] = some (0, [0xA2, 1, 0, 0], []) ∧ fieldOf [0xA2, 1, 0, 0] 2 2 % 16 = (0 : Cid).val ∧
    ((asked true 1).ctx 0).req = some (asking true 1) ∧ answerFits { asking true 1 with tag := 0 } [0xA2, 1, 0, 0] 0 = some .done ∧
    (hosting [] id).isManager = true ∧ (64 : Word).toNat % 128 ≤ 64 ∧ 4 * (hosting [] id).fld Reg.HOST_MOUT_ADDR.ADDR + 64 ≤ 0x10000 ∧
    (hosting [] id).hostPort.msgOut.length + 1 + (64 + 3) / 4 ≤ 128 ∧ ¬ (65 : Word).toNat % 128 ≤ 64 := by decide +kernel

theorem witness_Resets : (∀ w ∈ [(⟨0x10010000, [], .commit⟩ : NvmWrite)].head?.toList, w.writer = .commit ∧ w.bytes = []) ∧
    (loading.load.any fun l => !l.committed) = true ∧ loading.nvmQ = [] ∧ awake.canonical = true ∧ awake.nvmQ = [] ∧ (0xD1E4 : BitVec 16) ≠ 0xD1E5 ∧ (below 4 id).power.below = 4 ∧
    awake.power.below ≠ 4 ∧ awake.hfo = true ∧ 150 < (-151 : Int).natAbs ∧ (60 : Int).natAbs ≤ 60 ∧
    { awake.boot with active := 1 }.active = 2 ^ 0 ∧ bitAt { awake.boot with active := 0 }.active 5 = false ∧
    { awake with boot := { awake.boot with inReset := true } }.boot.inReset = true ∧ awake.boot.active = 0 ∧
    { awake.boot with active := 4 }.active ≠ 0 ∧ awake.bbx.commit = none ∧ awake.boot.inReset = false := by decide +kernel

/-- Out of reset, with nothing of start-up done. -/
def raw (f : Boot → Boot) : State := { State.reset with hfo := true, boot := f { State.reset.boot with inReset := false, active := 0 } }

theorem witness_StartUpAndSupplies : (raw id).canonical = true ∧ (raw id).boot.inReset = false ∧ (raw id).hfo = true ∧
    (raw id).boot.fuses = false ∧ (raw fun b => { b with fuses := true }).boot.fuses = true ∧ (raw id).boot.straps = false ∧
    (raw fun b => { b with straps := true }).boot.straps = true ∧ (raw id).boot.march = false ∧ (raw id).boot.refs = false ∧
    (put (raw id) [(Reg.PORT_CTL.AUTOSTART, 0, 1)]).flag Reg.PORT_CTL.EN 0 = true ∧
    (put (raw id) [(Reg.PORT_CTL.AUTOSTART, 0, 1)]).flag Reg.PORT_CTL.AUTOSTART 0 = true ∧ 4400 ≤ 4400 ∧ 4199 < 4200 ∧ 4399 < 4400 ∧
    awake.allOff = true := by decide +kernel

theorem witness_HostBell : awake.canonical = true ∧ Master.ctx 0 ≠ .host := by decide +kernel

/-- A step that changes memory: both invariants hold before it. -/
theorem witness_CanonicalKept : (coreX [0xFFFC, 7]).canonical = true ∧ (coreX [0xFFFC, 7]).queuesBounded = true ∧
    (match step { coreX [0xFFFC, 7] with pending := [.stw 2 1 0 0] } with
      | .next t => decide (t.word 0xFFFC = 7) && t.canonical && t.queuesBounded
      | _ => false) = true := by decide +kernel

/-! ## Further clauses: their hypotheses met at the boundaries where they meet -/

/-- Nothing has been written in this tick; after a write of this tick, something has. -/
theorem witness_unwritten : awake.unwritten ∧ managerNode.unwritten ∧ (jobOf 7 []).unwritten ∧
    { awake with wrote := (0, [(0x7000, 1)]), now := 1 }.unwritten ∧ ¬{ awake with wrote := (0, [(0x7000, 1)]) }.unwritten := by
  unfold State.unwritten; decide +kernel

theorem witness_LinkClauses : (item (frame Ty.DATA []) (.program 1)).cut = none ∧
    (item (frame Ty.DATA []) (.program 1)).shunned node = false ∧ (item (frame Ty.MIRROR [1]) (.mirror 1 9)).shunned node = false ∧
    (1 : Port) ≠ xlink ∧ ((put node [(Reg.PORT_ST.STATE, 4, Link.RESUMING)]).modPort 4 fun v => { v with resumeTry := 1 }).isMgrA = false ∧
    (((put node [(Reg.PORT_ST.STATE, 4, Link.RESUMING)]).modPort 4 fun v => { v with resumeTry := 1 }).port xlink).resumeTry ≠ 0 ∧
    (put node [(Reg.PORT_ST.STATE, 4, Link.RESUMING)]).link xlink = Link.RESUMING ∧
    (put { node with primSince := some 3 } [(Reg.FAB_UP.ONSEC, 0, 1)]).onSecondary = true := by decide +kernel

/-- Port 0 acknowledges a Primer: its IDENT 0x12 is on the line. -/
def acking : State := (primed .acking).modPort 0 fun v => { v with cur := some (item (frame Ty.IDENT [0x12, 1, 0, 0]) .other) }

theorem witness_PrimerClauses : node.primerTaken 0 = false ∧ (primed .asked).primerTaken 0 = false ∧ (primed .acked).primerTaken 0 = true ∧
    (acking.port 0).primer = .acking ∧ ((acking.port 0).cur.map fun i => (i.cut, i.frame.ftype, fieldOf i.frame.payload 0 1)) =
      some (none, Ty.IDENT, 0x12) ∧ (primed .acked).portOn 0 = true ∧ ((primed .running).port 0).primerMinutes ≤ 60 ∧
    ((primed .running).port 0).primerInit = true ∧ node.power.below ≠ 4 ∧ turning.link 0 ≠ Link.ASLEEP ∧
    (put turning [(Reg.PORT_ST.STATE, 0, Link.ASLEEP)]).usable 0 = true ∧ (put turning [(Reg.PORT_ST.STATE, 0, Link.ASLEEP)]).link 0 = Link.ASLEEP := by
  decide +kernel

theorem witness_SupplyAndTime : (balancing.shuttle 0).governed ≤ 1000 ∧ armed.hfo = true ∧
    (below 4 id).rackStill = true ∧ { awake with boot := { awake.boot with inReset := true } }.rackStill = true ∧
    (compared (some (8, 1)) (some (7, 2))).rackStill = false ∧
    (∀ e ∈ (measuring [aSet none true 0x8001 0]).meas.sets, e.started = true ∨ e.quiet = false) ∧
    (jobOf 7 []).unwritten ∧ ({ awake with cvu := { awake.cvu with batchSetup := 2 } }.cvu.batchSetup) ≠ 0 := by
  unfold State.unwritten; decide +kernel

/-- A record of a bad sector waits to be committed again; 64 positions are pinned. -/
def recommitting : State := box [] fun b => { b with redo := [(aRec 1 true 9, some 3)], pins := [3] }
def full : State := box [] fun b => { b with queue := [(aRec 1 true 9, none)], pins := List.range 64, nextPos := 511 }

theorem witness_BlackBoxClauses : recommitting.canonical = true ∧ recommitting.bbx.redo = [(aRec 1 true 9, some 3)] ∧
    recommitting.bbx.commit = none ∧ (recommitting.nextFree recommitting.bbx.nextPos).isSome = true ∧ full.canonical = true ∧
    full.bbx.redo = [] ∧ full.bbx.commit = none ∧ (aRec 1 true 9).sticky = true ∧ 64 ≤ full.bbx.pins.length ∧
    full.nextFree full.bbx.nextPos = some 511 ∧ (aRec 1 false 0).sticky = false ∧ recommitting.bbx.pins.length < 64 ∧
    (box [] fun b => { b with commit := some (aRec 1 true 0, 511), moving := some 3, pins := [3] }).bbx.moving = some 3 ∧
    3 ∈ (box [] fun b => { b with commit := some (aRec 1 true 0, 511), moving := some 3, pins := [3] }).bbx.pins ∧
    (box [] fun b => { b with commit := some (aRec 1 true 0, 511) }).bbx.moving = none ∧
    (box [] fun b => { b with burning := [(7, 9)], burnOn := true }).bbx.burnOn = true ∧ (box [] id).bbx.burnOn = false ∧
    (∀ a ∈ { awake with eccBad := [0x1000FFFC, 0x10018000] }.eccBad, a < 0x10010000 ∨ 0x10018000 ≤ a) := by decide +kernel

theorem witness_MirrorClauses : (bound []).isMine 7 = false ∧ node.areaOf 0 = none ∧ (bound []).areaOf 0 ≠ none ∧
    fieldOf (mail Ty.MIRROR 0x03 [1, 9, 0]).frame.payload 1 1 = 1 := by decide +kernel

/-- Channel A's output is low: masked inputs are not looked at; both are low after a failed read-back, since 3 ms, a pair RELEASED. -/
def allLow (p : Nat) : State :=
  { guarded p [] fun f => { f with pulseA := true, pulseB := true, bothSeen := 8, bothLow := some 0, cmpAt := ms 2 } with now := ms 3 }

theorem witness_InputClauses : pulsing.masked 11 = true ∧ pulsing.pulsing = true ∧ (guarded 1 [] id).pulsing = false ∧
    (guarded 2 [] id).pairDemands 3 0xFF = false ∧
    (allLow 3).pairDemands 3 0xFF = true ∧ (allLow 3).canonical = true ∧ bitAt (allLow 3).safe.bothSeen 3 = true ∧
    (allLow 1).safe.bothLow = some 0 ∧ 0 + ms 3 ≤ max (allLow 1).now ((allLow 1).safe.cmpAt + ms 1) ∧
    pairSt ((allLow 1).fld Reg.SAFE_ST.PAIRS) 3 = 1 ∧ (allLow 1).pairMode 3 ≠ 2 ∧ (allLow 1).causeOf 6 = 0 ∧ (allLow 1).causeOf 7 = 0 ∧
    (guarded 1 [] id).safe.bothLow = none ∧
    (guarded 1 [] id).pulseTurn true = true ∧ pulsing.pulseTurn true = false := by decide +kernel

/-- Channel B's word of a TRAY die, and of a manager whose sources all lead to SD, has been other than 0 since 3. -/
theorem witness_ChannelB : (guarded 1 [] fun f => { f with chbAt := some 3 }).safe.chbAt = some 3 ∧
    (guarded 1 [] fun f => { f with chbAt := some 3 }).isTray = true ∧
    Nat.land (torque id [(Reg.SAFE_DSRC.SRC, 0, 0x100), (Reg.SAFE_SDMASK.SRC, 0, 0x1FFFF)]).chbWord
      ((torque id [(Reg.SAFE_DSRC.SRC, 0, 0x100), (Reg.SAFE_SDMASK.SRC, 0, 0x1FFFF)]).fld Reg.SAFE_SDMASK.SRC) ≠ 0 ∧
    (torque id []).safe.chbAt = none ∧ (torque id []).beats = true ∧
    (torque (fun f => { f with chbMiss := some 0 }) []).beats = false ∧
    { torque (fun f => { f with chbMiss := some 0 }) [] with now := us 100 }.beats = true ∧
    (guarded 0 [] id).chDiffer = false := by decide +kernel

theorem witness_CoilClauses : bitAt (coils 1 [3] 1 [(Reg.SAFE_FB.ACC, 0, 1)]).safe.closed 0 = false ∧
    (coils 1 [2] 1 [(Reg.SAFE_FB.ACC, 0, 1)]).phase 0 = 2 ∧ (coils 1 [2] 1 [(Reg.SAFE_FB.ACC, 0, 1)]).fbUsed 0 = true ∧
    (coils 1 [2, 3] 2 [(Reg.SAFE_CONST.HANDOVER, 0, 1)]).phase 0 = 2 ∧
    (guarded 1 [] fun f => { f with fb1Low := some 9 }).safe.fb1Low = some 9 := by decide +kernel

theorem witness_PairClauses : (paired [] id).sfu.op = none ∧
    (paired [] fun f => { f with op := some (.check 0, 9) }).sfu.op = some (.check 0, 9) ∧ (paired [] id).exchanges = true ∧
    (paired [(Reg.SFU_XCID.CID, 0, 0)] id).exchanges = false ∧ (paired [(Reg.SFU_XCID.CID, 0, 0)] id).isMgrA = false ∧
    (paired [(Reg.FAB_ADDR.ADDR, 0, 0xFFFF)] id).isMgrA = true ∧ (paired [(Reg.FAB_ADDR.ADDR, 0, 0xFFFF)] id).link xlink = Link.UP ∧
    (paired [] id).rackNow + (exchange 0xFFFF).frame.ticks ≤ 2400 := by decide +kernel

theorem witness_RackClauses : (joining 3 [3] 1 [] id).dvNear = true := by decide +kernel

/-- An entry in progress: the ports sleep already. -/
def dozing : State := { drowsy 2 with power := { awake.power with entering := true } }
/-- A die permitted to sleep with a link UP. -/
def linked (n : Nat) : State := put (drowsy n) [(Reg.PORT_ST.STATE, 0, Link.UP)]

theorem witness_PowerClauses : eventful.power.entering = false ∧
    { eventful with power := { eventful.power with entering := true } }.heldAwake = true ∧ dozing.canonical = true ∧
    dozing.heldAwake = false ∧ 2 ≤ dozing.permitted ∧ dozing.power.entering = true ∧ (drowsy 3).permitted = 3 ∧
    (∀ p, (drowsy 2).link p ≠ Link.UP) ∧ (linked 3).link 0 = Link.UP ∧ (linked 3).heldAwake = false ∧ (linked 3).permitted = 3 ∧
    (linked 3).targets = [] ∧ (∀ p, ((linked 3).port p).queue = []) ∧ (linked 3).canonical = true ∧
    (∀ c, ((linked 3).ctx c).evmask.getLsbD Ev.PORT = false ∧ ((linked 3).ctx c).evpend &&& ((linked 3).ctx c).evmask = 0) ∧
    (searching (fun p => { p with relay := some (1, 3, false) }) []).power.below = 0 ∧
    (below 2 fun p => { p with relay := some (1, 3, false) }).power.relay = some (1, 3, false) ∧
    (below 2 fun p => { p with relay := some (1, 3, false) }).power.below ≠ 0 := by decide +kernel

def lateRead : Trans := { Trans.start .read 7 1 [] with late := true }
def badOp : Trans := { Trans.start .bad 7 1 [] with badWrite := true }

theorem witness_HostClauses : (conversing lateRead).canonical = true ∧ lateRead.op = .read ∧ lateRead.late = true ∧ badOp.op = .bad ∧
    badOp.badWrite = true ∧ badOp.tag < 256 ∧ (wr true).late = false ∧ (conversing badOp).hostPort.trans = some badOp ∧
    (hosting [] id).buffersUsed < 32 ∧
    32 ≤ ((hosting [] id).modPort 0 fun v => { v with queue := List.replicate 32 (item (frame 4 []) .other) }).buffersUsed ∧
    (hosting [] id).power.entering = false ∧ awake.stillReset = false ∧
    { awake with boot := { awake.boot with held := true } }.stillReset = true ∧ bitAt awake.dsrc Src.TPO = false := by decide +kernel

/-! ## Hypotheses met: the clauses beside the first ones -/

theorem witness_ZeroAndAlign : zeroBroken (.ldh 2 1 8 0) = true ∧ zeroBroken (.shli 2 1 0 32) = true ∧ zeroBroken (.sth 2 1 0 0) = false ∧
    (∃ e, loadTable (.ldh 2 1 0 0) = some e) ∧ (∃ e, storeTable (.sth 2 1 0 0) = some e) ∧
    (((coreX [1]).ctx 0).getX 1 + (0 : BitVec 14).signExtend 32).toNat % 2 ≠ 0 ∧ (coreX [1]).noneAt 0 1 :=
  ⟨by decide, by decide, by decide, ⟨_, rfl⟩, ⟨_, rfl⟩, by decide +kernel, noneAt_of _ _ _ (by decide +kernel) (by decide +kernel)⟩

/-- CTX0 asks for a Study of channel 0 and for channel 13 under BIAS, 9 ticks before compare 0; a shuttle is at work. -/
def studious : State :=
  put ((coreX [0x12001])) [(Reg.RTC_ST.ARMED, 0, 1), (Reg.RTC_LO.TIME, 0, 9), (Reg.MEAS_AUXCFG.SCAN, 0, 1), (Reg.MEAS_AUXCFG.BIAS, 0, 1),
    (Reg.MEAS_AUXCFG.SETTLE, 0, 1), (Reg.BAL_ST.OP, 0, 1), (Reg.BAL_CUR.APPLIED, 0, 100)]
/-- CTX0 of a manager with an UP and OPEN port and compare 0 armed. -/
def leading : State :=
  { put node [(Reg.SYS_ROLE.ROLE, 0, roleManager), (Reg.RTC_ST.ARMED, 0, 1), (Reg.RTC_LO.TIME, 0, 9)] with ctxs := (coreX []).ctxs }

theorem witness_DeviceClauses : studious.canonical = true ∧ studious.executing = some 0 ∧ studious.rtcArmed 0 = true ∧
    (studious.takeCore 0).rackNow < studious.rtcTarget 0 ∧ (studious.takeCore 0).ticksTo (studious.rtcTarget 0) < us 200 ∧
    (studious.takeCore 0).chanRuns 0 = true ∧ (studious.takeCore 0).chanRuns 13 = true ∧
    (studious.takeCore 0).ticksTo (studious.rtcTarget 0) < 240 * studious.fld Reg.MEAS_AUXCFG.SETTLE ∧
    ((studious.ctx 0).getX 1).toNat / 2 ^ 16 = 1 ∧ (studious.takeCore 0).ranWithin 9 = true ∧ studious.hasCells = true ∧
    (studious.shuttle 0).next = none ∧ studious.fld Reg.BAL_ST.OP 0 ≠ 0 ∧ studious.fld Reg.BAL_ST.OP 1 = 0 ∧ studious.ovTripped 1 = false ∧
    (put studious [(Reg.SENT_ST.OV, 0, 1)]).ovTripped 1 = true ∧ (put studious [(Reg.SENT_ST.UV, 0, 1)]).uvTripped 1 = true ∧
    studious.snap.at0 ≠ some (studious.takeCore 0).now ∧ leading.executing = some 0 ∧ leading.isManager = true ∧ leading.rtcArmed 0 = true ∧
    (leading.takeCore 0).rackNow < leading.rtcTarget 0 ∧ leading.rtcArmed 1 = false ∧ 0 ∈ allPorts ∧ leading.link 0 = Link.UP ∧
    leading.check 0 = 2 ∧ leading.inPrimer 0 = false ∧ leading.canonical = true ∧ (studious.isManager = false) ∧
    (studious.ctx 0).status.getLsbD 4 = false := by decide +kernel

/-- `messenger` with every tag in a port. -/
def loaded : State :=
  messenger.modPort 0 fun v => { v with queue := (List.range 15).map fun t => item (frame Ty.DATA []) (.program (t + 1)) }

theorem witness_SendClauses : (∀ j < 16, (∃ w < 8, messenger.place 0 ⟨0x40 + 4 * j, 4, false, 0, false, true⟩ = .here (0x40 + 4 * j) w) ∧
      isSram (0x40 + 4 * j) = true ∧ messenger.eccHit (0x40 + 4 * j) = false) ∧
    messenger.typeTrap 0 0 = none ∧ messenger.route 9 = some (0, true) ∧ loaded.freeTags = [] ∧ loaded.canonical = true ∧
    loaded.executing = some 0 ∧ messenger.programFrame 9 [] = { messenger.programFrame 9 [] with dest := 9 } := by decide +kernel

/-- An RMOV into SRAM whose last data is there. -/
def fetched : Request := ⟨wordOf 0x3B 3 1 2 0, 1, 0x20000000, 0x100 + 2 ^ 32 * 4, false, 9, false, 0, 4, 0, [], 0⟩
def fetching : State := (coreX [0x20000000, 4, 0x100]).modCtx 0 fun v => { v with slot := some (fetched, .data [1, 2, 3, 4]) }
/-- CTX0 with a record half staged. -/
def staging : State := (coreX [0, 24, 1]).modCtx 0 fun v => { v with stage := List.replicate 24 7 }

theorem witness_LongClauses : fetching.canonical = true ∧ fetching.executing = some 0 ∧ isRemoteRange ((fetching.ctx 0).getX 1).toNat = true ∧
    fetched.va = ((fetching.ctx 0).getX 1).toNat ∧ fetched.opnd = ((fetching.ctx 0).getX 3).toNat + 2 ^ 32 * ((fetching.ctx 0).getX 2).toNat ∧
    fetched.write = false ∧ ([1, 2, 3, 4] : List Byte).length = ((fetching.ctx 0).getX 2).toNat ∧
    fetching.place 0 ⟨0x100, 4, true, 3, false, false⟩ = .here 0x100 0 ∧ isSram 0x100 = true ∧ isRemoteRange 0x100 = false ∧
    staging.canonical = true ∧ staging.executing = some 0 ∧ ((staging.ctx 0).getX 2).toNat = 24 ∧ (staging.ctx 0).stage.length = 48 - 24 ∧
    (((staging.ctx 0).getX 1 + 48 - BitVec.ofNat 32 24).toNat = 24) ∧ staging.place 0 ⟨24, 4, false, 3, false, false⟩ = .here 24 0 ∧
    (∀ j < 2, (coreX [8, 8, 0x100]).place 0 ⟨0x100 + 4 * j, 4, true, 3, false, false⟩ = .here (0x100 + 4 * j) 0 ∧
      (coreX [8, 8, 0x100]).place 0 ⟨8 + 4 * j, 4, false, 3, false, false⟩ = .here (8 + 4 * j) 0) ∧
    ((coreX [8, 8, 0x100]).ctx 0).getX 2 = 8 := by decide +kernel

theorem witness_staging_alone : staging.noneAt 0 24 := noneAt_of _ _ _ (by decide +kernel) (by decide +kernel)

theorem witness_RegisterClauses : awake.flag Reg.HOST_CFG.EN = false ∧ hosted.flag Reg.HOST_CFG.EN = true ∧ hosted.canonical = true ∧
    0xF000 ≤ (0xFFFC : BitVec 16).toNat := by decide +kernel

/-- A retransmission on the transmitter of port 0. -/
def resending : State := node.modPort 0 fun v => { v with cur := some { item (frame Ty.DATA [1]) (.program 1) with tries := 1 } }

theorem witness_RetryClauses : resending.canonical = true ∧ ((resending.port 0).cur.map fun i => (i.poison, i.cut, i.tries)) =
      some (false, none, 1) ∧
    ((again.port 0).outs.find? (fun x => x.item.seq = some 1)).map (fun o => (o.item.begun, o.item.ready)) = some (false, 0) := by decide +kernel

/-- An arrival with ACKREQ; one poisoned, one of a bad CRC, one not formed, one of a bad FORMAT. -/
def asks (f : Frame) : Arrival := arrives { f with ackreq := true }
def poisoned (f : Frame) : Arrival := { arrives f with crc := BitVec.ofNat 16 (0xFFFF - frameCrc f) }
def spoiled (f : Frame) : Arrival := { arrives f with crc := BitVec.ofNat 16 (frameCrc f) + 1 }
def unformed (f : Frame) : Arrival := { arrives f with formed := false }

/-- `node` that has accepted LSEQ 1, and LSEQ 200; one fenced, one whose queue of DATA is full, one without a frame buffer. -/
def heard1 (h : Nat) (l : List (BitVec 16)) : State :=
  (put node [(Reg.PORT_LSEQ.LAST_RX, 0, h)]).modPort 0 fun v => { v with rxAny := true, accepted := l }
def fenced : State := put node [(Reg.FAB_CHK.CHECK, 0, 3)]
def crowded : State := node.modCtx 0 fun v => { v with rx := List.replicate 8 ⟨frame 4 [], 0⟩ }
def bufferless : State := node.modPort 1 fun v => { v with queue := List.replicate 32 (item (frame 4 []) .other) }

theorem witness_DeliveryClauses : node.admits (asks (frame Ty.CONFIG [0x20])) ∧ (asks (frame Ty.CONFIG [0x20])).frame.ackreq = true ∧
    (heard1 1 [1]).sound (asks (frame Ty.DATA [1])) ∧ (heard1 1 [1]).judgeSeq 0 1 = .dup ∧ (heard1 1 [1]).shutTo 0 (frame Ty.DATA [1]) = false ∧
    (heard1 200 [200]).judgeSeq 0 1 = .stale ∧ (heard1 200 [200]).sound (asks (frame Ty.DATA [1])) ∧ (heard1 9 [9]).judgeSeq 0 1 = .late ∧
    fenced.sound (asks (frame Ty.DATA [1])) ∧ fenced.shutTo 0 (frame Ty.DATA [1]) = true ∧ fenced.check 0 = 3 ∧ fenced.judgeSeq 0 1 = .new ∧
    pendingCheck.shutTo 0 (frame Ty.DATA [1]) = true ∧ pendingCheck.check 0 ≠ 3 ∧ pendingCheck.sound (asks (frame Ty.DATA [1])) ∧
    crowded.entersQueue 0 (asks (frame Ty.DATA [1])).frame = true ∧ 8 ≤ (crowded.ctx (crowded.qmap Ty.DATA)).rx.length ∧
    crowded.sound (asks (frame Ty.DATA [1])) ∧ bufferless.hasBuffer Ty.DATA (bufferless.needs 0 (asks (frame Ty.DATA [1])).frame) = false ∧
    bufferless.sound (asks (frame Ty.DATA [1])) ∧ crowded.canonical = true ∧ bufferless.canonical = true ∧ fenced.canonical = true ∧
    (heard1 1 [1]).canonical = true ∧ node.lineOf (poisoned (frame Ty.DATA [1])) = .poison ∧ node.lineOf (spoiled (frame Ty.DATA [1])) = .badCrc ∧
    node.lineOf (unformed (frame Ty.DATA [1])) = .badForm ∧ node.noSide (spoiled (frame Ty.DATA [1])) := by
  unfold State.admits State.sound State.noSide; decide +kernel

theorem witness_CopyClauses : relay.lineOf (poisoned passing.frame) = .poison ∧ relay.lineOf (spoiled passing.frame) = .badCrc ∧
    (1, false) ∈ relay.copyPorts 0 passing.frame ∧ relay.cutsThrough 1 (relay.copyOf 0 1 passing.frame false .fixed) = true ∧
    relay.receives 0 = true ∧ relay.link 0 = Link.UP ∧ (0 : Port) ≠ xlink ∧ relay.noSide (poisoned passing.frame) ∧
    (∃ e ∈ messagesOf (poisoned passing.frame) ++ requestsOf (poisoned passing.frame), e.2 = poisoned passing.frame) ∧
    relay.admits (asks passing.frame) := by
  unfold State.admits State.sound State.noSide; decide +kernel

theorem witness_AnnounceAsked : pendingCheck.admits (asks announced.frame) ∧
    node.shutTo 0 (frame Ty.TEST testPayload) = false ∧ node.lineOf (spoiled (frame Ty.TEST testPayload)) = .badCrc ∧
    node.noSide (spoiled (frame Ty.TEST testPayload)) := by
  unfold State.admits State.sound State.noSide; decide +kernel

/-- Export 0 of `exporting` covers NVM too; a sector of it is being written; export 1 covers FAB_NOROUTE. -/
def exportingNvm : State :=
  { put exporting [(Reg.WIN_EXP_BASE.ADDR, 0, 0x4007000), (Reg.WIN_EXP_LIMIT.ADDR, 0, 0x4007200)] with
    nvmQ := [⟨0x1001C400, [1], .sealedWrite⟩] }
def exportingPage : State :=
  put exporting [(Reg.WIN_EXP_BASE.ADDR, 1, 0x10001800), (Reg.WIN_EXP_LIMIT.ADDR, 1, 0x10001820), (Reg.WIN_EXP_CTRL.VALID, 1, 1),
    (Reg.WIN_EXP_CTRL.R, 1, 1), (Reg.WIN_EXP_CTRL.W, 1, 1)]
def asksRow (op : Byte) (rest : List Byte) : Arrival := asks (frame Ty.CONFIG (op :: rest))
/-- Channel 0 waits for a remote answer. -/
def dmaAsk (w : Bool) : Request := ⟨0, 0, 0, 0, w, 7, false, 0, 4, 0x18, [], 600⟩
def dmaAsked (w : Bool) : State :=
  { put node [(Reg.DMA_STAT.STATE, 0, 1), (Reg.DMA_CURD.VALUE, 0, 0x100)] with
    dma := described.dma.set 0 { DmaCh.reset with desc := some ⟨0, 0, 0x40, 16, 0⟩, req := some (dmaAsk w) } }

theorem witness_RemoteClauses : exporting.admits (asksRow 0x21 [4, 9, 9, 0xFC, 0xFF, 0, 0]) ∧
    exportingPage.admits (asksRow 0x21 [4, 9, 9, 0x40, 0x60, 0, 0x40]) ∧
    exportingPage.refusal (asksRow 0x21 [4, 9, 9, 0x40, 0x60, 0, 0x40]).frame = 0 ∧ exportingPage.readWaits (asksRow 0x21 [4, 9, 9, 0x40, 0x60, 0, 0x40]).frame = false ∧
    exportingPage.refusal (asksRow 0x22 [4, 9, 9, 0x20, 0x60, 0, 0x40, 1, 2, 3, 4]).frame = 0 ∧
    exportingNvm.refusal (asksRow 0x21 [4, 9, 9, 0, 0xC4, 1, 0x10]).frame = 0 ∧ exportingNvm.readWaits (asksRow 0x21 [4, 9, 9, 0, 0xC4, 1, 0x10]).frame = true ∧
    exportingNvm.admits (asksRow 0x21 [4, 9, 9, 0, 0xC4, 1, 0x10]) ∧ (asksRow 0x21 [0, 9, 9]).frame.payload.length = 4 ∧
    exporting.admits (asksRow 0x21 [0, 9, 9]) ∧ exporting.admits (asksRow 0x22 [1, 9]) ∧ (asksRow 0x22 [1, 9]).frame.payload.length < 4 ∧
    (asked false 1).now + (asksRow 0xA1 [1, 0x10, 0, 8]).frame.ticks < 500 ∧
    ((asked false 1).ctx 0).req = some (asking false 1) ∧ (asking false 1).deadline ≤ (asked false 1).now + (asksRow 0xA1 [1, 0x10, 0, 8]).frame.ticks ∧
    (asked false 1).admits (asksRow 0xA1 [1, 0x10, 0, 8]) ∧ ((dmaAsked true).dmaCh 0).req = some (dmaAsk true) ∧
    (dmaAsk true).tag.toNat % 16 = 8 ∧ (dmaAsked true).canonical = true ∧ (dmaAsked true).admits (asksRow 0xA2 [4, 0x18, 0]) ∧
    (dmaAsked true).now + (asksRow 0xA2 [4, 0x18, 0]).frame.ticks < (dmaAsk true).deadline ∧
    (dmaAsked false).admits (asksRow 0xA1 [4, 0x18, 0, 1, 2, 3, 4]) ∧ (dmaAsked true).admits (asksRow 0xAF [3, 0x18, 0]) ∧
    ((dmaAsked true).dmaCh 0).stopping = none ∧ descInSram ((dmaAsked true).fld Reg.DMA_CURD.VALUE 0) = true ∧
    12 ≤ fieldOf [0xA1, 4, 0x1F, 0] 2 2 % 16 := by
  unfold State.admits State.sound State.noSide; decide +kernel

theorem witness_TimeClauses : node.schedGood (sched [3, 0, 3, 0, 1, 0, 0, 0, 0, 0, 5, 0]).frame = true ∧
    node.admits (sched [3, 0, 3, 0, 1, 0, 0, 0, 0, 0, 5, 0]) ∧ node.snap.lastSnap ≠ some 5 ∧ node.snap.lastSweep ≠ some 3 ∧
    node.rackNow < schedInstant (sched [3, 0, 3, 0, 1, 0, 0, 0, 0, 0, 5, 0]).frame.payload := by
  unfold State.admits State.sound State.noSide; decide +kernel

/-- Shuttle 0's operation is to be replaced. -/
def replacing : State := balancing.modShuttle 0 fun h => { h with next := some ⟨2, 1, 100, 50, 96, 0⟩ }

theorem witness_ReplaceClauses : (balancing.shuttle 0).next = none ∧ (∀ x, (balancing.shuttle 0).next = some x → x.op = 1 ∨ x.op = 2) ∧
    (∀ x, (replacing.shuttle 0).next = some x → x.op = 1 ∨ x.op = 2) ∧ (replacing.shuttle 0).next.isSome = true := by
  refine ⟨by decide +kernel, ?_, ?_, by decide +kernel⟩
  · intro x h; rw [show (balancing.shuttle 0).next = none by decide +kernel] at h; cases h
  · intro x h; rw [show (replacing.shuttle 0).next = some ⟨2, 1, 100, 50, 96, 0⟩ by decide +kernel] at h; cases h; exact .inr rfl

theorem witness_PinClauses : (∀ k ∈ (box [] fun b => { b with pins := [3] }).bbx.pins, (box [] fun b => { b with pins := [3] }).pinUnread k = false) ∧
    (box [] fun b => { b with pins := [3] }).flag Reg.BBX_STAT.READY = true ∧ (box [] id).bbx.queue.length + (box [] id).bbx.early.length < 16 ∧
    (box [] id).bbx.burnOn = false := by decide +kernel

/-- Area U is held for the node whose UID was seen on port 0, with a pool record of SEQ 9 at position 24, the first of the pool; its sector may be bad. -/
def ownedPool (l : List (Fld × Nat × Nat)) : State :=
  let h : List Byte := (List.replicate 11 0 ++ [1]) ++ List.replicate 48 0
  let b : List Byte := [1, 0, 9, 0] ++ List.replicate 56 0
  ((bound l).setBytes 0x10018000 (h ++ commitWord h)).setBytes (0x10018000 + 64 * 24) (b ++ commitWord b)

theorem witness_PoolClauses : (ownedPool []).canonical = true ∧ (ownedPool []).areaOf 0 = some 1 ∧ (ownedPool []).areaHeld 1 = true ∧
    fieldOf ((ownedPool []).shadowAt 1 0) 0 8 = (ownedPool []).seenUid 0 ∧ isCommitted ((ownedPool []).shadowAt 1 24) = true ∧
    fieldOf ((ownedPool []).shadowAt 1 24) 2 2 = 9 ∧ (ownedPool []).shadowBad 1 24 = false ∧
    (ownedPool [(Reg.BBX_SHBAD.BAD, 0, 0xFFFFFFFF)]).shadowBad 1 24 = true ∧ (ownedPool []).admits (mail Ty.MIRROR 0x02 [0, 9, 0]) ∧
    (ownedPool []).admits (asks (frame Ty.MIRROR [0x02, 0, 9, 0])) ∧
    (∀ j < 24, 24 ≤ j → isCommitted ((ownedPool []).shadowAt 1 j) = false) ∧ pooled.areaHeld 1 = false := by
  unfold State.admits State.sound State.noSide; decide +kernel

/-- A pair in FAULT whose inputs rest, one of whose inputs still demands, with a fault beside another. -/
def faulted (acc : Nat) : State :=
  guarded 3 [] fun f => { f with accA := acc, accB := acc, bothSeen := 8, passes := Vector.replicate 12 2, cause := Vector.replicate 12 1,
                                  cause2 := Vector.replicate 12 3 }

theorem witness_PairackClauses : (guarded 3 [] fun f => { f with accA := 0xFF, accB := 0xFF, bothSeen := 8 }).pairDemands 3 0xFF = false ∧
    (guarded 3 [] id).pairDemands 3 0 = true ∧ (guarded 3 [] id).safe.accA = 0 ∧ (guarded 3 [] id).causeOf 6 = 0 ∧
    bitAt (guarded 3 [] id).safe.bothSeen 3 = false ∧ (faulted 0).canonical = true ∧ 2 ≤ countOf (faulted 0).safe.passes 0 ∧
    (faulted 0).causeOf 0 ≠ 3 ∧ (faulted 0).causeOf 0 ≠ 0 ∧ countOf (faulted 0).safe.cause2 0 = 3 ∧
    (guarded 3 [] fun f => { f with bothSeen := 8, accA := 0xFF, accB := 0xFF }).causeOf 7 = 0 := by decide +kernel

/-- A manager's TIWAIT runs, its demand not under SAFE_SDMASK, and under it. -/
def waitingTi (mask : Nat) : State :=
  torque (fun f => { f with tiRun := true }) [(Reg.SAFE_DSRC.SRC, 0, 0x100), (Reg.SAFE_SDMASK.SRC, 0, mask)]

theorem witness_TiwaitClauses : (waitingTi 0).safe.tiRun = true ∧ (waitingTi 0).isTray = false ∧ (waitingTi 0).sdWanted = false ∧
    (waitingTi 0x100).sdWanted = true ∧ (waitingTi 0).canonical = true ∧ (waitingTi 0).unwritten ∧
    (coils 1 [0, 0, 2, 0] 4 [(Reg.SAFE_CONST.HSB, 0, 1)]).highSide 2 = true ∧ (coils 1 [0, 0, 2, 0] 4 []).highSide 2 = false ∧
    (coils 1 [0, 0, 2, 0] 4 []).unwritten ∧ (coils 1 [0, 0, 3, 0] 4 [(Reg.SAFE_CONST.HSB, 0, 1)]).phase 2 = 3 := by
  unfold State.unwritten; decide +kernel

/-- A receive buffer that holds the frame of CN 1 from source 0 with no data; slot 15, and tray entry 0, are armed and in use. -/
def buffered (s : State) : State :=
  s.setBytes 0 ([0, 0, 0, 0x10, 0, 0, 0, 0, 10, 0, 0, 0] ++ safetyPayload 1 1 0 0 [])
def entered : State := buffered (put (entry [(Reg.TRAY_CFG.EN, 0, 1), (Reg.RACK_TARM.ENTRIES, 0, 1)]) [])

theorem witness_CheckPasses : (let s := buffered (slots 0 [])
      let f := s.frameAt s.sfuBuf
      s.canonical = true ∧ s.sfu.op = none ∧ s.sfuBufGood = true ∧ s.slotOn 15 false = true ∧ s.bitOf Reg.SFU_ARM.SLOTS 15 = true ∧
        f.type = 1 ∧ f.payload.length = 10 ∧ f.src = s.fld Reg.SCON_CFG.PEER 15 ∧ fieldOf f.payload 0 1 = s.fld Reg.SCON_CFG.KIND 15 ∧
        fieldOf f.payload 6 4 = safetyCrc (s.fld Reg.SCON_CID.CID 15) (f.payload.take 6) ∧ -24000 ≤ s.ageOf (fieldOf f.payload 3 3) ∧
        s.ageOf (fieldOf f.payload 3 3) ≤ s.maxAge ∧ s.flag Reg.SCON_CN.VALID 15 = false) ∧
    (let s := entered
     let f := s.frameAt s.sfuBuf
     s.canonical = true ∧ s.sfu.op = none ∧ s.flag Reg.TRAY_CFG.EN 0 = true ∧ s.bitOf Reg.RACK_TARM.ENTRIES 0 0 = true ∧ f.type = 1 ∧
        f.payload.length = 10 ∧ f.src = s.fld Reg.TRAY_CFG.TADDR 0 ∧ fieldOf f.payload 0 1 = 1 ∧
        fieldOf f.payload 6 4 = safetyCrc (s.fld Reg.TRAY_STCID.STCID 0) (f.payload.take 6) ∧ -24000 ≤ s.ageOf (fieldOf f.payload 3 3) ∧
        s.ageOf (fieldOf f.payload 3 3) ≤ s.maxAge ∧ s.flag Reg.TRAY_RX.VALID 0 = false) := by decide +kernel

/-- A waiting instant is long past: the votes that come now are for a later one. -/
def behind : State := { paired [] (fun f => { f with instant := some 0, judged := false }) with rtime := 64 * 12000 }

theorem witness_ExchangeClauses : behind.sfu.early = none ∧
    (let at_ := (behind.advance (exchange 0xFFFF).frame.ticks).rackNow
     let m := at_ - at_ % 2 ^ 48 % 12000
     0 + 2400 < at_ ∧ 0 < m ∧ at_ ≤ m + 2400) ∧ behind.sfu.op = none ∧
    accepts ((behind.advance (exchange 0xFFFF).frame.ticks).checkFrame behind.xrxEnd ⟨1, 0xFFFF, (exchange 0xFFFF).frame.payload⟩) = true ∧
    accepts (((paired [] id).advance (exchange 0xFFFF).frame.ticks).checkFrame (paired [] id).xrxEnd
      ⟨1, 0xFFFF, (exchange 0xFFFF).frame.payload⟩) = true ∧
    accepts (((paired [] id).advance (exchange 1).frame.ticks).checkFrame (paired [] id).xrxEnd ⟨1, 1, (exchange 1).frame.payload⟩) = false ∧
    (((paired [(Reg.FAB_ADDR.ADDR, 0, 0xFFFF), (Reg.PORT_ST.STATE, 4, Link.DOWN)] id).modPort 4 fun v =>
      { v with phase := .pausing }).port xlink).phase ≠ .none ∧
    ((paired [(Reg.FAB_ADDR.ADDR, 0, 0xFFFF), (Reg.PORT_ST.STATE, 4, Link.DOWN)] id).port xlink).phase = .none ∧
    (paired [] fun f => { f with early := some (12000, []) }).gotAt 12000 = some [] := by decide +kernel

theorem witness_LeaveClauses : (joining 3 [] 0 [] id).joinState = 3 ∧ (joining 3 [] 0 [] id).unwritten ∧
    (joining 0 [] 0 [] id).joinState = 0 ∧ (joining 7 [] 0 [] fun r => { r with retryAt := some 9 }).unwritten := by
  unfold State.unwritten; decide +kernel

/-- A die whose contexts let it sleep to SLEEP, holding a SCHED of a later instant that a compare waits for. -/
def awaiting : State :=
  let s := put (drowsy 3) [(Reg.RTC_ST.ARMED, 0, 1), (Reg.RTC_HI.TIME, 0, 1)]
  { s with snap := { s.snap with scheds := [2 ^ 32] } }

theorem witness_EntryClauses : awaiting.heldSched = true ∧ awaiting.entryState = 3 ∧ (drowsy 3).entryState = 2 ∧ (drowsy 3).heldSched = false ∧
    awaiting.aimGuard.targetFar = true ∧ (drowsy 2).aimGuard.targetFar = true ∧ awaiting.canonical = true ∧ awaiting.heldAwake = false ∧
    (searching id []).power.entering = false := by decide +kernel

theorem witness_LateAndTap : (hosting [] id).mayBeLate 0xFF00 = false ∧ badOp.committed = false ∧ tapRuns .extest = false ∧ tapRuns .others = false ∧
    tapRuns .bypass = true ∧ { awake.boot with active := 2 ^ 5 }.active = 2 ^ 5 ∧
    (watched 0).stillReset = false ∧ (raw fun b => { b with held := true }).stillReset = true ∧
    (raw id).boot.fused = none ∧ bitAt (guarded 1 [] id).dsrc Src.TPO = false := by decide +kernel

/-! ## Hypotheses met: the clauses of the last review -/

theorem witness_Asking : (coreX [0x20000000]).canonical = true ∧
    (coreX [0x20000000]).place 0 ⟨0x20000000, 4, false, 0, false, false⟩ = .away 1 ∧
    (coreX [0x20000000]).place 0 ⟨0x20000000, 1, true, 1, false, false⟩ = .away 1 ∧ (coreX [0x20000000]).leads ((coreX []).win 0 1) ∧
    (coreX [0x20000000, 8, 0x100]).place 0 ⟨0x20000000, 4, true, 3, false, false⟩ = .away 1 ∧
    (coreX [0x20000000, 8, 0x100]).place 0 ⟨0x20000000, 4, false, 3, false, false⟩ = .away 1 ∧ ((coreX []).win 0 1).limit % 4 = 0 ∧
    min (min 8 48) (((coreX []).win 0 1).limit - 0x20000000) = 8 ∧
    (∀ j < 2, (coreX [0x20000000, 8, 0x100]).place 0 ⟨0x100 + 4 * j, 4, false, 3, false, false⟩ = .here (0x100 + 4 * j) 0 ∧
      (coreX [0x20000000, 8, 0x100]).place 0 ⟨0x100 + 4 * j, 4, true, 3, false, false⟩ = .here (0x100 + 4 * j) 0) := by
  unfold State.leads; decide +kernel

theorem witness_asking_alone : (coreX [0x20000000]).noneAt 0 0x20000000 ∧ (coreX [0x20000000, 8, 0x100]).noneAt 0 0x20000000 :=
  ⟨noneAt_of _ _ _ (by decide +kernel) (by decide +kernel), noneAt_of _ _ _ (by decide +kernel) (by decide +kernel)⟩

/-- Channel 0 at work with a side in the remote window. -/
def reaching (src dst : Nat) : State :=
  { put running [(Reg.WIN_CTRL.D, 1, 1)] with dma := described.dma.set 0 { DmaCh.reset with desc := some ⟨0, src, dst, 16, 0⟩ } }

theorem witness_DmaAsking : (∀ e ∈ [(0x20000000, 0x40), (0x40, 0x20000000), (0x20000000, 0x20000100)],
      let s := reaching e.1 e.2
      s.canonical = true ∧ s.dmaNext = some 0 ∧ s.fld Reg.DMA_CURN.VALUE 0 < 16 ∧ s.leads (s.win 0 1) ∧ s.dmaOwner 0 = 0) ∧
    (reaching 0x20000000 0x40).place 0 (dmaReach (sideAt false 0x20000000 0) false) = .away 1 ∧
    (reaching 0x20000000 0x40).place 0 (dmaReach (sideAt false 0x40 0) true) = .here 0x40 0 ∧
    ((reaching 0x20000000 0x40).dmaLocals 0 true (sideWords false 0x40 0 4)).isOk = true ∧
    (reaching 0x40 0x20000000).place 0 (dmaReach (sideAt false 0x40 0) false) = .here 0x40 0 ∧
    (reaching 0x40 0x20000000).place 0 (dmaReach (sideAt false 0x20000000 0) true) = .away 1 ∧
    (reaching 0x20000000 0x20000100).place 0 (dmaReach (sideAt false 0x20000000 0) false) = .away 1 ∧
    (reaching 0x20000000 0x20000100).place 0 (dmaReach (sideAt false 0x20000100 0) true) = .away 1 := by
  unfold State.leads; decide +kernel

theorem witness_dma_locals : (reaching 0x40 0x20000000).dmaLocals 0 false (sideWords false 0x40 0 4) = .ok [0x40, 0x44, 0x48, 0x4C] ∧
    isSram 0x4C = true := ⟨rfl, rfl⟩

/-- CTX1 executes, in a handler or not; CTX3 is READY too. -/
def second (trap : Bool) : State :=
  ((put awake [(Reg.BBX_STAT.READY, 0, 1)]).modCtx 1 fun v =>
    { v with state := .ready, status := v.status ||| (if trap then 0x10 else 0) }).modCtx 3 fun v => { v with state := .ready }
/-- CTX0 executes in a handler, on a manager that drives torque. -/
def handling : State :=
  { torque id [(Reg.BBX_STAT.READY, 0, 1), (Reg.SAFE_TRQ.PERMIT, 0, 1)] with
    ctxs := awake.ctxs.set 0 { Ctx.reset 0 with state := .ready, status := (Ctx.reset 0).status ||| 0x10 } }

theorem witness_ControlClauses : (second false).executing = some 1 ∧ (1 : Cid) ≠ 0 ∧ ((second false).ctx 1).status.getLsbD 4 = false ∧
    (second true).executing = some 1 ∧ ((second true).ctx 1).status.getLsbD 4 = true ∧ (0xFFF : BitVec 14).toNat < 2 ^ 12 ∧
    ((coreX [6]).ctx 0).getX 1 = 6 ∧ (6 : Word).toNat % 2 ^ 3 = 6 ∧ (5 : Word).toNat % 2 ^ 3 < 6 := by decide +kernel

theorem witness_WaitClauses : ((coreX [3]).ctx 0).evpend &&& ((coreX [3]).ctx 0).evmask = 0 ∧ ((coreX [4]).ctx 0).getX 1 = 4 ∧
    (1 : Cid) < 3 ∧ ((second false).ctx 3).state = .ready ∧ ((second false).ctx 1).yielded = false ∧
    ((core fun v => { v with yielded := true }).ctx 0).yielded = true ∧
    (((core fun v => { v with req := some (asking true 4) }).ctx 0).req.map (·.write)) = some true ∧ running.executing = some 0 ∧
    running.dmaOwner 0 = (0 : Cid).val ∧ running.dmaState 0 = 1 ∧ (2 : BitVec 3).getLsbD 1 = true ∧ (2 : BitVec 3).getLsbD 2 = false ∧
    (4 : BitVec 3).getLsbD 2 = true := by decide +kernel

theorem witness_DoubleFaults : (second true).flag Reg.BBX_STAT.READY = true ∧ (second true).flag Reg.BBX_STAT.DEGRADED = false ∧
    (second true).bbx.pins.length < 64 ∧ (second true).bbx.queue.length + (second true).bbx.early.length < 16 ∧
    zeroBroken (.add 0 0 0 1) = true ∧ (∀ n : Fin 4, (second true).dmaOwner n = (1 : Cid).val → (second true).dmaState n = 0) ∧
    handling.executing = some 0 ∧ (handling.ctx 0).status.getLsbD 4 = true ∧ handling.isManager = true ∧
    bitAt handling.dsrc Src.SEQRST = false ∧ handling.flag Reg.BBX_STAT.READY = true ∧ handling.bbx.pins.length < 64 ∧
    (core fun v => { v with status := v.status ||| 0x10 }).executing = some 0 ∧ (core id).isManager = false := by decide +kernel

/-- CTX0 of a manager with an UP and OPEN port: X1 the header of type `t`, X2 the payload's place. -/
def sender (t : Nat) (l : List (Nat × Byte)) (p : List (Fld × Nat × Nat)) : State :=
  { put messenger ([(Reg.SYS_ROLE.ROLE, 0, roleManager), (Reg.FAB_UP.NONE, 0, 1)] ++ p) with
    mem := l, ctxs := awake.ctxs.set 0 { Ctx.reset 0 with
      state := .ready, x := Vector.ofFn fun i => if i.val = 1 then BitVec.ofNat 32 (2 ^ 28 * t + 9) else 0x40 } }

theorem witness_Sending : (∀ t ∈ [1, 2, 3, 5, 7, 12], (sender t [] []).typeTrap 0 t = none) ∧ (sender 5 [(0x40, 1)] []).canonical = true ∧
    (sender 2 [] []).executing = some 0 ∧ (sender 2 [] []).freeTags ≠ [] ∧ (sender 2 [] []).isMine 9 = false ∧
    (sender 2 [] []).link (portOf 0) = Link.UP ∧ (sender 2 [] []).check (portOf 0) = 2 ∧ (sender 2 [] []).inPrimer (portOf 0) = false ∧
    ((sender 12 [] []).programFrame (2 ^ 28 * 12 + 9) []).isBroadcast = true ∧ (0 : Port) ∈ allPorts ∧
    (∀ o ∈ allPorts, (sender 12 [] [(Reg.PORT_ST.STATE, 0, Link.DOWN)]).usable o = false) ∧
    fieldOf ((sender 5 [(0x40, 1)] []).bytes 0x40 20) 0 1 = 1 ∧ (sender 5 [(0x40, 1)] []).seal9 = false ∧
    (put (sender 5 [(0x40, 1)] []) [(Reg.SEAL_ACC.WORD, 0, 0x200)]).seal9 = true ∧ ((sender 5 [] []).ctx 0).status.getLsbD 4 = false ∧
    fieldOf ((sender 7 [(0x41, 64)] []).bytes 0x40 36) 1 1 = 64 ∧ pathEntry ((sender 7 [(0x41, 64)] []).bytes 0x40 36) 0 = 0 ∧
    fieldOf ((sender 7 [] []).bytes 0x40 36) 1 1 = 0 := by decide +kernel

/-- A register whose write acts by its access codes alone: RW, RS and RC fields, a CTX0-only one, and RTC_ST's W1C. -/
theorem witness_PlainRegisters : (∀ off ∈ [0x3030, 0x6020, 0x6040, 0x9060, 0xE804], plainWrites off = true ∧
      (descOf (awake.keyOf .host off)).isSome = true ∧ awake.writeTrap (.ctx 0) off 0 = none) ∧ awake.writeOff .host 0x6020 = false ∧
    plainWrites 0x5800 = false ∧ plainWrites 0x900C = false ∧ awake.pageOff .host 0x6040 = false ∧ awake.hostOff 0x6040 = false ∧
    latchesHi 0x6040 = false ∧ hosted.hostOff 0xB020 = false ∧ awake.hostOff 0xB020 = true ∧
    ((descOf 0x4010).map fun r => r.fields.any fun f => f.acc = .rs) = some true ∧ plainWrites 0x4010 = true ∧ guarding.writeOff .host 0x4010 = false ∧ guarding.seal9 = true ∧ awake.seal9 = false := by decide +kernel

/-- A write of the store's sector 0, of the marker, or of a sealed area, is at the head of the NVM's queue; another waits. -/
def writing (w : NvmWrite) (rest : List NvmWrite) (commit : Option (ReplyTo × Bool)) : State :=
  { loading with nvmQ := w :: rest, load := some { loadOf 32 [0] 0 0 with commit := commit } }

theorem witness_NvmWrites : (writing ⟨0x10000000, [1], .program 0⟩ [] none).canonical = true ∧
    (writing ⟨0x10000000, [1], .program 0⟩ [] none).serving = [] ∧ (⟨0x1001C400, [1], .sealedWrite⟩ : NvmWrite).isLoader = false ∧
    (⟨0x1001C200, leBytes 4 0x5A5AA5A5, .directory⟩ : NvmWrite).isLoader = true ∧ ([markerClear].any NvmWrite.isLoader) = true ∧
    (writing ⟨0x1001C200, leBytes 4 0x5A5AA5A5, .directory⟩ [] (some (.host, true))).load.map (·.commit) = some (some (.host, true)) ∧
    (∀ n : Fin 4, (writing markerClear [] none).dmaState n = 0) ∧ (writing markerClear [] none).hostPort.loadOut.length + 4 ≤ 16 := by
  decide +kernel

theorem witness_LastClauses : (hosting [] id).isManager = true ∧ 4 * (hosting [] id).fld Reg.HOST_MOUT_ADDR.ADDR + 65 ≤ 0x10000 ∧
    (coils 1 [0, 0, 3, 0] 4 [(Reg.SAFE_CONST.HSB, 0, 1)]).isCut 2 = false ∧
    (∀ k, (hosting [] id).swapped k = none) ∧ (paired [] id).sfu.since ≤ (paired [] id).rackNow ∧
    (paired [] fun f => { f with instant := some 0 }).rackNow - (paired [] id).rackTicks % 12000 = 0 ∧
    (behind.rackNow - behind.rackTicks % 12000) = 12000 ∧
    (let s : State := { put eventful [(Reg.PORT_ST.STATE, 0, Link.ASLEEP)] with power := { eventful.power with entering := true, noted := [0] } }
     s.heldAwake = true ∧ s.canonical = true ∧ s.link 0 = Link.ASLEEP) := by decide +kernel

/-- Every Basvo instruction has a word and no other command has one: some of each. -/
theorem test_words : (encodeWord (.add 0 0 0 0)).isSome = true ∧ (encodeWord (.rmov 15 15 15 0x3FFF)).isSome = true ∧
    (encodeWord (.dmaStart .host 0)).isSome = false ∧ isBasvo (.jal 15 0x3FFFFF) = true ∧ isBasvo (.wdkick .host 0) = false := by
  decide +kernel

/-! ## WellFormed refuses -/

theorem smoke_offset : Instr.wellFormed (.registerWrite .host 0x4002 0) = false ∧ Instr.wellFormed (.registerWrite .host 0x4004 0) = true ∧
    Instr.wellFormed (.rcRead .host 0x4001) = false ∧ Instr.wellFormed (.loWordRead .host 0x4003) = false ∧
    Instr.wellFormed (.ctxSelectedWrite .host 0x822 0) = false := by decide

theorem smoke_selector : Instr.wellFormed (.selectorWrite .host 5 0) = true ∧ Instr.wellFormed (.selectorWrite .host 7 0) = false := by decide

theorem smoke_arrival : Instr.wellFormed (.data (arrives (frame 4 (List.replicate 65 0)))) = false ∧
    Instr.wellFormed (.data (arrives { frame 4 [] with hops := 64 })) = false ∧
    Instr.wellFormed (.data (arrives { frame 4 [] with prio := 8 })) = false ∧
    Instr.wellFormed (.data { arrives (frame 4 (List.replicate 256 0)) with formed := false }) = false ∧
    Instr.wellFormed (.data (arrives (frame 4 (List.replicate 64 0)))) = true := by decide +kernel

theorem smoke_lists : Instr.wellFormed (.loadData (.host (List.replicate 65 0))) = false ∧
    Instr.wellFormed (.sentinelSample (List.replicate 11 0)) = false ∧ Instr.wellFormed (.openWirePhaseEnd []) = false ∧
    Instr.wellFormed (.leakageDone []) = false ∧ Instr.wellFormed (.bleedCurrentSample []) = false ∧
    Instr.wellFormed (.hostRead 0 0 [64]) = false := by decide +kernel

/-! ## Words written out from R119, R121 and Table 4-1 -/

/-! ## Words written out from Table 4-1 and the opcodes of Tables 4-3 to 4-8 -/

/-- ADD X2, X2, X3: opcode, rd, rs1, rs2, zero. -/
theorem test_decode_add : decodeWord 0b000001_0010_0010_0011_00000000000000 = some (.add 2 2 3 0) := by decide +kernel

/-- ADDI X3, X4, -8 and BNE X5, X0 with offset -3 words. -/
theorem test_decode_addi_bne : decodeWord 0b010001_0011_0100_0000_11111111111000 = some (.addi 3 4 0 0x3FF8) ∧
    decodeWord 0b100011_0000_0101_0000_11111111111101 = some (.bne 0 5 0 0x3FFD) := by decide +kernel

/-- LUI X1 with imm18 0x3FFFF; JAL X15 with off22 -1; TRAP 0x2A. -/
theorem test_decode_wide : decodeWord 0b011001_0001_0000_111111111111111111 = some (.lui 1 0 0x3FFFF) ∧
    decodeWord 0b101000_1111_1111111111111111111111 = some (.jal 15 0x3FFFFF) ∧
    decodeWord 0b110010_0000_0000_000000000000101010 = some (.trap 0 0 0x2A) := by decide +kernel

/-- LDW X4, 8(X5) and STB X4, 1(X5). -/
theorem test_decode_memory : decodeWord 0b011010_0100_0101_0000_00000000001000 = some (.ldw 4 5 0 8) ∧
    decodeWord 0b100001_0100_0101_0000_00000000000001 = some (.stb 4 5 0 1) := by decide +kernel

/-- CSRW X0, X1, 0x0E; SLEEP X1; MEAS X7, X6 with sel 1; RMOV X1, X2, X3, OUT. -/
theorem test_decode_system : decodeWord 0b101011_0000_0001_0000_00000000001110 = some (.csrw 0 1 0 0xE) ∧
    decodeWord 0b101110_0000_0001_0000_00000000000000 = some (.sleep 0 1 0 0) ∧
    decodeWord 0b110011_0111_0110_0000_00000000000001 = some (.meas 7 6 0 1) ∧
    decodeWord 0b111011_0001_0010_0011_00000000000001 = some (.rmov 1 2 3 1) := by decide +kernel

/-- Opcodes 0x00 and 0x3C to 0x3F name nothing. -/
theorem test_decode_none : decodeWord 0 = none ∧ decodeWord 0xF0000000 = none ∧ decodeWord 0xFFFFFFFF = none := by decide +kernel

/-! ## Values of the specification's Bench notes -/

/-- Chapter 17: HCRC over 20 02 07 40 00 B0 08; W of a READ of 2 words. -/
theorem test_hcrc : headerCrc 0x200207A3 0x4000B008 = 0xA3 ∧ wordsExpected .read 2 = 7 := by decide +kernel

/-- Chapter 4: ADDI adds -8, setting N. -/
theorem test_addi_negative : (match exec (.addi 3 4 0 0x3FF8) (coreX [0, 0, 0, 5]) with
    | .next t => decide ((t.ctx 0).getX 3 = 0xFFFFFFFD) && (t.ctx 0).status.getLsbD 1
    | _ => false) = true := by decide +kernel

/-- Chapter 7: TIME over 14 links of 96 units and 13 forwarders of 36 ticks gives 2,399,997,609 ticks. -/
theorem test_time_bench : (List.range 13).foldl (fun acc _ => accOut 0 (acc + 96) 36) 208896 = 240096 ∧
    timeValue (leBytes 3 240096 ++ leBytes 4 36621 ++ [0]) 96 = 2399997609 * 64 ∧ 2399993856 / 65536 = 36621 := by decide +kernel

/-- Chapter 12: the tombstone of ring sector 37. -/
theorem test_tombstone_bench : ({ awake with rtime := 64 * 0x8F0D1800 }.setBad 37).tombRow 1 37 / 256 = 0x19410000008F0D := by decide +kernel

/-- Chapter 13: seal word 0x024. -/
theorem test_seal_bench : (put awake [(Reg.SEAL_ACC.WORD, 0, 0x024)]).discTime = ms 100 ∧
    (put awake [(Reg.SEAL_ACC.WORD, 0, 0x024)]).offPeriod = ms 100 ∧ (put awake [(Reg.SEAL_ACC.WORD, 0, 0x024)]).autoRestart = false ∧
    (put awake [(Reg.SEAL_ACC.WORD, 0, 0x224)]).seal9 = false := by decide +kernel

/-- Chapter 16: 2.0 ppm, 0.4 degrees from the bin's last update, 10 s after TIME. -/
theorem test_guard_bench : ({ put awake [(Reg.CLK_RESID.PPM, 0, 20), (Reg.CLK_LFOBIN.TUPD, 5, 14), (Reg.CLK_LFOBIN.VALID, 5, 1),
    (Reg.CLK_TEMP.MC, 0, 14400)] with power := { awake.power with rackHeard := some 0 } }).learnedGuard (ms 10000) = 360 := by decide +kernel

end Sys2Proof.Tests
end

section
/-! SUPPORT. The canonical form of registers, latches and memory, kept by every operation: one lemma per operation, in the
order of the model. -/

namespace Sys2Proof.Machine

/-- `State.canonical` in its three parts. -/
structure State.Canonical (s : State) : Prop where
  regs : wfFrom regDefault 0 s.regs = true
  latches : wfFrom regDefault 0 s.latches = true
  mem : Memory.wf s.mem = true

theorem State.canonical_iff (s : State) : s.canonical = true ↔ s.Canonical := by
  simp only [State.canonical, Bool.and_eq_true]
  exact ⟨fun ⟨⟨hr, hl⟩, hm⟩ => ⟨hr, hl, hm⟩, fun h => ⟨⟨h.regs, h.latches⟩, h.mem⟩⟩

/-- A command's outcome, when it is a next state, is a canonical one. -/
def Keeps (o : Host.Outcome State Fault Refusal) : Prop := ∀ t, o = .next t → t.Canonical

/-- Whatever an instruction comes to, its state is canonical. -/
def Did.Canonical : Did → Prop
  | .done s _ => s.Canonical
  | .jump s _ _ => s.Canonical
  | .trap s _ _ _ _ => s.Canonical
  | .wait s _ _ => s.Canonical
  | .hold s _ _ => s.Canonical

/-- The state in which an access stopped is canonical. -/
def Stop.Canonical : Stop → Prop
  | .trap s _ _ _ => s.Canonical
  | .wait s _ => s.Canonical

theorem resetWords_wf : wfFrom regDefault 0 Reg.resetWords = true := by decide +kernel

namespace State

variable {s : State}

/-- Only the three maps count. -/
theorem Canonical.same {pending now free struck wrote rtime rtHold hfo lastTime eccBad ctxs holder hostSel servedSel dma serving load nvmQ
    ports trips replyAt primSince upFrom bbx meas ladle snap power safe sfu rack hostPort boot lt cvu} (h : s.Canonical) :
    State.Canonical ⟨pending, now, free, struck, wrote, rtime, rtHold, hfo, lastTime, s.regs, s.latches, s.mem, eccBad, ctxs, holder,
      hostSel, servedSel, dma, serving, load, nvmQ, ports, trips, replyAt, primSince, upFrom, bbx, meas, ladle, snap, power, safe, sfu,
      rack, hostPort, boot, lt, cvu⟩ := ⟨h.regs, h.latches, h.mem⟩

theorem Canonical.ite {t : State} {c : Prop} [Decidable c] (hs : s.Canonical) (ht : t.Canonical) : (if c then s else t).Canonical := by
  split
  · exact hs
  · exact ht

theorem Canonical.next (h : s.Canonical) : Keeps (.next s) := fun _ e => Host.Outcome.next.inj e ▸ h

theorem Canonical.foldl {α : Type} {l : List α} {f : State → α → State} (h : s.Canonical)
    (hf : ∀ t a, t.Canonical → (f t a).Canonical) : (l.foldl f s).Canonical := by
  induction l generalizing s with
  | nil => exact h
  | cons a l ih => exact ih (hf s a h)

theorem Canonical.forAll {α : Type} {l : List α} {f : α → State → State} (h : s.Canonical)
    (hf : ∀ a t, t.Canonical → (f a t).Canonical) : (Machine.forAll l f s).Canonical :=
  h.foldl fun t a => hf a t

theorem Canonical.setReg {k w} (h : s.Canonical) : (s.setReg k w).Canonical := ⟨regs_wf_setReg s k w h.regs, h.latches, h.mem⟩

theorem Canonical.setByte {a b} (h : s.Canonical) : (s.setByte a b).Canonical := ⟨h.regs, h.latches, mem_wf_setByte s a b h.mem⟩

theorem Canonical.setBytes {a bs} (h : s.Canonical) : (s.setBytes a bs).Canonical := by
  induction bs generalizing s a with
  | nil => exact h
  | cons b t ih => exact ih h.setByte

theorem Canonical.setFld {f v i} (h : s.Canonical) : (s.setFld f v i).Canonical := by unfold State.setFld; exact h.setReg
theorem Canonical.strike {f m i} (h : s.Canonical) : (s.strike f m i).Canonical := by unfold State.strike; exact h.setFld.same
theorem Canonical.update {t f v i} (h : s.Canonical) : (s.update t f v i).Canonical := by unfold State.update; exact h.setReg
theorem Canonical.setFlag {f b i} (h : s.Canonical) : (s.setFlag f b i).Canonical := by unfold State.setFlag; exact h.setFld.same
theorem Canonical.setBitOf {f n b i} (h : s.Canonical) : (s.setBitOf f n b i).Canonical := by unfold State.setBitOf; exact h.setFld.same
theorem Canonical.countBy {f n i} (h : s.Canonical) : (s.countBy f n i).Canonical := by unfold State.countBy; exact h.setFld
theorem Canonical.count {f i} (h : s.Canonical) : (s.count f i).Canonical := by unfold State.count; exact h.countBy
theorem Canonical.count64 {lo hi n i} (h : s.Canonical) : (s.count64 lo hi n i).Canonical := by unfold State.count64; exact h.setFld.setFld
theorem Canonical.draw (h : s.Canonical) : s.draw.2.Canonical := by unfold State.draw; exact h.same
theorem Canonical.setCtx {c v} (h : s.Canonical) : (s.setCtx c v).Canonical := by unfold State.setCtx; exact h.same
theorem Canonical.modCtx {c f} (h : s.Canonical) : (s.modCtx c f).Canonical := by unfold State.modCtx; exact h.setCtx
theorem Canonical.modAll {f} (h : s.Canonical) : (s.modAll f).Canonical := by unfold State.modAll; exact h.same
theorem Canonical.yieldSees {c} (h : s.Canonical) : (s.yieldSees c).Canonical := by unfold State.yieldSees; exact h.modAll
theorem Canonical.raise {e} (h : s.Canonical) : (s.raise e).Canonical := by unfold State.raise; exact h.modCtx.ite h.modAll
theorem Canonical.setPort {p v} (h : s.Canonical) : (s.setPort p v).Canonical := by unfold State.setPort; exact h.same
theorem Canonical.modPort {p f} (h : s.Canonical) : (s.modPort p f).Canonical := by unfold State.modPort; exact h.setPort
theorem Canonical.setDma {n v} (h : s.Canonical) : (s.setDma n v).Canonical := by unfold State.setDma; exact h.same

/-! ### The clock -/

theorem Canonical.didWork {i n stack} (h : s.Canonical) : (s.didWork i n stack).Canonical := by unfold State.didWork; exact h.ite h.same
theorem Canonical.advance {n} (h : s.Canonical) : (s.advance n).Canonical := by unfold State.advance; exact h.same
theorem Canonical.reach {t} (h : s.Canonical) : (s.reach t).Canonical := by unfold State.reach; exact h.ite h.advance
theorem Canonical.reachTick {t} (h : s.Canonical) : (s.reachTick t).Canonical := by unfold State.reachTick; exact h.ite h.advance

/-! ### Sending frames -/

theorem Canonical.raisePort {p} (h : s.Canonical) : (s.raisePort p).Canonical := by unfold State.raisePort; exact h.ite h.raise
theorem Canonical.setLink {p st} (h : s.Canonical) : (s.setLink p st).Canonical := by unfold State.setLink; exact h.ite h.setFld.raisePort

theorem Canonical.txDone {u p} (h : s.Canonical) : (s.txDone u p).Canonical := by
  unfold State.txDone
  dsimp only
  split
  · exact h.setBitOf.raise
  · exact h.modPort
  · exact h.same.ite h.same
  · exact h

theorem Canonical.txFail {u p} (h : s.Canonical) : (s.txFail u p).Canonical := by
  unfold State.txFail
  extract_lets s1
  have h1 : s1.Canonical := h.count
  split
  · exact h1.setBitOf.raise
  · exact h1.count
  · exact h1

theorem Canonical.ackLost {p i} (h : s.Canonical) : (s.ackLost p i).Canonical := by unfold State.ackLost; exact h.modPort.ite h

theorem Canonical.failItem {p i} (h : s.Canonical) : (s.failItem p i).Canonical := by
  unfold State.failItem
  extract_lets s1 s2
  have h1 : s1.Canonical := h.ackLost
  have h2 : s2.Canonical := h1.count
  split
  · exact h1.txFail
  · split
    · exact h1
    · split
      · exact h2.txFail
      · exact h2

theorem Canonical.startTx {p i} (h : s.Canonical) : (s.startTx p i).Canonical := by
  unfold State.startTx
  exact h.setPort.setFld.ite h.setPort

theorem Canonical.preempt {p} (h : s.Canonical) : (s.preempt p).Canonical := by
  unfold State.preempt
  dsimp only
  split
  · exact h.setPort.ite h
  · exact h

theorem Canonical.unpick {p} (h : s.Canonical) : (s.unpick p).Canonical := by
  unfold State.unpick
  dsimp only
  split
  · exact h.setPort.setFld.ite h
  · exact h

theorem Canonical.unplan {p} (h : s.Canonical) : (s.unplan p).Canonical := by
  unfold State.unplan
  split
  · exact h.unpick.ite h
  · exact h

theorem Canonical.recall {p} (h : s.Canonical) : (s.recall p).Canonical := by unfold State.recall; exact h.unpick.ite h
theorem Canonical.dropMissed {p} (h : s.Canonical) : (s.dropMissed p).Canonical := by unfold State.dropMissed; exact h.modPort
theorem Canonical.dropLate {p} (h : s.Canonical) : (s.dropLate p).Canonical := by unfold State.dropLate; exact h.modPort.setFlag.ite h

theorem Canonical.kick {p} (h : s.Canonical) : (s.kick p).Canonical := by
  unfold State.kick
  extract_lets s1
  have h1 : s1.Canonical := h.dropMissed.dropLate.unplan.preempt
  split
  · exact h1
  · split
    · split
      · exact h1.setPort.startTx
      · exact h1.startTx.ite h1
    · exact h1.startTx.ite h1

theorem Canonical.resume {p} (h : s.Canonical) : (s.resume p).Canonical := by unfold State.resume; exact h.modPort.setLink.kick.ite h
theorem Canonical.await {p i} (h : s.Canonical) : (s.await p i).Canonical := by unfold State.await; exact h.modPort

theorem Canonical.enqueue {p i} (h : s.Canonical) : (s.enqueue p i).Canonical := by
  unfold State.enqueue
  exact h.failItem.ite (h.await.kick.ite (h.await.ite (h.await.resume.ite h.failItem)))

theorem Canonical.shedFenced {p} (h : s.Canonical) : (s.shedFenced p).Canonical := by
  unfold State.shedFenced
  exact h.setPort.forAll (fun _ _ h => h.failItem)

theorem Canonical.sendRouted {f use} (h : s.Canonical) : (s.sendRouted f use).Canonical := by
  unfold State.sendRouted
  extract_lets _ s1
  have h1 : s1.Canonical := h.count
  split
  · exact h.enqueue
  · split
    · exact h1.txFail
    · exact h1

theorem Canonical.sendCopy {p q f up stamp} (h : s.Canonical) : (s.sendCopy p q f up stamp).Canonical := by
  unfold State.sendCopy
  exact h.modPort.enqueue

theorem Canonical.sendUp {ok mk} (h : s.Canonical) : (s.sendUp ok mk).Canonical := by
  unfold State.sendUp
  extract_lets s1
  have h1 : s1.Canonical := by
    unfold s1
    split
    · exact h.enqueue.ite h
    · exact h
  split
  · exact h1.enqueue.ite h1
  · exact h1

theorem Canonical.rxInto {c f port} (h : s.Canonical) : (s.rxInto c f port).Canonical := by
  unfold State.rxInto
  exact h.count.ite (h.modCtx.raise.ite h)

theorem Canonical.rxPut {f p} (h : s.Canonical) : (s.rxPut f p).Canonical := by unfold State.rxPut; exact h.rxInto

/-! ### The black box -/

theorem Canonical.nvmWrite {a b w} (h : s.Canonical) : (s.nvmWrite a b w).Canonical := by unfold State.nvmWrite; exact h.same
theorem Canonical.setBad {k} (h : s.Canonical) : (s.setBad k).Canonical := by unfold State.setBad; exact h.setBitOf.ite h.setBitOf

theorem Canonical.mapViews (h : s.Canonical) : s.mapViews.Canonical := by
  unfold State.mapViews
  exact h.setFld.setFld.setFlag.ite h.setFld.setFld

theorem Canonical.writeMap (h : s.Canonical) : s.writeMap.Canonical := by unfold State.writeMap; exact h.same.mapViews.nvmWrite

theorem Canonical.sendMirror {p payload use} (h : s.Canonical) : (s.sendMirror p payload use).Canonical := by
  unfold State.sendMirror
  exact h.ite h.enqueue

theorem Canonical.mrecTo {area r} (h : s.Canonical) : (s.mrecTo area r).Canonical := by
  unfold State.mrecTo
  dsimp only
  split
  · split
    · exact h.ite h.sendMirror
    · exact h
  · split
    · exact h.ite h.sendMirror
    · exact h

theorem Canonical.mirror {r} (h : s.Canonical) : (s.mirror r).Canonical := by unfold State.mirror; exact (h.ite h.same).mrecTo.mrecTo

theorem Canonical.handoff {kind sticky origin content owner} (h : s.Canonical) : (s.handoff kind sticky origin content owner).Canonical :=
    by
  unfold State.handoff
  extract_lets _ _ _ _ _ _ s1 s2 s3
  have h1 : s1.Canonical := h.same.setFld
  have h2 : s2.Canonical := h1.setFlag.raise.ite h1
  have h3 : s3.Canonical := h2.count.ite h2
  exact h3.mirror.ite h1.same

theorem Canonical.bbxAppend {kind sticky content} (h : s.Canonical) : (s.bbxAppend kind sticky content).Canonical := by
  unfold State.bbxAppend
  exact h.count.ite (h.handoff.ite h.same)

theorem Canonical.startBurn (h : s.Canonical) : s.startBurn.Canonical := by unfold State.startBurn; exact h.same
theorem Canonical.noteBusy (h : s.Canonical) : s.noteBusy.Canonical := by unfold State.noteBusy; exact h.startBurn.setFlag
theorem Canonical.unfitNotice (h : s.Canonical) : s.unfitNotice.Canonical := by unfold State.unfitNotice; exact h.same.sendUp

theorem Canonical.enterDegraded (h : s.Canonical) : s.enterDegraded.Canonical := by
  unfold State.enterDegraded
  exact h.ite h.setFlag.setFlag.unfitNotice

theorem Canonical.mediaReport {cause sector addr} (h : s.Canonical) : (s.mediaReport cause sector addr).Canonical := by
  unfold State.mediaReport
  extract_lets row content s1 src s2
  have h1 : s1.Canonical := h.bbxAppend
  have h2 : s2.Canonical := by
    unfold s2
    clear_value row
    split
    · exact h1.same
    · exact h1.setFlag
  exact h2.noteBusy.setFlag.raise

theorem Canonical.loadMap (h : s.Canonical) : s.loadMap.Canonical := by
  unfold State.loadMap
  exact h.setFld.setFld.setFld.same.mapViews.ite h.setFld.setFld.setFld.same.setFlag.writeMap

theorem Canonical.withMap (h : s.Canonical) : s.withMap.Canonical := by unfold State.withMap; exact h.ite h.loadMap

theorem Canonical.mediaFailure {cause sector addr failed} (h : s.Canonical) : (s.mediaFailure cause sector addr failed).Canonical := by
  unfold State.mediaFailure
  extract_lets s1 _ _ _ s2 s3 s4
  have h1 : s1.Canonical := h.withMap.setBad
  have h2 : s2.Canonical := h1.same
  have h3 : s3.Canonical := h2.writeMap
  have h4 : s4.Canonical := h3.mediaReport
  exact h4.enterDegraded.ite h4

theorem Canonical.mapFailure (h : s.Canonical) : s.mapFailure.Canonical := by unfold State.mapFailure; exact h.mediaReport.enterDegraded

theorem Canonical.shadowFailure {k} (h : s.Canonical) : (s.shadowFailure k).Canonical := by
  unfold State.shadowFailure
  exact h.withMap.ite h.withMap.setBitOf.writeMap

theorem Canonical.eccInNvm {a} (h : s.Canonical) : (s.eccInNvm a).Canonical := by
  unfold State.eccInNvm
  exact (h.ite h.mediaFailure).ite (h.shadowFailure.ite h)

theorem Canonical.eccReport {a n} (h : s.Canonical) : (s.eccReport a n).Canonical := by
  unfold State.eccReport
  split
  · exact h.eccInNvm
  · exact h

theorem Canonical.wakeLogb (h : s.Canonical) : s.wakeLogb.Canonical := by unfold State.wakeLogb; exact h.modAll

theorem Canonical.commitStart (h : s.Canonical) : s.commitStart.Canonical := by
  unfold State.commitStart
  dsimp only
  split
  · split
    · exact h
    · split
      · exact (h.same.ite h.same.count).mirror.wakeLogb
      · exact h.same.setFlag.raise.mirror.wakeLogb.ite (h.same.mirror.wakeLogb.ite h.same.same.noteBusy.nvmWrite.setFld.wakeLogb)
  · exact h

theorem Canonical.wakeNvm (h : s.Canonical) : s.wakeNvm.Canonical := by unfold State.wakeNvm; exact h.modAll

theorem Canonical.mrel {q} (h : s.Canonical) : (s.mrel q).Canonical := by
  unfold State.mrel
  dsimp only
  split
  · refine .sendMirror ?_
    split
    · exact h.sendMirror
    · exact h
  · split
    · exact h.sendMirror
    · exact h

theorem Canonical.unpin {hit} (h : s.Canonical) : (s.unpin hit).Canonical := by
  unfold State.unpin
  exact h.same.writeMap.bbxAppend.forAll (fun _ _ h => h.mrel)

theorem Canonical.ackNow {q all} (h : s.Canonical) : (s.ackNow q all).Canonical := by
  unfold State.ackNow
  exact (h.withMap.setFlag.ite h.withMap.unpin).forAll (fun _ _ h => h.eccReport)

theorem Canonical.bbxAck {q all} (h : s.Canonical) : (s.bbxAck q all).Canonical := by unfold State.bbxAck; exact h.same.ite h.ackNow

theorem Canonical.sendMrej {p reason seq} (h : s.Canonical) : (s.sendMrej p reason seq).Canonical := by
  unfold State.sendMrej
  exact h.sendMirror

theorem Canonical.noteStored {area count i anew} (h : s.Canonical) : (s.noteStored area count i anew).Canonical := by
  unfold State.noteStored
  exact h.same.ite h.same

theorem Canonical.takeMrec {p b60} (h : s.Canonical) : (s.takeMrec p b60).Canonical := by
  unfold State.takeMrec
  dsimp only
  split
  · exact h.sendMrej
  · split
    · exact h.sendMrej
    · split
      · exact h.sendMrej
      · exact h
      · exact h.nvmWrite.noteStored.nvmWrite.ite h.nvmWrite.noteStored

theorem Canonical.takeMrel {p seq} (h : s.Canonical) : (s.takeMrel p seq).Canonical := by
  unfold State.takeMrel
  dsimp only
  split
  · exact h
  · split
    · exact h.nvmWrite
    · exact h

theorem Canonical.noPartner {p area} (h : s.Canonical) : (s.noPartner p area).Canonical := by
  unfold State.noPartner
  exact h.modPort.setFlag

theorem Canonical.takeMrej {p reason} (h : s.Canonical) : (s.takeMrej p reason).Canonical := by
  unfold State.takeMrej
  extract_lets s1
  have h1 : s1.Canonical := h.count
  split
  · exact h
  · exact h1.noPartner.ite h1

theorem Canonical.release {area} (h : s.Canonical) : (s.release area).Canonical := by
  unfold State.release
  exact (h.forAll (fun _ _ h => h.nvmWrite)).nvmWrite

theorem Canonical.mirrorResend {p} (h : s.Canonical) : (s.mirrorResend p).Canonical := by
  unfold State.mirrorResend
  dsimp only
  split
  · exact h
  · exact (h.forAll (fun _ _ h => h.mrecTo)).forAll (fun _ _ h => h.eccReport)

theorem Canonical.bbxLinkStart {p} (h : s.Canonical) : (s.bbxLinkStart p).Canonical := by
  unfold State.bbxLinkStart
  exact (h.setFlag.ite h).setFlag.ite (h.setFlag.ite h)

theorem Canonical.takeBdata {status b60} (h : s.Canonical) : (s.takeBdata status b60).Canonical := by
  unfold State.takeBdata
  exact (h.forAll (fun _ _ h => h.setFld)).setFld.ite h

theorem Canonical.answerBread {src area index} (h : s.Canonical) : (s.answerBread src area index).Canonical := by
  unfold State.answerBread
  extract_lets _ s1
  have h1 : s1.Canonical := h.takeBdata.ite h.sendRouted
  split
  · exact h1.eccReport
  · exact h1

theorem Canonical.takeBread {p src area index} (h : s.Canonical) : (s.takeBread p src area index).Canonical := by
  unfold State.takeBread
  exact h.same.ite h.answerBread

theorem Canonical.rdreqGo (h : s.Canonical) : s.rdreqGo.Canonical := by
  unfold State.rdreqGo
  exact (h.same.setFld.takeBread.ite h.same.setFld.sendRouted).ite h

theorem Canonical.takeMirror {p f} (h : s.Canonical) : (s.takeMirror p f).Canonical := by
  unfold State.takeMirror
  dsimp only
  split
  · exact h.takeMrec.ite h
  · exact h.takeMrel.ite h
  · exact h.takeMrej.ite h
  · exact h.takeBread.ite h
  · exact h.takeBdata.ite h
  · exact h.bbxAppend.ite h
  · exact h

theorem Canonical.pinCommitted {r q} (h : s.Canonical) : (s.pinCommitted r q).Canonical := by
  unfold State.pinCommitted
  dsimp only
  split <;> exact h.same.writeMap.ite h

theorem Canonical.commitDone {ok} (h : s.Canonical) : (s.commitDone ok).Canonical := by
  unfold State.commitDone
  extract_lets _ s1
  have h1 : s1.Canonical := h.same.noteBusy
  split
  · exact h
  · exact h.ite (((h1.setBytes.pinCommitted.ite h1.same.setBytes.mediaFailure).same.mirror.raise.wakeNvm.same.forAll (fun _ _ h =>
    h.ackNow)).forAll (fun _ _ h => h.answerBread))

theorem Canonical.burnDone (h : s.Canonical) : s.burnDone.Canonical := by
  unfold State.burnDone
  dsimp only
  split
  · exact h.same.setFld.setFld.noteBusy.ite h
  · exact h

theorem Canonical.scanFaults (h : s.Canonical) : s.scanFaults.Canonical := by
  unfold State.scanFaults
  exact h.forAll (fun _ _ h => h.eccInNvm)

theorem Canonical.ringScan (h : s.Canonical) : s.ringScan.Canonical := by
  unfold State.ringScan
  extract_lets s1 _ _ _ s2 _ _ s3 s4 s5 _ _ s6 s7 s8 s9
  have h1 : s1.Canonical := h.loadMap
  have h2 : s2.Canonical := h1.countBy
  have h3 : s3.Canonical := h2.same
  have h4 : s4.Canonical := h3.setFld.setFld.setFlag
  have h5 : s5.Canonical := h4.forAll (fun _ _ h => h.mirrorResend)
  have h6 : s6.Canonical := h5.same
  have h7 : s7.Canonical := h6.bbxAppend
  have h8 : s8.Canonical := (h7.forAll (fun _ _ h => h.bbxAppend)).scanFaults
  have h9 : s9.Canonical := h8.enterDegraded.ite h8
  exact h.ite h9.wakeLogb

/-! ### The chain link -/

theorem Canonical.moveUp {old new} (h : s.Canonical) : (s.moveUp old new).Canonical := by
  unfold State.moveUp
  exact h.ite ((h.recall.ite h).setPort.forAll (fun _ _ h => h.enqueue)).kick

theorem Canonical.switchUp {p sec} (h : s.Canonical) : (s.switchUp p sec).Canonical := by
  unfold State.switchUp
  exact h.setFld.setFlag.setFlag.ite h.setFld.setFlag.setFlag.setFlag.raise.moveUp

theorem Canonical.primaryAfterAll (h : s.Canonical) : s.primaryAfterAll.Canonical := by
  unfold State.primaryAfterAll
  dsimp only
  split
  · exact h.setFlag.setFlag.switchUp.moveUp.same
  · exact h

theorem Canonical.updateUp (h : s.Canonical) : s.updateUp.Canonical := by
  unfold State.updateUp
  extract_lets _ _ s1 _ s2
  have h1 : s1.Canonical := h.same
  have h2 : s2.Canonical := h1.switchUp
  split
  · exact h1.primaryAfterAll
  · split
    · split
      · exact h1.switchUp.ite h1
      · exact h1
    · exact h1.switchUp.ite (h2.same.ite h1.setFlag)

theorem execFailbackHoldEnd_keeps (h : s.Canonical) : Keeps (execFailbackHoldEnd s) := by
  unfold execFailbackHoldEnd
  refine Canonical.next ?_
  split
  · exact h.reach.switchUp.ite h
  · exact h

theorem Canonical.relink {p st} (h : s.Canonical) : (s.relink p st).Canonical := by unfold State.relink; exact h.setLink.updateUp

theorem Canonical.putCheck {p check cause} (h : s.Canonical) : (s.putCheck p check cause).Canonical := by
  unfold State.putCheck
  exact h.setFld.setFld.setFlag.ite h.setFld.setFld.setFlag.raise

theorem Canonical.setCheck {p check cause} (h : s.Canonical) : (s.setCheck p check cause).Canonical := by
  unfold State.setCheck
  exact h.putCheck.updateUp

theorem Canonical.fenced {p cause} (h : s.Canonical) : (s.fenced p cause).Canonical := by
  unfold State.fenced
  exact h.shedFenced.bbxAppend.sendUp

theorem Canonical.fence {p cause} (h : s.Canonical) : (s.fence p cause).Canonical := by unfold State.fence; exact h.ite h.setCheck.fenced
theorem Canonical.sendAnnounce {p} (h : s.Canonical) : (s.sendAnnounce p).Canonical := by unfold State.sendAnnounce; exact h.modPort.enqueue

theorem Canonical.startCheck {p} (h : s.Canonical) : (s.startCheck p).Canonical := by
  unfold State.startCheck
  exact h.modPort.setCheck.sendAnnounce

theorem Canonical.recordFar {p b} (h : s.Canonical) : (s.recordFar p b).Canonical := by
  unfold State.recordFar
  exact h.modPort.setFld.setFld.setFld.setFld.setFld.setFld.setFlag.setFlag.setFlag.setFld.setFlag

theorem Canonical.opened {p} (h : s.Canonical) : (s.opened p).Canonical := by unfold State.opened; exact (h.mirrorResend.ite h).kick

theorem Canonical.judgePort {p b} (h : s.Canonical) : (s.judgePort p b).Canonical := by
  unfold State.judgePort
  split
  · exact h.ite h.setCheck.opened
  · exact h.fence

theorem Canonical.takeAnnounce {p b} (h : s.Canonical) : (s.takeAnnounce p b).Canonical := by
  unfold State.takeAnnounce
  exact (h.recordFar.judgePort.ite h.recordFar).ite h.count

theorem Canonical.rechecked {was p c} (h : s.Canonical) : (s.rechecked was p c).Canonical := by
  unfold State.rechecked
  exact (h.ite h.opened).ite (h.ite h.fenced)

theorem Canonical.recheck {mask} (h : s.Canonical) : (s.recheck mask).Canonical := by
  unfold State.recheck
  extract_lets _ _ s1 s2
  have h1 : s1.Canonical := (h.forAll (fun _ _ h => h.putCheck)).updateUp
  have h2 : s2.Canonical := h1.forAll (fun _ _ h => h.rechecked)
  exact h2.forAll (fun _ _ h => h.startCheck)

theorem Canonical.sendDlyReq {p} (h : s.Canonical) : (s.sendDlyReq p).Canonical := by unfold State.sendDlyReq; exact h.modPort.kick

theorem Canonical.measureDelay {p} (h : s.Canonical) : (s.measureDelay p).Canonical := by
  unfold State.measureDelay
  exact h.modPort.sendDlyReq

theorem Canonical.takeDlyReq {p t2} (h : s.Canonical) : (s.takeDlyReq p t2).Canonical := by unfold State.takeDlyReq; exact h.modPort.kick

theorem Canonical.takeProgramSide {p kind value} (h : s.Canonical) : (s.takeProgramSide p kind value).Canonical := by
  unfold State.takeProgramSide
  exact (h.setFlag.ite h).setFld.setFld.setFld.setFlag

theorem Canonical.setDelay {p d} (h : s.Canonical) : (s.setDelay p d).Canonical := by
  unfold State.setDelay
  dsimp only
  split
  · exact h.same
  · split
    · exact h.setFld.setFlag
    · exact h.setFlag

theorem Canonical.takeDlyRsp {p t4 value} (h : s.Canonical) : (s.takeDlyRsp p t4 value).Canonical := by
  unfold State.takeDlyRsp
  dsimp only
  split
  · exact h.modPort.setDelay
  · exact h

theorem Canonical.takeSide {p msg} (h : s.Canonical) : (s.takeSide p msg).Canonical := by
  unfold State.takeSide
  exact h.count.ite (h.takeDlyReq.ite (h.takeDlyRsp.ite (h.takeProgramSide.ite h.count)))

theorem Canonical.sideIn {p bit start} (h : s.Canonical) : (s.sideIn p bit start).Canonical := by
  unfold State.sideIn
  dsimp only
  split
  · exact h
  · exact h.modPort.takeSide.ite h.modPort

theorem Canonical.forgetAborted {p} (h : s.Canonical) : (s.forgetAborted p).Canonical := by unfold State.forgetAborted; exact h.same

theorem Canonical.failAll {p keep any} (h : s.Canonical) : (s.failAll p keep any).Canonical := by
  unfold State.failAll
  exact (h.recall.ite h).setPort.forAll (fun _ _ h => h.failItem)

theorem Canonical.putCounts {p c} (h : s.Canonical) : (s.putCounts p c).Canonical := by
  unfold State.putCounts
  exact h.setFld.setFld.setFld.setFld

theorem Canonical.endPrimer {p result} (h : s.Canonical) : (s.endPrimer p result).Canonical := by
  unfold State.endPrimer
  exact h.putCounts.setBitOf.setBitOf.setFld.same.modPort

theorem Canonical.endLink {p st phase} (h : s.Canonical) : (s.endLink p st phase).Canonical := by
  unfold State.endLink
  extract_lets _ s1 s2 s3 s4
  have h1 : s1.Canonical := h.relink
  have h2 : s2.Canonical := h1.failAll.forgetAborted
  have h3 : s3.Canonical := h2.modPort
  have h4 : s4.Canonical := h3.ite h3.setCheck
  exact h4.setDelay.setFlag

theorem Canonical.startLink {p} (h : s.Canonical) : (s.startLink p).Canonical := by unfold State.startLink; exact h.endLink.modPort.ite h

theorem Canonical.linkLoss {p st phase} (h : s.Canonical) : (s.linkLoss p st phase).Canonical := by
  unfold State.linkLoss
  exact h.setFlag.count.endLink.raisePort

theorem Canonical.loseLink {p} (h : s.Canonical) : (s.loseLink p).Canonical := by unfold State.loseLink; exact h.linkLoss.modPort

theorem Canonical.attemptFailed {p} (h : s.Canonical) : (s.attemptFailed p).Canonical := by
  unfold State.attemptFailed
  exact h.setFld.setFlag.endLink.modPort.raisePort.ite h.setFld.draw.endLink.modPort

theorem Canonical.sendWake {p} (h : s.Canonical) : (s.sendWake p).Canonical := by
  unfold State.sendWake
  exact h.ite (h.modPort.didWork.ite h.modPort)

theorem Canonical.sendWaiting (h : s.Canonical) : s.sendWaiting.Canonical := by
  unfold State.sendWaiting
  exact h.forAll (fun _ _ h => h.sendWake)

theorem Canonical.rstEnd {p} (h : s.Canonical) : (s.rstEnd p).Canonical := by
  unfold State.rstEnd
  extract_lets s1 _ _ s2 _ s3 _ s4
  have h1 : s1.Canonical := h.endPrimer.ite h
  have h2 : s2.Canonical := h1.draw.setFlag.endLink
  have h3 : s3.Canonical := h1.linkLoss.ite h1.endLink
  have h4 : s4.Canonical := h3.modPort
  exact h.ite (h2.modPort.ite (h4.didWork.ite h4))

theorem Canonical.presenceEnd {p pulses} (h : s.Canonical) : (s.presenceEnd p pulses).Canonical := by
  unfold State.presenceEnd
  extract_lets s1 last s2 bit
  have h1 : s1.Canonical := h.reach
  have h2 : s2.Canonical := by
    unfold s2
    clear_value last
    split
    · exact h1.setFld.setFld.setFld
    · exact h1
  have hb (f : Fld) : (bit f s2).Canonical := h2.ite h2.setFlag.raisePort
  clear_value bit
  split
  · split
    · exact h2.modPort
    · exact (hb _).attemptFailed
    · exact (hb _).attemptFailed
    · exact (hb _).attemptFailed
    · exact (hb _).modPort.fence
  · exact h

theorem Canonical.trainingTimeout {p} (h : s.Canonical) : (s.trainingTimeout p).Canonical := by
  unfold State.trainingTimeout
  exact (h.reach.attemptFailed.ite h.reach.endLink.modPort).ite h

theorem Canonical.linkUp {p} (h : s.Canonical) : (s.linkUp p).Canonical := by
  unfold State.linkUp
  extract_lets s1 s2 s3 s4
  have h1 : s1.Canonical := h.modPort
  have h2 : s2.Canonical := h1.setFld.setFld.setFld
  have h3 : s3.Canonical := h2.bbxLinkStart.relink
  have h4 : s4.Canonical := h3.ite (h3.sendAnnounce.ite h3.startCheck)
  exact h4.measureDelay

theorem Canonical.abortPrimer {p} (h : s.Canonical) : (s.abortPrimer p).Canonical := by
  unfold State.abortPrimer
  exact h.endPrimer.startLink.ite h

theorem Canonical.relinkLater {p} (h : s.Canonical) : (s.relinkLater p).Canonical := by unfold State.relinkLater; exact h.modPort

theorem Canonical.stopPrimer {p} (h : s.Canonical) : (s.stopPrimer p).Canonical := by
  unfold State.stopPrimer
  exact h.endPrimer.relinkLater.ite h

theorem Canonical.farHold {p} (h : s.Canonical) : (s.farHold p).Canonical := by
  unfold State.farHold
  extract_lets s1 s2
  have h1 : s1.Canonical := h.endPrimer.endLink
  have h2 : s2.Canonical := h.endLink
  exact h.ite (h1.modPort.ite (h.loseLink.ite ((h.attemptFailed.ite h2.modPort).ite h)))

theorem Canonical.ctlStart {p} (h : s.Canonical) : (s.ctlStart p).Canonical := by
  unfold State.ctlStart
  exact ((h.endPrimer.ite h).raisePort.ite (h.endPrimer.ite h)).setFld.startLink

theorem Canonical.ctlEn {p en} (h : s.Canonical) : (s.ctlEn p en).Canonical := by
  unfold State.ctlEn
  exact h.ite ((h.setFlag.startLink.ite h.setFlag).ite (h.endPrimer.ite h).modPort.setFlag.endLink.setFlag)

theorem Canonical.ctlWake {p} (h : s.Canonical) : (s.ctlWake p).Canonical := by unfold State.ctlWake; exact h.sendWake.ite h

theorem Canonical.portCtl {p w} (h : s.Canonical) : (s.portCtl p w).Canonical := by
  unfold State.portCtl
  extract_lets s1 s2 s3
  have h1 : s1.Canonical := h.setFlag
  have h2 : s2.Canonical := h1.ctlEn
  have h3 : s3.Canonical := h2.ctlStart.ite h2
  exact h3.ctlWake.ite h3

theorem Canonical.noteSeq {p l isNew} (h : s.Canonical) : (s.noteSeq p l isNew).Canonical := by unfold State.noteSeq; exact h.modPort.setFld
theorem Canonical.sendAck {p l} (h : s.Canonical) : (s.sendAck p l).Canonical := by unfold State.sendAck; exact h.enqueue
theorem Canonical.sendNak {p l} (h : s.Canonical) : (s.sendNak p l).Canonical := by unfold State.sendNak; exact h.count.enqueue
theorem Canonical.takeBit {p f} (h : s.Canonical) : (s.takeBit p f).Canonical := by unfold State.takeBit; exact h.sideIn.ite h

theorem Canonical.heard {p f} (h : s.Canonical) : (s.heard p f).Canonical := by
  unfold State.heard
  extract_lets s1 s2 _ s3 s4
  have h1 : s1.Canonical := h.count64
  have h2 : s2.Canonical := h1.modPort.setFlag
  have h3 : s3.Canonical := h2.resume.ite h2
  have h4 : s4.Canonical := h3.modPort.relink.kick.ite h3
  exact h4.takeBit

theorem Canonical.countLine {p x} (h : s.Canonical) : (s.countLine p x).Canonical := by
  unfold State.countLine
  split
  · exact h.count
  · exact h.count
  · exact h.count
  · exact h

theorem Canonical.breakNulls {p} (h : s.Canonical) : (s.breakNulls p).Canonical := by unfold State.breakNulls; exact h.modPort

theorem Canonical.discardFrame {a l} (h : s.Canonical) : (s.discardFrame a l).Canonical := by
  unfold State.discardFrame
  exact h.ite (h.countLine.breakNulls.takeBit.ite h.countLine.breakNulls)

theorem Canonical.sleepIfIdle {p} (h : s.Canonical) : (s.sleepIfIdle p).Canonical := by
  unfold State.sleepIfIdle
  extract_lets s1 _ _ s2 s3
  have h1 : s1.Canonical := h.unplan.ite h
  have h2 : s2.Canonical := h1.setPort.relink
  have h3 : s3.Canonical := h2.forAll (fun _ _ h => h.failItem)
  exact (h3.ite h3.resume).ite h1

theorem Canonical.takeNull {a} (h : s.Canonical) : (s.takeNull a).Canonical := by
  unfold State.takeNull
  extract_lets _ _ s1 s2
  have h1 : s1.Canonical := h.heard.modPort
  have h2 : s2.Canonical := h.heard
  split
  · exact (h1.linkUp.ite h1).ite (h2.modPort.sleepIfIdle.kick.ite h2)
  · exact h.discardFrame

theorem Canonical.takeAck {a} (h : s.Canonical) : (s.takeAck a).Canonical := by
  unfold State.takeAck
  extract_lets s1 _ _ s2
  have h1 : s1.Canonical := h.heard
  have h2 : s2.Canonical := h1.setPort
  split
  · split
    · exact h2.txDone.sleepIfIdle.kick
    · exact h1
  · exact h.discardFrame

theorem Canonical.takeNak {a} (h : s.Canonical) : (s.takeNak a).Canonical := by
  unfold State.takeNak
  extract_lets s1
  have h1 : s1.Canonical := h.heard
  split
  · exact h1.modPort
  · exact h.discardFrame

theorem Canonical.afterTx {p} (h : s.Canonical) : (s.afterTx p).Canonical := by
  unfold State.afterTx
  exact h.loseLink.ite h.sleepIfIdle.kick

theorem Canonical.failOut {p l i} (h : s.Canonical) : (s.failOut p l i).Canonical := by unfold State.failOut; exact h.modPort.txFail

theorem Canonical.retransmit {p l} (h : s.Canonical) : (s.retransmit p l).Canonical := by
  unfold State.retransmit
  dsimp only
  split
  · exact h
  · exact h.ite (h.reach.failOut.afterTx.ite h.reach.modPort.kick)

theorem Canonical.sideOut {p} (h : s.Canonical) : (s.sideOut p).Canonical := by
  unfold State.sideOut
  dsimp only
  split
  · exact h
  · exact h.modPort.ite (h.modPort.setFlag.ite h.modPort)

theorem Canonical.txEnded {p} (h : s.Canonical) : (s.txEnded p).Canonical := by
  unfold State.txEnded
  extract_lets _ _ s1 s2 s3
  have h1 : s1.Canonical := h.modPort
  have h2 : s2.Canonical := h1.count64
  have h3 : s3.Canonical := h2.count.ite h2
  exact h1.ite (h3.sideOut.ite h3)

theorem Canonical.keepSent {p i} (h : s.Canonical) : (s.keepSent p i).Canonical := by
  unfold State.keepSent
  exact (h.failItem.ite h).ite (h.ite (h.modPort.ite h.modPort))

theorem Canonical.failLate {p} (h : s.Canonical) : (s.failLate p).Canonical := by
  unfold State.failLate
  exact h.setPort.forAll (fun _ _ h => h.txFail)

theorem Canonical.ackSent {p i} (h : s.Canonical) : (s.ackSent p i).Canonical := by unfold State.ackSent; exact h.modPort.ite h

theorem Canonical.eofSent {p} (h : s.Canonical) : (s.eofSent p).Canonical := by
  unfold State.eofSent
  dsimp only
  split
  · exact h
  · exact (h.reach.txEnded.ackSent.ite (h.reach.txEnded.ackSent.keepSent.ite h.reach.txEnded.ackSent.txDone)).failLate.afterTx

theorem Canonical.sideGo {p w} (h : s.Canonical) : (s.sideGo p w).Canonical := by
  unfold State.sideGo
  exact (h.setFlag.ite h.setFld.setFld.modPort.setFlag.kick).ite h.setFld.setFld

theorem execDlyReqRetry_keeps {p} (h : s.Canonical) : Keeps (execDlyReqRetry p s) := by
  unfold execDlyReqRetry
  refine Canonical.next ?_
  split
  · exact h.reach.modPort.sendDlyReq.ite h
  · exact h

/-! ### The Ladle -/

theorem Canonical.modShuttle {k f} (h : s.Canonical) : (s.modShuttle k f).Canonical := by unfold State.modShuttle; exact h.same

theorem Canonical.settleClamp {k} (h : s.Canonical) : (s.settleClamp k).Canonical := by
  unfold State.settleClamp
  exact h.ite (h.countBy.modShuttle.ite h.countBy.modShuttle.setFlag.raise)

theorem Canonical.clampStep {k} (h : s.Canonical) : (s.clampStep k).Canonical := by
  unfold State.clampStep
  exact h.settleClamp.modShuttle.ite h.settleClamp

theorem Canonical.holdCycle {k} (h : s.Canonical) : (s.holdCycle k).Canonical := by
  unfold State.holdCycle
  dsimp only
  split
  · exact h
  · exact h.modShuttle

theorem Canonical.applyCurrent {k} (h : s.Canonical) : (s.applyCurrent k).Canonical := by
  unfold State.applyCurrent
  exact (h.ite h.holdCycle).setFld.setFlag.clampStep

theorem Canonical.idleShuttle {k} (h : s.Canonical) : (s.idleShuttle k).Canonical := by
  unfold State.idleShuttle
  exact h.setFld.setFlag.setFlag.modShuttle.applyCurrent.modShuttle

theorem Canonical.addSigned64 {lo hi d i} (h : s.Canonical) : (s.addSigned64 lo hi d i).Canonical := by
  unfold State.addSigned64
  exact h.setFld.setFld

theorem Canonical.accountShuttle {k nc} (h : s.Canonical) : (s.accountShuttle k nc).Canonical := by
  unfold State.accountShuttle
  exact (h.modShuttle.setFld.addSigned64.idleShuttle.setFlag.ite h.modShuttle.setFld.addSigned64).ite h

theorem Canonical.bookShuttle {k} (h : s.Canonical) : (s.bookShuttle k).Canonical := by
  unfold State.bookShuttle
  exact h.modShuttle.accountShuttle

theorem Canonical.endCycle {k} (h : s.Canonical) : (s.endCycle k).Canonical := by unfold State.endCycle; exact h.modShuttle

theorem Canonical.stopOp {k} (h : s.Canonical) : (s.stopOp k).Canonical := by
  unfold State.stopOp
  exact h.bookShuttle.setFld.idleShuttle.ite h.bookShuttle

theorem Canonical.stopOpBy {why k} (h : s.Canonical) : (s.stopOpBy why k).Canonical := by
  unfold State.stopOpBy
  exact h.bookShuttle.stopOp.setFlag.ite h.bookShuttle

theorem Canonical.beginOp {k op cell target ceil at_ part} (h : s.Canonical) : (s.beginOp k op cell target ceil at_ part).Canonical := by
  unfold State.beginOp
  exact h.setFld.setFld.setFld.setFld.update.setFlag.setFlag.modShuttle.applyCurrent

theorem Canonical.settleShuttle {k} (h : s.Canonical) : (s.settleShuttle k).Canonical := by
  unfold State.settleShuttle
  split
  · exact h.modShuttle.stopOpBy.beginOp.modShuttle
  · exact h

theorem Canonical.settleShuttles (h : s.Canonical) : s.settleShuttles.Canonical := by
  unfold State.settleShuttles
  exact h.forAll (fun _ _ h => h.settleShuttle)

theorem Canonical.awaitNext {k} (h : s.Canonical) : (s.awaitNext k).Canonical := by
  unfold State.awaitNext
  split
  · exact h.reach.settleShuttle
  · exact h

theorem Canonical.dropNext {k} (h : s.Canonical) : (s.dropNext k).Canonical := by unfold State.dropNext; exact h.modShuttle

theorem Canonical.stopShuttle {k} (h : s.Canonical) : (s.stopShuttle k).Canonical := by
  unfold State.stopShuttle
  exact h.settleShuttle.dropNext.endCycle.stopOp

theorem Canonical.stopBy {why k} (h : s.Canonical) : (s.stopBy why k).Canonical := by
  unfold State.stopBy
  exact h.settleShuttle.dropNext.endCycle.stopOpBy

theorem Canonical.startShuttle {k op cell target ceil} (h : s.Canonical) : (s.startShuttle k op cell target ceil).Canonical := by
  unfold State.startShuttle
  exact h.settleShuttle.setFlag.ite (h.settleShuttle.modShuttle.ite h.settleShuttle.dropNext.beginOp)

theorem Canonical.unholdShuttle {flag k} (h : s.Canonical) : (s.unholdShuttle flag k).Canonical := by
  unfold State.unholdShuttle
  exact h.setFlag.modShuttle.applyCurrent.ite h

theorem Canonical.syncBleed (h : s.Canonical) : s.syncBleed.Canonical := by unfold State.syncBleed; exact h.setFlag.ite h.setFlag.same

theorem Canonical.setLeft {cell nc} (h : s.Canonical) : (s.setLeft cell nc).Canonical := by
  unfold State.setLeft
  dsimp only
  split
  · exact h.same.setFld
  · exact h

theorem Canonical.setClosedFor {cell n} (h : s.Canonical) : (s.setClosedFor cell n).Canonical := by
  unfold State.setClosedFor
  dsimp only
  split
  · exact h.same
  · exact h

theorem Canonical.setTarget {cell nc} (h : s.Canonical) : (s.setTarget cell nc).Canonical := by unfold State.setTarget; exact h.same.setLeft

theorem Canonical.bleedOpen {cell} (h : s.Canonical) : (s.bleedOpen cell).Canonical := by
  unfold State.bleedOpen
  exact h.setBitOf.setTarget.syncBleed

theorem Canonical.bookBleed {cell} (h : s.Canonical) : (s.bookBleed cell).Canonical := by
  unfold State.bookBleed
  extract_lets _ _ s1 s2 s3
  have h1 : s1.Canonical := h.setFld.setFld
  have h2 : s2.Canonical := h1.setClosedFor
  have h3 : s3.Canonical := h2.setLeft
  exact (h3.bleedOpen.setBitOf.ite h3).ite h2

theorem Canonical.bleedOn {cell target} (h : s.Canonical) : (s.bleedOn cell target).Canonical := by
  unfold State.bleedOn
  exact h.setFlag.ite h.bookBleed.setBitOf.setTarget.syncBleed

theorem Canonical.bleedOff {cell} (h : s.Canonical) : (s.bleedOff cell).Canonical := by
  unfold State.bleedOff
  exact h.bookBleed.bleedOpen.ite h.bookBleed

theorem Canonical.bleedAllOff (h : s.Canonical) : s.bleedAllOff.Canonical := by
  unfold State.bleedAllOff
  exact h.forAll (fun _ _ h => h.bleedOff)

theorem Canonical.ladleTrip (h : s.Canonical) : s.ladleTrip.Canonical := by
  unfold State.ladleTrip
  exact (h.forAll (fun _ _ h => h.stopBy)).forAll (fun _ _ h => h.bleedOff.ite h)

theorem Canonical.ladleHalt (h : s.Canonical) : s.ladleHalt.Canonical := by
  unfold State.ladleHalt
  exact (h.forAll (fun _ _ h => h.stopBy)).bleedAllOff

theorem Canonical.ladleSuspend (h : s.Canonical) : s.ladleSuspend.Canonical := by
  unfold State.ladleSuspend
  exact (h.settleShuttles.forAll (fun _ _ h => h.setFlag.applyCurrent.ite h)).same

theorem Canonical.ladleResume (h : s.Canonical) : s.ladleResume.Canonical := by
  unfold State.ladleResume
  exact h.settleShuttles.forAll (fun _ _ h => h.unholdShuttle)

theorem Canonical.pauseShuttles (h : s.Canonical) : s.pauseShuttles.Canonical := by
  unfold State.pauseShuttles
  extract_lets s1 _ _ _ s2 s3 s4
  have h1 : s1.Canonical := h.settleShuttles
  have h2 : s2.Canonical := h1.same
  have h3 : s3.Canonical := h2.setFlag
  have h4 : s4.Canonical := h3.forAll (fun _ _ h => h.setFlag.applyCurrent.ite h)
  exact h2.ite (h4.raise.ite h4)

theorem Canonical.resumeShuttles (h : s.Canonical) : s.resumeShuttles.Canonical := by
  unfold State.resumeShuttles
  extract_lets s1 _ s2 s3
  have h1 : s1.Canonical := h.settleShuttles
  have h2 : s2.Canonical := h1.same.setFlag
  have h3 : s3.Canonical := h2.forAll (fun _ _ h => h.unholdShuttle)
  exact (h3.raise.ite h3).ite h1

theorem Canonical.governOne {n nc k} (h : s.Canonical) : (s.governOne n nc k).Canonical := by
  unfold State.governOne
  exact h.modShuttle.accountShuttle.modShuttle.setFld.setFld.setFld.applyCurrent

theorem Canonical.measureZ {k dv} (h : s.Canonical) : (s.measureZ k dv).Canonical := by
  unfold State.measureZ
  exact (h.ite (h.setFld.ite h.setFld)).modShuttle.applyCurrent

theorem execShuttleTargetReached_keeps {k} (h : s.Canonical) : Keeps (execShuttleTargetReached k s) := by
  unfold execShuttleTargetReached
  refine Canonical.next ?_
  extract_lets _ s1
  have h1 : s1.Canonical := h.ite h.awaitNext
  split
  · exact h1.advance.bookShuttle
  · exact h1

theorem Canonical.setDutyOff {m} (h : s.Canonical) : (s.setDutyOff m).Canonical := by unfold State.setDutyOff; exact h.same.syncBleed

theorem Canonical.bleedSample {cell i} (h : s.Canonical) : (s.bleedSample cell i).Canonical := by
  unfold State.bleedSample
  exact (h.setFld.ite h).bookBleed

theorem Canonical.writeCeil {k v} (h : s.Canonical) : (s.writeCeil k v).Canonical := by
  unfold State.writeCeil
  exact h.settleShuttle.setFld.applyCurrent

/-! ### Measuring -/

theorem Canonical.quietSets {sel} (h : s.Canonical) : (s.quietSets sel).Canonical := by
  unfold State.quietSets
  exact h.same.pauseShuttles.ite h

theorem Canonical.noteStart {m n} (h : s.Canonical) : (s.noteStart m n).Canonical := by
  unfold State.noteStart
  dsimp only
  split
  · exact h.same
  · exact h

theorem Canonical.startSet {m late} (h : s.Canonical) : (s.startSet m late).2.Canonical := by
  unfold State.startSet
  extract_lets _ _ _ _ s1 s2 _ s3 _ s4
  have h1 : s1.Canonical := h.forAll (fun _ _ h => h.setFld.noteStart)
  have h2 : s2.Canonical := (h1.setFlag.ite h1).pauseShuttles.ite h1
  have h3 : s3.Canonical := h2.same.ite h2
  have h4 : s4.Canonical := h3.same.ite h3
  exact h4

theorem Canonical.startSets {sel late} (h : s.Canonical) : (s.startSets sel late).Canonical := by
  unfold State.startSets
  refine Canonical.same ?_
  refine List.foldlRecOn (motive := fun a : List MeasSet × State => a.2.Canonical) s.meas.sets _ h fun a ha m _ => ?_
  dsimp only
  split
  · exact ha.startSet (late := late)
  · exact ha

theorem Canonical.measFire {k late} (h : s.Canonical) : (s.measFire k late).Canonical := by
  unfold State.measFire
  exact h.startSets.ite h.same

theorem Canonical.measArm {mask study trig} (h : s.Canonical) : (s.measArm mask study trig).1.Canonical := by
  unfold State.measArm
  extract_lets _ _ _ _ _ s1 _ s2 _ s3 _ _ s4
  have h1 : s1.Canonical := (h.setFlag.ite h).pauseShuttles.ite h
  have h2 : s2.Canonical := h1.setFlag
  have h3 : s3.Canonical := h2.same.ite h1
  have h4 : s4.Canonical := h3.same
  split
  · exact h
  · exact h4.startSets.ite h4

theorem Canonical.scheduleResume {ago} (h : s.Canonical) : (s.scheduleResume ago).Canonical := by
  unfold State.scheduleResume
  exact h.same.ite h

theorem Canonical.measCancel {mask} (h : s.Canonical) : (s.measCancel mask).1.Canonical := by
  unfold State.measCancel
  exact h.same.scheduleResume

theorem Canonical.endQuiet {k} (h : s.Canonical) : (s.endQuiet k).Canonical := by unfold State.endQuiet; exact h.same.scheduleResume.ite h
theorem Canonical.quietAt {t} (h : s.Canonical) : (s.quietAt t).Canonical := by unfold State.quietAt; exact h.reachTick.quietSets

theorem Canonical.diagCompare {m n value} (h : s.Canonical) : (s.diagCompare m n value).Canonical := by
  unfold State.diagCompare
  dsimp only
  refine h.ite ?_
  split
  · exact h.setFld.setFlag.ite h.setFld
  · exact h.setFlag.ite h

theorem Canonical.auxrefAt {t} (h : s.Canonical) : (s.auxrefAt t).Canonical := by unfold State.auxrefAt; exact h.reachTick.same

theorem Canonical.beforeFire {k} (h : s.Canonical) : (s.beforeFire k).Canonical := by
  unfold State.beforeFire
  exact ((h.auxrefAt.ite h).quietAt.ite (h.auxrefAt.ite h)).ite ((h.quietAt.ite h).auxrefAt.ite (h.quietAt.ite h))

theorem Canonical.noteResult {m n value} (h : s.Canonical) : (s.noteResult m n value).Canonical := by
  unfold State.noteResult
  dsimp only
  split
  · exact h.same
  · exact h

theorem Canonical.finishChannel {m n lag} (h : s.Canonical) : (s.finishChannel m n lag).Canonical := by
  unfold State.finishChannel
  exact (h.same.setBitOf.raise.ite h.same).syncBleed.scheduleResume

theorem Canonical.writeResult {m n raw lag} (h : s.Canonical) : (s.writeResult m n raw lag).Canonical := by
  unfold State.writeResult
  extract_lets _ s1 _ s2
  have h1 : s1.Canonical := h.setReg.didWork
  have h2 : s2.Canonical := h1.ite h1.noteResult.diagCompare
  split
  · split
    · exact h2.setReg.setBitOf.same.finishChannel.ite h2.setReg.setBitOf.same
    · exact h2.finishChannel
  · exact h2.finishChannel

theorem Canonical.windowEnds {n} (h : s.Canonical) : (s.windowEnds n).Canonical := by unfold State.windowEnds; exact h.same.ite h

theorem Canonical.convDone {ch raw lag} (h : s.Canonical) : (s.convDone ch raw lag).Canonical := by
  unfold State.convDone
  dsimp only
  split
  · exact h
  · split
    · exact h
    · split
      · exact h.windowEnds.reach.writeResult
      · exact h.windowEnds.reach

theorem execAuxInputStart_keeps (h : s.Canonical) : Keeps (execAuxInputStart s) := by
  unfold execAuxInputStart
  refine Canonical.next ?_
  dsimp only
  split
  · exact h.reach.same
  · exact h

theorem execAuxrefOn_keeps (h : s.Canonical) : Keeps (execAuxrefOn s) := by
  unfold execAuxrefOn
  refine Canonical.next ?_
  split
  · split
    · exact h.auxrefAt
    · exact h
  · exact h

theorem execQuietWindowPause_keeps (h : s.Canonical) : Keeps (execQuietWindowPause s) := by
  unfold execQuietWindowPause
  refine Canonical.next ?_
  split
  · exact h.quietAt
  · exact h

theorem execQuietWindowResume_keeps (h : s.Canonical) : Keeps (execQuietWindowResume s) := by
  unfold execQuietWindowResume
  refine Canonical.next ?_
  split
  · exact h.reach.resumeShuttles
  · exact h

theorem Canonical.owStart (h : s.Canonical) : s.owStart.Canonical := by
  unfold State.owStart
  exact h.ite (h.setFlag.ite h.same.setFlag.pauseShuttles)

theorem execOpenWirePhaseEnd_keeps {cells} (h : s.Canonical) : Keeps (execOpenWirePhaseEnd cells s) := by
  unfold execOpenWirePhaseEnd
  refine Canonical.next ?_
  extract_lets s1 _ s2 _ s3 s4
  have h1 : s1.Canonical := h.reach.didWork
  have h2 : s2.Canonical := h.reach.didWork
  have h3 : s3.Canonical := h.reach
  have h4 : s4.Canonical := h3.setFld.setFlag
  split
  · exact h
  · exact h1.same
  · exact h2.same
  · exact h4.same.setFlag.scheduleResume

theorem Canonical.leakBegin (h : s.Canonical) : s.leakBegin.Canonical := by unfold State.leakBegin; exact h.same.pauseShuttles

theorem Canonical.leakStart (h : s.Canonical) : s.leakStart.Canonical := by
  unfold State.leakStart
  exact h.ite (h.setFlag.ite (h.setFlag.same.ite h.setFlag.leakBegin))

theorem Canonical.leakJudge {v} (h : s.Canonical) : (s.leakJudge v).Canonical := by
  unfold State.leakJudge
  extract_lets _ _ _ _ _ _ _ _ _ _ _ s1 s2 s3 s4 s5
  have h1 : s1.Canonical := h.same
  have h2 : s2.Canonical := h1.forAll (fun _ _ h => h.setFld)
  have h3 : s3.Canonical := h2.forAll (fun _ _ h => h.setFld)
  have h4 : s4.Canonical := h3.setFld.setFld
  have h5 : s5.Canonical := h4.setFld.setFlag
  exact h5.setFlag.scheduleResume

theorem Canonical.leakDone {v} (h : s.Canonical) : (s.leakDone v).Canonical := by
  unfold State.leakDone
  dsimp only
  split
  · exact h.reach.didWork.leakJudge
  · exact h

theorem Canonical.writeGr {gr} (h : s.Canonical) : (s.writeGr gr).Canonical := by unfold State.writeGr; exact h.same.ite h

theorem execGrChangeEffect_keeps (h : s.Canonical) : Keeps (execGrChangeEffect s) := by
  unfold execGrChangeEffect
  refine Canonical.next ?_
  dsimp only
  split
  · exact h.reach.setFlag.same
  · exact h

/-! ### Waking -/

theorem Canonical.loseBanks (h : s.Canonical) : s.loseBanks.Canonical := ⟨h.regs, h.latches, wfFrom_filter _ _ _ h.mem⟩
theorem Canonical.resumeAll (h : s.Canonical) : s.resumeAll.Canonical := by unfold State.resumeAll; exact h.forAll (fun _ _ h => h.resume)

theorem Canonical.abortEntry (h : s.Canonical) : s.abortEntry.Canonical := by
  unfold State.abortEntry
  exact (h.same.forAll (fun _ _ h => h.resume)).ite h

theorem Canonical.wake {src} (h : s.Canonical) : (s.wake src).Canonical := by
  unfold State.wake
  exact (h.loseBanks.ite h).setFld.setFld.setBitOf.setFlag.same.ite h.abortEntry

theorem Canonical.takeTemp {t} (h : s.Canonical) : (s.takeTemp t).Canonical := by unfold State.takeTemp; exact h.same.setFld

theorem Canonical.aimGuard (h : s.Canonical) : s.aimGuard.Canonical := by
  unfold State.aimGuard
  extract_lets s1
  have h1 : s1.Canonical := h.setFlag.setFlag
  split
  · exact h1.same
  · exact (h1.setFlag.ite h1).setFld.setFld.same

theorem Canonical.learn {corr since} (h : s.Canonical) : (s.learn corr since).Canonical := by
  unfold State.learn
  exact h.setFld.setFld.setFld.same

theorem Canonical.timeHeard {corr} (h : s.Canonical) : (s.timeHeard corr).Canonical := by
  unfold State.timeHeard
  extract_lets s1 s2
  have h1 : s1.Canonical := by
    unfold s1
    split
    · exact h.learn
    · exact h
  have h2 : s2.Canonical := h1.setFlag.setFlag
  exact h2.same

/-! ### Rack time and snapshots -/

theorem Canonical.putBank {b i l} (h : s.Canonical) : (s.putBank b i l).Canonical := by
  induction l generalizing s i with
  | nil => exact h
  | cons w l ih => exact ih h.setReg

theorem Canonical.putHfo {b} (h : s.Canonical) : (s.putHfo b).Canonical := by unfold State.putHfo; exact h.putBank.putBank
theorem Canonical.setBankAt {bank} (h : s.Canonical) : (s.setBankAt bank).Canonical := by unfold State.setBankAt; exact h.same

theorem Canonical.tripRecord {bank words} (h : s.Canonical) : (s.tripRecord bank words).Canonical := by
  unfold State.tripRecord
  exact h.bbxAppend

theorem Canonical.fillBank {bank} (h : s.Canonical) : (s.fillBank bank).Canonical := by
  unfold State.fillBank
  exact h.putBank.ite (h.putBank.putBank.putHfo.ite h.putBank.putBank)

theorem Canonical.recordLatch {source bank} (h : s.Canonical) : (s.recordLatch source bank).Canonical := by
  unfold State.recordLatch
  exact (h.tripRecord.ite h).ite h.same

theorem Canonical.noteLatch {number bank} (h : s.Canonical) : (s.noteLatch number bank).Canonical := by
  unfold State.noteLatch
  exact h.setFld.setBankAt.setFlag.ite (h.setFld.setBankAt.ite h.setFld.setBankAt.setFlag).same

theorem Canonical.latch {source number bank late} (h : s.Canonical) : (s.latch source number bank late).Canonical := by
  unfold State.latch
  exact h.ite h.putBank.fillBank.noteLatch.recordLatch.raise

theorem Canonical.hfoLatch (h : s.Canonical) : s.hfoLatch.Canonical := by
  unfold State.hfoLatch
  extract_lets _ _ s1
  have h1 : s1.Canonical := h.same.forAll (fun _ _ h => h.putHfo)
  exact h1.forAll (fun _ _ h => by
    split
    · exact h.tripRecord
    · exact h)

theorem Canonical.takeLocal (h : s.Canonical) : s.takeLocal.2.Canonical := by unfold State.takeLocal; exact h.same
theorem Canonical.takeRack (h : s.Canonical) : s.takeRack.2.Canonical := by unfold State.takeRack; exact h.update

theorem Canonical.latchLocal {source} (h : s.Canonical) : (s.latchLocal source).Canonical := by
  unfold State.latchLocal
  exact h.takeLocal.latch

theorem Canonical.latchTrip {src p here} (h : s.Canonical) : (s.latchTrip src p here).Canonical := by
  unfold State.latchTrip
  exact h.same.takeLocal.latch.setFlag.ite h.same.takeLocal.latch

theorem Canonical.sendUsable {f stamp} (h : s.Canonical) : (s.sendUsable f stamp).Canonical := by
  unfold State.sendUsable
  exact h.forAll (fun _ _ h => h.enqueue)

theorem Canonical.originateTime (h : s.Canonical) : s.originateTime.Canonical := by unfold State.originateTime; exact h.sendUsable.ite h

theorem Canonical.sendSched {instant number} (h : s.Canonical) : (s.sendSched instant number).Canonical := by
  unfold State.sendSched
  exact h.sendUsable.enqueue

theorem Canonical.snapRack {k r} (h : s.Canonical) (e : s.snapRack k = some r) : r.2.Canonical := by
  unfold State.snapRack at e
  split at e
  · exact Option.some.inj e ▸ h.takeRack.sendSched.same
  · cases e

theorem Canonical.snapGo {k} (h : s.Canonical) : (s.snapGo k).Canonical := by
  unfold State.snapGo
  split
  · split
    · next e => exact h.snapRack e
    · exact h.setFlag
  · exact h.latchLocal

theorem Canonical.followUp (h : s.Canonical) : s.followUp.Canonical := by unfold State.followUp; exact h.takeRack.sendSched.same.ite h
theorem Canonical.disarm {k} (h : s.Canonical) : (s.disarm k).Canonical := by unfold State.disarm; exact h.setBitOf

theorem Canonical.rtcFire {k jump} (h : s.Canonical) : (s.rtcFire k jump).Canonical := by
  unfold State.rtcFire
  extract_lets s1 s2 s3 s4 _ _ s5 s6
  have h1 : s1.Canonical := h.disarm.setBitOf
  have h2 : s2.Canonical := h1.setBitOf.ite h1
  have h3 : s3.Canonical := h2.raise.measFire
  have h4 : s4.Canonical := h3.forAll (fun _ _ h => h.setDma.setFld.ite h)
  have h5 : s5.Canonical := h4.same
  have h6 : s6.Canonical := h5.forAll (fun _ _ h => h.latch)
  exact h6.originateTime.ite h6

theorem Canonical.fireIfDue {k jump} (h : s.Canonical) : (s.fireIfDue k jump).Canonical := by unfold State.fireIfDue; exact h.rtcFire.ite h

theorem Canonical.writeRtcLo {k w} (h : s.Canonical) : (s.writeRtcLo k w).Canonical := by
  unfold State.writeRtcLo
  exact h.fireIfDue.setFld.disarm.endQuiet

theorem Canonical.disarmRtc {k} (h : s.Canonical) : (s.disarmRtc k).Canonical := by
  unfold State.disarmRtc
  exact h.fireIfDue.disarm.endQuiet

theorem Canonical.writeRtcHi {k w} (h : s.Canonical) : (s.writeRtcHi k w).Canonical := by
  unfold State.writeRtcHi
  exact h.fireIfDue.endQuiet.setReg.disarm.setBitOf.ite h.fireIfDue.endQuiet.setReg.disarm.setFld.setBitOf

theorem Canonical.snapFire {follow late} (h : s.Canonical) : (s.snapFire follow late).Canonical := by
  unfold State.snapFire
  dsimp only
  split
  · split
    · exact h.same.latch
    · exact h
  · split
    · exact h.same.latch
    · exact h

theorem Canonical.snapIfDue {follow} (h : s.Canonical) : (s.snapIfDue follow).Canonical := by
  unfold State.snapIfDue
  split
  · exact h.snapFire.ite h
  · exact h

theorem Canonical.fireDue (h : s.Canonical) : s.fireDue.Canonical := by
  unfold State.fireDue
  exact (h.forAll (fun _ _ h => h.fireIfDue)).snapIfDue.snapIfDue

theorem Canonical.firePast (h : s.Canonical) : s.firePast.Canonical := by
  unfold State.firePast
  exact ((h.forAll (fun _ _ h => h.fireIfDue)).snapFire.ite (h.forAll (fun _ _ h => h.fireIfDue))).snapFire.ite ((h.forAll (fun _ _ h =>
    h.fireIfDue)).snapFire.ite (h.forAll (fun _ _ h => h.fireIfDue)))

theorem Canonical.setRack {r} (h : s.Canonical) : (s.setRack r).Canonical := by
  unfold State.setRack
  extract_lets _ s1
  have h1 : s1.Canonical := h.firePast
  exact h1.same.fireDue.ite (h1.same.fireDue.ite (h1.same.ite h1.same.setFlag))

theorem Canonical.applyTime {p r} (h : s.Canonical) : (s.applyTime p r).Canonical := by
  unfold State.applyTime
  extract_lets _ _ _ s1 s2 s3
  have h1 : s1.Canonical := h.setRack
  have h2 : s2.Canonical := h1.setFlag.setFlag.setFld
  have h3 : s3.Canonical := h2.setFlag.ite h2.setFld
  exact h3.same.timeHeard.raise

theorem execLockStale_keeps (h : s.Canonical) : Keeps (execLockStale s) := by
  unfold execLockStale
  refine Canonical.next ?_
  split
  · exact h.reach.setFlag.setFlag.ite h
  · exact h

theorem Canonical.schedSnap {b} (h : s.Canonical) : (s.schedSnap b).Canonical := by
  unfold State.schedSnap
  exact h.ite (h.same.latch.setFlag.ite h.same.same)

theorem Canonical.schedSweep {f p} (h : s.Canonical) : (s.schedSweep f p).Canonical := by
  unfold State.schedSweep
  exact h.ite h.same.raise.rxPut

theorem Canonical.holdSched {t} (h : s.Canonical) : (s.holdSched t).Canonical := by unfold State.holdSched; exact h.same

theorem Canonical.takeSched {f p} (h : s.Canonical) : (s.takeSched f p).Canonical := by
  unfold State.takeSched
  exact (h.same.holdSched.ite h.same).schedSnap.schedSweep.ite h.count

theorem execSnapshotCompareFire_keeps (h : s.Canonical) : Keeps (execSnapshotCompareFire s) := by
  unfold execSnapshotCompareFire
  refine Canonical.next ?_
  split
  · exact h
  · split
    · exact h.reachTick.snapFire.ite h.reachTick.snapFire
    · exact h.reachTick.snapFire
    · exact h.reachTick.snapFire
    · exact h

/-! ### Sentinels -/

theorem Canonical.sendAlarm {p} (h : s.Canonical) : (s.sendAlarm p).Canonical := by unfold State.sendAlarm; exact h.modPort.didWork

theorem Canonical.startAlarm {p} (h : s.Canonical) : (s.startAlarm p).Canonical := by
  unfold State.startAlarm
  exact h.ite (h.modPort.setFlag.sendAlarm.ite h.modPort.setFlag)

theorem Canonical.alarmOn {ok} (h : s.Canonical) : (s.alarmOn ok).Canonical := by
  unfold State.alarmOn
  exact h.forAll (fun _ _ h => h.startAlarm)

theorem execAlarmGiveUp_keeps {p} (h : s.Canonical) : Keeps (execAlarmGiveUp p s) := by
  unfold execAlarmGiveUp
  refine Canonical.next ?_
  split
  · exact h.reach.modPort.setFlag
  · exact h

theorem Canonical.enqueueTrip {p f} (h : s.Canonical) : (s.enqueueTrip p f).Canonical := by
  unfold State.enqueueTrip
  exact h.abortPrimer.await.ite h.enqueue

theorem Canonical.sendTrip {kind} (h : s.Canonical) : (s.sendTrip kind).Canonical := by
  unfold State.sendTrip
  dsimp only
  split
  · exact (h.forAll fun _ _ h => h.enqueueTrip).alarmOn
  · have hp (q : Option Port) (f : Port → Frame) :
        State.Canonical (match q with | some p => s.enqueueTrip p (f p) | none => s) := by
      split
      · exact h.enqueueTrip
      · exact h
    split
    · exact (hp _ _).ite (hp _ _).enqueueTrip
    · exact hp _ _

theorem Canonical.sampleCell {n v} (h : s.Canonical) : (s.sampleCell n v).Canonical := by
  unfold State.sampleCell
  exact h.setBitOf.setBitOf.same

theorem Canonical.sendTrips {kind n} (h : s.Canonical) : (s.sendTrips kind n).Canonical := by
  induction n generalizing s with
  | zero => exact h
  | succ n ih => exact ih h.sendTrip

theorem Canonical.sentTrip {ov uv} (h : s.Canonical) : (s.sentTrip ov uv).Canonical := by
  unfold State.sentTrip
  extract_lets _ _ s1 s2 s3 s4
  have h1 : s1.Canonical := h.strike.strike
  have h2 : s2.Canonical := h1.latchTrip
  have h3 : s3.Canonical := h2.raise.ladleTrip.wake
  have h4 : s4.Canonical := h3.alarmOn.ite h3
  exact h4.ite h4.sendTrips.raise

theorem Canonical.sentSample {cells} (h : s.Canonical) : (s.sentSample cells).Canonical := by
  unfold State.sentSample
  extract_lets _ _ s1 s2 _ _ _ _ _ s3
  have h1 : s1.Canonical := h.forAll (fun _ _ h => h.sampleCell)
  have h2 : s2.Canonical := h1.setFlag
  have h3 : s3.Canonical := h2.ite h2.sentTrip
  exact h3.setFlag.ite h

theorem Canonical.writeSentSt {w} (h : s.Canonical) : (s.writeSentSt w).Canonical := by unfold State.writeSentSt; exact h.setFld.setFld
theorem Canonical.restartCounts (h : s.Canonical) : s.restartCounts.Canonical := by unfold State.restartCounts; exact h.same

/-! ### Demand and coils -/

theorem Canonical.hwOff {n} (h : s.Canonical) : (s.hwOff n).Canonical := by unfold State.hwOff; exact h.update
theorem Canonical.noteChb (h : s.Canonical) : s.noteChb.Canonical := by unfold State.noteChb; exact h.same
theorem Canonical.setAmps {n on} (h : s.Canonical) : (s.setAmps n on).Canonical := by unfold State.setAmps; exact h.same.setFld

theorem Canonical.putSwitch {w on} (h : s.Canonical) : (s.putSwitch w on).Canonical := by
  unfold State.putSwitch
  exact h.setFlag.ite h.setFlag.setAmps.setAmps

theorem Canonical.syncSwitch {w} (h : s.Canonical) : (s.syncSwitch w).Canonical := by unfold State.syncSwitch; exact h.putSwitch

theorem Canonical.syncSwitches (h : s.Canonical) : s.syncSwitches.Canonical := by
  unfold State.syncSwitches
  exact h.noteChb.syncSwitch.syncSwitch

theorem Canonical.setPhase {n ph t} (h : s.Canonical) : (s.setPhase n ph t).Canonical := by
  unfold State.setPhase
  exact h.same.setFld.setAmps

theorem Canonical.putPhase {n ph t} (h : s.Canonical) : (s.putPhase n ph t).Canonical := by
  unfold State.putPhase
  exact (h.setPhase.setPhase.ite h.setPhase).syncSwitches

theorem Canonical.openCoil {n} (h : s.Canonical) : (s.openCoil n).Canonical := by
  unfold State.openCoil
  extract_lets _ s1 s2
  have h1 : s1.Canonical := h.ite h.putPhase
  have h2 : s2.Canonical := h1.setFlag.ite h1
  exact (h2.ite h2.putPhase).setFlag.ite h2

theorem Canonical.coilOff {n inDemand} (h : s.Canonical) : (s.coilOff n inDemand).Canonical := by
  unfold State.coilOff
  extract_lets _ s1 s2 s3
  have h1 : s1.Canonical := h.hwOff
  have h2 : s2.Canonical := h1.setPhase.syncSwitches.ite h1.putPhase
  have h3 : s3.Canonical := h2.setFlag.ite h2
  exact h3.openCoil.ite h3

theorem Canonical.killCoil {n} (h : s.Canonical) : (s.killCoil n).Canonical := by unfold State.killCoil; exact h.coilOff
theorem Canonical.stopCoil {n} (h : s.Canonical) : (s.stopCoil n).Canonical := by unfold State.stopCoil; exact h.coilOff

theorem Canonical.openHold (h : s.Canonical) : s.openHold.Canonical := by
  unfold State.openHold
  exact h.forAll (fun _ _ h => h.hwOff.openCoil)

theorem Canonical.syncPin (h : s.Canonical) : s.syncPin.Canonical := by unfold State.syncPin; exact h.ite h.setFlag.same
theorem Canonical.syncSd (h : s.Canonical) : s.syncSd.Canonical := by unfold State.syncSd; exact h.same

theorem Canonical.recordDemand {new} (h : s.Canonical) : (s.recordDemand new).Canonical := by
  unfold State.recordDemand
  exact h.countBy.bbxAppend.same.ite h.countBy

theorem Canonical.joinDemand (h : s.Canonical) : s.joinDemand.Canonical := by
  unfold State.joinDemand
  exact (h.setFld.setFlag.ite h).same.ite h

theorem Canonical.joinSettle (h : s.Canonical) : s.joinSettle.Canonical := by
  unfold State.joinSettle
  extract_lets s1 _ _ s2 s3
  have h1 : s1.Canonical := h.setFld.ite h
  have h2 : s2.Canonical := h1.same
  have h3 : s3.Canonical := h2.setFld
  exact ((h3.same.ite h2.setFld.setFlag).ite h2.setFld.setFlag).ite h

theorem Canonical.demandActs {first} (h : s.Canonical) : (s.demandActs first).Canonical := by
  unfold State.demandActs
  extract_lets s1 _ _ s2 _ _ s3 s4
  have h1 : s1.Canonical := h.setFlag.syncPin
  have h2 : s2.Canonical := h1.same
  have h3 : s3.Canonical := h2.forAll (fun _ _ h => h.hwOff)
  have h4 : s4.Canonical := (h3.forAll (fun _ _ h => h.stopCoil)).syncSwitches
  exact h4.joinDemand.joinSettle.syncSd

theorem Canonical.setSources {mask} (h : s.Canonical) : (s.setSources mask).Canonical := by
  unfold State.setSources
  exact h.ite h.setFld.strike.raise.recordDemand.demandActs

theorem Canonical.setSource {n} (h : s.Canonical) : (s.setSource n).Canonical := by unfold State.setSource; exact h.setSources
theorem Canonical.demandOn (h : s.Canonical) : s.demandOn.Canonical := by unfold State.demandOn; exact h.setFlag.setSource.ite h
theorem Canonical.setDemand (h : s.Canonical) : s.setDemand.Canonical := by unfold State.setDemand; exact h.ite h.demandOn

theorem Canonical.pickUp {n} (h : s.Canonical) : (s.pickUp n).Canonical := by
  unfold State.pickUp
  exact (h.putPhase.ite h.setBitOf.setBitOf).ite h.putPhase

theorem Canonical.turnOn {n} (h : s.Canonical) : (s.turnOn n).Canonical := by
  unfold State.turnOn
  exact h.setBitOf.ite (h.setBitOf.setFlag.ite (h.setBitOf.pickUp.ite h.setBitOf))

theorem Canonical.turnOff {n} (h : s.Canonical) : (s.turnOff n).Canonical := by
  unfold State.turnOff
  exact h.setBitOf.setFlag.ite h.setBitOf.openCoil

theorem Canonical.writeCon {v} (h : s.Canonical) : (s.writeCon v).Canonical := by
  unfold State.writeCon
  exact h.forAll (fun _ _ h => h.ite (h.turnOn.ite h.turnOff))

theorem Canonical.engineOn {n} (h : s.Canonical) : (s.engineOn n).Canonical := by unfold State.engineOn; exact h.ite h.turnOn
theorem Canonical.engineOff {n} (h : s.Canonical) : (s.engineOff n).Canonical := by unfold State.engineOff; exact h.turnOff.ite h

theorem Canonical.abortStep (h : s.Canonical) : s.abortStep.Canonical := by
  unfold State.abortStep
  exact (h.engineOff.ite h).joinSettle.ite h.joinSettle

theorem Canonical.joinFreed (h : s.Canonical) : s.joinFreed.Canonical := by
  unfold State.joinFreed
  exact h.ite (h.same.ite h.engineOff.engineOff.abortStep)

theorem Canonical.cutCoils (h : s.Canonical) : s.cutCoils.Canonical := by unfold State.cutCoils; exact h.same

theorem Canonical.endSources {mask} (h : s.Canonical) : (s.endSources mask).Canonical := by
  unfold State.endSources
  extract_lets _ s1
  have h1 : s1.Canonical := (h.cutCoils.ite h).setFld.syncSwitches
  exact h1.same.joinFreed.ite h1.syncSd

theorem Canonical.endSource {n} (h : s.Canonical) : (s.endSource n).Canonical := by unfold State.endSource; exact h.endSources

theorem Canonical.joinAbort {cause} (h : s.Canonical) : (s.joinAbort cause).Canonical := by
  unfold State.joinAbort
  exact (h.setFld.setFld.ite h.setFld).same.engineOff.engineOff.abortStep.ite h

theorem Canonical.enterMain (h : s.Canonical) : s.enterMain.Canonical := by unfold State.enterMain; exact h.setFld.same.engineOn.engineOff
theorem Canonical.startPre (h : s.Canonical) : s.startPre.Canonical := by unfold State.startPre; exact h.same.ite h
theorem Canonical.watchCap (h : s.Canonical) : s.watchCap.Canonical := by unfold State.watchCap; exact h.same
theorem Canonical.trySettle (h : s.Canonical) : s.trySettle.Canonical := by unfold State.trySettle; exact h.setFld.same.ite h

theorem Canonical.joinStep (h : s.Canonical) : s.joinStep.Canonical := by
  unfold State.joinStep
  extract_lets s1 _ s2 s3
  have h1 : s1.Canonical := h.setFld
  have h2 : s2.Canonical := h.setFld.setFld
  have h3 : s3.Canonical := h.engineOff.ite h
  split
  · exact h.abortStep
  · split
    · exact h.setFld.engineOn.startPre.trySettle.ite h
    · exact h.startPre.trySettle
    · exact h1.same.startPre.ite (h.startPre.enterMain.ite h.startPre)
    · exact h2.same.watchCap.ite h
    · exact h.ite (h3.setFld.setFld.setFlag.ite h3)
    · exact h

theorem Canonical.joinStart (h : s.Canonical) : s.joinStart.Canonical := by
  unfold State.joinStart
  exact h.setFld.setFlag.setFld.same.engineOn.joinStep

theorem Canonical.join {seq} (h : s.Canonical) : (s.join seq).Canonical := by
  unfold State.join
  split
  · exact h
  · split
    · exact h.joinStart.ite h.setFld
    · exact h.setFlag
    · exact h

theorem Canonical.leaveAborted (h : s.Canonical) : s.leaveAborted.Canonical := by unfold State.leaveAborted; exact h.setFld.setFlag.ite h

theorem Canonical.leave (h : s.Canonical) : s.leave.Canonical := by
  unfold State.leave
  extract_lets s1 _ s2
  have h1 : s1.Canonical := h.setFld
  have h2 : s2.Canonical := h.setFld.setFld.setFlag
  split
  · exact h
  · split
    · exact h1.same
    · exact h2.same
    · exact h.leaveAborted.ite h.joinAbort

theorem Canonical.unlock (h : s.Canonical) : s.unlock.Canonical := by unfold State.unlock; exact h.setFld.setFld.ite h

/-! ### Safety inputs and outputs -/

theorem Canonical.setCause {i c} (h : s.Canonical) : (s.setCause i c).Canonical := by unfold State.setCause; exact h.same
theorem Canonical.setCause2 {i c} (h : s.Canonical) : (s.setCause2 i c).Canonical := by unfold State.setCause2; exact h.same

theorem Canonical.endCause {i disc} (h : s.Canonical) : (s.endCause i disc).Canonical := by
  unfold State.endCause
  exact (h.setCause2.ite h).setCause.setCause2.ite (h.setCause2.ite h)

theorem Canonical.setPasses {i k} (h : s.Canonical) : (s.setPasses i k).Canonical := by unfold State.setPasses; exact h.same
theorem Canonical.evalPair {j} (h : s.Canonical) : (s.evalPair j).Canonical := by unfold State.evalPair; exact h.same.setFld

theorem Canonical.syncPairs (h : s.Canonical) : s.syncPairs.Canonical := by
  unfold State.syncPairs
  exact h.setSources.endSources.syncPin.syncSwitches

theorem Canonical.evalPairs (h : s.Canonical) : s.evalPairs.Canonical := by
  unfold State.evalPairs
  exact (h.forAll (fun _ _ h => h.evalPair)).syncPairs

theorem Canonical.inputFault {i c} (h : s.Canonical) : (s.inputFault i c).Canonical := by
  unfold State.inputFault
  extract_lets s1 _ s2 _ s3 _ s4
  have h1 : s1.Canonical := h.ite h.setPasses
  have h2 : s2.Canonical := h1.ite h1.same
  have h3 : s3.Canonical := h2.setCause2.ite h2.setCause
  have h4 : s4.Canonical := h3.same
  exact h2.ite (h4.count.ite h4).raise

theorem Canonical.setDisc {j d} (h : s.Canonical) : (s.setDisc j d).Canonical := by
  unfold State.setDisc
  dsimp only
  split
  · exact h.same
  · exact h

theorem Canonical.watchDisc {n} (h : s.Canonical) : (s.watchDisc n).Canonical := by
  unfold State.watchDisc
  extract_lets _ _ s1
  have h1 : s1.Canonical := by
    unfold s1
    split
    · exact h.inputFault.evalPairs.ite h
    · exact h
  split
  · exact h.setDisc
  · split
    · split
      · exact h
      · exact h.setDisc
    · exact h1.endCause.endCause.setDisc

theorem Canonical.rewatch {j} (h : s.Canonical) : (s.rewatch j).Canonical := by
  unfold State.rewatch
  dsimp only
  split
  · split
    · exact h
    · exact h.setDisc
  · exact h.endCause.endCause.setDisc

theorem Canonical.remode (h : s.Canonical) : s.remode.Canonical := by
  unfold State.remode
  exact (h.forAll (fun _ _ h => h.rewatch)).evalPairs.ite h

theorem Canonical.acceptSin {n level a b} (h : s.Canonical) : (s.acceptSin n level a b).Canonical := by
  unfold State.acceptSin
  exact ((h.same.inputFault.ite h.same).watchDisc.ite (h.same.inputFault.ite h.same)).evalPairs

theorem Canonical.openingOff {n} (h : s.Canonical) : (s.openingOff n).Canonical := by
  unfold State.openingOff
  exact (h.putPhase.pickUp.ite h.putPhase.hwOff).ite h.putPhase

theorem Canonical.openingLate {n} (h : s.Canonical) : (s.openingLate n).Canonical := by
  unfold State.openingLate
  exact (h.reach.setBitOf.putPhase.setSource.ite h.reach).openingOff

theorem Canonical.pickupEnd {n} (h : s.Canonical) : (s.pickupEnd n).Canonical := by
  unfold State.pickupEnd
  exact h.reach.putPhase.joinStep.ite h

theorem Canonical.noclose {n} (h : s.Canonical) : (s.noclose n).Canonical := by
  unfold State.noclose
  exact (h.pickupEnd.reach.setBitOf.killCoil.joinAbort.ite h.pickupEnd.reach.setBitOf.killCoil).joinStep

theorem Canonical.acceptFb {n level a b} (h : s.Canonical) : (s.acceptFb n level a b).Canonical := by
  unfold State.acceptFb
  extract_lets _ s1 _ _ s2 s3 _ s4 s5 s6
  have h1 : s1.Canonical := h.openingLate.ite (h.noclose.ite h)
  have h2 : s2.Canonical := h1.same
  have h3 : s3.Canonical := h2.setBitOf
  have h4 : s4.Canonical := h3.setBitOf
  have h5 : s5.Canonical := h4.openingOff.ite h4
  have h6 : s6.Canonical := h5.setBitOf.setSource.ite h5
  exact h3.ite h6.joinStep

theorem Canonical.showLevel {n level a b} (h : s.Canonical) : (s.showLevel n level a b).Canonical := by
  unfold State.showLevel
  exact h.reach.same

theorem execDiscrepancyExpiry_keeps {j} (h : s.Canonical) : Keeps (execDiscrepancyExpiry j s) := by
  unfold execDiscrepancyExpiry
  refine Canonical.next ?_
  split
  · exact h.reach.inputFault.evalPairs.ite h
  · exact h

theorem Canonical.pairAckOne {j} (h : s.Canonical) : (s.pairAckOne j).Canonical := by
  unfold State.pairAckOne
  exact h.ite (h.same.same.setFld.ite h.same)

theorem Canonical.pairAck {mask} (h : s.Canonical) : (s.pairAck mask).Canonical := by
  unfold State.pairAck
  exact (h.forAll (fun _ _ h => h.pairAckOne)).evalPairs.ite h

theorem Canonical.pulseInput {b low high i} (h : s.Canonical) : (s.pulseInput b low high i).Canonical := by
  unfold State.pulseInput
  split
  · exact h.setPasses
  · exact h.inputFault

theorem Canonical.periodPassed {i} (h : s.Canonical) : (s.periodPassed i).Canonical := by
  unfold State.periodPassed
  exact h.same.endCause.ite h

theorem Canonical.holdPulses (h : s.Canonical) : s.holdPulses.Canonical := by unfold State.holdPulses; exact h.same.evalPairs.ite h.same
theorem Canonical.tpoFail (h : s.Canonical) : s.tpoFail.Canonical := by unfold State.tpoFail; exact h.setSource.holdPulses

theorem Canonical.pulseStart {b} (h : s.Canonical) : (s.pulseStart b).Canonical := by
  unfold State.pulseStart
  extract_lets s1 s2
  have h1 : s1.Canonical := by
    unfold s1
    split
    · exact h.reach
    · exact h
  have h2 : s2.Canonical := h1.forAll (fun _ _ h => h.periodPassed)
  exact h2.same.evalPairs.ite h

theorem Canonical.pulseEnd {b low high} (h : s.Canonical) : (s.pulseEnd b low high).Canonical := by
  unfold State.pulseEnd
  dsimp only
  split
  · exact (h.reach.same.forAll (fun _ _ h => h.pulseInput)).evalPairs.ite h
  · exact h

theorem Canonical.testPulse {b ending ok low high} (h : s.Canonical) : (s.testPulse b ending ok low high).Canonical := by
  unfold State.testPulse
  exact h.ite (h.tpoFail.ite (h.pulseEnd.ite h.pulseStart))

theorem Canonical.syncDrives (h : s.Canonical) : s.syncDrives.Canonical := by unfold State.syncDrives; exact h.setFlag.setFlag.syncPin

theorem Canonical.permit {v} (h : s.Canonical) : (s.permit v).Canonical := by
  unfold State.permit
  exact h.ite ((h.setFlag.ite h.setFlag.syncPin).ite h.setFlag.syncPin)

theorem Canonical.partOff (h : s.Canonical) : s.partOff.Canonical := by unfold State.partOff; exact h.setFlag.setSource

theorem Canonical.partLine {level} (h : s.Canonical) : (s.partLine level).Canonical := by
  unfold State.partLine
  extract_lets _ s1 _ _ s2 s3
  have h1 : s1.Canonical := h.setFlag
  have h2 : s2.Canonical := h1.same
  have h3 : s3.Canonical := by
    unfold s3
    split
    · exact h1
    · split
      · exact h2.partOff.ite h2
      · split
        · exact h1
        · split
          · exact h1.same.ite h1.partOff
          · split
            · exact h1.reach.partOff
            · exact h1
  exact h3.syncSd

theorem execPartnerRiseTimeout_keeps (h : s.Canonical) : Keeps (execPartnerRiseTimeout s) := by
  unfold execPartnerRiseTimeout
  refine Canonical.next ?_
  split
  · exact h.reach.partOff.ite h
  · exact h

theorem execCoilOpenCheck_keeps {n amps} (h : s.Canonical) : Keeps (execCoilOpenCheck n amps s) := by
  unfold execCoilOpenCheck
  refine Canonical.next ?_
  extract_lets s1 _ s2 s3
  have h1 : s1.Canonical := h.reach
  have h2 : s2.Canonical := h1.setFld
  have h3 : s3.Canonical := h2.setBitOf.killCoil
  exact ((h3.joinAbort.ite h3).joinStep.ite h2).ite h

theorem execHandoverEnd_keeps (h : s.Canonical) : Keeps (execHandoverEnd s) := by
  unfold execHandoverEnd
  refine Canonical.next ?_
  split
  · exact h.reach.openCoil.joinStep.ite h
  · exact h

theorem Canonical.trconf (h : s.Canonical) : s.trconf.Canonical := by unfold State.trconf; exact h.same.openHold.ite h

theorem execSddelayExpiry_keeps (h : s.Canonical) : Keeps (execSddelayExpiry s) := by
  unfold execSddelayExpiry
  refine Canonical.next ?_
  dsimp only
  split
  · exact h.reach.same.openHold
  · exact h

theorem execChbOutputCutoff_keeps (h : s.Canonical) : Keeps (execChbOutputCutoff s) := by
  unfold execChbOutputCutoff
  refine Canonical.next ?_
  dsimp only
  split
  · exact h.reach.putSwitch.putSwitch.ite h
  · exact h

theorem Canonical.writeDemand {v} (h : s.Canonical) : (s.writeDemand v).Canonical := by
  unfold State.writeDemand
  exact h.demandOn.ite h.setFlag.endSource

/-! ### The seal reader and sealed parameters -/

theorem Canonical.revarnish (h : s.Canonical) : s.revarnish.Canonical := by unfold State.revarnish; exact h.setFld.setFld.setFlag

theorem Canonical.sealRecord {old cause before after} (h : s.Canonical) : (s.sealRecord old cause before after).Canonical := by
  unfold State.sealRecord
  exact h.bbxAppend

theorem Canonical.syncMode (h : s.Canonical) : s.syncMode.Canonical := by unfold State.syncMode; exact h.endSource.ite h.setSource

theorem Canonical.setMode {m old cause} (h : s.Canonical) : (s.setMode m old cause).Canonical := by
  unfold State.setMode
  exact h.setFld.sealRecord.syncMode

theorem Canonical.acceptWord {w} (h : s.Canonical) : (s.acceptWord w).Canonical := by
  unfold State.acceptWord
  extract_lets _ _ s1 _ s2 s3 _ s4
  have h1 : s1.Canonical := h.setFld
  have h2 : s2.Canonical := h1.same
  have h3 : s3.Canonical := (h2.setFlag.ite h2).revarnish
  have h4 : s4.Canonical := h3.setMode.ite (h3.sealRecord.ite h3)
  exact h4.remode.ite h4

theorem Canonical.sealScan {w ghost} (h : s.Canonical) : (s.sealScan w ghost).Canonical := by
  unfold State.sealScan
  extract_lets s1 s2 _ s3 _ _ _ s4
  have h1 : s1.Canonical := h.setFld
  have h2 : s2.Canonical := h1.setFlag
  have h3 : s3.Canonical := h2.same
  have h4 : s4.Canonical := h1.same
  exact (h3.ite h3.setMode).ite (h4.acceptWord.ite h4)

theorem Canonical.ackSources (h : s.Canonical) : s.ackSources.Canonical := by
  unfold State.ackSources
  extract_lets _ _ _ s1 _ _ s2
  have h1 : s1.Canonical := h.same.ite h
  have h2 : s2.Canonical := h1.endSources.syncPin.syncSwitches
  exact h2.holdPulses.ite h2

theorem Canonical.safeAck (h : s.Canonical) : s.safeAck.Canonical := by unfold State.safeAck; exact (h.setMode.ite h).ackSources

theorem Canonical.applyEntry {addr value} (h : s.Canonical) : (s.applyEntry addr value).Canonical := by
  unfold State.applyEntry
  exact h.count.ite h.setReg

theorem Canonical.applySealed (h : s.Canonical) : s.applySealed.Canonical := by
  unfold State.applySealed
  exact (h.forAll (fun _ _ h => h.applyEntry)).ite h.setSource

theorem Canonical.nvmSectors {a n b w} (h : s.Canonical) : (s.nvmSectors a n b w).Canonical := by
  unfold State.nvmSectors
  exact h.forAll (fun _ _ h => h.nvmWrite)

theorem Canonical.writeSealArea {all} (h : s.Canonical) : (s.writeSealArea all).Canonical := by
  unfold State.writeSealArea
  exact h.nvmWrite.nvmSectors.nvmWrite.nvmWrite.nvmWrite.nvmWrite

theorem Canonical.sealWrite {key} (h : s.Canonical) : (s.sealWrite key).Canonical := by
  unfold State.sealWrite
  exact h.setFlag.ite h.writeSealArea.nvmWrite.same.setFlag

theorem execSealedWriteDone_keeps (h : s.Canonical) : Keeps (execSealedWriteDone s) := by
  unfold execSealedWriteDone
  refine Canonical.next ?_
  extract_lets _ s1 s2 s3
  have h1 : s1.Canonical := h.same
  have h2 : s2.Canonical := h1.setFlag.setFld
  have h3 : s3.Canonical := h2.revarnish
  split
  · exact h.ite (h3.setFlag.sealRecord.ite h3.setFlag)
  · exact h

/-! ### Safety frames -/

theorem Canonical.noteVerdict {e f v} (h : s.Canonical) : (s.noteVerdict e f v).Canonical := by
  unfold State.noteVerdict
  exact (h.countBy.ite h).setFld.setFlag.ite (h.count.ite (h.count.ite (h.count.ite h)))

theorem Canonical.noteExpiry {exp i f} (h : s.Canonical) : (s.noteExpiry exp i f).Canonical := by
  unfold State.noteExpiry
  exact h.setFld.ite h

theorem Canonical.formAt {kind cn cid d tr} (h : s.Canonical) : (s.formAt kind cn cid d tr).Canonical := by
  unfold State.formAt
  exact h.setBytes

theorem Canonical.sfuRes {k verdict paired} (h : s.Canonical) : (s.sfuRes k verdict paired).Canonical := by
  unfold State.sfuRes
  exact h.setFld.setFld.setFlag

theorem Canonical.sfuForm {k d} (h : s.Canonical) : (s.sfuForm k d).Canonical := by
  unfold State.sfuForm
  exact h.sfuRes.ite h.formAt.setFld.sfuRes.setFld

theorem Canonical.sfuCheck {k} (h : s.Canonical) : (s.sfuCheck k).Canonical := by
  unfold State.sfuCheck
  extract_lets _ _ _ _ _ s1 s2 _ _ s3 s4
  have h1 : s1.Canonical := h.noteVerdict
  have h2 : s2.Canonical := h1.noteExpiry.ite h1
  have h3 : s3.Canonical := by
    unfold s3
    split
    · exact h2.same
    · exact h2
  have h4 : s4.Canonical := h3.sfuRes
  exact h.sfuRes.ite (h4.ite h4.setFld)

theorem Canonical.sfuArm {w} (h : s.Canonical) : (s.sfuArm w).Canonical := by
  unfold State.sfuArm
  exact h.forAll (fun _ _ h => h.setBitOf.setFld.setFlag.ite (h.ite h.setBitOf))

theorem Canonical.trayRes {t verdict} (h : s.Canonical) : (s.trayRes t verdict).Canonical := by unfold State.trayRes; exact h.setFld.setFld

theorem Canonical.trayForm {t d kind cid cnf tr} (h : s.Canonical) : (s.trayForm t d kind cid cnf tr).Canonical := by
  unfold State.trayForm
  exact h.trayRes.ite (h.trayRes.ite h.formAt.setFld.trayRes.setFld)

theorem Canonical.formRs {t d} (h : s.Canonical) : (s.formRs t d).Canonical := by unfold State.formRs; exact h.trayForm
theorem Canonical.formCmd {t d} (h : s.Canonical) : (s.formCmd t d).Canonical := by unfold State.formCmd; exact h.trayForm

theorem Canonical.checkSt {t} (h : s.Canonical) : (s.checkSt t).Canonical := by
  unfold State.checkSt
  extract_lets _ _ _ _ s1 s2 _ s3 s4
  have h1 : s1.Canonical := h.noteVerdict
  have h2 : s2.Canonical := h1.noteExpiry.ite h1
  have h3 : s3.Canonical := by
    unfold s3
    split
    · exact h2.same
    · exact h2
  have h4 : s4.Canonical := h3.trayRes
  exact h.trayRes.ite (h.trayRes.ite (h4.ite h4.setFld))

theorem Canonical.trayArm {w v} (h : s.Canonical) : (s.trayArm w v).Canonical := by
  unfold State.trayArm
  exact h.forAll (fun _ _ h => h.setBitOf.setFld.setFlag.ite (h.ite h.setBitOf))

theorem Canonical.sfuDo {x} (h : s.Canonical) : (s.sfuDo x).Canonical := by
  unfold State.sfuDo
  split
  · exact h.sfuForm
  · exact h.sfuCheck
  · exact h.formRs
  · exact h.formCmd
  · exact h.checkSt

theorem Canonical.setSfuBusy {o b} (h : s.Canonical) : (s.setSfuBusy o b).Canonical := by
  unfold State.setSfuBusy
  exact h.setFlag.ite h.setFlag

theorem Canonical.sfuSettle (h : s.Canonical) : s.sfuSettle.Canonical := by
  unfold State.sfuSettle
  dsimp only
  split
  · exact h.same.sfuDo.setSfuBusy.ite h
  · exact h

theorem Canonical.sfuStart {o} (h : s.Canonical) : (s.sfuStart o).Canonical := by
  unfold State.sfuStart
  exact h.sfuSettle.ite h.sfuSettle.same.setSfuBusy

theorem Canonical.sfuRun {o} (h : s.Canonical) : (s.sfuRun o).Canonical := by unfold State.sfuRun; exact h.sfuSettle.ite h.sfuSettle.sfuDo

theorem Canonical.expireSlot {k} (h : s.Canonical) : (s.expireSlot k).Canonical := by
  unfold State.expireSlot
  extract_lets _ s1 s2
  have h1 : s1.Canonical := h.update.setBitOf.raise
  have h2 : s2.Canonical := h1.setDemand.ite h1
  exact (h2.setDemand.ite h2).ite h

theorem Canonical.expireTray {k} (h : s.Canonical) : (s.expireTray k).Canonical := by
  unfold State.expireTray
  exact (h.update.setBitOf.raise.setDemand.ite h.update.setBitOf.raise).ite h

theorem execSfuExpiryExamine_keeps (h : s.Canonical) : Keeps (execSfuExpiryExamine s) := by
  unfold execSfuExpiryExamine
  refine Canonical.next ?_
  extract_lets s1 s2
  have h1 : s1.Canonical := h.reachTick
  have h2 : s2.Canonical := h1.forAll (fun _ _ h => h.expireSlot)
  exact ((h2.forAll (fun _ _ h => h.expireTray)).ite h2).ite h

theorem Canonical.exchangeAt {t} (h : s.Canonical) : (s.exchangeAt t).Canonical := by
  unfold State.exchangeAt
  exact (h.same.enqueue.ite h.same).ite (h.same.enqueue.ite h.same).setFld.enqueue

theorem Canonical.keepVotes {t votes} (h : s.Canonical) : (s.keepVotes t votes).Canonical := by unfold State.keepVotes; exact h.same.ite h

theorem Canonical.takeVotes {b at_} (h : s.Canonical) : (s.takeVotes b at_).Canonical := by
  unfold State.takeVotes
  extract_lets _ s1
  have h1 : s1.Canonical := h.forAll (fun _ _ h => h.setFld)
  split
  · exact h1.same.ite h1.keepVotes
  · exact h1.keepVotes

theorem Canonical.noteXExp {f} (h : s.Canonical) : (s.noteXExp f).Canonical := by unfold State.noteXExp; exact h.same.ite h

theorem Canonical.sfuFinish (h : s.Canonical) : s.sfuFinish.Canonical := by
  unfold State.sfuFinish
  dsimp only
  split
  · exact h.same.sfuDo.setSfuBusy
  · exact h

theorem Canonical.takeXchg {a} (h : s.Canonical) : (s.takeXchg a).Canonical := by
  unfold State.takeXchg
  extract_lets s1 s2 _ _ s3 _ s4
  have h1 : s1.Canonical := h.heard
  have h2 : s2.Canonical := h1.sfuFinish
  have h3 : s3.Canonical := h2.advance
  have h4 : s4.Canonical := h2.noteVerdict
  split
  · exact h1.ite (h4.noteXExp.takeVotes.ite (h4.same.ite h4))
  · exact h.countLine

theorem Canonical.judgeExchange {verdict} (h : s.Canonical) : (s.judgeExchange verdict).Canonical := by
  unfold State.judgeExchange
  extract_lets _ _ _ _ s1 s2 _ s3 s4 s5
  have h1 : s1.Canonical := h.same
  have h2 : s2.Canonical := h1.setFlag.setFlag.setFld
  have h3 : s3.Canonical := h2.setFlag
  have h4 : s4.Canonical := h3.setSource.ite h3
  have h5 : s5.Canonical := h4.setFlag.setFld.ite h4
  exact (h5.setFlag.ite h5).raise

theorem execExchangeJudge_keeps (h : s.Canonical) : Keeps (execExchangeJudge s) := by
  unfold execExchangeJudge
  refine Canonical.next ?_
  dsimp only
  split
  · exact h.ite h.reachTick.judgeExchange
  · exact h

theorem Canonical.voteCommit (h : s.Canonical) : s.voteCommit.Canonical := by unfold State.voteCommit; exact h.same

theorem Canonical.safeStart (h : s.Canonical) : s.safeStart.Canonical := by
  unfold State.safeStart
  extract_lets _ _ _ _ _ s1 s2 s3
  have h1 : s1.Canonical := h.same
  have h2 : s2.Canonical := h1.setFld.setFld
  have h3 : s3.Canonical := h2.setSources.syncDrives
  exact h.ite (h3.same.setFlag.setFlag.ite h3)

theorem Canonical.safeStop (h : s.Canonical) : s.safeStop.Canonical := by
  unfold State.safeStop
  exact h.same.setFld.setFld.setFld.setFlag.ite h

/-! ### Joins and the power cap -/

theorem Canonical.joinVolts {aux6 aux7} (h : s.Canonical) : (s.joinVolts aux6 aux7).Canonical := by
  unfold State.joinVolts
  extract_lets _ _ s1
  have h1 : s1.Canonical := h.setFld.setFld
  exact (h1.ite ((h1.ite h1.joinStep).ite h1.trySettle)).ite h

theorem execSettleEnd_keeps (h : s.Canonical) : Keeps (execSettleEnd s) := by
  unfold execSettleEnd
  refine Canonical.next ?_
  split
  · exact h.reach.joinStep.ite h
  · exact h

theorem execPrechargeTimeout_keeps (h : s.Canonical) : Keeps (execPrechargeTimeout s) := by
  unfold execPrechargeTimeout
  refine Canonical.next ?_
  split
  · exact h.reach.joinAbort.ite h
  · exact h

theorem Canonical.trayAmps {nv} (h : s.Canonical) : (s.trayAmps nv).Canonical := by
  unfold State.trayAmps
  extract_lets _ _ s1 s2
  have h1 : s1.Canonical := h.setFld.setFld
  have h2 : s2.Canonical := h1.watchCap
  exact (h2.joinAbort.ite (h2.same.engineOff.joinStep.ite h2)).ite h

theorem execJoinRetry_keeps (h : s.Canonical) : Keeps (execJoinRetry s) := by
  unfold execJoinRetry
  refine Canonical.next ?_
  dsimp only
  split
  · exact (h.reach.joinStart.ite h.reach.same.setFld.setFld.setFlag).ite h
  · exact h

theorem execOpeningWaitEnd_keeps (h : s.Canonical) : Keeps (execOpeningWaitEnd s) := by
  unfold execOpeningWaitEnd
  refine Canonical.next ?_
  dsimp only
  split
  · exact h.reach.same.engineOff.joinStep.ite h
  · exact h

theorem Canonical.capHold (h : s.Canonical) : s.capHold.Canonical := by unfold State.capHold; exact h.same.setFlag.ite h

theorem Canonical.applyCap {seq cap itray} (h : s.Canonical) : (s.applyCap seq cap itray).Canonical := by
  unfold State.applyCap
  exact h.setFld.setFld.setFlag.same.watchCap.ite h.setFld.setFld.setFlag.same.watchCap.capHold

theorem Canonical.capinGo (h : s.Canonical) : s.capinGo.Canonical := by
  unfold State.capinGo
  extract_lets _ _ _ _ s1 _ s2
  have h1 : s1.Canonical := h.setFlag.ite h
  have h2 : s2.Canonical := h1.applyCap.ite ((h1.count.ite h1.applyCap.setFlag).ite h1.count)
  exact h.ite h2.setFld

theorem execCapHoldEnd_keeps (h : s.Canonical) : Keeps (execCapHoldEnd s) := by
  unfold execCapHoldEnd
  refine Canonical.next ?_
  dsimp only
  split
  · exact h.reach.same.setFlag.joinStep
  · exact h

theorem execOvercapTimer_keeps (h : s.Canonical) : Keeps (execOvercapTimer s) := by
  unfold execOvercapTimer
  refine Canonical.next ?_
  split
  · exact h.reach.setFlag.ite h
  · exact h

/-! ### The sequencer -/

theorem Canonical.putMem {a b} (h : s.Canonical) : (s.putMem a b).Canonical := by unfold State.putMem; exact h.setBytes.same

theorem Canonical.dmaBack {n code cause} (h : s.Canonical) : (s.dmaBack n code cause).Canonical := by
  unfold State.dmaBack
  exact (h.putMem.ite h).setFld

theorem Canonical.wakeFences (h : s.Canonical) : s.wakeFences.Canonical := by unfold State.wakeFences; exact h.modAll

theorem Canonical.dmaHalt {n code cause} (h : s.Canonical) : (s.dmaHalt n code cause).Canonical := by
  unfold State.dmaHalt
  exact h.dmaBack.setFld.setDma.wakeFences

theorem Canonical.dmaStop {n code} (h : s.Canonical) : (s.dmaStop n code).Canonical := by
  unfold State.dmaStop
  exact h.setDma.ite (h.dmaHalt.ite h)

theorem Canonical.stopOwned {c} (h : s.Canonical) : (s.stopOwned c).Canonical := by
  unfold State.stopOwned
  exact h.forAll (fun _ _ h => h.dmaStop.ite h)

theorem Canonical.stopCtx {c} (h : s.Canonical) : (s.stopCtx c).Canonical := by
  unfold State.stopCtx
  exact h.setCtx.yieldSees.stopOwned.ite h

theorem Canonical.startCtx {c} (h : s.Canonical) : (s.startCtx c).Canonical := by
  unfold State.startCtx
  dsimp only
  split
  · exact h.setCtx
  · exact h.setCtx
  · exact h

theorem Canonical.park {c first} (h : s.Canonical) : (s.park c first).Canonical := by
  unfold State.park
  exact h.setCtx.yieldSees.stopOwned.raise.bbxAppend

theorem Canonical.seqSource (h : s.Canonical) : s.seqSource.Canonical := by unfold State.seqSource; exact h.setSource.ite h

theorem Canonical.seqStop (h : s.Canonical) : s.seqStop.Canonical := by
  unfold State.seqStop
  exact (h.forAll (fun _ _ h => h.dmaHalt.ite h)).modAll.setFld.ladleHalt.same

theorem Canonical.seqReset {content} (h : s.Canonical) : (s.seqReset content).Canonical := by
  unfold State.seqReset
  exact h.seqStop.bbxAppend.seqSource

theorem Canonical.trap {c cause detail tval back} (h : s.Canonical) : (s.trap c cause detail tval back).Canonical := by
  unfold State.trap
  exact (h.setCtx.latchLocal.seqReset.ite h.setCtx.park).ite h.setCtx

theorem Canonical.directory (h : s.Canonical) : s.directory.Canonical := by unfold State.directory; exact h.setFlag.setFld.setFld

theorem Canonical.applySection {e} (h : s.Canonical) : (s.applySection e).Canonical := by
  unfold State.applySection
  exact h.putMem.ite (h.putMem.ite h)

theorem Canonical.loadWindows (h : s.Canonical) : s.loadWindows.Canonical := by
  unfold State.loadWindows
  exact h.forAll (fun _ _ h => h.forAll (fun _ _ h => h.setReg))

theorem Canonical.wdStart (h : s.Canonical) : s.wdStart.Canonical := by unfold State.wdStart; exact h.same
theorem Canonical.wdStop (h : s.Canonical) : s.wdStop.Canonical := by unfold State.wdStop; exact h.same

theorem Canonical.runPrograms (h : s.Canonical) : s.runPrograms.Canonical := by
  unfold State.runPrograms
  exact (h.loadWindows.forAll (fun _ _ h => h.applySection)).modAll.setFlag.same.endSource.wdStart

theorem Canonical.noImage (h : s.Canonical) : s.noImage.Canonical := by
  unfold State.noImage
  exact (h.forAll (fun _ _ h => h.stopCtx)).modAll.setFlag.wdStop.same

theorem Canonical.programStart (h : s.Canonical) : s.programStart.Canonical := by
  unfold State.programStart
  exact (h.same.runPrograms.ite h.noImage).ite h

/-! ### Power states -/

theorem Canonical.abandonJobs (h : s.Canonical) : s.abandonJobs.Canonical := by
  unfold State.abandonJobs
  exact (h.forAll (fun _ _ h => h.setFlag.setFld)).setFld.same

theorem Canonical.sendNote {p} (h : s.Canonical) : (s.sendNote p).Canonical := by unfold State.sendNote; exact h.startTx.txEnded

theorem Canonical.noteSleep (h : s.Canonical) : s.noteSleep.Canonical := by
  unfold State.noteSleep
  split
  · exact h
  · exact (h.forAll (fun _ _ h => h.sendNote.sendNote.sendNote)).advance.forAll (fun _ _ h => h.relink)

theorem Canonical.enterBelow {k} (h : s.Canonical) : (s.enterBelow k).Canonical := by
  unfold State.enterBelow
  extract_lets s1 s2 s3 s4
  have h1 : s1.Canonical := h.setFlag.setFlag
  have h2 : s2.Canonical := h1.setFlag.ite h1
  have h3 : s3.Canonical := (h2.ladleSuspend.ite h2).safeStop.abandonJobs
  have h4 : s4.Canonical := h3.setFlag
  exact h4.same

theorem Canonical.powerEntry (h : s.Canonical) : s.powerEntry.Canonical := by
  unfold State.powerEntry
  extract_lets s1 _ s2 _ s3
  have h1 : s1.Canonical := h.aimGuard
  have h2 : s2.Canonical := h1.noteSleep
  have h3 : s3.Canonical := h2.same
  exact h.abortEntry.ite (h.enterBelow.ite (h1.ite (h1.enterBelow.ite (h3.ite h3.abortEntry))))

theorem execWakeTimerFire_keeps {early} (h : s.Canonical) : Keeps (execWakeTimerFire early s) := by
  unfold execWakeTimerFire
  refine Canonical.next ?_
  dsimp only
  split
  · exact h.reachTick.wake.same.ite (h.reachTick.abortEntry.ite h)
  · exact h

theorem Canonical.enterSearch {till lost} (h : s.Canonical) : (s.enterSearch till lost).Canonical := by
  unfold State.enterSearch
  extract_lets _ s1 s2 s3
  have h1 : s1.Canonical := h.setFlag.resumeAll
  have h2 : s2.Canonical := h1.forAll (fun _ _ h => h.sendWake)
  have h3 : s3.Canonical := h2.ite h2.bbxAppend
  exact h3.same

theorem execSearchEntry_keeps (h : s.Canonical) : Keeps (execSearchEntry s) := by
  unfold execSearchEntry
  refine Canonical.next ?_
  dsimp only
  split
  · exact h.reach.enterSearch.ite h
  · exact h

theorem execSearchExpired_keeps (h : s.Canonical) : Keeps (execSearchExpired s) := by
  unfold execSearchExpired
  refine Canonical.next ?_
  dsimp only
  split
  · exact h.reach.setFlag.setFlag.same
  · exact h

theorem execLostRetry_keeps (h : s.Canonical) : Keeps (execLostRetry s) := by
  unfold execLostRetry
  refine Canonical.next ?_
  dsimp only
  split
  · exact (h.reach.wake.same.ite h.reach.wake.same.enterSearch).ite h
  · exact h

theorem execWakeRelay_keeps (h : s.Canonical) : Keeps (execWakeRelay s) := by
  unfold execWakeRelay
  refine Canonical.next ?_
  dsimp only
  split
  · split
    · exact h.same
    · split
      · exact h.reach.same.sendWake.ite h.reach.same
      · exact h.reach.same
  · exact h

theorem execRelayHoldEnd_keeps (h : s.Canonical) : Keeps (execRelayHoldEnd s) := by
  unfold execRelayHoldEnd
  refine Canonical.next ?_
  dsimp only
  split
  · exact h.reach.same
  · exact h

theorem Canonical.monitor {temp vstk} (h : s.Canonical) : (s.monitor temp vstk).Canonical := by
  unfold State.monitor
  extract_lets _ _ _ _ _ _ _ _ _ s1 _ s2
  have h1 : s1.Canonical := h.takeTemp.setFld
  have h2 : s2.Canonical := h1.ite h1.same
  exact h2.ite h2.strike.raise.wake

theorem Canonical.wdExpire (h : s.Canonical) : s.wdExpire.Canonical := by
  unfold State.wdExpire
  exact (h.wdStop.setSource.ite h.wdStop).seqReset

theorem Canonical.wdKick {key} (h : s.Canonical) : (s.wdKick key).Canonical := by unfold State.wdKick; exact h.ite (h.same.ite h.wdExpire)

theorem execSleepLimitExpiry_keeps (h : s.Canonical) : Keeps (execSleepLimitExpiry s) := by
  unfold execSleepLimitExpiry
  refine Canonical.next ?_
  split
  · exact h.reachTick.wake.wdExpire.ite h
  · exact h

theorem Canonical.addLedger {lo hi n} (h : s.Canonical) : (s.addLedger lo hi n).Canonical := by
  unfold State.addLedger
  exact h.setFld.setFld

/-! ### The check-value unit -/

theorem Canonical.setStarted {k t} (h : s.Canonical) : (s.setStarted k t).Canonical := by
  unfold State.setStarted
  dsimp only
  split
  · exact h.same
  · exact h

theorem Canonical.jobClose {k outcome err} (h : s.Canonical) : (s.jobClose k outcome err).Canonical := by
  unfold State.jobClose
  extract_lets s1 s2 s3 s4
  have h1 : s1.Canonical := h.setFlag.setBitOf
  have h2 : s2.Canonical := h1.setFld.setFld.setFld
  have h3 : s3.Canonical := h2.raise.ite h2
  have h4 : s4.Canonical := h3.ite h3.raise
  exact h4.same.ite h4

theorem Canonical.sealFail {k outcome} (h : s.Canonical) : (s.sealFail k outcome).Canonical := by
  unfold State.sealFail
  exact h.setFlag.bbxAppend.setSource

theorem Canonical.jobBegin {k} (h : s.Canonical) : (s.jobBegin k).Canonical := by
  unfold State.jobBegin
  exact h.setFld.setFld.setFlag.setBitOf.setStarted

theorem Canonical.jobEnd {k outcome err} (h : s.Canonical) : (s.jobEnd k outcome err).Canonical := by
  unfold State.jobEnd
  exact (h.jobClose.same.ite (h.jobClose.same.sealFail.ite h.jobClose.same.jobBegin)).ite h.jobClose

theorem Canonical.jobStart {k} (h : s.Canonical) : (s.jobStart k).Canonical := by
  unfold State.jobStart
  exact h.jobBegin.ite h.jobBegin.jobEnd

theorem Canonical.restartDropped (h : s.Canonical) : s.restartDropped.Canonical := by
  unfold State.restartDropped
  exact h.same.forAll (fun _ _ h => h.jobStart.ite h)

theorem Canonical.jobDue {k} (h : s.Canonical) : (s.jobDue k).Canonical := by
  unfold State.jobDue
  extract_lets s1 s2
  have h1 : s1.Canonical := by
    unfold s1
    split
    · exact h.reach
    · exact h.reach.ite h
  have h2 : s2.Canonical := h1.setFlag.setFlag
  exact h.ite (h2.same.ite (h1.jobStart.ite h1))

theorem Canonical.cvuGo {mask} (h : s.Canonical) : (s.cvuGo mask).Canonical := by
  unfold State.cvuGo
  exact h.forAll (fun _ _ h => h.jobStart.ite h)

theorem Canonical.jobWord {k} (h : s.Canonical) : (s.jobWord k).Canonical := by unfold State.jobWord; exact h.setFld.setFld

theorem Canonical.jobWords {k n} (h : s.Canonical) : (s.jobWords k n).Canonical := by
  induction n generalizing s with
  | zero => exact h
  | succ n ih => exact h.ite (ih h.jobWord)

theorem Canonical.jobFinish {k} (h : s.Canonical) : (s.jobFinish k).Canonical := by
  unfold State.jobFinish
  extract_lets _ s1 _ _ _ _ s2 _ s3
  have h1 : s1.Canonical := h.advance.jobWords
  have h2 : s2.Canonical := h1.jobEnd.eccInNvm.ite h1.setFld.jobEnd
  have h3 : s3.Canonical := h2.same
  exact h.ite ((h3.ite h3.jobStart).ite h2)

theorem Canonical.cvuExpect (h : s.Canonical) : s.cvuExpect.Canonical := by unfold State.cvuExpect; exact h.setFld.setFld.setFld

theorem Canonical.aliveJudge {t slot v} (h : s.Canonical) : (s.aliveJudge t slot v).Canonical := by
  unfold State.aliveJudge
  exact h.update.update.ite (h.update.setBitOf.ite (h.update.setBitOf.raise.ite h.update.setBitOf.raise))

theorem Canonical.avin {w} (h : s.Canonical) : (s.avin w).Canonical := by unfold State.avin; exact h.setFlag.ite h.aliveJudge

theorem Canonical.avcfg {w} (h : s.Canonical) : (s.avcfg w).Canonical := by
  unfold State.avcfg
  exact h.setFlag.ite (h.setFld.setFld.setFld.setFlag.same.ite h.setFld.setFld.setFld)

theorem Canonical.batch {t n} (h : s.Canonical) : (s.batch t n).Canonical := by
  induction n generalizing s t with
  | zero => exact h
  | succ n ih => exact h.ite (ih h.aliveJudge.same)

theorem Canonical.batchReady (h : s.Canonical) : s.batchReady.Canonical := by unfold State.batchReady; exact h.same

theorem execCvuBatchDone_keeps (h : s.Canonical) : Keeps (execCvuBatchDone s) := by
  unfold execCvuBatchDone
  refine Canonical.next ?_
  extract_lets s1 s2 s3
  have h1 : s1.Canonical := h.advance.batchReady
  have h2 : s2.Canonical := h1.advance.batch
  have h3 : s3.Canonical := h.setFlag.ite (h2.ite h2.setFlag)
  exact h3.setFlag.raise.ite h

theorem Canonical.cvuWord {claimed t} (h : s.Canonical) : (s.cvuWord claimed t).Canonical := by
  unfold State.cvuWord
  dsimp only
  split
  · exact h
  · split
    · exact h.ite (h.same.ite (h.ite h.batch))
    · split
      · exact h.ite h.jobWords
      · exact h

theorem Canonical.cvuWords {claimed n} (h : s.Canonical) : (s.cvuWords claimed n).Canonical := by
  induction n generalizing s with
  | zero => exact h
  | succ n ih => exact ih h.cvuWord

theorem Canonical.cvuServe {claimed n} (h : s.Canonical) : (s.cvuServe claimed n).Canonical := by
  unfold State.cvuServe
  exact h.same.cvuWords.ite h

/-! ### The loader and NVM writes -/

theorem Canonical.takeUpByte {port valid v} (h : s.Canonical) : (s.takeUpByte port valid v).Canonical := by
  unfold State.takeUpByte
  exact h.setFld.setFlag

theorem Canonical.takeRoute {k base mask port} (h : s.Canonical) : (s.takeRoute k base mask port).Canonical := by
  unfold State.takeRoute
  exact h.setFld.setFld.setFld.setFlag

theorem Canonical.freshUp (h : s.Canonical) : s.freshUp.Canonical := by unfold State.freshUp; exact h.setFld.setFlag.setFlag.same

theorem Canonical.takePlan (h : s.Canonical) : s.takePlan.Canonical := by
  unfold State.takePlan
  extract_lets _ s1 s2 s3 s4 _ s5 s6 s7
  have h1 : s1.Canonical := h.setFlag.setFlag.setFld
  have h2 : s2.Canonical := h1.setFlag.setFlag.setFld
  have h3 : s3.Canonical := h2.setFld.setFld
  have h4 : s4.Canonical := h3.takeUpByte.takeUpByte
  have h5 : s5.Canonical := h.setFlag.setFlag.setReg
  have h6 : s6.Canonical := h5.setFld.setFld.setFld
  have h7 : s7.Canonical := h6.takeUpByte.takeUpByte
  exact (h4.forAll (fun _ _ h => h.takeRoute)).freshUp.ite (h7.forAll (fun _ _ h => h.takeRoute)).freshUp

theorem Canonical.reply {dst code} (h : s.Canonical) : (s.reply dst code).Canonical := by
  unfold State.reply
  extract_lets _ s1
  have h1 : s1.Canonical := h.setFld
  split
  · exact h1.same.ite h1.count
  · exact h1.sendRouted

theorem Canonical.dropLoaderWrites (h : s.Canonical) : s.dropLoaderWrites.Canonical := by unfold State.dropLoaderWrites; exact h.same

theorem Canonical.enterLoad {b host} (h : s.Canonical) : (s.enterLoad b host).Canonical := by
  unfold State.enterLoad
  extract_lets s1 s2 s3 s4 s5 s6 _ s7 s8
  have h1 : s1.Canonical := h.dropLoaderWrites
  have h2 : s2.Canonical := h1.forAll (fun _ _ h => h.stopCtx)
  have h3 : s3.Canonical := h2.forAll (fun _ _ h => h.dmaStop)
  have h4 : s4.Canonical := h3.ladleHalt.setSource
  have h5 : s5.Canonical := h4.same
  have h6 : s6.Canonical := h5.bbxAppend
  have h7 : s7.Canonical := h6.setFlag.setFld
  have h8 : s8.Canonical := h7.wdStop
  exact h8.same

theorem Canonical.quitLoad (h : s.Canonical) : s.quitLoad.Canonical := by unfold State.quitLoad; exact h.setFlag.setFld.same.endSource

theorem Canonical.leaveLoad (h : s.Canonical) : s.leaveLoad.Canonical := by
  unfold State.leaveLoad
  exact h.dropLoaderWrites.quitLoad.noImage

theorem execLoadTimeout_keeps (h : s.Canonical) : Keeps (execLoadTimeout s) := by
  unfold execLoadTimeout
  refine Canonical.next ?_
  split
  · exact h.reach.leaveLoad
  · exact h

theorem Canonical.takeBegin {src b} (h : s.Canonical) : (s.takeBegin src b).Canonical := by
  unfold State.takeBegin
  exact h.ite (h.reply.ite (h.reply.ite h.enterLoad))

theorem Canonical.takeChunk {l b} (h : s.Canonical) : (s.takeChunk l b).Canonical := by
  unfold State.takeChunk
  exact h.ite (h.putMem.same.setFld.nvmWrite.same.ite h.putMem.same.setFld)

theorem Canonical.writeArea {old new base n} (h : s.Canonical) : (s.writeArea old new base n).Canonical := by
  unfold State.writeArea
  exact h.forAll (fun _ _ h => h.ite h.nvmWrite)

theorem Canonical.commitWrites (h : s.Canonical) : s.commitWrites.Canonical := by
  unfold State.commitWrites
  exact ((h.writeArea.nvmWrite.ite h).writeArea.ite (h.writeArea.nvmWrite.ite h)).nvmWrite.nvmWrite

theorem Canonical.failCommit {l dst code} (h : s.Canonical) : (s.failCommit l dst code).Canonical := by
  unfold State.failCommit
  exact h.same.reply

theorem Canonical.takeCommit {l src restart} (h : s.Canonical) : (s.takeCommit l src restart).Canonical := by
  unfold State.takeCommit
  extract_lets s1
  have h1 : s1.Canonical := h.commitWrites
  split
  · exact h.failCommit
  · exact h1.same

theorem Canonical.progHeard (h : s.Canonical) : s.progHeard.Canonical := by unfold State.progHeard; exact h.same

theorem Canonical.takeProg {src b} (h : s.Canonical) : (s.takeProg src b).Canonical := by
  unfold State.takeProg
  extract_lets s1
  have h1 : s1.Canonical := h.progHeard
  split
  · exact h1
  · exact h1.reply
  · split
    · exact h1.reply
    · split
      · exact h1.takeBegin
      · exact h1.ite h1.takeChunk
      · exact h1.reply.ite h1.takeCommit
      · exact h1.leaveLoad
      · exact h1
      · exact h1.reply

theorem Canonical.startEnabled (h : s.Canonical) : s.startEnabled.Canonical := by
  unfold State.startEnabled
  exact (h.forAll (fun _ _ h => h.failAll.setLink)).forAll (fun _ _ h => h.ctlStart)

theorem Canonical.commitEnd {l dst restart} (h : s.Canonical) : (s.commitEnd l dst restart).Canonical := by
  unfold State.commitEnd
  extract_lets s1 s2 s3 s4 _ s5 s6 s7
  have h1 : s1.Canonical := h.same
  have h2 : s2.Canonical := h1.directory.cvuExpect
  have h3 : s3.Canonical := (h2.ite h2.setStarted).revarnish
  have h4 : s4.Canonical := h3.bbxAppend
  have h5 : s5.Canonical := h4.same
  have h6 : s6.Canonical := h5.reply
  have h7 : s7.Canonical := h6.quitLoad.seqStop
  exact (h7.takePlan.syncDrives.startEnabled.ite h7).ite h6

theorem Canonical.afterLoader {ok} (h : s.Canonical) : (s.afterLoader ok).Canonical := by
  unfold State.afterLoader
  extract_lets s1
  have h1 : s1.Canonical := h.same
  split
  · split
    · exact h1.failCommit.ite (h.ite h.commitEnd)
    · exact h
  · exact h

theorem Canonical.afterWrite {w ok} (h : s.Canonical) : (s.afterWrite w ok).Canonical := by
  unfold State.afterWrite
  dsimp only
  split
  · exact h.same.afterLoader
  · exact h.directory.afterLoader
  · exact h.afterLoader
  · exact h
  · exact h
  · exact h.directory
  · exact h.ite h.mapFailure
  · exact h.ite h.shadowFailure

theorem Canonical.restartJobs {a} (h : s.Canonical) : (s.restartJobs a).Canonical := by
  unfold State.restartJobs
  exact h.forAll (fun _ _ h => h.jobBegin.ite h)

theorem Canonical.nvmDone {ok} (h : s.Canonical) : (s.nvmDone ok).Canonical := by
  unfold State.nvmDone
  extract_lets s1
  have h1 : s1.Canonical := h.didWork
  split
  · exact h
  · exact h.ite h1.same.putMem.restartJobs.afterWrite.wakeNvm

/-! ### Resets and start-up -/

theorem Canonical.takeKeys {old ks} (h : s.Canonical) : (s.takeKeys old ks).Canonical := by
  unfold State.takeKeys
  exact h.forAll (fun _ _ h => h.setReg)

theorem Canonical.cutWrite (h : s.Canonical) : s.cutWrite.Canonical := by
  unfold State.cutWrite
  extract_lets _ s1 s2
  have h1 : s1.Canonical := by
    unfold s1
    split
    · exact h
    · exact h.same.putMem
  have h2 : s2.Canonical := h1.same
  exact h2.putMem.ite h2

theorem Canonical.cutCommit (h : s.Canonical) : s.cutCommit.Canonical := by
  unfold State.cutCommit
  extract_lets _ s1 s2
  have h1 : s1.Canonical := h.same
  have h2 : s2.Canonical := by
    unfold s2
    split
    · exact h1.putMem.ite h1
    · exact h
  split
  · exact h2.same.setFld.setFld.ite h2
  · exact h2

theorem Canonical.periodsFrom {n} (h : s.Canonical) : (s.periodsFrom n).Canonical := by unfold State.periodsFrom; exact h.same

theorem Canonical.resetTo {code} (h : s.Canonical) : (s.resetTo code).Canonical := by
  unfold State.resetTo
  extract_lets s1 s2 r t0 t1 t2
  have hs : s2.Canonical := (h.cutCommit.ite h).cutWrite
  have h0 : t0.Canonical := ⟨resetWords_wf, rfl, wfFrom_filter s2.mem (fun c => 0x10000 ≤ c.1) 0 hs.mem⟩
  have h1 : t1.Canonical := h0.periodsFrom.takeKeys.noteBusy
  have h2 : t2.Canonical := h1.takeKeys.ite h1
  exact h2.ite h2.takeKeys

theorem Canonical.resetBy {code} (h : s.Canonical) : (s.resetBy code).Canonical := by
  unfold State.resetBy
  exact (h.resetTo.ite h.resetTo.count).setFld.setFld.same

theorem Canonical.resetOff {code} (h : s.Canonical) : (s.resetOff code).Canonical := by unfold State.resetOff; exact h.same.ite h

theorem Canonical.resetLevel {code asserted} (h : s.Canonical) : (s.resetLevel code asserted).Canonical := by
  unfold State.resetLevel
  exact h.resetBy.ite h.resetOff

theorem Canonical.resetPulse {code} (h : s.Canonical) : (s.resetPulse code).Canonical := by
  unfold State.resetPulse
  exact h.resetBy.resetOff

theorem Canonical.shipWake (h : s.Canonical) : s.shipWake.Canonical := by unfold State.shipWake; exact h.resetPulse.ite h
theorem Canonical.writeSysCtl {w} (h : s.Canonical) : (s.writeSysCtl w).Canonical := by unfold State.writeSysCtl; exact h.resetPulse.ite h

theorem Canonical.takeRole {role} (h : s.Canonical) : (s.takeRole role).Canonical := by
  unfold State.takeRole
  exact h.setFld.setFlag.setFlag.takePlan.directory.applySealed.cvuExpect.setFld.same.syncDrives.same

theorem execStrapRead_keeps {role0 role1} (h : s.Canonical) : Keeps (execStrapRead role0 role1 s) := by
  unfold execStrapRead
  refine Canonical.next ?_
  extract_lets s1
  have h1 : s1.Canonical := h.reach
  split
  · split
    · exact h1.takeRole
    · exact h1.same
  · exact h

theorem execSramMarchDone_keeps {bad} (h : s.Canonical) : Keeps (execSramMarchDone bad s) := by
  have ht := (h.reach (t := s.boot.stepAt + 45056)).setFld (f := Reg.SYS_BIST.SRAM) (v := bad.toNat) (i := 0)
  unfold execSramMarchDone
  exact Canonical.next (.ite ⟨ht.regs, ht.latches, wfFrom_filter _ _ _ ht.mem⟩ h)

theorem Canonical.hfoStable (h : s.Canonical) : s.hfoStable.Canonical := by
  unfold State.hfoStable
  extract_lets _ s1 s2 _ s3
  have h1 : s1.Canonical := h.same
  have h2 : s2.Canonical := h1.hfoLatch
  have h3 : s3.Canonical := h2.startSets
  exact h.ite (h2.same.ite h3.ladleResume.safeStart.resumeAll.sendWaiting.restartDropped)

theorem Canonical.relayStart {p} (h : s.Canonical) : (s.relayStart p).Canonical := by unfold State.relayStart; exact h.ite h.setFlag.same

/-! ### Fabric operations -/

theorem Canonical.forwardDirected {p f} (h : s.Canonical) : (s.forwardDirected p f).Canonical := by
  unfold State.forwardDirected
  exact h.count.ite (h.count.ite (h.count.ite h.sendCopy))

theorem Canonical.sendReply {p b op body} (h : s.Canonical) : (s.sendReply p b op body).Canonical := by
  unfold State.sendReply
  exact h.enqueue

theorem Canonical.sendInfo {p b status} (h : s.Canonical) : (s.sendInfo p b status).Canonical := by unfold State.sendInfo; exact h.sendReply
theorem Canonical.sendLtInfo {p b q} (h : s.Canonical) : (s.sendLtInfo p b q).Canonical := by unfold State.sendLtInfo; exact h.sendReply
theorem Canonical.sendPrimer {p op arg} (h : s.Canonical) : (s.sendPrimer p op arg).Canonical := by unfold State.sendPrimer; exact h.enqueue

theorem Canonical.primerAsk {p minutes} (h : s.Canonical) : (s.primerAsk p minutes).Canonical := by
  unfold State.primerAsk
  exact h.ite h.modPort.sendPrimer

theorem Canonical.ltPrimer {mask} (h : s.Canonical) : (s.ltPrimer mask).Canonical := by
  unfold State.ltPrimer
  exact h.forAll (fun _ _ h => h.primerAsk.ite h)

theorem Canonical.takePrimerReq {p b} (h : s.Canonical) : (s.takePrimerReq p b).Canonical := by
  unfold State.takePrimerReq
  exact h.sendPrimer.ite (h.sendPrimer.ite h.modPort.sendPrimer)

theorem Canonical.takePrimerAck {p ticks} (h : s.Canonical) : (s.takePrimerAck p ticks).Canonical := by
  unfold State.takePrimerAck
  exact h.modPort.ite h

theorem Canonical.primerRefused {p} (h : s.Canonical) : (s.primerRefused p).Canonical := by
  unfold State.primerRefused
  exact h.modPort.setFld.ite h

theorem Canonical.patternStart {p} (h : s.Canonical) : (s.patternStart p).Canonical := by
  unfold State.patternStart
  extract_lets _ s1 s2 s3 s4 s5 s6
  have h1 : s1.Canonical := h.modPort.endLink
  have h2 : s2.Canonical := h1.modPort
  have h3 : s3.Canonical := h2.setFld.setFld.setFld
  have h4 : s4.Canonical := h3.setFld.setFlag
  have h5 : s5.Canonical := h4.setBitOf.modPort
  have h6 : s6.Canonical := h5.updateUp
  exact h6.ite h6.abortPrimer

theorem execPrimerRelink_keeps {p} (h : s.Canonical) : Keeps (execPrimerRelink p s) := by
  unfold execPrimerRelink
  refine Canonical.next ?_
  split
  · exact h.reach.modPort.startLink
  · exact h

theorem Canonical.ltStop {mask} (h : s.Canonical) : (s.ltStop mask).Canonical := by
  unfold State.ltStop
  exact h.forAll (fun _ _ h => h.stopPrimer.ite h)

theorem execEnumPrimerDelayEnd_keeps {p} (h : s.Canonical) : Keeps (execEnumPrimerDelayEnd p s) := by
  unfold execEnumPrimerDelayEnd
  refine Canonical.next ?_
  split
  · exact h.reach.modPort.primerAsk
  · exact h

theorem Canonical.enumAssign {b} (h : s.Canonical) : (s.enumAssign b).Canonical := by
  unfold State.enumAssign
  exact h.setFld.setFld.setFlag.setFlag.takeUpByte.takeUpByte.setFld.setFlag.freshUp.updateUp

theorem Canonical.enumRoute {b} (h : s.Canonical) : (s.enumRoute b).Canonical := by unfold State.enumRoute; exact h.takeRoute.setFlag

theorem Canonical.enumPrimer {b} (h : s.Canonical) : (s.enumPrimer b).Canonical := by
  unfold State.enumPrimer
  exact h.forAll (fun _ _ h => h.modPort.ite h)

theorem Canonical.enumTarget {p b} (h : s.Canonical) : (s.enumTarget p b).Canonical := by
  unfold State.enumTarget
  dsimp only
  split
  · exact h
  · split
    · exact h.sendInfo
    · split
      · exact h.sendInfo
      · split
        · exact h.sendInfo
        · split
          · exact h.sendInfo.ite (h.sendInfo.ite h.enumAssign.sendInfo)
          · exact h.sendInfo.ite (h.sendInfo.ite h.enumRoute.sendInfo)
          · exact h.sendInfo.ite (h.sendInfo.ite h.enumPrimer.sendInfo)
          · exact h.sendInfo.ite h.sendLtInfo

theorem Canonical.nextTurn (h : s.Canonical) : s.nextTurn.Canonical := by
  unfold State.nextTurn
  dsimp only
  split
  · exact h.setFld.same
  · exact h.setFld.same.setBitOf

theorem Canonical.ltCycle (h : s.Canonical) : s.ltCycle.Canonical := by unfold State.ltCycle; exact h.ite h.same.nextTurn

theorem execIntervalTurnEnd_keeps (h : s.Canonical) : Keeps (execIntervalTurnEnd s) := by
  unfold execIntervalTurnEnd
  refine Canonical.next ?_
  split
  · exact h.reach.nextTurn
  · exact h

theorem execTestFrameSend_keeps (h : s.Canonical) : Keeps (execTestFrameSend s) := by
  unfold execTestFrameSend
  refine Canonical.next ?_
  split
  · exact h.enqueue.ite h
  · exact h

theorem Canonical.takeTest {p b} (h : s.Canonical) : (s.takeTest p b).Canonical := by unfold State.takeTest; exact h.count64.countBy.ite h

/-! ### The register bus -/

theorem Canonical.setSel {m n x} (h : s.Canonical) : (s.setSel m n x).Canonical := by
  unfold State.setSel
  split
  · exact h.modCtx
  · exact h.modCtx
  · exact h.same
  · exact h.same

theorem Canonical.readEffect {m off} (h : s.Canonical) : (s.readEffect m off).Canonical := by
  unfold State.readEffect
  exact h.ite (.ite ⟨h.regs, wfFrom_put _ _ _ 0 h.latches (Nat.zero_le _), h.mem⟩ (h.draw.ite (h.ite h.setReg)))

theorem Canonical.plainWrite {k w} (h : s.Canonical) : (s.plainWrite k w).Canonical := by
  unfold State.plainWrite
  split
  · exact h.setReg
  · exact h

theorem Canonical.noteWritten {k old} (h : s.Canonical) : (s.noteWritten k old).Canonical := by
  unfold State.noteWritten
  dsimp only
  split
  · exact h.ite h.same
  · exact h

theorem Canonical.writing {k effect} (h : s.Canonical) (he : ∀ t : State, t.Canonical → (effect t).Canonical) :
    (s.writing k effect).Canonical := by
  unfold State.writing
  exact (he _ h.same).same.noteWritten

theorem Canonical.dmaWerr {n} (h : s.Canonical) : (s.dmaWerr n).Canonical := by unfold State.dmaWerr; exact h.setFlag

theorem Canonical.writeDmaCfg {n w} (h : s.Canonical) : (s.writeDmaCfg n w).Canonical := by
  unfold State.writeDmaCfg
  exact h.dmaWerr.ite h.plainWrite

theorem Canonical.dmaFault {n cause} (h : s.Canonical) : (s.dmaFault n cause).Canonical := by
  unfold State.dmaFault
  exact h.dmaHalt.setFlag.raise

theorem Canonical.startDesc {n d done} (h : s.Canonical) : (s.startDesc n d done).Canonical := by
  unfold State.startDesc
  extract_lets s1 _ _ _ _ _ _ _ s2
  have h1 : s1.Canonical := h.setFld.setFld
  have h2 : s2.Canonical := h1.setDma
  exact h1.dmaHalt.ite (h1.dmaFault.ite (h1.dmaHalt.ite h2.setFld))

theorem Canonical.dmaStart {n resume} (h : s.Canonical) : (s.dmaStart n resume).Canonical := by
  unfold State.dmaStart
  exact h.dmaWerr.ite (h.ite h.startDesc)

theorem Canonical.writeDmaGo {m n w} (h : s.Canonical) : (s.writeDmaGo m n w).Canonical := by
  unfold State.writeDmaGo
  extract_lets s1 s2
  have h1 : s1.Canonical := h.dmaStart.ite h
  have h2 : s2.Canonical := h1.dmaStart.ite h1
  exact h.dmaWerr.ite (h2.dmaStop.ite h2)

theorem Canonical.ctxStartWrite {w} (h : s.Canonical) : (s.ctxStartWrite w).Canonical := by
  unfold State.ctxStartWrite
  exact h.forAll (fun _ _ h => h.startCtx)

theorem Canonical.ctxStopWrite {w} (h : s.Canonical) : (s.ctxStopWrite w).Canonical := by
  unfold State.ctxStopWrite
  exact h.forAll (fun _ _ h => h.stopCtx)

theorem Canonical.evRaiseWrite {w} (h : s.Canonical) : (s.evRaiseWrite w).Canonical := by
  unfold State.evRaiseWrite
  exact h.forAll (fun _ _ h => h.modCtx)

theorem Canonical.writeSnapCtl {w} (h : s.Canonical) : (s.writeSnapCtl w).Canonical := by
  unfold State.writeSnapCtl
  extract_lets s1 _ s2
  have h1 : s1.Canonical := h.setFlag.ite h
  have h2 : s2.Canonical := h1.same.ite h1
  exact h2.snapGo.ite h2

theorem Canonical.writeLtCtl {w} (h : s.Canonical) : (s.writeLtCtl w).Canonical := by
  unfold State.writeLtCtl
  exact h.ltStop.ltPrimer.ltCycle.ite h.ltStop.ltPrimer

theorem Canonical.writeSafeCtl {w} (h : s.Canonical) : (s.writeSafeCtl w).Canonical := by
  unfold State.writeSafeCtl
  extract_lets s1 s2 s3
  have h1 : s1.Canonical := h.writeDemand
  have h2 : s2.Canonical := h1.ite h1.pairAck
  have h3 : s3.Canonical := h2.trconf.ite h2
  exact h3.safeAck.ite h3

theorem Canonical.writeSfuOp {w} (h : s.Canonical) : (s.writeSfuOp w).Canonical := by
  unfold State.writeSfuOp
  split
  · exact h.sfuStart
  · exact h.sfuStart
  · exact h

theorem Canonical.writeJctl {w} (h : s.Canonical) : (s.writeJctl w).Canonical := by
  unfold State.writeJctl
  exact ((h.join.ite h).leave.ite (h.join.ite h)).unlock.ite ((h.join.ite h).leave.ite (h.join.ite h))

theorem Canonical.writeTop {w} (h : s.Canonical) : (s.writeTop w).Canonical := by
  unfold State.writeTop
  split
  · exact h.sfuStart
  · exact h.sfuStart
  · exact h.sfuStart
  · exact h

theorem Canonical.writeCapin {w} (h : s.Canonical) : (s.writeCapin w).Canonical := by
  unfold State.writeCapin
  exact h.plainWrite.capinGo.ite h.plainWrite

theorem Canonical.writeJob {k w} (h : s.Canonical) : (s.writeJob k w).Canonical := by
  unfold State.writeJob
  exact h.setFlag.ite h.plainWrite

theorem Canonical.hostBell {m code} (h : s.Canonical) : (s.hostBell m code).Canonical := by
  unfold State.hostBell
  exact (h.ite h.setFlag).setFld.raise.ite h

theorem Canonical.hostBellout {m code} (h : s.Canonical) : (s.hostBellout m code).Canonical := by
  unfold State.hostBellout
  extract_lets _ s1
  have h1 : s1.Canonical := h.ite h.setFlag
  split
  · exact h1.setFld
  · exact h

theorem Canonical.mout (h : s.Canonical) : s.mout.Canonical := by unfold State.mout; exact h.ite (h.setFlag.ite h.same.setFlag)

theorem Canonical.moutEnd (h : s.Canonical) : s.moutEnd.Canonical := by
  unfold State.moutEnd
  dsimp only
  split
  · exact h.same.setFlag
  · exact h

theorem Canonical.moutSettle (h : s.Canonical) : s.moutSettle.Canonical := by unfold State.moutSettle; exact h.moutEnd.ite h

theorem Canonical.writeMout {w} (h : s.Canonical) : (s.writeMout w).Canonical := by
  unfold State.writeMout
  exact h.moutSettle.plainWrite.mout.ite h.moutSettle.plainWrite

theorem Canonical.runMout {w} (h : s.Canonical) : (s.runMout w).Canonical := by
  unfold State.runMout
  exact h.moutSettle.writeMout.ite h.moutSettle.writeMout.moutEnd

theorem Canonical.writeHostCfg {m w} (h : s.Canonical) : (s.writeHostCfg m w).Canonical := by
  unfold State.writeHostCfg
  exact h.plainWrite.ite (h.plainWrite.same.ite h.plainWrite.same)

theorem Canonical.writeKey {m k w} (h : s.Canonical) : (s.writeKey m k w).Canonical := by
  unfold State.writeKey
  extract_lets _ _ _ s1 _ _ _ _ _ s2
  have h1 : s1.Canonical := h.plainWrite
  have h2 : s2.Canonical := h.release.ite h
  split
  · exact h.writeSysCtl
  · exact h1.same.ite h1
  · exact h.wdKick
  · exact h.setFlag.setFld.writeGr
  · exact h1.same
  · exact h.plainWrite.restartCounts
  · exact h.plainWrite.restartCounts
  · exact h.plainWrite.restartCounts
  · exact h.writeSentSt
  · exact h.leakStart.ite h
  · exact h.owStart.ite h
  · exact h.forAll (fun _ _ h => h.disarmRtc.ite h)
  · exact h.writeRtcLo
  · exact h.writeRtcHi
  · exact h.writeRtcLo
  · exact h.writeRtcHi
  · exact h.writeRtcLo
  · exact h.writeRtcHi
  · exact h.writeRtcLo
  · exact h.writeRtcHi
  · exact h.writeSnapCtl
  · exact h.writeCeil
  · exact h1.ite h1.same
  · exact h.portCtl
  · exact h.sideGo
  · exact h.plainWrite.updateUp
  · exact h1.ite h1.same
  · exact h.recheck
  · exact h.writeLtCtl
  · exact h.cvuGo
  · exact h.avin
  · exact h.avcfg
  · exact h.bbxAck
  · exact h2.release.ite h2
  · exact h1.rdreqGo.ite h1
  · exact h.writeSafeCtl
  · exact h.permit
  · exact h.writeCon
  · exact h.sealWrite.ite (h1.sealWrite.ite h1)
  · exact h.plainWrite.remode
  · exact h.plainWrite.syncSd
  · exact h.writeSfuOp
  · exact h.sfuArm
  · exact h.voteCommit.ite h
  · exact h.writeJctl
  · exact h.writeCapin
  · exact h.writeTop
  · exact h.trayArm
  · exact h.trayArm
  · exact h.writeHostCfg
  · exact h.hostBell
  · exact h.hostBellout
  · exact h.writeMout
  · exact h.ctxStartWrite
  · exact h.ctxStopWrite
  · exact h.evRaiseWrite
  · split
    · exact h.writeJob
    · split
      · split
        · exact h.writeDmaCfg
        · exact h.plainWrite.ite h.dmaWerr
        · exact h.writeDmaGo
        · exact h.plainWrite
      · exact h.plainWrite

theorem Canonical.writeRefused {k} (h : s.Canonical) : (s.writeRefused k).Canonical := by unfold State.writeRefused; exact h.setFlag.ite h

theorem Canonical.writeSelector {m n width w} (h : s.Canonical) : (s.writeSelector m n width w).Canonical := by
  unfold State.writeSelector
  exact h.setSel.ite h

theorem Canonical.writeWord {m off w} (h : s.Canonical) : (s.writeWord m off w).Canonical := by
  unfold State.writeWord
  dsimp only
  split
  · exact h
  · split
    · exact h.writeSelector
    · exact h.modCtx.ite (h.writeKey.ite (h.writeRefused.ite (h.writing (fun _ h => h.writeKey))))

/-! ### Remote requests -/

theorem Canonical.readAt {m pa width} (h : s.Canonical) : (s.readAt m pa width).2.Canonical := by
  unfold State.readAt
  split
  · exact h.readEffect
  · exact h

theorem Canonical.writeAt {m pa width v} (h : s.Canonical) : (s.writeAt m pa width v).Canonical := by
  unfold State.writeAt
  exact h.writeWord.ite h.putMem

theorem Canonical.endCtxRequest {c r a} (h : s.Canonical) : (s.endCtxRequest c r a).Canonical := by
  unfold State.endCtxRequest
  exact h.modCtx.wakeFences

theorem Canonical.dmaStopNow {n} (h : s.Canonical) : (s.dmaStopNow n).Canonical := by
  unfold State.dmaStopNow
  split
  · exact h.dmaHalt
  · exact h

theorem Canonical.dmaFailed {n cause} (h : s.Canonical) : (s.dmaFailed n cause).Canonical := by
  unfold State.dmaFailed
  split
  · exact h.dmaHalt
  · exact h.dmaFault

theorem Canonical.endDmaRequest {n r a} (h : s.Canonical) : (s.endDmaRequest n r a).Canonical := by
  unfold State.endDmaRequest
  extract_lets _ s1
  have h1 : s1.Canonical := h.setDma
  split
  · exact h1.dmaFailed
  · exact h1.dmaFailed
  · exact h1.setDma

theorem Canonical.takeAnswer {eof b} (h : s.Canonical) : (s.takeAnswer eof b).Canonical := by
  unfold State.takeAnswer
  extract_lets s1
  have h1 : s1.Canonical := h.count
  split
  · exact h1
  · split
    · split
      · split
        · exact h.endCtxRequest
        · exact h1
      · exact h1
    · split
      · split
        · exact h.endDmaRequest
        · exact h1
      · exact h1

theorem Canonical.sendAnswer {dest prio b} (h : s.Canonical) : (s.sendAnswer dest prio b).Canonical := by
  unfold State.sendAnswer
  exact h.takeAnswer.ite h.sendRouted

theorem Canonical.refuse {f reason} (h : s.Canonical) : (s.refuse f reason).Canonical := by unfold State.refuse; exact h.count.sendAnswer

theorem Canonical.readRange {m a n} (h : s.Canonical) : (s.readRange m a n).2.Canonical := by
  induction n generalizing s a with
  | zero => exact h
  | succ n ih => exact ih h.readAt

theorem Canonical.writeRange {m a b n} (h : s.Canonical) : (s.writeRange m a b n).Canonical := by
  induction n generalizing s a b with
  | zero => exact h
  | succ n ih => exact ih h.writeAt

theorem Canonical.serveNow {f} (h : s.Canonical) : (s.serveNow f).Canonical := by
  unfold State.serveNow
  extract_lets n a head data s1 r
  have h1 : s1.Canonical := h.writeRange.ite h.putMem
  have hr : r.2.Canonical := by
    unfold r
    split
    · exact h.readRange
    · exact h
  exact h1.sendAnswer.ite hr.sendAnswer

theorem Canonical.takeRequest {f} (h : s.Canonical) : (s.takeRequest f).Canonical := by
  unfold State.takeRequest
  extract_lets b n
  refine h.count.ite (h.refuse.ite ?_)
  split
  · exact h.same.ite h.serveNow
  · exact (h.eccReport.ite h).refuse

theorem Canonical.serveWaiting (h : s.Canonical) : s.serveWaiting.Canonical := by
  unfold State.serveWaiting
  exact h.forAll (fun _ _ h => h.ite h.same.serveNow)

theorem Canonical.takeConfig {f} (h : s.Canonical) : (s.takeConfig f).Canonical := by
  unfold State.takeConfig
  exact h.takeRequest.ite h.takeAnswer

theorem Canonical.toWinOut {r} (h : s.Canonical) : (s.toWinOut r).Canonical := by
  unfold State.toWinOut
  exact h.same.ite (h.same.ite h.same.same)

theorem Canonical.sendRequest {r prio} (h : s.Canonical) : (s.sendRequest r prio).Canonical := by
  unfold State.sendRequest
  exact h.toWinOut.ite (h.takeRequest.ite h.sendRouted)

theorem Canonical.ctxRequest {c i word va opnd write len data} (h : s.Canonical) : (s.ctxRequest c i word va opnd write len
    data).Canonical := by
  unfold State.ctxRequest
  exact h.setCtx.sendRequest

theorem Canonical.dmaRequest {n w va write len data} (h : s.Canonical) : (s.dmaRequest n w va write len data).Canonical := by
  unfold State.dmaRequest
  exact h.setDma.sendRequest

theorem execRemoteTimeout_keeps {r} (h : s.Canonical) : Keeps (execRemoteTimeout r s) := by
  unfold execRemoteTimeout
  refine Canonical.next ?_
  split
  · split
    · exact h.reach.endCtxRequest
    · exact h
  · split
    · exact h.reach.endDmaRequest
    · exact h

/-! ### Arrival of frames -/

theorem Canonical.spread {p f stamp} (h : s.Canonical) : (s.spread p f stamp).Canonical := by
  unfold State.spread
  exact h.ite (h.count.ite (h.forAll (fun _ _ h => h.sendCopy)))

theorem Canonical.passTrip {p f} (h : s.Canonical) : (s.passTrip p f).Canonical := by unfold State.passTrip; exact h.latchTrip.raise.ite h

theorem Canonical.forward {p f} (h : s.Canonical) : (s.forward p f).Canonical := by
  unfold State.forward
  split
  · exact h.count
  · exact h.count.ite h.sendCopy.passTrip

theorem Canonical.spoilCopies {p f} (h : s.Canonical) : (s.spoilCopies p f).Canonical := by
  unfold State.spoilCopies
  exact h.forAll (fun _ _ h => h.enqueue)

theorem Canonical.deliver {f p} (h : s.Canonical) : (s.deliver f p).Canonical := by
  unfold State.deliver
  extract_lets s1 s2 s3
  have h1 : s1.Canonical := h.same.followUp.ite h
  have h2 : s2.Canonical := h.progHeard.ite h
  have h3 : s3.Canonical := h2.bbxAppend.ite h2
  exact h1.rxPut.ite (h.takeConfig.ite (h.takeSched.ite (h.takeProg.ite (h.takeMirror.ite (h3.rxPut.ite h)))))

theorem Canonical.takeTime {p f} (h : s.Canonical) : (s.takeTime p f).Canonical := by
  unfold State.takeTime
  split
  · exact h
  · extract_lets r s1 power s2
    have h1 : s1.Canonical := h.ite h.spread
    have h2 : s2.Canonical := by
      unfold s2
      split
      · exact h1.same.ite h1
      · exact h1
    exact h2.ite (h2.same.applyTime.ite h2.setFld)

theorem Canonical.takeBroadcast {p f} (h : s.Canonical) : (s.takeBroadcast p f).Canonical := by
  unfold State.takeBroadcast
  exact h.count.ite (h.count.ite (h.takeTime.ite (h.spread.deliver.ite h.spread)))

theorem Canonical.takeLinkLocal {p f} (h : s.Canonical) : (s.takeLinkLocal p f).Canonical := by
  unfold State.takeLinkLocal
  exact h.ite (h.takeAnnounce.ite (h.ite (h.takePrimerReq.ite (h.takePrimerAck.ite h.primerRefused))))

theorem Canonical.takeDirected {p f} (h : s.Canonical) : (s.takeDirected p f).Canonical := by
  unfold State.takeDirected
  exact h.forwardDirected.ite (h.enumTarget.ite h.deliver)

theorem Canonical.takeFrame {p f} (h : s.Canonical) : (s.takeFrame p f).Canonical := by
  unfold State.takeFrame
  split
  · exact h.takeLinkLocal
  · exact h.takeDirected
  · exact h.takeBroadcast
  · exact h.deliver.passTrip
  · exact h.count
  · exact h.forward

theorem Canonical.acceptFrame {p f} (h : s.Canonical) : (s.acceptFrame p f).Canonical := by
  unfold State.acceptFrame
  extract_lets _ _ _ _ s1
  have h1 : s1.Canonical := h.count.ite h
  exact (h.count.sendAck.ite h.count).ite (h.count.ite ((h.noteSeq.sendAck.ite h.noteSeq).count.ite ((h1.sendNak.ite h1).ite
    (h.noteSeq.sendAck.ite h.noteSeq).takeFrame)))

theorem Canonical.takeCross {f} (h : s.Canonical) : (s.takeCross f).Canonical := by
  unfold State.takeCross
  exact (h.ite h.takeTime).ite ((h.takeSched.sendUsable.ite h.takeSched).ite h)

theorem Canonical.arrive {a} (h : s.Canonical) : (s.arrive a).Canonical := by
  unfold State.arrive
  extract_lets s1
  have h1 : s1.Canonical := h.heard
  split
  · exact h1.ite (h1.takeCross.ite h1.acceptFrame)
  · exact h
  · exact (h.discardFrame.count.ite h.discardFrame).ite (h.discardFrame.count.ite h.discardFrame).spoilCopies

theorem Canonical.receive {a} (h : s.Canonical) : (s.receive a).Canonical := by unfold State.receive; exact h.same.arrive.same

theorem execTripDeliver_keeps (h : s.Canonical) : Keeps (execTripDeliver s) := by
  unfold execTripDeliver
  refine Canonical.next ?_
  dsimp only
  split
  · exact h
  · exact h.same.setDemand.ite h.same

theorem Canonical.heardProg {op x} (h : s.Canonical) : (s.heardProg op x).Canonical := by
  unfold State.heardProg
  split
  · exact h.receive
  · exact h.takeProg.ite h

theorem Canonical.cutShort {p f n} (h : s.Canonical) : (s.cutShort p f n).Canonical := by
  unfold State.cutShort
  exact h.count.breakNulls.ite (h.count.breakNulls.forAll (fun _ _ h => h.enqueue))

/-! ### Executing one instruction -/

theorem Canonical.illegal {detail} (h : s.Canonical) : (Did.illegal s detail).Canonical := by unfold Did.illegal; exact h
theorem Canonical.takeCore {c} (h : s.Canonical) : (s.takeCore c).Canonical := by unfold State.takeCore; exact h.modAll.same.modCtx.advance
theorem Canonical.spend {c n} (h : s.Canonical) : (s.spend c n).Canonical := by unfold State.spend; exact h.modCtx.advance

theorem Canonical.retire {c pc n} (h : s.Canonical) : (s.retire c pc n).Canonical := by
  unfold State.retire
  exact h.ite h.modCtx.yieldSees.spend

theorem Canonical.setCont {c i} (h : s.Canonical) : (s.setCont c i).Canonical := by unfold State.setCont; exact h.modCtx

theorem Canonical.beginWait {c w} (h : s.Canonical) : (s.beginWait c w).Canonical := by
  unfold State.beginWait
  exact h.setCont.modCtx.ite h.setCont.modCtx.yieldSees

end State

theorem Did.Canonical.finish {c pc} {d : Did} (h : d.Canonical) : (d.finish c pc).Canonical := by
  cases d with
  | done s n => exact State.Canonical.retire h
  | jump s target n => exact State.Canonical.retire h
  | trap s cause detail tval n => exact (State.Canonical.ite (State.Canonical.yieldSees h) h).setCont.spend.trap
  | wait s w n => exact (State.Canonical.spend h).beginWait
  | hold s n next => exact State.Canonical.ite h (State.Canonical.setCont h).spend

namespace State

variable {s : State}

theorem Canonical.runInstr {body} (h : s.Canonical) (hb : ∀ t c pc, State.Canonical t → (body t c pc).Canonical) :
    (s.runInstr body).Canonical := by
  unfold State.runInstr
  split
  · exact h
  · exact (hb _ _ _ h.takeCore).finish

theorem Canonical.setX {c rd w} (h : s.Canonical) : (s.setX c rd w).Canonical := by unfold State.setX; exact h.modCtx

/-! ### Arithmetic and control instructions -/

theorem Canonical.compute {zeros rd cycles f} (h : s.Canonical) : (s.compute zeros rd cycles f).Canonical := by
  unfold State.compute
  refine h.runInstr fun _ _ _ h => ?_
  split
  · exact h.modCtx
  · exact h.illegal

theorem Canonical.alu3 {rd rs1 rs2 z cycles f} (h : s.Canonical) : (s.alu3 rd rs1 rs2 z cycles f).Canonical := by
  unfold State.alu3
  exact h.compute

theorem Canonical.aluI {rd rs1 zeros f} (h : s.Canonical) : (s.aluI rd rs1 zeros f).Canonical := by unfold State.aluI; exact h.compute

/-! ### Loads, stores and branches -/

end State

theorem Stop.Canonical.did {n} {e : Stop} (h : e.Canonical) : (e.did n).Canonical := by
  cases e with
  | trap s cause detail tval => exact h
  | wait s w => exact h

namespace State

variable {s : State}

theorem Canonical.readStop {a pa win e} (h : s.Canonical) (he : s.readStop a pa win = some e) : e.Canonical := by
  unfold State.readStop at he
  split at he
  · exact Option.some.inj he ▸ h
  · split at he
    · exact Option.some.inj he ▸ Canonical.ite h.eccInNvm h
    · cases he

theorem Canonical.storeTrap {c a pa v e} (h : s.Canonical) (he : s.storeTrap c a pa v = some e) : e.Canonical := by
  unfold State.storeTrap at he
  split at he
  · obtain ⟨_, _, rfl⟩ := Option.map_eq_some_iff.mp he
    exact h
  · cases he

theorem Canonical.placeTrap {a cause win} (h : s.Canonical) : (placeTrap s a cause win).Canonical := h

theorem Canonical.sendAccess {c win a word opnd len data} (h : s.Canonical) : (s.sendAccess c win a word opnd len data).Canonical :=
  h.ctxRequest

theorem Canonical.resumed_ok {c a word opnd x} (h : s.Canonical) (e : s.resumed c a word opnd = some (.ok x)) : x.1.Canonical := by
  unfold State.resumed at e
  dsimp only at e
  split at e
  · split at e
    · split at e
      · cases e; exact h.setCtx
      · cases e; exact h.setCtx
      · cases e
      · cases e
    · cases e
  · split at e <;> cases e
  · cases e

theorem Canonical.resumed_error {c a word opnd x} (h : s.Canonical) (e : s.resumed c a word opnd = some (.error x)) : x.Canonical := by
  unfold State.resumed at e
  dsimp only at e
  split at e
  · split at e
    · split at e
      · cases e
      · cases e
      · cases e; exact h.setCtx
      · cases e; exact h.setCtx
    · cases e
  · split at e
    · cases e; exact h
    · cases e
  · cases e

theorem Canonical.load' {op z rd rs1 imm width ext} (h : s.Canonical) : (s.load' op z rd rs1 imm width ext).Canonical := by
  unfold State.load'
  refine h.runInstr fun t c _ h => ?_
  dsimp only
  split
  · exact h
  · split
    · next e => exact (h.resumed_ok e).setX
    · next e => exact (h.resumed_error e).did
    · split
      · exact h.placeTrap.did
      · split
        · next e => exact (h.readStop e).did
        · exact h.readAt.setX
      · exact h.sendAccess.did

theorem Canonical.store' {op z rd rs1 imm width} (h : s.Canonical) : (s.store' op z rd rs1 imm width).Canonical := by
  unfold State.store'
  refine h.runInstr fun t c _ h => ?_
  dsimp only
  split
  · exact h
  · split
    · next e => exact h.resumed_ok e
    · next e => exact (h.resumed_error e).did
    · split
      · exact h.placeTrap.did
      · split
        · next e => exact (h.storeTrap e).did
        · exact h.writeAt
      · exact h.sendAccess.did

theorem Canonical.branch {z rs1 rs2 off taken} (h : s.Canonical) : (s.branch z rs1 rs2 off taken).Canonical := by
  unfold State.branch
  refine h.runInstr fun _ _ _ h => ?_
  split
  · exact h.illegal
  · split <;> exact h

theorem execJal_keeps {rd off} (h : s.Canonical) : Keeps (execJal rd off s) := by
  unfold execJal
  exact .next (h.runInstr fun _ _ _ h => h.setX)

theorem execJalr_keeps {rd rs1 z imm} (h : s.Canonical) : Keeps (execJalr rd rs1 z imm s) := by
  unfold execJalr
  refine Canonical.next ?_
  refine h.runInstr fun _ _ _ h => ?_
  split
  · exact h.illegal
  · exact h.setX

/-! ### Control and event instructions -/

theorem Canonical.holdRtime {c} (h : s.Canonical) : (s.holdRtime c).Canonical := by unfold State.holdRtime; exact h.modCtx

theorem Canonical.csrReadEffect {c index} (h : s.Canonical) : (s.csrReadEffect c index).Canonical := by
  unfold State.csrReadEffect
  exact h.holdRtime.ite h

theorem Canonical.csrWrite {c index w} (h : s.Canonical) : (s.csrWrite c index w).Canonical := by
  unfold State.csrWrite
  split
  · exact h.modCtx
  · exact h.modCtx
  · exact h.modCtx
  · exact h.modCtx
  · exact h.modCtx
  · exact h.modCtx
  · exact h.modCtx
  · exact h.modCtx
  · exact h.setSel.ite h

theorem execCsrr_keeps {rd rs1 rs2 sel} (h : s.Canonical) : Keeps (execCsrr rd rs1 rs2 sel s) := by
  unfold execCsrr
  refine Canonical.next ?_
  refine h.runInstr fun _ _ _ h => ?_
  split
  · exact h.illegal
  · split
    · exact h.illegal
    · exact h.csrReadEffect.setX

theorem execCsrw_keeps {rd rs1 rs2 sel} (h : s.Canonical) : Keeps (execCsrw rd rs1 rs2 sel s) := by
  unfold execCsrw
  refine Canonical.next ?_
  refine h.runInstr fun _ _ _ h => ?_
  dsimp only
  split
  · exact h.illegal
  · split
    · exact h.illegal
    · split
      · exact h
      · exact h.csrReadEffect.csrWrite.setX

theorem execSelch_keeps {rd rs1 rs2 sel} (h : s.Canonical) : Keeps (execSelch rd rs1 rs2 sel s) := by
  unfold execSelch
  refine Canonical.next ?_
  refine h.runInstr fun _ _ _ h => ?_
  dsimp only
  split
  · exact h.illegal
  · split
    · exact h.illegal
    · split
      · exact h
      · split
        · exact h
        · exact h.setSel.setX

theorem Canonical.awaitEvents {c rd w} (h : s.Canonical) : (s.awaitEvents c rd w).Canonical := by
  unfold State.awaitEvents
  dsimp only
  split
  · exact h.setX
  · exact h

theorem execWaite_keeps {rd rs1 rs2 sel} (h : s.Canonical) : Keeps (execWaite rd rs1 rs2 sel s) := by
  unfold execWaite
  refine Canonical.next ?_
  refine h.runInstr fun _ _ _ h => ?_
  split
  · exact h.illegal
  · exact h.awaitEvents

theorem execSleep_keeps {rd rs1 rs2 sel} (h : s.Canonical) : Keeps (execSleep rd rs1 rs2 sel s) := by
  unfold execSleep
  refine Canonical.next ?_
  refine h.runInstr fun _ _ _ h => ?_
  dsimp only
  split
  · exact h.illegal
  · split
    · exact h.illegal
    · split
      · exact h
      · exact h.awaitEvents

theorem execYield_keeps {rd rs1 rs2 sel} (h : s.Canonical) : Keeps (execYield rd rs1 rs2 sel s) := by
  unfold execYield
  refine Canonical.next ?_
  refine h.runInstr fun _ _ _ h => ?_
  dsimp only
  split
  · exact h.illegal
  · split <;> exact h

theorem execFence_keeps {rd rs1 rs2 sel} (h : s.Canonical) : Keeps (execFence rd rs1 rs2 sel s) := by
  unfold execFence
  refine Canonical.next ?_
  refine h.runInstr fun _ _ _ h => ?_
  dsimp only
  split
  · exact h.illegal
  · split <;> exact h

theorem execRete_keeps {rd rs1 rs2 sel} (h : s.Canonical) : Keeps (execRete rd rs1 rs2 sel s) := by
  unfold execRete
  refine Canonical.next ?_
  refine h.runInstr fun _ _ _ h => ?_
  split
  · exact h.illegal
  · exact h.modCtx

theorem execTrap_keeps {rd z imm} (h : s.Canonical) : Keeps (execTrap rd z imm s) := by
  unfold execTrap
  refine Canonical.next ?_
  refine h.runInstr fun _ _ _ h => ?_
  split
  · exact h.illegal
  · exact h

/-! ### Device instructions -/

theorem Canonical.meas' {c rd rs1 sel} (h : s.Canonical) : (s.meas' c rd rs1 sel).Canonical := by
  unfold State.meas'
  dsimp only
  split
  · exact h.illegal
  · split
    · exact h.measCancel.setX
    · split
      · exact h.measArm.setX
      · split
        · exact h.setX
        · exact h.measArm.setX

theorem execMeas_keeps {rd rs1 rs2 sel} (h : s.Canonical) : Keeps (execMeas rd rs1 rs2 sel s) := by
  unfold execMeas
  refine Canonical.next ?_
  refine h.runInstr fun _ _ _ h => ?_
  split
  · exact h.illegal
  · exact h.meas'

theorem Canonical.bal' {c rd rs1 rs2 sel} (h : s.Canonical) : (s.bal' c rd rs1 rs2 sel).Canonical := by
  unfold State.bal'
  dsimp only
  split
  · exact h.illegal
  · split
    · exact h.illegal
    · split
      · exact h.stopShuttle.setX
      · exact h.bleedOn.setX
      · exact h.bleedOff.setX
      · exact h.startShuttle.setX

theorem execBal_keeps {rd rs1 rs2 sel} (h : s.Canonical) : Keeps (execBal rd rs1 rs2 sel s) := by
  unfold execBal
  refine Canonical.next ?_
  refine h.runInstr fun _ _ _ h => ?_
  split
  · exact h.illegal
  · exact h.bal'

theorem execSnap_keeps {rd rs1 rs2 sel} (h : s.Canonical) : Keeps (execSnap rd rs1 rs2 sel s) := by
  unfold execSnap
  refine Canonical.next (h.runInstr fun t c _ h => ?_)
  split
  · exact h.illegal
  · split
    · exact h.latchLocal.setX
    · split
      · exact h.illegal
      · split
        · next e => exact (h.snapRack e).setX
        · exact h.setX

theorem Canonical.checkPayload {c va n e} (h : s.Canonical) (he : s.checkPayload c va n = .error e) : e.Canonical := by
  induction n generalizing va with
  | zero => cases he
  | succ n ih =>
    unfold State.checkPayload at he
    dsimp only at he
    split at he
    · cases he; exact h.placeTrap
    · cases he; exact h.placeTrap
    · split at he
      · next hr => cases he; exact h.readStop hr
      · split at he
        · next hc => cases he; exact ih hc
        · cases he

theorem Canonical.readWords {c l} (h : s.Canonical) : (s.readWords c l).1.Canonical := by
  induction l generalizing s with
  | nil => exact h
  | cons pa l ih => exact ih h.readAt

theorem Canonical.sendOn {p f tag} (h : s.Canonical) : (s.sendOn p f tag).Canonical := by
  unfold State.sendOn
  exact h.abortPrimer.await.ite (h.enqueue.ite h.txFail)

theorem Canonical.sendAll {f tag} (h : s.Canonical) : (s.sendAll f tag).Canonical := by
  unfold State.sendAll
  split
  · exact h.txFail
  · exact h.forAll (fun _ _ h => h.enqueue)

theorem Canonical.ownTrip {f} (h : s.Canonical) : (s.ownTrip f).Canonical := by
  unfold State.ownTrip
  exact (h.latchTrip.raise.followUp.ite h.latchTrip.raise).ite h

theorem Canonical.issueFrame {f direct tag} (h : s.Canonical) : (s.issueFrame f direct tag).Canonical := by
  unfold State.issueFrame
  dsimp only
  split
  · exact h.sendOn
  · split
    · exact h.draw.deliver.ownTrip.txDone
    · split
      · exact h.sendOn.ownTrip
      · exact h.sendAll.ite h.sendRouted.ownTrip

theorem Canonical.send' {c rd rs1 rs2 sel} (h : s.Canonical) : (s.send' c rd rs1 rs2 sel).Canonical := by
  unfold State.send'
  dsimp only
  split
  · exact h.illegal
  · split
    · exact h
    · split
      · exact h.illegal
      · split
        · exact h
        · split
          · exact h.setX
          · split
            · next e => exact (h.checkPayload e).did
            · split
              · exact h.illegal
              · split
                · exact h
                · exact h.readWords.draw.issueFrame.setX

theorem execSend_keeps {rd rs1 rs2 sel} (h : s.Canonical) : Keeps (execSend rd rs1 rs2 sel s) := by
  unfold execSend
  refine Canonical.next ?_
  refine h.runInstr fun _ _ _ h => ?_
  split
  · exact h.illegal
  · exact h.send'

theorem Canonical.checkBuffer {c va l e} (h : s.Canonical) (he : s.checkBuffer c va l = .error e) : e.Canonical := by
  induction l generalizing va with
  | nil => cases he
  | cons w l ih =>
    unfold State.checkBuffer at he
    dsimp only at he
    split at he
    · cases he; exact h.placeTrap
    · cases he; exact h.placeTrap
    · split at he
      · next hr => cases he; exact h.storeTrap hr
      · split at he
        · next hc => cases he; exact ih hc
        · cases he

theorem Canonical.recv' {c rd rs1} (h : s.Canonical) : (s.recv' c rd rs1).Canonical := by
  unfold State.recv'
  dsimp only
  split
  · exact h
  · split
    · exact h.setX
    · split
      · next e => exact (h.checkBuffer e).did
      · exact (h.modCtx.forAll fun _ _ h => h.writeAt).setX

theorem execRecv_keeps {rd rs1 rs2 sel} (h : s.Canonical) : Keeps (execRecv rd rs1 rs2 sel s) := by
  unfold execRecv
  refine Canonical.next ?_
  refine h.runInstr fun _ _ _ h => ?_
  split
  · exact h.illegal
  · exact h.recv'

/-! ### Long instructions -/

theorem Canonical.sideTrap {a remote e} (h : s.Canonical) (he : sideTrap s a remote = some e) : e.Canonical := by
  unfold Machine.sideTrap at he
  split at he
  · cases he; exact h.placeTrap
  · split at he
    · cases he; exact h.placeTrap
    · cases he

theorem Canonical.unitRead {c va e} (h : s.Canonical) (he : s.unitRead c va = .error e) : e.Canonical := by
  unfold State.unitRead at he
  dsimp only at he
  split at he
  · next hs => cases he; exact h.sideTrap hs
  · split at he
    · cases he; exact h.placeTrap
    · cases he; exact h.placeTrap
    · split at he
      · next hr => cases he; exact h.readStop hr
      · cases he

theorem Canonical.unitWrite {c va v e} (h : s.Canonical) (he : s.unitWrite c va v = .error e) : e.Canonical := by
  unfold State.unitWrite at he
  dsimp only at he
  split at he
  · next hs => cases he; exact h.sideTrap hs
  · split at he
    · cases he; exact h.placeTrap
    · cases he; exact h.placeTrap
    · split at he
      · next hr => cases he; exact h.storeTrap hr
      · cases he

theorem Canonical.afterUnit {c i left n finish} (h : s.Canonical) (hf : ∀ t m, State.Canonical t → (finish t m).Canonical) :
    (s.afterUnit c i left n finish).Canonical := by
  unfold State.afterUnit
  split
  · exact hf s n h
  · exact h

theorem Canonical.scanEnd {c rd poly final n} (h : s.Canonical) : (s.scanEnd c rd poly final n).Canonical := Canonical.ite h.modCtx h

theorem Canonical.scanUnit {c rd rs1 rs2 poly i left n finish} (h : s.Canonical)
    (hf : ∀ t m, State.Canonical t → (finish t m).Canonical) : (s.scanUnit c rd rs1 rs2 poly i left n finish).Canonical := by
  unfold State.scanUnit
  split
  · next e => exact (h.unitRead e).did
  · exact h.readAt.same.modCtx.afterUnit hf

theorem execScan_keeps {rd rs1 rs2 sel} (h : s.Canonical) : Keeps (execScan rd rs1 rs2 sel s) := by
  unfold execScan
  refine Canonical.next (h.runInstr fun t c _ h => ?_)
  dsimp only
  split
  · exact h.illegal
  · split
    · exact h.illegal
    · split
      · exact h.scanEnd
      · exact h.scanUnit fun _ _ h => h.scanEnd

theorem Canonical.movbUnit {c rd rs1 rs2 i left n} (h : s.Canonical) : (s.movbUnit c rd rs1 rs2 i left n).Canonical := by
  unfold State.movbUnit
  dsimp only
  split
  · next e => exact (h.unitRead e).did
  · split
    · next e => exact (h.unitWrite e).did
    · exact h.readAt.modCtx.writeAt.afterUnit fun _ _ h => h

theorem execMovb_keeps {rd rs1 rs2 sel} (h : s.Canonical) : Keeps (execMovb rd rs1 rs2 sel s) := by
  unfold execMovb
  refine Canonical.next ?_
  refine h.runInstr fun _ _ _ h => ?_
  dsimp only
  split
  · exact h.illegal
  · split
    · exact h.illegal
    · split
      · exact h
      · exact h.movbUnit

theorem Canonical.logbHand {c rd sel n} (h : s.Canonical) : (s.logbHand c rd sel n).Canonical := by
  unfold State.logbHand
  split
  · exact h.handoff.modCtx
  · exact h

theorem Canonical.logbRead_ok {c word va opnd x} (h : s.Canonical) (he : s.logbRead c word va opnd = .ok x) : x.1.Canonical := by
  unfold State.logbRead at he
  dsimp only at he
  split at he
  · next e => cases he; exact h.resumed_ok e
  · cases he
  · split at he
    · cases he
    · cases he
    · split at he
      · cases he
      · cases he; exact h.readAt

theorem Canonical.logbRead_error {c word va opnd x} (h : s.Canonical) (he : s.logbRead c word va opnd = .error x) : x.Canonical := by
  unfold State.logbRead at he
  dsimp only at he
  split at he
  · cases he
  · next e => cases he; exact h.resumed_error e
  · split at he
    · cases he; exact h.placeTrap
    · cases he; exact h.sendAccess
    · split at he
      · next e => cases he; exact h.readStop e
      · cases he

theorem Canonical.logbUnit {c rd rs1 rs2 i sel left n} (h : s.Canonical) : (s.logbUnit c rd rs1 rs2 i sel left n).Canonical := by
  unfold State.logbUnit
  dsimp only
  split
  · exact h.logbHand
  · split
    · next e => exact (h.logbRead_error e).did
    · next e => exact (h.logbRead_ok e).modCtx.afterUnit fun _ _ h => h.logbHand

theorem execLogb_keeps {rd rs1 rs2 sel} (h : s.Canonical) : Keeps (execLogb rd rs1 rs2 sel s) := by
  unfold execLogb
  refine Canonical.next ?_
  refine h.runInstr fun _ _ _ h => ?_
  dsimp only
  split
  · exact h.illegal
  · split
    · exact h.illegal
    · split
      · exact h.logbUnit
      · exact h.modCtx.logbUnit

theorem Canonical.checkLocal {c write va l e} (h : s.Canonical) (he : s.checkLocal c write va l = .error e) : e.Canonical := by
  induction l generalizing va with
  | nil => cases he
  | cons w l ih =>
    unfold State.checkLocal at he
    split at he
    · next hu =>
      cases he
      split at hu
      · exact h.unitWrite hu
      · exact h.unitRead hu
    · split at he
      · next hc => cases he; exact ih hc
      · cases he

theorem Canonical.rmovSend {c word out a near left win n} (h : s.Canonical) :
    (s.rmovSend c word out a near left win n).Canonical := by
  unfold State.rmovSend
  dsimp only
  split
  · next e => exact (h.checkLocal e).did
  · refine (Canonical.sendAccess ?_).did
    split
    · exact h.readWords
    · exact h

theorem Canonical.rmovUnit {c rd rs1 rs2 out i n} (h : s.Canonical) : (s.rmovUnit c rd rs1 rs2 out i n).Canonical := by
  unfold State.rmovUnit
  dsimp only
  split
  · next e => exact (h.sideTrap e).did
  · split
    · next e => exact (h.resumed_error e).did
    · next e => exact (h.resumed_error e).did
    · next e =>
      have ht := h.resumed_ok e
      split
      · exact ht.modCtx.afterUnit fun _ _ h => h
      · split
        · next e => exact (h.checkLocal e).did
        · exact (ht.forAll fun _ _ h => h.writeAt).modCtx.afterUnit fun _ _ h => h
    · split
      · exact h.placeTrap.did
      · exact h.placeTrap.did
      · exact h.rmovSend

theorem execRmov_keeps {rd rs1 rs2 sel} (h : s.Canonical) : Keeps (execRmov rd rs1 rs2 sel s) := by
  unfold execRmov
  refine Canonical.next ?_
  refine h.runInstr fun _ _ _ h => ?_
  dsimp only
  split
  · exact h.illegal
  · split
    · exact h.illegal
    · split
      · exact h
      · exact h.rmovUnit

/-! ### DMA -/

theorem Canonical.dmaRead {n l} (h : s.Canonical) : (s.dmaRead n l).1.Canonical := by
  induction l generalizing s with
  | nil => exact h
  | cons pa l ih => exact ih h.readAt

theorem Canonical.dmaComplete {n d} (h : s.Canonical) : (s.dmaComplete n d).Canonical := by
  unfold State.dmaComplete
  extract_lets _ s1 s2 s3
  have h1 : s1.Canonical := h.dmaBack
  have h2 : s2.Canonical := h1.setFlag.raise.ite h1
  have h3 : s3.Canonical := h2.setFlag.raise.setFld
  exact h2.startDesc.ite h3.setDma.wakeFences

theorem Canonical.dmaMoved {n d bytes} (h : s.Canonical) : (s.dmaMoved n d bytes).Canonical := by
  unfold State.dmaMoved
  extract_lets _ _ s1
  have h1 : s1.Canonical := h.setFld.setDma
  split
  · exact h1.dmaHalt
  · exact h1.dmaComplete.ite h1

theorem Canonical.inBeat {n write after} (h : s.Canonical) (hw : ∀ t : State, t.Canonical → (write t).Canonical)
    (ha : ∀ t : State, t.Canonical → (after t).Canonical) : (s.inBeat n write after).Canonical := by
  unfold State.inBeat
  exact (hw _ h.setDma).ite (ha _ (hw _ h.setDma))

theorem Canonical.dmaEccFault {n cause pa} (h : s.Canonical) : (s.dmaEccFault n cause pa).Canonical := by
  unfold State.dmaEccFault
  extract_lets s1
  have h1 : s1.Canonical := by
    unfold s1
    split
    · exact h.eccInNvm.ite h
    · exact h
  exact h1.dmaFault

theorem Canonical.dmaBeat {n d} (h : s.Canonical) : (s.dmaBeat n d).Canonical := by
  unfold State.dmaBeat
  dsimp only
  split
  · exact h.dmaComplete
  · split
    · exact h.dmaFault
    · exact h.dmaFault
    · exact h.dmaEccFault.ite (h.inBeat (fun _ h => h.readAt.writeAt.advance) (fun _ h => h.dmaMoved))
    · split
      · exact h.dmaFault
      · exact h.dmaRequest
    · split
      · exact h.dmaEccFault
      · exact h.dmaRead.dmaRequest
    · exact h.dmaRequest

theorem execDmaBeat_keeps (h : s.Canonical) : Keeps (execDmaBeat s) := by
  unfold execDmaBeat
  refine Canonical.next ?_
  split
  · split
    · exact h.dmaBeat
    · exact h
  · exact h

theorem Canonical.dmaTake {n d r a} (h : s.Canonical) : (s.dmaTake n d r a).Canonical := by
  unfold State.dmaTake
  extract_lets _ s1
  have h1 : s1.Canonical := h.setDma
  split
  · split
    · exact h1.dmaFailed
    · exact h1.dmaStopNow.ite h1.dmaRequest
    · split
      · exact h1.dmaFailed
      · exact h1.inBeat (fun _ h => h.forAll (fun _ _ h => h.writeAt)) (fun _ h => h.dmaMoved)
  · exact h1.dmaMoved
  · exact h1.dmaFailed
  · exact h1.dmaFailed

theorem execDmaRemoteDone_keeps {n} (h : s.Canonical) : Keeps (execDmaRemoteDone n s) := by
  unfold execDmaRemoteDone
  refine Canonical.next ?_
  split
  · exact h.dmaTake
  · exact h

/-! ### Register rows -/

theorem Canonical.busTrap {c off store e} (h : s.Canonical) : (s.busTrap c off store e).Canonical := by unfold State.busTrap; exact h.trap

theorem Canonical.noted {m off effect} (h : s.Canonical) (he : ∀ t : State, t.Canonical → (effect t).Canonical) :
    (s.noted m off effect).Canonical := h.writing he

theorem Canonical.busWrite {m off w effect} (h : s.Canonical) (he : ∀ t : State, t.Canonical → (effect t).Canonical) :
    (s.busWrite m off w effect).Canonical := by
  unfold State.busWrite
  split
  · split
    · exact h.busTrap
    · split
      · exact h.busTrap
      · exact h.ite (h.noted he)
  · exact h.dmaFault.ite (h.ite (h.dmaFault.ite (h.noted he)))
  · exact h.ite (h.noted he)
  · exact h.ite (h.noted he)

theorem Canonical.busRead {m off} (h : s.Canonical) : (s.busRead m off).Canonical := by
  unfold State.busRead
  split
  · exact h.busTrap.ite h.readEffect
  · exact h.dmaFault.ite h.readEffect
  · exact h.readEffect

theorem Canonical.busWord {m off w} (h : s.Canonical) : (s.busWord m off w).Canonical := by
  unfold State.busWord
  exact h.busWrite (fun _ h => h.writeWord)

/-! ### The host port -/

theorem Canonical.hostErr {f} (h : s.Canonical) : (s.hostErr f).Canonical := by unfold State.hostErr; exact h.setFlag.raise
theorem Canonical.discard {f} (h : s.Canonical) : (s.discard f).Canonical := by unfold State.discard; exact h.hostErr.count
theorem Canonical.setTrans {t} (h : s.Canonical) : (s.setTrans t).Canonical := by unfold State.setTrans; exact h.same

theorem Canonical.discardTrans {f t} (h : s.Canonical) : (s.discardTrans f t).Canonical := by
  unfold State.discardTrans
  exact h.discard.setTrans

theorem Canonical.putStream {n l} (h : s.Canonical) : (s.putStream n l).Canonical := by
  unfold State.putStream
  dsimp only
  split
  · exact h.same
  · exact h.same
  · exact h.same
  · exact h.same
  · exact h.same
  · exact h

theorem Canonical.dropStream {n k} (h : s.Canonical) : (s.dropStream n k).Canonical := by
  unfold State.dropStream
  exact h.same.ite h.putStream

theorem Canonical.hostWriteWords {op cmd addr rest} (h : s.Canonical) : (s.hostWriteWords op cmd addr rest).Canonical := by
  unfold State.hostWriteWords
  dsimp only
  split
  · exact h.setTrans
  · split
    · exact h.discardTrans
    · exact h.same

theorem Canonical.hostPut {a w} (h : s.Canonical) : (s.hostPut a w).Canonical := by unfold State.hostPut; exact h.writeAt

theorem Canonical.hostPutAll {a l} (h : s.Canonical) : (s.hostPutAll a l).Canonical := by
  induction l generalizing s a with
  | nil => exact h
  | cons w l ih => exact ih h.hostPut

theorem Canonical.loadMessages {fuel l} (h : s.Canonical) : (State.loadMessages fuel l s).Canonical := by
  induction fuel generalizing s l with
  | zero => exact h
  | succ fuel ih =>
    unfold State.loadMessages
    split
    · exact ih h.takeProg
    · exact h

theorem Canonical.applyWrite {w} (h : s.Canonical) : (s.applyWrite w).Canonical := by
  unfold State.applyWrite
  exact h.hostPutAll.ite (h.loadMessages.ite h.putStream)

theorem Canonical.finishDisable (h : s.Canonical) : s.finishDisable.Canonical := by unfold State.finishDisable; exact h.setFlag.same.ite h

theorem Canonical.applyFirst (h : s.Canonical) : s.applyFirst.Canonical := by
  unfold State.applyFirst
  dsimp only
  split
  · exact h
  · exact h.ite (h.same.applyWrite.ite h.same.applyWrite.finishDisable)

theorem Canonical.applyWords {n} (h : s.Canonical) : (s.applyWords n).Canonical := by
  unfold State.applyWords
  dsimp only
  split
  · exact h.ite (h.applyFirst.ite h.same.hostPutAll)
  · exact h

theorem Canonical.hostServe {n} (h : s.Canonical) : (s.hostServe n).Canonical := by unfold State.hostServe; exact h.ite h.same.applyWords

theorem Canonical.hostReadWords {cmd addr status late wait} (h : s.Canonical) : (s.hostReadWords cmd addr status late wait).Canonical := by
  unfold State.hostReadWords
  exact h.same.setTrans

theorem Canonical.hostRead {cmd addr late} (h : s.Canonical) : (s.hostRead cmd addr late).Canonical := by
  unfold State.hostRead
  exact h.discardTrans.ite (h.setTrans.ite h.applyFirst.applyFirst.sfuSettle.moutSettle.settleShuttles.hostReadWords)

theorem Canonical.hostSread {cmd addr} (h : s.Canonical) : (s.hostSread cmd addr).Canonical := by
  unfold State.hostSread
  exact h.moutSettle.discardTrans.ite (h.moutSettle.setTrans.ite h.moutSettle.setTrans)

theorem Canonical.transact {cmd addr rest late} (h : s.Canonical) : (s.transact cmd addr rest late).Canonical := by
  unfold State.transact
  dsimp only
  split
  · exact h
  · split
    · exact h.discardTrans
    · split
      · exact h.discardTrans
      · exact h.setTrans
      · exact h.hostRead
      · exact h.hostSread
      · exact h.hostWriteWords

theorem Canonical.readComplete {t} (h : s.Canonical) : (s.readComplete t).Canonical := by
  unfold State.readComplete
  have hs := h.forAll (l := t.rc) fun e u (h : u.Canonical) => h.setReg (k := e.1) (w := rcAfter e.1 (u.reg e.1) e.2)
  refine Canonical.forAll ⟨hs.regs, ?_, hs.mem⟩ fun _ _ h => h.eccInNvm
  exact List.foldlRecOn (motive := fun l => wfFrom regDefault 0 l = true) t.hold _ hs.latches
    fun l hl e _ => wfFrom_put _ _ _ 0 hl (Nat.zero_le _)

theorem Canonical.transComplete {t} (h : s.Canonical) : (s.transComplete t).Canonical := by
  unfold State.transComplete
  extract_lets s1
  have h1 : s1.Canonical := h.ite h.count
  split
  · exact h
  · split
    · exact h1.ite h1.readComplete
    · exact h1.ite h1.dropStream
    · exact h1

theorem Canonical.lateFlag {t edges} (h : s.Canonical) : (s.lateFlag t edges).Canonical := by unfold State.lateFlag; exact h.setFlag.ite h

theorem Canonical.cutOff {edges counted} (h : s.Canonical) : (s.cutOff edges counted).Canonical := by
  unfold State.cutOff
  exact h.hostErr.ite h.discard

theorem Canonical.noteWrite {t} (h : s.Canonical) : (s.noteWrite t).Canonical := by unfold State.noteWrite; exact h.setFld.setFlag.ite h

theorem Canonical.transEnd {t edges} (h : s.Canonical) : (s.transEnd t edges).Canonical := by
  unfold State.transEnd
  extract_lets _ _ s1 s2
  have h1 : s1.Canonical := h.lateFlag
  have h2 : s2.Canonical := h1.hostErr
  exact h.noteWrite.ite (h1.cutOff.noteWrite.ite (h1.transComplete.noteWrite.ite (h2.transComplete.noteWrite.ite (h2.ite h2.count))))

theorem execHostDeselect_keeps {edges} (h : s.Canonical) : Keeps (execHostDeselect edges s) := by
  unfold execHostDeselect
  refine Canonical.next ?_
  extract_lets s1
  have h1 : s1.Canonical := by
    unfold s1
    split
    · exact h.transEnd
    · exact h.cutOff
  exact h.ite h1.same.finishDisable

theorem execMsginDeliver_keeps (h : s.Canonical) : Keeps (execMsginDeliver s) := by
  unfold execMsginDeliver
  dsimp only
  refine .next ?_
  split
  · exact h.putStream.rxInto.ite h
  · exact h

theorem execWininAnswer_keeps (h : s.Canonical) : Keeps (execWininAnswer s) := by
  unfold execWininAnswer
  refine Canonical.next ?_
  split
  · exact h.putStream.takeAnswer.ite h
  · exact h

/-! ### Every command -/

theorem exec_keeps (h : s.Canonical) (i : Instr) : Keeps (exec i s) := by
  cases i with
  | registerWrite => exact h.busWord.next
  | rcRead => exact h.busRead.next
  | loWordRead => exact h.busRead.next
  | selectorWrite => exact h.busWord.next
  | add => exact h.alu3.next
  | sub => exact h.alu3.next
  | adc => exact h.alu3.next
  | sbc => exact h.alu3.next
  | and => exact h.alu3.next
  | or => exact h.alu3.next
  | xor => exact h.alu3.next
  | shl => exact h.alu3.next
  | shr => exact h.alu3.next
  | sar => exact h.alu3.next
  | mul => exact h.alu3.next
  | mulh => exact h.alu3.next
  | divu => exact h.alu3.next
  | remu => exact h.alu3.next
  | slt => exact h.alu3.next
  | sltu => exact h.alu3.next
  | addi => exact h.aluI.next
  | andi => exact h.aluI.next
  | ori => exact h.aluI.next
  | xori => exact h.aluI.next
  | shli => exact h.aluI.next
  | shri => exact h.aluI.next
  | sari => exact h.aluI.next
  | slti => exact h.aluI.next
  | lui => exact h.compute.next
  | ldw => exact h.load'.next
  | ldh => exact h.load'.next
  | ldhu => exact h.load'.next
  | ldb => exact h.load'.next
  | ldbu => exact h.load'.next
  | stw => exact h.store'.next
  | sth => exact h.store'.next
  | stb => exact h.store'.next
  | beq => exact h.branch.next
  | bne => exact h.branch.next
  | blt => exact h.branch.next
  | bge => exact h.branch.next
  | bltu => exact h.branch.next
  | bgeu => exact h.branch.next
  | jal => exact execJal_keeps h
  | jalr => exact execJalr_keeps h
  | csrr => exact execCsrr_keeps h
  | csrw => exact execCsrw_keeps h
  | selch => exact execSelch_keeps h
  | waite => exact execWaite_keeps h
  | sleep => exact execSleep_keeps h
  | yield => exact execYield_keeps h
  | fence => exact execFence_keeps h
  | rete => exact execRete_keeps h
  | trap => exact execTrap_keeps h
  | meas => exact execMeas_keeps h
  | bal => exact execBal_keeps h
  | snap => exact execSnap_keeps h
  | send => exact execSend_keeps h
  | recv => exact execRecv_keeps h
  | scan => exact execScan_keeps h
  | movb => exact execMovb_keeps h
  | logb => exact execLogb_keeps h
  | rmov => exact execRmov_keeps h
  | ctxStart => exact (h.busWrite (fun _ h => h.ctxStartWrite)).next
  | ctxStop => exact (h.busWrite (fun _ h => h.ctxStopWrite)).next
  | evRaise => exact (h.busWrite (fun _ h => h.evRaiseWrite)).next
  | ctxSelectedWrite => exact h.busWord.next
  | programStart => exact h.programStart.next
  | loadBegin => exact h.heardProg.next
  | loadData => exact h.heardProg.next
  | loadCommit => exact h.heardProg.next
  | loadAbort => exact h.heardProg.next
  | loadQuery => exact h.heardProg.next
  | loadStatus => exact h.receive.next
  | loadTimeout => exact execLoadTimeout_keeps h
  | nvmSectorWriteDone => exact h.nvmDone.serveWaiting.next
  | rread => exact h.receive.next
  | rwrite => exact h.receive.next
  | rdata => exact h.receive.next
  | rdone => exact h.receive.next
  | rrefuse => exact h.receive.next
  | remoteTimeout => exact execRemoteTimeout_keeps h
  | dmaStart => exact (h.busWrite (fun _ h => h.writeDmaGo)).next
  | dmaResume => exact (h.busWrite (fun _ h => h.writeDmaGo)).next
  | dmaHalt => exact (h.busWrite (fun _ h => h.writeDmaGo)).next
  | dmaBeat => exact execDmaBeat_keeps h
  | dmaRemoteDone => exact execDmaRemoteDone_keeps h
  | conversionDone => exact h.convDone.next
  | auxInputStart => exact execAuxInputStart_keeps h
  | auxrefOn => exact execAuxrefOn_keeps h
  | quietWindowPause => exact execQuietWindowPause_keeps h
  | quietWindowResume => exact execQuietWindowResume_keeps h
  | sentinelSample => exact (h.reach.same.sentSample.ite h).next
  | sentStWrite => exact h.busWord.next
  | sentCfgWrite => exact h.busWord.next
  | openWireStart => exact h.owStart.next
  | openWirePhaseEnd => exact execOpenWirePhaseEnd_keeps h
  | leakageStart => exact h.leakStart.next
  | leakageDeferredStart => exact (h.leakBegin.ite h).next
  | leakageDone => exact h.leakDone.next
  | grChangeEffect => exact execGrChangeEffect_keeps h
  | rtcLoWrite => exact (h.busWrite (fun _ h => h.writeRtcLo)).next
  | rtcHiWrite => exact (h.busWrite (fun _ h => h.writeRtcHi)).next
  | rtcDisarm => exact h.busWord.next
  | rtcFire => exact (h.beforeFire.reachTick.rtcFire.ite h).next
  | epochWrap => exact h.reachTick.next
  | epochWarn => exact (h.ite h.reachTick.same.raise).next
  | timeOriginate => exact (h.reach.same.originateTime.ite h).next
  | time => exact h.receive.next
  | lockStale => exact execLockStale_keeps h
  | linkDelayMeasure => exact (h.reach.measureDelay.ite h).next
  | dlyReq => exact (h.takeDlyReq.ite h).next
  | dlyRsp => exact (h.takeDlyRsp.ite h).next
  | dlyReqRetry => exact execDlyReqRetry_keeps h
  | sched => exact h.receive.next
  | snapshotCompareFire => exact execSnapshotCompareFire_keeps h
  | snapHfoLatch => exact (h.hfoLatch.ite h).next
  | snapGo => exact (h.busWrite (fun _ h => h.snapGo)).next
  | snapTripRel => exact (h.busWrite (fun _ h => h.writeSnapCtl)).next
  | snapAck => exact (h.busWrite (fun _ h => h.writeSnapCtl)).next
  | governorUpdate => exact ((h.reach.settleShuttles.forAll (fun _ _ h => h.governOne)).same.ite h).next
  | impedanceMeasure => exact (h.awaitNext.reach.measureZ.ite h.awaitNext).next
  | shuttleTargetReached => exact execShuttleTargetReached_keeps h
  | shuttleVoltageLimit => exact (h.settleShuttle.stopBy.ite h.settleShuttle).next
  | shuttleSupplyChange => exact (h.settleShuttle.setFlag.setFld.applyCurrent.ite h).next
  | bleedFrame => exact (h.reach.same.setFld.setDutyOff.ite h).next
  | bleedDutyOpen => exact (h.reach.setDutyOff.ite h).next
  | bleedCurrentSample => exact ((h.reach.same.forAll (fun _ _ h => h.bleedSample)).ite h).next
  | bleedTargetReached => exact (h.advance.bookBleed.ite h).next
  | balCeilWrite => exact (h.busWrite (fun _ h => h.writeCeil)).next
  | null => exact h.takeNull.next
  | nullSend => exact (h.reach.unplan.startTx.ite h).next
  | ack => exact h.takeAck.next
  | nak => exact h.takeNak.next
  | retransmitTimeout => exact h.retransmit.next
  | abort => exact (h.cutShort.ite h).next
  | codeError => exact (h.count.breakNulls.ite h).next
  | sideMessageReceived => exact (h.takeSide.ite h).next
  | sideTxGo => exact (h.busWrite (fun _ h => h.sideGo)).next
  | linkStart => exact ((h.sendWake.ite h).modPort.ite h).next
  | linkHoldEnd => exact (h.reach.modPort.relink.ite h).next
  | rstEnd => exact h.rstEnd.next
  | presenceWindowEnd => exact h.presenceEnd.next
  | trainingTxStart => exact (h.reach.modPort.relink.kick.ite h).next
  | trainingTimeout => exact h.trainingTimeout.next
  | linkRetryPauseEnd => exact (h.reach.startLink.ite h).next
  | linkAutostartRetry => exact (h.reach.setFld.startLink.ite h).next
  | portResume => exact (h.resume.ite h).next
  | resumingTimeout => exact ((h.reach.sendWake.modPort.ite (h.reach.endLink.ite h.reach.startLink)).ite h).next
  | linkSilence => exact (h.reach.loseLink.ite h).next
  | farEndHold => exact h.farHold.next
  | responderWaitTimeout => exact ((h.reach.endLink.startLink.ite h.reach.endLink).ite h).next
  | portCtlStart => exact (h.busWrite (fun _ h => h.ctlStart)).next
  | portCtlWake => exact (h.busWrite (fun _ h => h.ctlWake)).next
  | portCtlEnWrite => exact (h.busWrite (fun _ h => h.ctlEn)).next
  | lifelineWake => exact (h.ite (h.shipWake.ite (h.setFlag.raise.wake.resume.relayStart.ite h.setFlag.raise.wake.resume))).next
  | lifelineAlarm => exact (h.ite (h.shipWake.ite (h.setFlag.raise.wake.resume.forAll (fun _ _ h => h.startAlarm)))).next
  | lifelineNoise => exact (h.ite (h.count.ite (h.count.ite h))).next
  | alarmRepeat => exact (h.reach.sendAlarm.ite h).next
  | alarmGiveUp => exact execAlarmGiveUp_keeps h
  | data => exact h.receive.next
  | safe => exact h.receive.next
  | config => exact h.receive.next
  | bcast => exact h.receive.next
  | trip => exact h.receive.next
  | tripDeliver => exact execTripDeliver_keeps h
  | failbackHoldEnd => exact execFailbackHoldEnd_keeps h
  | directedForward => exact h.receive.next
  | enumQuery => exact h.receive.next
  | enumAssign => exact h.receive.next
  | enumRoute => exact h.receive.next
  | enumPrimer => exact h.receive.next
  | enumPrimerDelayEnd => exact execEnumPrimerDelayEnd_keeps h
  | enumLtread => exact h.receive.next
  | info => exact h.receive.next
  | ltinfo => exact h.receive.next
  | announce => exact h.receive.next
  | announceResend => exact (h.reach.sendAnnounce.ite h).next
  | announceSilent => exact (h.reach.fence.ite h).next
  | fenceReport => exact h.receive.next
  | fabRecheck => exact (h.busWrite (fun _ h => h.recheck)).next
  | primerStart => exact (h.busWrite (fun _ h => h.ltPrimer)).next
  | primerReq => exact h.receive.next
  | primerAck => exact h.receive.next
  | primerNak => exact h.receive.next
  | primerNoAnswer => exact (h.reach.primerRefused.ite h).next
  | primerPatternStart => exact (h.reach.patternStart.ite h).next
  | primerEnd => exact (h.reach.modPort.putCounts.endPrimer.relinkLater.ite h).next
  | primerRelink => exact execPrimerRelink_keeps h
  | primerStop => exact (h.busWrite (fun _ h => h.ltStop)).next
  | intervalCycleStart => exact (h.reachTick.same.ltCycle.ite h).next
  | ltCycle => exact (h.busWrite (fun _ h => h.ltCycle)).next
  | intervalTurnEnd => exact execIntervalTurnEnd_keeps h
  | testFrameSend => exact execTestFrameSend_keeps h
  | test => exact (h.receive.takeTest.ite h.receive).next
  | cvuJobStart => exact h.jobDue.next
  | cvuGo => exact (h.busWrite (fun _ h => h.cvuGo)).next
  | cvuJobDone => exact h.jobFinish.next
  | cvuJobError => exact (h.same.jobFinish.ite h).next
  | cvuAvin => exact (h.busWrite (fun _ h => h.avin)).next
  | cvuAvcfgGo => exact (h.busWrite (fun _ h => h.avcfg)).next
  | cvuBatchDone => exact execCvuBatchDone_keeps h
  | bbxCommitStart => exact h.commitStart.next
  | bbxCommitDone => exact h.commitDone.serveWaiting.next
  | tombstoneBurnDone => exact h.burnDone.next
  | bbxRingScanDone => exact (h.ringScan.ite h).next
  | summaryTimer => exact (h.reach.bbxAppend.same.ite h).next
  | mrec => exact h.receive.next
  | mrel => exact h.receive.next
  | mrej => exact h.receive.next
  | bread => exact h.receive.next
  | bdata => exact h.receive.next
  | breadTimeout => exact (h.reach.setFld.ite h).next
  | bbxRdreqGo => exact h.busWord.next
  | unfit => exact h.receive.next
  | unfitRepeat => exact (h.reach.unfitNotice.ite h).next
  | bbxAckWrite => exact (h.busWrite (fun _ h => h.bbxAck)).next
  | bbxShctlRelease => exact (h.busWrite (fun _ h => (h.release.ite h).release.ite (h.release.ite h))).next
  | sinLevelAccepted => exact (h.ite (h.showLevel.acceptSin.ite h.showLevel.acceptFb)).next
  | discrepancyExpiry => exact execDiscrepancyExpiry_keeps h
  | testPulse => exact h.testPulse.next
  | chbCompare => exact (h.ite ((h.reach.evalPairs.ite h.reach).same.setSource.ite (h.reach.evalPairs.ite h.reach).same)).next
  | chbHeartbeatMiss => exact (h.same.syncPin.syncSwitches.setSource.ite h).next
  | safeAck => exact (h.busWrite (fun _ h => h.safeAck)).next
  | safeTrconf => exact (h.busWrite (fun _ h => h.trconf)).next
  | safeDemandWrite => exact (h.busWrite (fun _ h => h.writeDemand)).next
  | pairack => exact (h.busWrite (fun _ h => h.pairAck)).next
  | permitWrite => exact (h.busWrite (fun _ h => h.permit)).next
  | trqOffPulse => exact ((h.reachTick.advance.ite h.reachTick.advance.setFlag.setSource).ite h).next
  | partnerLineChange => exact (h.partLine.ite h).next
  | partnerPulseMissing => exact ((h.reachTick.same.setFlag.setSource.ite h.reachTick.same).ite h).next
  | partnerRiseTimeout => exact execPartnerRiseTimeout_keeps h
  | safeConWrite => exact (h.busWrite (fun _ h => h.writeCon)).next
  | pickupEnd => exact h.pickupEnd.next
  | coilOpenCheck => exact execCoilOpenCheck_keeps h
  | coilShort => exact (h.setFld.setBitOf.stopCoil.setSource.joinStep.ite h).next
  | hsOver => exact (h.stopCoil.stopCoil.setBitOf.setSource.joinStep.ite h).next
  | noclose => exact (h.noclose.ite h).next
  | openingEnd => exact ((h.openingOff.joinStep.ite h.openingLate.joinStep).ite h).next
  | handoverEnd => exact execHandoverEnd_keeps h
  | sealScan => exact (h.reach.same.sealScan.ite h).next
  | sealedWrite => exact (h.busWrite (fun _ h => h.sealWrite)).next
  | sealedWriteDone => exact execSealedWriteDone_keeps h
  | tiwaitExpiry => exact ((h.reach.same.openHold.ite h.reach.same).ite h).next
  | sddelayExpiry => exact execSddelayExpiry_keeps h
  | chbOutputCutoff => exact execChbOutputCutoff_keeps h
  | sfuForm => exact (h.busWrite (fun _ h => h.sfuRun)).next
  | sfuCheck => exact (h.busWrite (fun _ h => h.sfuRun)).next
  | sfuExpiryExamine => exact execSfuExpiryExamine_keeps h
  | sfuArmWrite => exact (h.busWrite (fun _ h => h.sfuArm)).next
  | exchangeInstant => exact ((h.exchangeAt.ite h.reachTick.exchangeAt).ite h).next
  | xchg => exact h.takeXchg.next
  | exchangeJudge => exact execExchangeJudge_keeps h
  | voteCommit => exact (h.busWrite (fun _ h => h.voteCommit)).next
  | crossLinkStart => exact (h.startLink.ite h).next
  | join => exact (h.busWrite (fun _ h => h.join)).next
  | leave => exact (h.busWrite (fun _ h => h.leave)).next
  | unlock => exact (h.busWrite (fun _ h => h.unlock)).next
  | joinVoltageSample => exact (h.reach.same.joinVolts.didWork.ite h).next
  | settleEnd => exact execSettleEnd_keeps h
  | prechargeTimeout => exact execPrechargeTimeout_keeps h
  | trayCurrentSample => exact (h.reach.same.trayAmps.ite h).next
  | joinRetry => exact execJoinRetry_keeps h
  | openingWaitEnd => exact execOpeningWaitEnd_keeps h
  | capinGo => exact (h.busWrite (fun _ h => h.writeCapin)).next
  | capHoldEnd => exact execCapHoldEnd_keeps h
  | overcapTimer => exact execOvercapTimer_keeps h
  | capoutPeriod => exact (h.reachTick.same.setFld.ite h).next
  | formRs => exact (h.busWrite (fun _ h => h.sfuRun)).next
  | formCmd => exact (h.busWrite (fun _ h => h.sfuRun)).next
  | checkSt => exact (h.busWrite (fun _ h => h.sfuRun)).next
  | rackTarmWrite => exact (h.busWrite (fun _ h => h.trayArm)).next
  | powerStateEntry => exact h.powerEntry.next
  | wakeTimerFire => exact execWakeTimerFire_keeps h
  | hfoStable => exact h.hfoStable.next
  | guardRecompute => exact (h.reach.same.takeTemp.aimGuard.ite h).next
  | lfoRateMeasure => exact (h.reach.same.setFld.setFld.setFlag.ite h).next
  | searchEntry => exact execSearchEntry_keeps h
  | searchExpired => exact execSearchExpired_keeps h
  | lostRetry => exact execLostRetry_keeps h
  | wakeRelay => exact execWakeRelay_keeps h
  | relayHoldEnd => exact execRelayHoldEnd_keeps h
  | monitorSample => exact (h.ite h.reach.same.monitor).next
  | clockMonitor => exact (h.resetPulse.ite h).next
  | wdkick => exact (h.busWrite (fun _ h => h.wdKick)).next
  | wdogWarn => exact (h.reach.same.setFlag.raise.ite h).next
  | watchdogExpiry => exact (h.reach.wdExpire.ite h).next
  | sleepLimitExpiry => exact execSleepLimitExpiry_keeps h
  | ledgerUpdate => exact (h.ite h.reach.addLedger.addLedger.same).next
  | hostSelect => exact (h.ite h.same.wake).next
  | hostNop => exact h.transact.next
  | hostRead => exact h.transact.next
  | hostWrite => exact h.transact.next
  | hostSread => exact h.transact.next
  | hostSwrite => exact h.transact.next
  | hostDeselect => exact execHostDeselect_keeps h
  | hostWriteApply => exact h.applyFirst.next
  | msginDeliver => exact execMsginDeliver_keeps h
  | wininAnswer => exact execWininAnswer_keeps h
  | hostBell => exact (h.busWrite (fun _ h => h.hostBell)).next
  | hostBellout => exact (h.busWrite (fun _ h => h.hostBellout)).next
  | hostMoutGo => exact (h.busWrite (fun _ h => h.runMout)).next
  | porReset => exact h.resetLevel.next
  | shipWake => exact h.shipWake.next
  | brownout => exact h.resetLevel.next
  | pinReset => exact h.resetLevel.next
  | tapReset => exact h.same.resetLevel.next
  | softReset => exact (h.busWrite (fun _ h => h.writeSysCtl)).next
  | resetEnd => exact (h.reach.same.ite h).next
  | fuseLoadDone => exact ((h.reach.same.ite h.reach.setFld.setFld.setFld.setFld.same).ite h).next
  | strapRead => exact execStrapRead_keeps h
  | sramMarchDone => exact execSramMarchDone_keeps h
  | referenceCheckDone => exact ((h.reach.didWork.setFlag.same.forAll (fun _ _ h => h.startLink.ite h)).safeStart.ite h).next
  | supplySwitchover => exact (h.setFlag.ite (h.setFlag.ite h)).next
  | vcoilLow => exact h.setFlag.holdPulses.syncSwitches.next
  | holdupOkChange => exact h.setFld.setFlag.noteBusy.next
  | frameEofSent => exact h.eofSent.next
  | vcoilReturn => exact h.setFlag.holdPulses.syncSwitches.next

/-! ### Fetch and step -/

theorem Canonical.fetch {c pc e} (h : s.Canonical) (he : s.fetch c pc = .stop e) : e.Canonical := by
  unfold State.fetch at he
  dsimp only at he
  split at he
  · cases he; exact h.placeTrap
  · cases he; exact h.placeTrap
  · split at he
    · next hr => cases he; exact h.readStop hr
    · cases he

theorem Canonical.coreStep (h : s.Canonical) : Keeps s.coreStep := by
  unfold State.coreStep
  split
  · exact h.advance.next
  · split
    · exact exec_keeps h _
    · split
      · refine Canonical.next (h.runInstr fun t c pc h => ?_)
        split
        · next e => exact (h.fetch e).did
        · exact h
      · split
        · exact exec_keeps h _
        · exact Canonical.next (h.runInstr fun _ _ _ h => h.illegal)

theorem Canonical.beside {old} (h : s.Canonical) : (s.beside old).Canonical := by
  unfold State.beside
  exact h.cvuServe.hostServe.sfuSettle.moutSettle.settleShuttles

theorem Canonical.idle (h : s.Canonical) : Keeps s.idle := by
  unfold State.idle
  split
  · exact h.programStart.next
  · split
    · next e => exact (h.coreStep _ e).beside.next
    · next hn => exact fun t e => absurd e (hn t)

theorem Canonical.step (h : s.Canonical) : Keeps (step s) := by
  unfold Machine.step
  split
  · exact h.idle
  · exact exec_keeps h.same _

end State

/-- Settles O55, since a command and the die left to itself keep the canonical form. -/
theorem canonicalKept : Obligations.CanonicalKept := by
  unfold Obligations.CanonicalKept
  intro s t h e
  exact t.canonical_iff.mpr (State.Canonical.step (s.canonical_iff.mp h) t e)

end Sys2Proof.Machine
end

section
/-! SUPPORT. O54: the state after reset. -/

namespace Sys2Proof.Machine

theorem reset_ports (p : Fin 4) : State.reset.flag Reg.PORT_CTL.EN p = true ∧ State.reset.flag Reg.PORT_CTL.AUTOSTART p = true ∧
    State.reset.fld Reg.PORT_ST.STATE p = 0 ∧ State.reset.rtcArmed p = false := by
  revert p
  decide +kernel

theorem reset_ctx (c : Cid) : State.reset.ctx c = Ctx.reset c := by simp [State.ctx, State.reset]

theorem Ctx.reset_status (c : Cid) :
    bitsAt (Ctx.reset c).status.toNat 8 3 = c.val ∧ (Ctx.reset c).status.getLsbD 11 = decide (c = 0) := by
  revert c
  decide

/-- Settles O54: the registers are those of the table of reset words, each context is `Ctx.reset`. -/
theorem resetState : Obligations.ResetState := by
  unfold Obligations.ResetState
  refine ⟨State.reset.canonical_iff.mpr ⟨resetWords_wf, rfl, rfl⟩, rfl, by decide +kernel, by decide +kernel, by decide +kernel,
    by decide +kernel, rfl, reset_ports, fun c => ?_⟩
  obtain ⟨hid, hpriv⟩ := Ctx.reset_status c
  rw [reset_ctx]
  exact ⟨rfl, rfl, hid, hpriv, rfl, rfl, rfl⟩
end Sys2Proof.Machine
end

section
/-! SUPPORT. A write of the register bus comes to the effect of its key, apart from the note of the fields written in this tick. -/

namespace Sys2Proof.Machine

/-! ## Writes of the register bus -/

/-- The state `s` while a write takes effect: no field is held by a write of this tick. -/
def State.unnoted (s : State) : State := { s with wrote := (s.now, []) }

/-- `t` holds what `s` does in its registers, memory, contexts and converters. -/
structure State.Alike (s t : State) : Prop where
  regs : t.regs = s.regs
  mem : t.mem = s.mem
  ctxs : t.ctxs = s.ctxs
  meas : t.meas = s.meas

theorem State.Alike.refl (s : State) : s.Alike s := ⟨rfl, rfl, rfl, rfl⟩

theorem State.Alike.trans {s t u : State} (h : s.Alike t) (g : t.Alike u) : s.Alike u :=
  ⟨g.regs.trans h.regs, g.mem.trans h.mem, g.ctxs.trans h.ctxs, g.meas.trans h.meas⟩

theorem State.unnoted_alike (s : State) : s.Alike s.unnoted := ⟨rfl, rfl, rfl, rfl⟩

theorem State.noteWritten_alike (s : State) (k : Nat) (old : Word) : s.Alike (s.noteWritten k old) := by
  unfold State.noteWritten
  split
  · dsimp only
    split <;> exact ⟨rfl, rfl, rfl, rfl⟩
  · exact .refl s

/-- `writing` is its effect, apart from the note. -/
theorem State.writing_alike (s : State) (k : Nat) (e : State → State) : (e s.unnoted).Alike (s.writing k e) := by
  refine State.Alike.trans ⟨?_, ?_, ?_, ?_⟩ (State.noteWritten_alike _ k _) <;> rfl

/-- A write at a page offset that neither a trap nor an Off block keeps from its effect. -/
structure State.Open (s : State) (m : Master) (off : Nat) (w : Word) : Prop where
  master : m = .host ∨ ∃ c, m = .ctx c
  untrapped : s.writeTrap m off w = none
  notTest : onTestPage off = false
  notOff : s.writeOff m off = false

theorem State.Open.busWrite {s : State} {m : Master} {off : Nat} {w : Word} (h : s.Open m off w) (e : State → State) :
    s.busWrite m off w e = s.noted m off e := by
  obtain ⟨rfl | ⟨c, rfl⟩, htrap, htest, hoff⟩ := h
  · simp [State.busWrite, hoff]
  · simp [State.busWrite, htest, htrap, hoff]

/-- Page offsets of registers that are neither selectors nor the CTX page's. -/
def isRegister (off : Nat) : Bool := (selectorAt off).isNone && !(0xD000 ≤ off && off < 0xE000)

theorem State.writeWord_register {s : State} {m : Master} {off : Nat} (w : Word) (hr : isRegister off = true)
    (ho : s.writeOff m off = false) :
    s.writeWord m off w = if (descOf (s.keyOf m off)).isNone || s.rsDiscards (s.keyOf m off) w then s.writeRefused (s.keyOf m off)
      else s.writing (s.keyOf m off) fun t => t.writeKey m (s.keyOf m off) w := by
  simp only [isRegister, Bool.and_eq_true, Option.isNone_iff_eq_none, Bool.not_eq_true', Bool.and_eq_false_iff,
    decide_eq_false_iff_not] at hr
  obtain ⟨hsel, hpage⟩ := hr
  have selected : ¬(0xD804 ≤ off ∧ off < 0xE000) := by omega
  have control : ¬(0xD000 ≤ off ∧ off < 0xD010) := by omega
  simp [State.writeWord, ho, hsel, selected, control]

/-- A write that R18 lets through comes to what its key's row does. -/
theorem State.Open.busWord_alike {s : State} {m : Master} {off k : Nat} {w : Word} (h : s.Open m off w) (hr : isRegister off = true)
    (hk : s.keyOf m off = k) (hd : (descOf k).isSome = true) (hs : s.rsDiscards k w = false) :
    (s.unnoted.writeKey m k w).Alike (s.busWord m off w) := by
  have admitted : ((descOf k).isNone || s.rsDiscards k w) = false := by simpa [hs] using hd
  have row : s.unnoted.writeWord m off w = s.unnoted.writing k fun t => t.writeKey m k w := by
    subst hk
    exact (State.writeWord_register (s := s.unnoted) w hr h.notOff).trans (if_neg (Bool.eq_false_iff.mp admitted))
  have inner := s.unnoted.writing_alike k fun t => t.writeKey m k w
  rw [← row] at inner
  rw [State.busWord, h.busWrite]
  exact inner.trans (s.writing_alike _ fun t => t.writeWord m off w)

/-- A write that R18 discards leaves the registers, but for what it tells a running job (R482). -/
theorem State.Open.busWord_refused {s : State} {m : Master} {off k : Nat} {w : Word} (h : s.Open m off w) (hr : isRegister off = true)
    (hk : s.keyOf m off = k) (hs : s.rsDiscards k w = true) : (s.unnoted.writeRefused k).Alike (s.busWord m off w) := by
  have discarded : ((descOf k).isNone || s.rsDiscards k w) = true := by simp [hs]
  have row : s.unnoted.writeWord m off w = s.unnoted.writeRefused k := by
    subst hk
    exact (State.writeWord_register (s := s.unnoted) w hr h.notOff).trans (if_pos discarded)
  rw [State.busWord, h.busWrite, ← row]
  exact s.writing_alike _ fun t => t.writeWord m off w

theorem State.writeRefused_of_noJob (s : State) {k : Nat} (h : ¬(0x7100 ≤ k ∧ k < 0x7200)) : s.writeRefused k = s := by
  simp [State.writeRefused, h]

end Sys2Proof.Machine
end

section
/-! SUPPORT. O14: a write that R18 discards, and the traps that R72 and R94 judge: each acts on its context alone. -/

namespace Sys2Proof.Machine

/-- What a context's trap on the register bus leaves: its state saved, and nothing else of the machine changed. -/
structure State.BusTrapped (s t : State) (c : Cid) (cause : Nat) : Prop where
  regs : t.regs = s.regs
  mem : t.mem = s.mem
  cause : (t.ctx c).cause.toNat % 256 = cause
  epc : (t.ctx c).epc = (s.ctx c).pc
  estatus : (t.ctx c).estatus = (s.ctx c).status
  status : (t.ctx c).status = (s.ctx c).status ||| 0x10
  pc : (t.ctx c).pc = (s.ctx c).tvec
  x : (t.ctx c).x = (s.ctx c).x
  others : ∀ d, d ≠ c → t.ctx d = s.ctx d

theorem State.trap_busTrapped {s : State} {c : Cid} (h : (s.ctx c).status.getLsbD 4 = false) {cause : Nat} (hc : cause < 256)
    (detail tval : Nat) : s.BusTrapped (s.trap c cause detail tval (s.ctx c).pc.toNat) c cause := by
  simp only [State.trap, h, Bool.false_eq_true, if_false]
  constructor <;> simp [hc]
  exact fun d hd => ctx_setCtx_other s c d _ hd

theorem State.busTrap_busTrapped {s : State} {c : Cid} (h : (s.ctx c).status.getLsbD 4 = false) (off : Nat) (store : Bool) {e : Nat × Nat}
    (he : e.1 < 256) : s.BusTrapped (s.busTrap c off store e) c e.1 := State.trap_busTrapped h he _ _

/-- R72: a write that only CTX0 and the host may make traps PRIV in any other context. -/
theorem State.busWrite_priv {s : State} {c : Cid} (h : (s.ctx c).status.getLsbD 4 = false) (hc : c ≠ 0) {off : Nat}
    (htest : onTestPage off = false) (hoff : ctx0Only off = true) (w : Word) (e : State → State) :
    s.BusTrapped (s.busWrite (.ctx c) off w e) c 2 := by
  have unpriv : s.unprivileged (.ctx c) = true := by simpa [State.unprivileged, State.masterCtx] using Fin.val_ne_of_ne hc
  have trap : s.writeTrap (.ctx c) off w = some (2, 0) := by simp [State.writeTrap, unpriv, hoff]
  simp only [State.busWrite, htest, trap]
  exact State.busTrap_busTrapped h off true (e := (2, 0)) (by decide)

theorem State.busWrite_test {s : State} {c : Cid} (h : (s.ctx c).status.getLsbD 4 = false) {off : Nat} (ht : onTestPage off = true)
    (w : Word) (e : State → State) : s.BusTrapped (s.busWrite (.ctx c) off w e) c 6 := by
  simp only [State.busWrite, ht, if_true]
  exact State.busTrap_busTrapped h off true (e := (Cause.UNMAPPED, 0)) (by decide)

theorem State.busRead_test {s : State} {c : Cid} (h : (s.ctx c).status.getLsbD 4 = false) {off : Nat} (ht : onTestPage off = true) :
    s.BusTrapped (s.busRead (.ctx c) off) c 6 := by
  simp only [State.busRead, ht, if_true]
  exact State.busTrap_busTrapped h off false (e := (Cause.UNMAPPED, 0)) (by decide)

theorem onTestPage_aligned {off : BitVec 16} (h : 0xF000 ≤ off.toNat) : onTestPage (off.toNat / 4 * 4) = true := by
  simp only [onTestPage, Bool.and_eq_true, decide_eq_true_eq]
  omega

theorem State.open_rtCfg (s : State) (v : Word) : s.Open .host 0x3008 v where
  master := .inl rfl
  untrapped := rfl
  notTest := by decide
  notOff := by simp [State.writeOff, State.pageOff, State.hostOff, State.keyOff, State.keyOf, selectorOf]

/-- R18: with SEAL9 off a write that would change SNAPP, the RS bit 28 of RT_CFG, is discarded. -/
theorem State.rsDiscards_rtCfg {s : State} {v : Word} (hs : s.seal9 = false) (hv : (s.reg 0x3008 ^^^ v).getLsbD 28 = true) :
    s.rsDiscards 0x3008 v = true := by
  have mask : BitVec.ofNat 32 (rsMask 0x3008) = 0x10000000#32 := by decide +kernel
  have bit : ((s.reg 0x3008 ^^^ v) &&& 0x10000000#32).getLsbD 28 = true := by
    rw [BitVec.getLsbD_and, hv]
    decide
  have changes : (s.reg 0x3008 ^^^ v) &&& 0x10000000#32 ≠ 0#32 := fun h => by simp [h] at bit
  simpa [State.rsDiscards, hs, mask] using changes

/-- The commands that R72 reserves to CTX0 and the host, by another context. -/
theorem exec_reserved {s : State} {c : Cid} (h : (s.ctx c).status.getLsbD 4 = false) (hc : c ≠ 0) (m : BitVec 8) (k : BitVec 16) :
    ∀ i ∈ [Instr.ctxStart (.ctx c) m, .ctxStop (.ctx c) m, .evRaise (.ctx c) m, .wdkick (.ctx c) k, .safeAck (.ctx c),
      .softReset (.ctx c) k], Completes i s (s.BusTrapped · c 2) := by
  simp only [List.forall_mem_cons, List.not_mem_nil, false_implies, implies_true, and_true]
  refine ⟨⟨_, rfl, ?_⟩, ⟨_, rfl, ?_⟩, ⟨_, rfl, ?_⟩, ⟨_, rfl, ?_⟩, ⟨_, rfl, ?_⟩, ⟨_, rfl, ?_⟩⟩ <;>
    exact State.busWrite_priv h hc (by decide) (by decide +kernel) _ _

/-- The register accesses of a context in the TEST page. -/
theorem exec_testPage {s : State} {c : Cid} (h : (s.ctx c).status.getLsbD 4 = false) {off : BitVec 16} (ht : 0xF000 ≤ off.toNat)
    (v : Word) : ∀ i ∈ [Instr.registerWrite (.ctx c) off v, .rcRead (.ctx c) off, .loWordRead (.ctx c) off],
      Completes i s (s.BusTrapped · c 6) := by
  simp only [List.forall_mem_cons, List.not_mem_nil, false_implies, implies_true, and_true]
  exact ⟨⟨_, rfl, State.busWrite_test h (onTestPage_aligned ht) _ _⟩, ⟨_, rfl, State.busRead_test h (onTestPage_aligned ht)⟩,
    ⟨_, rfl, State.busRead_test h (onTestPage_aligned ht)⟩⟩

theorem State.BusTrapped.of_completes {s : State} {c : Cid} {cause : Nat} {i : Instr} (h : Completes i s (s.BusTrapped · c cause)) :
    Completes i s fun t => t.regs = s.regs ∧ t.mem = s.mem ∧ (t.ctx c).cause.toNat % 256 = cause ∧ (t.ctx c).epc = (s.ctx c).pc ∧
      (t.ctx c).estatus = (s.ctx c).status ∧ (t.ctx c).status = (s.ctx c).status ||| 0x10 ∧ (t.ctx c).pc = (s.ctx c).tvec ∧
      (t.ctx c).x = (s.ctx c).x ∧ ∀ d, d ≠ c → t.ctx d = s.ctx d := by
  obtain ⟨t, ht, p⟩ := h
  exact ⟨t, ht, p.regs, p.mem, p.cause, p.epc, p.estatus, p.status, p.pc, p.x, p.others⟩

/-- Settles O14: of a discarded write only the note of written fields is left, and a trap acts on its context alone. -/
theorem writeJudgement : Obligations.WriteJudgement := by
  unfold Obligations.WriteJudgement
  refine ⟨fun s v hs hv => ⟨_, rfl, ?_⟩, fun s c m k off v h => ⟨fun hc i hi => ?_, fun ht i hi => ?_⟩⟩
  · have kept := (s.open_rtCfg v).busWord_refused (by decide) (k := 0x3008) rfl (State.rsDiscards_rtCfg hs hv)
    rw [State.writeRefused_of_noJob _ (by decide)] at kept
    exact ⟨kept.regs, kept.mem, kept.ctxs⟩
  · exact State.BusTrapped.of_completes (exec_reserved h hc m k i hi)
  · exact State.BusTrapped.of_completes (exec_testPage h ht v i hi)
end Sys2Proof.Machine
end

section
/-! SUPPORT. The bits of a sum of numbers that share no bit, and with them the masks of a register's fields. -/

namespace Sys2Proof.Machine

/-! ## Sums without a carry -/

theorem add_eq_lor {a b : Nat} (h : a &&& b = 0) : a + b = a ||| b := by
  have hlt : a + b < 2 ^ (a + b) := Nat.lt_two_pow_self
  have ha : a < 2 ^ (a + b) := by omega
  have hb : b < 2 ^ (a + b) := by omega
  have apart : BitVec.ofNat (a + b) a &&& BitVec.ofNat (a + b) b = 0#(a + b) := by rw [← BitVec.ofNat_and, h]
  have e := congrArg BitVec.toNat (BitVec.add_eq_or_of_and_eq_zero _ _ apart)
  rwa [BitVec.toNat_add, BitVec.toNat_or, BitVec.toNat_ofNat, BitVec.toNat_ofNat, Nat.mod_eq_of_lt ha, Nat.mod_eq_of_lt hb,
    Nat.mod_eq_of_lt hlt] at e

theorem testBit_add_of_apart {a b : Nat} (h : ∀ i, a.testBit i = true → b.testBit i = false) (i : Nat) :
    (a + b).testBit i = (a.testBit i || b.testBit i) := by
  rw [add_eq_lor, Nat.testBit_or]
  refine Nat.eq_of_testBit_eq fun i => ?_
  rw [Nat.testBit_and, Nat.zero_testBit]
  cases ha : a.testBit i with
  | false => rfl
  | true => rw [h i ha]; rfl

theorem testBit_sum {l : List Nat} (h : l.Pairwise fun a b => ∀ i, a.testBit i = true → b.testBit i = false) (i : Nat) :
    l.sum.testBit i = l.any (·.testBit i) := by
  induction l generalizing i with
  | nil => simp
  | cons a l ih =>
    obtain ⟨first, rest⟩ := List.pairwise_cons.mp h
    have apart : ∀ j, a.testBit j = true → l.sum.testBit j = false := fun j hj => by
      rw [ih rest, List.any_eq_false]
      exact fun b hb => by simp [first b hb j hj]
    rw [List.sum_cons, testBit_add_of_apart apart, ih rest, List.any_cons]

/-! ## Masks of fields -/

/-- Bit `i` lies in the field. -/
def FieldDesc.has (f : FieldDesc) (i : Nat) : Bool := decide (f.lo ≤ i) && decide (i < f.lo + f.width)

theorem FieldDesc.has_iff (f : FieldDesc) (i : Nat) : f.has i = true ↔ f.lo ≤ i ∧ i < f.lo + f.width := by
  simp [FieldDesc.has]

/-- The fields share no bit and lie within the word. -/
def RegDesc.fits (r : RegDesc) : Bool :=
  r.fields.all (fun f => decide (f.lo + f.width ≤ 32)) &&
    decide (r.fields.Pairwise fun f g => f.lo + f.width ≤ g.lo ∨ g.lo + g.width ≤ f.lo)

/-- So it is in every row of the register tables. -/
theorem pages_fit : ((List.range 16).all fun p => (Reg.page p).all RegDesc.fits) = true := by decide +kernel

theorem descOf_fits {k : Nat} {r : RegDesc} (h : descOf k = some r) : r.fits = true := by
  have hpage : k % 0x10000 / 0x1000 < 16 := by omega
  exact List.all_eq_true.mp (List.all_eq_true.mp pages_fit _ (List.mem_range.mpr hpage)) r (List.mem_of_find?_eq_some h)

theorem RegDesc.fits_width {r : RegDesc} (h : r.fits = true) {f : FieldDesc} (hf : f ∈ r.fields) : f.lo + f.width ≤ 32 := by
  simp only [RegDesc.fits, Bool.and_eq_true, List.all_eq_true, decide_eq_true_eq] at h
  exact h.1 f hf

theorem RegDesc.fits_apart {r : RegDesc} (h : r.fits = true) :
    r.fields.Pairwise fun f g => ∀ i, f.has i = true → g.has i = false := by
  simp only [RegDesc.fits, Bool.and_eq_true, decide_eq_true_eq] at h
  refine h.2.imp fun {f g} apart i hi => ?_
  rw [FieldDesc.has_iff] at hi
  rw [← Bool.not_eq_true, FieldDesc.has_iff]
  omega

/-- A bit lies in one field at most. -/
theorem RegDesc.fits_unique {r : RegDesc} (h : r.fits = true) {f g : FieldDesc} (hf : f ∈ r.fields) (hg : g ∈ r.fields) {i : Nat}
    (hfi : f.has i = true) (hgi : g.has i = true) : f = g := by
  have symm : Std.Symm fun f g : FieldDesc => f.lo + f.width ≤ g.lo ∨ g.lo + g.width ≤ f.lo := ⟨fun _ _ => Or.symm⟩
  simp only [RegDesc.fits, Bool.and_eq_true, decide_eq_true_eq] at h
  rw [FieldDesc.has_iff] at hfi hgi
  by_contra hne
  have apart := h.2.forall hf hg hne
  omega

theorem testBit_field (f : FieldDesc) (i : Nat) : (2 ^ f.lo * (2 ^ f.width - 1)).testBit i = f.has i := by
  rw [Nat.testBit_two_pow_mul, Nat.testBit_two_pow_sub_one, Bool.eq_iff_iff, FieldDesc.has_iff, Bool.and_eq_true, decide_eq_true_eq,
    decide_eq_true_eq]
  omega

theorem fieldMask_testBit {r : RegDesc} (h : r.fits = true) (p : Access → Bool) (i : Nat) :
    (fieldMask p r).testBit i = r.fields.any fun f => p f.acc && f.has i := by
  have bits : ∀ (f : FieldDesc) j, (if p f.acc then 2 ^ f.lo * (2 ^ f.width - 1) else 0).testBit j = (p f.acc && f.has j) := fun f j => by
    cases p f.acc <;> simp [testBit_field]
  rw [fieldMask, testBit_sum, List.any_map]
  · exact congrArg r.fields.any (funext fun f => bits f i)
  · refine List.pairwise_map.mpr ((RegDesc.fits_apart h).imp fun {f g} apart j hj => ?_)
    rw [bits, Bool.and_eq_true] at hj
    rw [bits, apart j hj.2, Bool.and_false]

/-- In a field, a mask has the bits of the field's access code. -/
theorem fieldMask_testBit_mem {r : RegDesc} (h : r.fits = true) (p : Access → Bool) {f : FieldDesc} (hf : f ∈ r.fields) {i : Nat}
    (hi : f.has i = true) : (fieldMask p r).testBit i = p f.acc := by
  rw [fieldMask_testBit h, Bool.eq_iff_iff, List.any_eq_true]
  constructor
  · rintro ⟨g, hg, hgi⟩
    rw [Bool.and_eq_true] at hgi
    exact RegDesc.fits_unique h hg hf hgi.2 hi ▸ hgi.1
  · exact fun hp => ⟨f, hf, by rw [hp, hi]; rfl⟩

/-- Outside the fields, no mask has a bit. -/
theorem fieldMask_testBit_outside {r : RegDesc} (h : r.fits = true) (p : Access → Bool) {i : Nat}
    (hi : ∀ f ∈ r.fields, f.has i = false) : (fieldMask p r).testBit i = false := by
  rw [fieldMask_testBit h, List.any_eq_false]
  exact fun f hf => by simp [hi f hf]

theorem mask_getLsbD (n : Nat) {i : Nat} (hi : i < 32) : (BitVec.ofNat 32 n).getLsbD i = n.testBit i := by
  rw [BitVec.getLsbD_ofNat, decide_eq_true hi, Bool.true_and]

end Sys2Proof.Machine
end

section
/-! SUPPORT. O13: what the access codes of Table 0-2 leave, bit by bit, and the rows of the register bus that they govern. -/

namespace Sys2Proof.Machine

/-! ## Access codes, bit by bit -/

theorem State.written_bit (s : State) (r : RegDesc) (fresh old w : Word) {i : Nat} (hi : i < 32) :
    (s.written r fresh old w).getLsbD i =
      ((old.getLsbD i && !((fieldMask (s.codeWrites s.seal9) r).testBit i ||
          ((fieldMask (· = .w1c) r).testBit i && w.getLsbD i && !fresh.getLsbD i))) ||
        ((fieldMask (s.codeWrites s.seal9) r).testBit i && w.getLsbD i) || ((fieldMask (· = .w1s) r).testBit i && w.getLsbD i)) := by
  simp only [State.written, BitVec.getLsbD_or, BitVec.getLsbD_and, BitVec.getLsbD_not, mask_getLsbD _ hi, decide_eq_true hi,
    Bool.true_and]

/-- A bit of a field takes what its access code gives it, when no RS field is kept from changing. -/
theorem State.written_bit_mem (s : State) {r : RegDesc} (h : r.fits = true) {f : FieldDesc} (hf : f ∈ r.fields) {i : Nat}
    (hi : f.has i = true) (fresh old w : Word) (hrs : f.acc = .rs → s.seal9 = false → w.getLsbD i = old.getLsbD i) :
    (s.written r fresh old w).getLsbD i = s.wroteBit f.acc old w fresh i := by
  have hlt : i < 32 := by
    have := RegDesc.fits_width h hf
    have := (f.has_iff i).mp hi
    omega
  rw [State.written_bit _ _ _ _ _ hlt, fieldMask_testBit_mem h _ hf hi, fieldMask_testBit_mem h _ hf hi, fieldMask_testBit_mem h _ hf hi]
  cases hacc : f.acc with
  | rs =>
    cases hseal : s.seal9 with
    | false => simp [State.codeWrites, State.wroteBit, hrs hacc hseal]
    | true => simp [State.codeWrites, State.wroteBit]
  | rwCellJunction => cases hr : s.hasSafety <;> simp [State.codeWrites, State.wroteBit, hr]
  | rwJunction => cases hr : s.isJunction <;> simp [State.codeWrites, State.wroteBit, hr]
  | rwManager => cases hr : s.isManager <;> simp [State.codeWrites, State.wroteBit, hr]
  | ro | rw | w1c | w1s | rc | wo => simp [State.codeWrites, State.wroteBit]

/-- Bits of no field stay. -/
theorem State.written_bit_outside (s : State) {r : RegDesc} (h : r.fits = true) {i : Nat} (hi : ∀ f ∈ r.fields, f.has i = false)
    (fresh old w : Word) : (s.written r fresh old w).getLsbD i = old.getLsbD i := by
  by_cases hlt : i < 32
  · simp [State.written_bit _ _ _ _ _ hlt, fieldMask_testBit_outside h _ hi]
  · rw [BitVec.getLsbD_of_ge _ _ (not_lt.mp hlt), BitVec.getLsbD_of_ge _ _ (not_lt.mp hlt)]

theorem bitsAt_ne_iff (a b : Word) (f : FieldDesc) :
    bitsAt a.toNat f.lo f.width ≠ bitsAt b.toNat f.lo f.width ↔ ∃ i, f.has i = true ∧ a.getLsbD i ≠ b.getLsbD i := by
  constructor
  · intro hne
    by_contra same
    refine hne (Nat.eq_of_testBit_eq fun i => ?_)
    rw [bitsAt_testBit, bitsAt_testBit]
    by_cases hi : i < f.width
    · have := not_exists.mp same (f.lo + i)
      rw [FieldDesc.has_iff] at this
      simpa [hi, BitVec.testBit_toNat] using this
    · simp [hi]
  · rintro ⟨i, hi, hne⟩ same
    rw [FieldDesc.has_iff] at hi
    have bit := congrArg (·.testBit (i - f.lo)) same
    simp only [bitsAt_testBit, BitVec.testBit_toNat] at bit
    have inside : i - f.lo < f.width := by omega
    rw [show f.lo + (i - f.lo) = i by omega] at bit
    exact hne (by simpa [inside] using bit)

theorem word_ne_zero_iff (a : Word) : a ≠ 0 ↔ ∃ i, a.getLsbD i = true := by
  constructor
  · intro h
    by_contra none
    exact h (BitVec.eq_of_getLsbD_eq fun i _ => by simpa using not_exists.mp none i)
  · rintro ⟨i, hi⟩ rfl
    simp at hi

/-- R18: with SEAL9 off a write is discarded when it would change an RS field. -/
theorem State.rsDiscards_iff (s : State) {k : Nat} {r : RegDesc} (h : descOf k = some r) (w : Word) :
    s.rsDiscards k w = true ↔ s.seal9 = false ∧
      ∃ f ∈ r.fields, f.acc = .rs ∧ bitsAt w.toNat f.lo f.width ≠ bitsAt (s.reg k).toNat f.lo f.width := by
  have fits := descOf_fits h
  have mask : rsMask k = fieldMask (· = .rs) r := by rw [rsMask, h]
  have changes : (s.reg k ^^^ w) &&& BitVec.ofNat 32 (fieldMask (· = .rs) r) ≠ 0 ↔
      ∃ f ∈ r.fields, f.acc = .rs ∧ bitsAt w.toNat f.lo f.width ≠ bitsAt (s.reg k).toNat f.lo f.width := by
    simp only [word_ne_zero_iff, bitsAt_ne_iff]
    constructor
    · rintro ⟨i, hi⟩
      have hlt := BitVec.lt_of_getLsbD hi
      rw [BitVec.getLsbD_and, BitVec.getLsbD_xor, mask_getLsbD _ hlt, fieldMask_testBit fits, Bool.and_eq_true, List.any_eq_true] at hi
      obtain ⟨hne, f, hf, hfi⟩ := hi
      rw [Bool.and_eq_true, decide_eq_true_eq] at hfi
      exact ⟨f, hf, hfi.1, i, hfi.2, fun same => by simp [same] at hne⟩
    · rintro ⟨f, hf, hacc, i, hi, hne⟩
      have hlt : i < 32 := lt_of_lt_of_le ((f.has_iff i).mp hi).2 (RegDesc.fits_width fits hf)
      refine ⟨i, ?_⟩
      rw [BitVec.getLsbD_and, BitVec.getLsbD_xor, mask_getLsbD _ hlt, fieldMask_testBit_mem fits _ hf hi]
      simpa [hacc] using fun same => hne same.symm
  rw [State.rsDiscards, mask, Bool.and_eq_true, Bool.not_eq_true', decide_eq_true_eq, changes]

/-! ## Plain rows -/

/-- The key of a register behind a selector is its page offset and the channel above it. -/
theorem State.keyOf_mod (s : State) (m : Master) {off : Nat} (h : off < 0x10000) : s.keyOf m off % 0x10000 = off := by
  unfold State.keyOf
  split
  · split_ifs <;> omega
  · omega

/-- A register with no row of its own takes a write by its access codes. -/
theorem State.writeKey_plain (s : State) (m : Master) {k : Nat} (w : Word) (h : plainWrites (k % 0x10000) = true) :
    s.writeKey m k w = s.plainWrite k w := by
  unfold State.writeKey
  generalize k % 0x10000 = off at h
  dsimp only
  split
  case h_57 =>
    simp only [plainWrites, Bool.and_eq_true, Bool.not_eq_true', Bool.and_eq_false_iff, decide_eq_false_iff_not] at h
    obtain ⟨⟨⟨⟨_, jobs⟩, dma⟩, _⟩, _⟩ := h
    have noJob : ¬(decide (0x7100 ≤ off) && decide (off < 0x7200)) = true := by
      rw [Bool.and_eq_true, decide_eq_true_eq, decide_eq_true_eq]; omega
    have noDma : ¬(decide (0xC000 ≤ off) && decide (off < 0xC100)) = true := by
      rw [Bool.and_eq_true, decide_eq_true_eq, decide_eq_true_eq]; omega
    rw [if_neg noJob, if_neg noDma]
  all_goals exact absurd h (by decide)

theorem plainWrites_isRegister {off : Nat} (h : plainWrites off = true) : isRegister off = true := by
  simp only [plainWrites, Bool.and_eq_true] at h
  obtain ⟨⟨_, page⟩, sel⟩ := h
  rw [isRegister, sel, page, Bool.and_self]

theorem descOf_notTest {k off : Nat} (hk : k % 0x10000 = off) (h : (descOf k).isSome = true) : onTestPage off = false := by
  by_contra test
  rw [Bool.not_eq_false, onTestPage, Bool.and_eq_true, decide_eq_true_eq, decide_eq_true_eq] at test
  have page : k % 0x10000 / 0x1000 = 15 := by omega
  simp [descOf, page, Reg.page] at h

/-- `t` is as `s` in its memory, its contexts and every register but `k`. -/
def State.AloneAt (s : State) (k : Nat) (t : State) : Prop := (∀ j, j ≠ k → t.reg j = s.reg j) ∧ t.mem = s.mem ∧ t.ctxs = s.ctxs

theorem State.Alike.reg {s t : State} (h : s.Alike t) (k : Nat) : t.reg k = s.reg k := by rw [State.reg, h.regs, State.reg]

theorem State.Alike.ctx {s t : State} (h : s.Alike t) (c : Cid) : t.ctx c = s.ctx c := by rw [State.ctx, h.ctxs, State.ctx]

theorem State.Alike.aloneAt {s u t : State} {k : Nat} (h : s.AloneAt k u) (g : u.Alike t) : s.AloneAt k t := by
  obtain ⟨regs, mem, ctxs⟩ := h
  exact ⟨fun j hj => (g.reg j).trans (regs j hj), g.mem.trans mem, g.ctxs.trans ctxs⟩

theorem State.AloneAt.refl (s : State) (k : Nat) : s.AloneAt k s := ⟨fun _ _ => rfl, rfl, rfl⟩

theorem State.Canonical.aloneAt_setReg {s : State} (h : s.Canonical) (k : Nat) (w : Word) : s.AloneAt k (s.setReg k w) :=
  ⟨fun j hj => reg_setReg_other s k j w h.regs hj, rfl, rfl⟩

theorem State.plainWrite_desc (s : State) {k : Nat} {r : RegDesc} (h : descOf k = some r) (w : Word) :
    s.plainWrite k w = s.setReg k (s.written r (s.freshBits k) (s.reg k) w) := by rw [State.plainWrite, h]

theorem State.plainWrite_alike_unnoted (s : State) (k : Nat) (w : Word) : (s.plainWrite k w).Alike (s.unnoted.plainWrite k w) := by
  unfold State.plainWrite
  split <;> exact ⟨rfl, rfl, rfl, rfl⟩

/-- A write of a plain register that R18 lets through leaves what the access codes give. -/
theorem State.Open.busWord_plain {s : State} {m : Master} {off : Nat} {w : Word} (h : s.Open m off w) (hlt : off < 0x10000)
    (hp : plainWrites off = true) {r : RegDesc} (hd : descOf (s.keyOf m off) = some r) (hs : s.rsDiscards (s.keyOf m off) w = false) :
    (s.setReg (s.keyOf m off) (s.written r (s.freshBits (s.keyOf m off)) (s.reg (s.keyOf m off)) w)).Alike (s.busWord m off w) := by
  have row := h.busWord_alike (plainWrites_isRegister hp) rfl (by rw [hd]; rfl) hs
  rw [State.writeKey_plain _ _ _ (by rwa [s.keyOf_mod m hlt])] at row
  rw [← s.plainWrite_desc hd]
  exact (s.plainWrite_alike_unnoted _ w).trans row

/-! ## Commands -/

theorem exec_registerWrite (s : State) (m : Master) {off : BitVec 16} (v : Word) (h : off.toNat % 4 = 0) :
    exec (.registerWrite m off v) s = .next (s.busWord m off.toNat v) := by
  rw [show exec (.registerWrite m off v) s = .next (s.busWord m (off.toNat / 4 * 4) v) from rfl,
    show off.toNat / 4 * 4 = off.toNat by omega]

theorem exec_rcRead (s : State) (m : Master) {off : BitVec 16} (h : off.toNat % 4 = 0) :
    exec (.rcRead m off) s = .next (s.busRead m off.toNat) := by
  rw [show exec (.rcRead m off) s = .next (s.busRead m (off.toNat / 4 * 4)) from rfl, show off.toNat / 4 * 4 = off.toNat by omega]

/-- A write that R18 discards changes no plain register. -/
theorem State.Open.busWord_plain_refused {s : State} {m : Master} {off : Nat} {w : Word} (h : s.Open m off w) (hlt : off < 0x10000)
    (hp : plainWrites off = true) (hs : s.rsDiscards (s.keyOf m off) w = true) : s.Alike (s.busWord m off w) := by
  have kept := h.busWord_refused (plainWrites_isRegister hp) rfl hs
  have noJob : ¬(0x7100 ≤ s.keyOf m off ∧ s.keyOf m off < 0x7200) := by
    have mod := s.keyOf_mod m hlt
    simp only [plainWrites, Bool.and_eq_true, Bool.not_eq_true', Bool.and_eq_false_iff, decide_eq_false_iff_not] at hp
    obtain ⟨⟨⟨⟨_, jobs⟩, _⟩, _⟩, _⟩ := hp
    omega
  rw [State.writeRefused_of_noJob _ noJob] at kept
  exact s.unnoted_alike.trans kept

/-- The bits that the access codes give register `k` when it is written with `v`. -/
def State.CodesApplied (s : State) (r : RegDesc) (k : Nat) (v : Word) (t : State) : Prop :=
  (∀ f ∈ r.fields, ∀ i, f.lo ≤ i → i < f.lo + f.width → (t.reg k).getLsbD i = s.wroteBit f.acc (s.reg k) v (s.freshBits k) i) ∧
    ∀ i, (∀ f ∈ r.fields, i < f.lo ∨ f.lo + f.width ≤ i) → (t.reg k).getLsbD i = (s.reg k).getLsbD i

theorem State.codesApplied_written {s t : State} {r : RegDesc} {k : Nat} (hd : descOf k = some r) {v : Word} (hs : s.rsDiscards k v = false)
    (ht : t.reg k = s.written r (s.freshBits k) (s.reg k) v) : s.CodesApplied r k v t := by
  have fits := descOf_fits hd
  rw [State.CodesApplied, ht]
  refine ⟨fun f hf i hlo hhi => ?_, fun i hi => ?_⟩
  · have inside : f.has i = true := (f.has_iff i).mpr ⟨hlo, hhi⟩
    refine s.written_bit_mem fits hf inside _ _ _ fun hacc hseal => ?_
    by_contra hne
    exact Bool.eq_false_iff.mp hs ((s.rsDiscards_iff hd v).mpr ⟨hseal, f, hf, hacc, (bitsAt_ne_iff v (s.reg k) f).mpr ⟨i, inside, hne⟩⟩)
  · refine s.written_bit_outside fits (fun f hf => ?_) _ _ _
    have := hi f hf
    rw [← Bool.not_eq_true, FieldDesc.has_iff]
    omega

/-! ## Reads -/

theorem State.busRead_effect {s : State} {m : Master} {off : Nat} (hm : m = .host ∨ ∃ c, m = .ctx c) (ht : onTestPage off = false) :
    s.busRead m off = s.readEffect m off := by
  obtain rfl | ⟨c, rfl⟩ := hm
  · rfl
  · simp [State.busRead, ht]

theorem rcMask_testBit {k : Nat} {r : RegDesc} (h : descOf k = some r) (i : Nat) :
    (rcMask k).testBit i = r.fields.any fun f => decide (f.acc = .rc) && f.has i := by
  rw [rcMask, h]
  exact fieldMask_testBit (descOf_fits h) _ i

theorem rcMask_clkDom : rcMask 0x1060 = 0 ∧ rcMask 0x1064 = 0 := by decide +kernel

/-- A read of CLK_DOM draws a free value and no more; of another register it clears the RC fields, if there are any. -/
theorem State.readEffect_rc (s : State) {m : Master} {off : Nat} (hp : s.pageOff m off = false) (hh : s.hostOff off = false)
    (hl : latchesHi off = false) : s.readEffect m off =
      if off = 0x1060 ∨ off = 0x1064 then s.draw.2
      else if rcMask (s.keyOf m off) = 0 then s
      else s.setReg (s.keyOf m off) (s.reg (s.keyOf m off) &&& ~~~(BitVec.ofNat 32 (rcMask (s.keyOf m off)))) := by
  unfold State.hostOff at hh
  simp only [State.readEffect, hp, hl, hh, Bool.or_false, Bool.false_eq_true, if_false, Bool.or_eq_true, decide_eq_true_eq]

theorem State.Canonical.readEffect_reg {s : State} (h : s.Canonical) {m : Master} {off : Nat} (hp : s.pageOff m off = false)
    (hh : s.hostOff off = false) (hl : latchesHi off = false) :
    s.AloneAt (s.keyOf m off) (s.readEffect m off) ∧
      (s.readEffect m off).reg (s.keyOf m off) = s.reg (s.keyOf m off) &&& ~~~(BitVec.ofNat 32 (rcMask (s.keyOf m off))) := by
  have noBits : ∀ k, rcMask k = 0 → s.reg k = s.reg k &&& ~~~(BitVec.ofNat 32 (rcMask k)) := fun k hk => by
    rw [hk]; exact BitVec.and_allOnes.symm
  rw [s.readEffect_rc hp hh hl]
  split_ifs with clk none
  · have mask : rcMask (s.keyOf m off) = 0 := by
      obtain rfl | rfl := clk
      · exact rcMask_clkDom.1
      · exact rcMask_clkDom.2
    exact ⟨.refl s _, noBits _ mask⟩
  · exact ⟨.refl s _, noBits _ none⟩
  · exact ⟨h.aloneAt_setReg _ _, reg_setReg_same s _ _ h.regs⟩

theorem and_not_mask_getLsbD (a : Word) (n i : Nat) : (a &&& ~~~(BitVec.ofNat 32 n)).getLsbD i = (a.getLsbD i && !n.testBit i) := by
  by_cases hi : i < 32
  · rw [BitVec.getLsbD_and, BitVec.getLsbD_not, mask_getLsbD n hi, decide_eq_true hi, Bool.true_and]
  · rw [BitVec.getLsbD_of_ge _ _ (not_lt.mp hi), BitVec.getLsbD_of_ge _ _ (not_lt.mp hi), Bool.false_and]

/-! ## Registers with clauses of their own -/

/-- RTC_ST has W1C fields alone. -/
theorem State.written_rtcSt (s : State) {r : RegDesc} (h : descOf 0x3030 = some r) (fresh old w : Word) :
    s.written r fresh old w = old &&& ~~~(w &&& 0x0F0F0F00 &&& ~~~fresh) := by
  have row : descOf 0x3030 = some ⟨0x3030, 0, 1, false, [⟨0, 4, .ro⟩, ⟨8, 4, .w1c⟩, ⟨16, 4, .w1c⟩, ⟨24, 4, .w1c⟩]⟩ := by decide +kernel
  obtain rfl := Option.some.inj (h.symm.trans row)
  simp [State.written, fieldMask, State.codeWrites, BitVec.and_comm]

theorem State.written_moutAddr (s : State) {r : RegDesc} (h : descOf 0xB024 = some r) (fresh old w : Word) :
    s.written r fresh old w = (old &&& 3) ||| (w &&& 0xFFFFFFFC) := by
  have row : descOf 0xB024 = some ⟨0xB024, 0, 1, false, [⟨2, 30, .rw⟩]⟩ := by decide +kernel
  obtain rfl := Option.some.inj (h.symm.trans row)
  simp [State.written, fieldMask, State.codeWrites, BitVec.and_comm]

theorem State.open_ctx {s : State} (c : Cid) {off : Nat} (w : Word) (hc : ctx0Only off = false) (hsel : selectorAt off = none)
    (ht : onTestPage off = false) (ho : s.writeOff (.ctx c) off = false) : s.Open (.ctx c) off w where
  master := .inr ⟨c, rfl⟩
  untrapped := by simp [State.writeTrap, hc, hsel]
  notTest := ht
  notOff := ho

theorem State.rsDiscards_of_noMask (s : State) {k : Nat} (h : rsMask k = 0) (w : Word) : s.rsDiscards k w = false := by
  simp [State.rsDiscards, h]

/-- A plain register that no judgement keeps a context from writing. -/
theorem State.Canonical.busWord_ctx {s : State} (h : s.Canonical) (c : Cid) {k : Nat} (v : Word) {r : RegDesc} (hd : descOf k = some r)
    (hk : s.keyOf (.ctx c) k = k) (hlt : k < 0x10000) (hp : plainWrites k = true)
    (hc : ctx0Only k = false) (hrs : rsMask k = 0) (ht : onTestPage k = false)
    (ho : s.writeOff (.ctx c) k = false) :
    s.AloneAt k (s.busWord (.ctx c) k v) ∧ (s.busWord (.ctx c) k v).reg k = s.written r (s.freshBits k) (s.reg k) v := by
  have sel : selectorAt k = none := by
    simp only [plainWrites, Bool.and_eq_true, Option.isNone_iff_eq_none] at hp
    exact hp.2
  have row := (State.open_ctx c v hc sel ht ho).busWord_plain hlt hp (by rwa [hk]) (by rw [hk]; exact s.rsDiscards_of_noMask hrs v)
  rw [hk] at row
  exact ⟨row.aloneAt (h.aloneAt_setReg _ _), (row.reg k).trans (reg_setReg_same s _ _ h.regs)⟩

/-- A context's write to a block that is Off does nothing (R24). -/
theorem State.busWord_ctx_off {s : State} {c : Cid} {off : Nat} {w : Word} (hc : ctx0Only off = false) (hsel : selectorAt off = none)
    (ht : onTestPage off = false) (ho : s.writeOff (.ctx c) off = true) : s.busWord (.ctx c) off w = s := by
  have untrapped : s.writeTrap (.ctx c) off w = none := by simp [State.writeTrap, hc, hsel]
  simp [State.busWord, State.busWrite, ht, untrapped, ho]

theorem State.Canonical.rtcSt_write {s : State} (h : s.Canonical) (c : Cid) (v : Word) :
    s.AloneAt 0x3030 (s.busWord (.ctx c) 0x3030 v) ∧
      (s.busWord (.ctx c) 0x3030 v).reg 0x3030 = s.reg 0x3030 &&& ~~~(v &&& 0x0F0F0F00 &&& ~~~(s.freshBits 0x3030)) := by
  obtain ⟨r, hd⟩ := Option.isSome_iff_exists.mp (show (descOf 0x3030).isSome = true by decide +kernel)
  rw [← s.written_rtcSt hd]
  exact h.busWord_ctx c v hd rfl (by decide) (by decide +kernel) (by decide +kernel) (by decide +kernel) (by decide) (by
    simp [State.writeOff, State.pageOff, State.hostOff, State.keyOff, State.keyOf, selectorOf])

theorem State.writeOff_moutAddr (s : State) (c : Cid) : s.writeOff (.ctx c) 0xB024 = !s.flag Reg.HOST_CFG.EN := by
  simp [State.writeOff, State.pageOff, State.hostOff, State.keyOff, State.keyOf, selectorOf]

theorem State.Canonical.moutAddr_write {s : State} (h : s.Canonical) (c : Cid) (v : Word) :
    s.AloneAt 0xB024 (s.busWord (.ctx c) 0xB024 v) ∧ (s.busWord (.ctx c) 0xB024 v).reg 0xB024 =
      if s.flag Reg.HOST_CFG.EN = true then (s.reg 0xB024 &&& 3) ||| (v &&& 0xFFFFFFFC) else s.reg 0xB024 := by
  obtain ⟨r, hd⟩ := Option.isSome_iff_exists.mp (show (descOf 0xB024).isSome = true by decide +kernel)
  have reserved : ctx0Only 0xB024 = false := by decide +kernel
  split_ifs with hen
  · rw [← s.written_moutAddr hd (s.freshBits 0xB024)]
    exact h.busWord_ctx c v hd rfl (by decide) (by decide +kernel) reserved (by decide +kernel) (by decide)
      (by rw [s.writeOff_moutAddr, hen]; rfl)
  · have off : s.writeOff (.ctx c) 0xB024 = true := by rw [s.writeOff_moutAddr, Bool.eq_false_iff.mpr hen]; rfl
    rw [State.busWord_ctx_off reserved (by decide) (by decide) off]
    exact ⟨.refl s _, rfl⟩

theorem State.readWord_noRoute (s : State) (c : Cid) : s.readWord (.ctx c) 0x6040 = s.reg 0x6040 := by
  have key : s.keyOf (.ctx c) 0x6040 = 0x6040 := rfl
  have listed : (descOf 0x6040).isSome = true := by decide +kernel
  have off : s.pageOff (.ctx c) 0x6040 = false := by simp [State.pageOff, State.keyOff, key]
  have view : s.view 0x6040 = none := by simp [State.view]
  have sel : selectorAt 0x6040 = none := by decide
  have latched : isLatched 0x6040 = false := by decide
  simp [State.readWord, key, sel, off, latched, listed, State.regWord, view]

theorem State.Canonical.noRoute_read {s : State} (h : s.Canonical) (c : Cid) :
    s.AloneAt 0x6040 (s.busRead (.ctx c) 0x6040) ∧ (s.busRead (.ctx c) 0x6040).reg 0x6040 = 0 := by
  have key : s.keyOf (.ctx c) 0x6040 = 0x6040 := rfl
  have whole : ∀ a : Word, a &&& ~~~(BitVec.ofNat 32 (rcMask 0x6040)) = 0 := fun a => by
    rw [show BitVec.ofNat 32 (rcMask 0x6040) = 0xFFFFFFFF#32 by decide +kernel]
    exact BitVec.and_zero
  obtain ⟨alone, reads⟩ := h.readEffect_reg (m := .ctx c) (off := 0x6040) (by
    simp [State.pageOff, State.keyOff, key]) (by simp [State.hostOff]) (by decide)
  rw [key] at alone reads
  rw [State.busRead_effect (.inr ⟨c, rfl⟩) (by decide)]
  exact ⟨alone, reads.trans (whole _)⟩

/-- A read of SNAP_NOW_LO holds SNAP_NOW_HI for its reader. -/
theorem State.Canonical.snapNow_read {s : State} (h : s.Canonical) (c : Cid) :
    let t := s.busRead (.ctx c) 0x3000
    t.regs = s.regs ∧ t.mem = s.mem ∧ t.ctxs = s.ctxs ∧
      t.readWord (.ctx c) 0x3004 = BitVec.ofNat 32 (s.rackTicks / 2 ^ 32 + 2 ^ 16 * s.epoch + 2 ^ 24 * (s.rtime % 64)) := by
  have read : s.busRead (.ctx c) 0x3000 = { s with latches := put regDefault s.latches (holdKey (.ctx c) 0x3004) (s.regWord 0x3004) } := by
    have off : s.pageOff (.ctx c) 0x3000 = false := by simp [State.pageOff, State.keyOff, State.keyOf, selectorOf]
    have latches : latchesHi 0x3000 = true := by decide
    rw [State.busRead_effect (.inr ⟨c, rfl⟩) (by decide)]
    simp [State.readEffect, off, latches, State.keyOf, selectorOf]
  rw [read]
  refine ⟨rfl, rfl, rfl, ?_⟩
  have sel : selectorAt 0x3004 = none := by decide
  have latched : isLatched 0x3004 = true := by decide
  simp [State.readWord, State.pageOff, State.keyOff, State.keyOf, selectorOf, sel, latched]
  rw [look_put_same _ _ _ 0 h.latches]
  simp [State.regWord, State.view]

theorem State.open_portSel (s : State) (c : Cid) (v : Word) : s.Open (.ctx c) 0x5800 v where
  master := .inr ⟨c, rfl⟩
  untrapped := by
    have reserved : ctx0Only 0x5800 = false := by decide +kernel
    have inRange : ¬4 ≤ v.toNat % 4 := by omega
    simp [State.writeTrap, reserved, selectorAt, selectorOf, selCount, inRange]
  notTest := by decide
  notOff := by simp [State.writeOff, State.pageOff, State.hostOff, State.keyOff, State.keyOf, selectorOf]

/-- A write of PORT_SEL is one of the context's copy alone. -/
theorem State.portSel_write (s : State) (c : Cid) (v : Word) :
    let t := s.busWord (.ctx c) 0x5800 v
    (t.ctx c).sel[1] = v.toNat % 4 ∧ t.regs = s.regs ∧ t.mem = s.mem ∧ ∀ d, d ≠ c → t.ctx d = s.ctx d := by
  have opened := s.open_portSel c v
  have row : s.unnoted.writeWord (.ctx c) 0x5800 v = s.unnoted.modCtx c fun u => { u with sel := putSel u.sel 1 (v.toNat % 4) } := by
    have inRange : v.toNat % 4 < 4 := by omega
    have notOff : s.unnoted.writeOff (.ctx c) 0x5800 = false := opened.notOff
    simp [State.writeWord, notOff, selectorAt, selectorOf, State.writeSelector, selCount, inRange, State.setSel]
  have kept : (s.unnoted.writeWord (.ctx c) 0x5800 v).Alike (s.busWord (.ctx c) 0x5800 v) := by
    rw [State.busWord, opened.busWrite]
    exact s.writing_alike _ fun t => t.writeWord (.ctx c) 0x5800 v
  rw [row] at kept
  refine ⟨?_, kept.regs, kept.mem, fun d hd => ?_⟩
  · rw [kept.ctx, ctx_modCtx_same]
    simp [putSel]
  · rw [kept.ctx, ctx_modCtx_other _ _ _ _ hd]
    rfl

/-! ## The rows together -/

/-- Settles O13: a register with no row of its own follows its access codes bit by bit, and each clause of its own is one row. -/
theorem registerBusRows : Obligations.RegisterBusRows := by
  unfold Obligations.RegisterBusRows
  refine ⟨fun s m off v r hs hoff hm => ?_, fun s c v hs => ?_⟩
  · have h := s.canonical_iff.mp hs
    have hlt : off.toNat < 0x10000 := off.isLt
    intro k alone hd
    have notTest : onTestPage off.toNat = false := descOf_notTest (s.keyOf_mod m hlt) (by rw [hd]; rfl)
    refine ⟨fun hp htrap ho => ⟨_, exec_registerWrite s m v hoff, ?_⟩, fun hpage hhost hl => ⟨_, exec_rcRead s m hoff, ?_⟩⟩
    · have opened : s.Open m off.toNat v := ⟨hm, htrap, notTest, ho⟩
      cases hrs : s.rsDiscards k v with
      | true =>
        have same := opened.busWord_plain_refused hlt hp hrs
        exact ⟨same.aloneAt (.refl s k), fun _ => same.reg k, fun unshut => absurd ((s.rsDiscards_iff hd v).mp hrs) unshut⟩
      | false =>
        have row := opened.busWord_plain hlt hp hd hrs
        have reads := (row.reg k).trans (reg_setReg_same s k _ h.regs)
        exact ⟨row.aloneAt (h.aloneAt_setReg k _), fun shut => absurd ((s.rsDiscards_iff hd v).mpr shut) (Bool.eq_false_iff.mp hrs),
          fun _ => State.codesApplied_written hd hrs reads⟩
    · obtain ⟨same, reads⟩ := h.readEffect_reg hpage hhost hl
      rw [State.busRead_effect hm notTest]
      refine ⟨same, fun i => ?_⟩
      rw [reads, and_not_mask_getLsbD, rcMask_testBit hd]
      simp only [FieldDesc.has, Bool.and_assoc]
      rfl
  · have h := s.canonical_iff.mp hs
    obtain ⟨rtcAlone, rtc⟩ := h.rtcSt_write c v
    obtain ⟨moutAlone, mout⟩ := h.moutAddr_write c v
    obtain ⟨routeAlone, route⟩ := h.noRoute_read c
    exact ⟨⟨_, rfl, rtc, rtcAlone⟩, ⟨_, rfl, mout, moutAlone⟩, ⟨s.readWord_noRoute c, _, rfl, route, routeAlone⟩,
      ⟨_, rfl, h.snapNow_read c⟩, ⟨_, rfl, s.portSel_write c v⟩⟩

end Sys2Proof.Machine
end

section
/-! SUPPORT. What the work that follows a sentinel trip leaves alone (R254 to R256): the clock, the registers of the MEAS page, and the
events that are pending. One lemma per operation, in the order of the model. -/

namespace Sys2Proof.Machine

/-- `t` stands at the tick of `a`, has its registers of the MEAS page, and every event that was pending in `a` is pending in it. -/
structure State.Spares (a t : State) : Prop where
  now : t.now = a.now
  regs : wfFrom regDefault 0 t.regs = true
  meas : ∀ k, 0x2000 ≤ k → k < 0x3000 → t.reg k = a.reg k
  rang : ∀ c e, a.rang c e → t.rang c e

/-- No copy of the field lies in the MEAS page. -/
def Fld.offMeas (f : Fld) : Bool := decide (0x3000 ≤ f.base) || (decide (f.base < 0x2000) && decide (f.stride = 0))

theorem Fld.offMeas_key {f : Fld} (h : f.offMeas = true) (i : Nat) : f.base + f.stride * i < 0x2000 ∨ 0x3000 ≤ f.base + f.stride * i := by
  simp only [Fld.offMeas, Bool.or_eq_true, Bool.and_eq_true, decide_eq_true_eq] at h
  obtain high | ⟨low, single⟩ := h
  · exact .inr (Nat.le_add_right_of_le high)
  · exact .inl (by simpa [single] using low)

theorem Ctx.checkEvents_evpend (v : Ctx) : v.checkEvents.evpend = v.evpend := by
  unfold Ctx.checkEvents
  split
  · rfl
  · split <;> rfl

theorem Ctx.raise_evpend (v : Ctx) (t e : Nat) : (v.raise t e).evpend = v.evpend ||| BitVec.ofNat 32 (2 ^ e) := by
  rw [Ctx.raise, Ctx.checkEvents_evpend]

namespace State

variable {a s : State}

theorem Spares.refl (h : wfFrom regDefault 0 s.regs = true) : s.Spares s := ⟨rfl, h, fun _ _ _ => rfl, fun _ _ r => r⟩

/-- Only the clock, the registers and the contexts count. -/
theorem Spares.same {pending free struck wrote rtime rtHold hfo lastTime latches mem eccBad holder hostSel servedSel dma serving load nvmQ
    ports trips replyAt primSince upFrom bbx meas ladle snap power safe sfu rack hostPort boot lt cvu} (h : a.Spares s) :
    a.Spares ⟨pending, s.now, free, struck, wrote, rtime, rtHold, hfo, lastTime, s.regs, latches, mem, eccBad, s.ctxs, holder,
      hostSel, servedSel, dma, serving, load, nvmQ, ports, trips, replyAt, primSince, upFrom, bbx, meas, ladle, snap, power, safe, sfu,
      rack, hostPort, boot, lt, cvu⟩ := ⟨h.now, h.regs, h.meas, h.rang⟩

theorem Spares.ite {t : State} {c : Prop} [Decidable c] (hs : a.Spares s) (ht : a.Spares t) : a.Spares (if c then s else t) := by
  split
  · exact hs
  · exact ht

theorem Spares.forAll {α : Type} {l : List α} {f : α → State → State} (h : a.Spares s) (hf : ∀ x t, a.Spares t → a.Spares (f x t)) :
    a.Spares (Machine.forAll l f s) := by
  unfold Machine.forAll
  induction l generalizing s with
  | nil => exact h
  | cons x l ih => exact ih (hf x s h)

theorem Spares.setReg {k w} (h : a.Spares s) (hk : k < 0x2000 ∨ 0x3000 ≤ k) : a.Spares (s.setReg k w) where
  now := h.now
  regs := regs_wf_setReg s k w h.regs
  meas j hlo hhi := (reg_setReg_other s k j w h.regs (by omega)).trans (h.meas j hlo hhi)
  rang := h.rang

theorem Spares.setFld {f v i} (h : a.Spares s) (hf : f.offMeas = true := by decide) : a.Spares (s.setFld f v i) := by
  unfold State.setFld
  exact h.setReg (Fld.offMeas_key hf i)

theorem Spares.update {t f v i} (h : a.Spares s) (hf : f.offMeas = true := by decide) : a.Spares (s.update t f v i) := by
  unfold State.update
  exact h.setReg (Fld.offMeas_key hf i)

theorem Spares.setFlag {f b i} (h : a.Spares s) (hf : f.offMeas = true := by decide) : a.Spares (s.setFlag f b i) := by
  unfold State.setFlag
  exact (h.setFld hf).same

theorem Spares.setBitOf {f n b i} (h : a.Spares s) (hf : f.offMeas = true := by decide) : a.Spares (s.setBitOf f n b i) := by
  unfold State.setBitOf
  exact (h.setFld hf).same

theorem Spares.countBy {f n i} (h : a.Spares s) (hf : f.offMeas = true := by decide) : a.Spares (s.countBy f n i) := by
  unfold State.countBy
  exact h.setFld hf

theorem Spares.count {f i} (h : a.Spares s) (hf : f.offMeas = true := by decide) : a.Spares (s.count f i) := by
  unfold State.count
  exact h.countBy hf

theorem Spares.raise {e} (h : a.Spares s) : a.Spares (s.raise e) := by
  have kept : ∀ c d, s.rang c d → (s.raise e).rang c d := fun c d hd => by
    have bit : ((s.ctx c).evpend ||| BitVec.ofNat 32 (2 ^ e)).getLsbD d = true := by
      rw [BitVec.getLsbD_or, show (s.ctx c).evpend.getLsbD d = true from hd, Bool.true_or]
    unfold State.raise State.rang
    split
    · by_cases hc : c = 0
      · subst hc
        rwa [ctx_modCtx_same, Ctx.raise_evpend]
      · rwa [ctx_modCtx_other _ _ _ _ hc]
    · rwa [ctx_modAll, Ctx.raise_evpend]
  exact ⟨(raise_now s e).trans h.now, (congrArg _ (raise_regs s e)).trans h.regs,
    fun k hlo hhi => (congrArg (look regDefault · k) (raise_regs s e)).trans (h.meas k hlo hhi), fun c d r => kept c d (h.rang c d r)⟩

theorem Spares.setPort {p v} (h : a.Spares s) : a.Spares (s.setPort p v) := by unfold State.setPort; exact h.same
theorem Spares.modPort {p f} (h : a.Spares s) : a.Spares (s.modPort p f) := by unfold State.modPort; exact h.setPort
theorem Spares.didWork {i n stack} (h : a.Spares s) : a.Spares (s.didWork i n stack) := by unfold State.didWork; exact h.ite h.same
theorem Spares.raisePort {p} (h : a.Spares s) : a.Spares (s.raisePort p) := by unfold State.raisePort; exact h.ite h.raise
theorem Spares.setLink {p st} (h : a.Spares s) : a.Spares (s.setLink p st) := by unfold State.setLink; exact h.ite h.setFld.raisePort
theorem Spares.txFail {u p} (h : a.Spares s) : a.Spares (s.txFail u p) := by
  unfold State.txFail
  extract_lets s1
  have h1 : a.Spares s1 := h.count
  split
  · exact h1.setBitOf.raise
  · exact h1.count
  · exact h1

theorem Spares.ackLost {p i} (h : a.Spares s) : a.Spares (s.ackLost p i) := by unfold State.ackLost; exact h.modPort.ite h
theorem Spares.failItem {p i} (h : a.Spares s) : a.Spares (s.failItem p i) := by
  unfold State.failItem
  extract_lets s1 s2
  have h1 : a.Spares s1 := h.ackLost
  have h2 : a.Spares s2 := h1.count
  split
  · exact h1.txFail
  · split
    · exact h1
    · split
      · exact h2.txFail
      · exact h2

theorem Spares.startTx {p i} (h : a.Spares s) : a.Spares (s.startTx p i) := by
  unfold State.startTx
  exact h.setPort.setFld.ite h.setPort

theorem Spares.preempt {p} (h : a.Spares s) : a.Spares (s.preempt p) := by
  unfold State.preempt
  dsimp only
  split
  · exact h.setPort.ite h
  · exact h

theorem Spares.unpick {p} (h : a.Spares s) : a.Spares (s.unpick p) := by
  unfold State.unpick
  dsimp only
  split
  · exact h.setPort.setFld.ite h
  · exact h

theorem Spares.unplan {p} (h : a.Spares s) : a.Spares (s.unplan p) := by
  unfold State.unplan
  split
  · exact h.unpick.ite h
  · exact h

theorem Spares.recall {p} (h : a.Spares s) : a.Spares (s.recall p) := by unfold State.recall; exact h.unpick.ite h
theorem Spares.dropMissed {p} (h : a.Spares s) : a.Spares (s.dropMissed p) := by unfold State.dropMissed; exact h.modPort
theorem Spares.dropLate {p} (h : a.Spares s) : a.Spares (s.dropLate p) := by unfold State.dropLate; exact h.modPort.setFlag.ite h
theorem Spares.kick {p} (h : a.Spares s) : a.Spares (s.kick p) := by
  unfold State.kick
  extract_lets s1
  have h1 : a.Spares s1 := h.dropMissed.dropLate.unplan.preempt
  split
  · exact h1
  · split
    · split
      · exact h1.setPort.startTx
      · exact h1.startTx.ite h1
    · exact h1.startTx.ite h1

theorem Spares.resume {p} (h : a.Spares s) : a.Spares (s.resume p) := by unfold State.resume; exact h.modPort.setLink.kick.ite h
theorem Spares.await {p i} (h : a.Spares s) : a.Spares (s.await p i) := by unfold State.await; exact h.modPort
theorem Spares.enqueue {p i} (h : a.Spares s) : a.Spares (s.enqueue p i) := by
  unfold State.enqueue
  exact h.failItem.ite (h.await.kick.ite (h.await.ite (h.await.resume.ite h.failItem)))

theorem Spares.sendMirror {p payload use} (h : a.Spares s) : a.Spares (s.sendMirror p payload use) := by
  unfold State.sendMirror
  exact h.ite h.enqueue

theorem Spares.mrecTo {area r} (h : a.Spares s) : a.Spares (s.mrecTo area r) := by
  unfold State.mrecTo
  dsimp only
  split
  · split
    · exact h.ite h.sendMirror
    · exact h
  · split
    · exact h.ite h.sendMirror
    · exact h

theorem Spares.mirror {r} (h : a.Spares s) : a.Spares (s.mirror r) := by unfold State.mirror; exact (h.ite h.same).mrecTo.mrecTo
theorem Spares.handoff {kind sticky origin content owner} (h : a.Spares s) : a.Spares (s.handoff kind sticky origin content owner) :=
    by
  unfold State.handoff
  extract_lets _ _ _ _ _ _ s1 s2 s3
  have h1 : a.Spares s1 := h.same.setFld
  have h2 : a.Spares s2 := h1.setFlag.raise.ite h1
  have h3 : a.Spares s3 := h2.count.ite h2
  exact h3.mirror.ite h1.same

theorem Spares.bbxAppend {kind sticky content} (h : a.Spares s) : a.Spares (s.bbxAppend kind sticky content) := by
  unfold State.bbxAppend
  exact h.count.ite (h.handoff.ite h.same)

theorem Spares.moveUp {old new} (h : a.Spares s) : a.Spares (s.moveUp old new) := by
  unfold State.moveUp
  exact h.ite ((h.recall.ite h).setPort.forAll (fun _ _ h => h.enqueue)).kick

theorem Spares.switchUp {p sec} (h : a.Spares s) : a.Spares (s.switchUp p sec) := by
  unfold State.switchUp
  exact h.setFld.setFlag.setFlag.ite (h.setFld.setFlag.setFlag.setFlag (by cases sec <;> decide)).raise.moveUp

theorem Spares.primaryAfterAll (h : a.Spares s) : a.Spares s.primaryAfterAll := by
  unfold State.primaryAfterAll
  dsimp only
  split
  · exact h.setFlag.setFlag.switchUp.moveUp.same
  · exact h

theorem Spares.updateUp (h : a.Spares s) : a.Spares s.updateUp := by
  unfold State.updateUp
  extract_lets _ _ s1 _ s2
  have h1 : a.Spares s1 := h.same
  have h2 : a.Spares s2 := h1.switchUp
  split
  · exact h1.primaryAfterAll
  · split
    · split
      · exact h1.switchUp.ite h1
      · exact h1
    · exact h1.switchUp.ite (h2.same.ite h1.setFlag)

theorem Spares.relink {p st} (h : a.Spares s) : a.Spares (s.relink p st) := by unfold State.relink; exact h.setLink.updateUp
theorem Spares.putCheck {p check cause} (h : a.Spares s) : a.Spares (s.putCheck p check cause) := by
  unfold State.putCheck
  exact h.setFld.setFld.setFlag.ite h.setFld.setFld.setFlag.raise

theorem Spares.setCheck {p check cause} (h : a.Spares s) : a.Spares (s.setCheck p check cause) := by
  unfold State.setCheck
  exact h.putCheck.updateUp

theorem Spares.setDelay {p d} (h : a.Spares s) : a.Spares (s.setDelay p d) := by
  unfold State.setDelay
  dsimp only
  split
  · exact h.same
  · split
    · exact h.setFld.setFlag
    · exact h.setFlag

theorem Spares.forgetAborted {p} (h : a.Spares s) : a.Spares (s.forgetAborted p) := by unfold State.forgetAborted; exact h.same
theorem Spares.failAll {p keep any} (h : a.Spares s) : a.Spares (s.failAll p keep any) := by
  unfold State.failAll
  exact (h.recall.ite h).setPort.forAll (fun _ _ h => h.failItem)

theorem Spares.putCounts {p c} (h : a.Spares s) : a.Spares (s.putCounts p c) := by
  unfold State.putCounts
  exact h.setFld.setFld.setFld.setFld

theorem Spares.endPrimer {p result} (h : a.Spares s) : a.Spares (s.endPrimer p result) := by
  unfold State.endPrimer
  exact h.putCounts.setBitOf.setBitOf.setFld.same.modPort

theorem Spares.endLink {p st phase} (h : a.Spares s) : a.Spares (s.endLink p st phase) := by
  unfold State.endLink
  extract_lets _ s1 s2 s3 s4
  have h1 : a.Spares s1 := h.relink
  have h2 : a.Spares s2 := h1.failAll.forgetAborted
  have h3 : a.Spares s3 := h2.modPort
  have h4 : a.Spares s4 := h3.ite h3.setCheck
  exact h4.setDelay.setFlag

theorem Spares.startLink {p} (h : a.Spares s) : a.Spares (s.startLink p) := by unfold State.startLink; exact h.endLink.modPort.ite h
theorem Spares.abortPrimer {p} (h : a.Spares s) : a.Spares (s.abortPrimer p) := by
  unfold State.abortPrimer
  exact h.endPrimer.startLink.ite h

theorem Spares.modShuttle {k f} (h : a.Spares s) : a.Spares (s.modShuttle k f) := by unfold State.modShuttle; exact h.same
theorem Spares.settleClamp {k} (h : a.Spares s) : a.Spares (s.settleClamp k) := by
  unfold State.settleClamp
  exact h.ite (h.countBy.modShuttle.ite h.countBy.modShuttle.setFlag.raise)

theorem Spares.clampStep {k} (h : a.Spares s) : a.Spares (s.clampStep k) := by
  unfold State.clampStep
  exact h.settleClamp.modShuttle.ite h.settleClamp

theorem Spares.holdCycle {k} (h : a.Spares s) : a.Spares (s.holdCycle k) := by
  unfold State.holdCycle
  dsimp only
  split
  · exact h
  · exact h.modShuttle

theorem Spares.applyCurrent {k} (h : a.Spares s) : a.Spares (s.applyCurrent k) := by
  unfold State.applyCurrent
  exact (h.ite h.holdCycle).setFld.setFlag.clampStep

theorem Spares.idleShuttle {k} (h : a.Spares s) : a.Spares (s.idleShuttle k) := by
  unfold State.idleShuttle
  exact h.setFld.setFlag.setFlag.modShuttle.applyCurrent.modShuttle

theorem Spares.addSigned64 {lo hi d i} (h : a.Spares s) (hl : lo.offMeas = true := by decide) (hh : hi.offMeas = true := by decide) :
    a.Spares (s.addSigned64 lo hi d i) := by
  unfold State.addSigned64
  exact (h.setFld hl).setFld hh

theorem Spares.accountShuttle {k nc} (h : a.Spares s) : a.Spares (s.accountShuttle k nc) := by
  unfold State.accountShuttle
  exact (h.modShuttle.setFld.addSigned64.idleShuttle.setFlag.ite h.modShuttle.setFld.addSigned64).ite h

theorem Spares.bookShuttle {k} (h : a.Spares s) : a.Spares (s.bookShuttle k) := by
  unfold State.bookShuttle
  exact h.modShuttle.accountShuttle

theorem Spares.endCycle {k} (h : a.Spares s) : a.Spares (s.endCycle k) := by unfold State.endCycle; exact h.modShuttle
theorem Spares.stopOp {k} (h : a.Spares s) : a.Spares (s.stopOp k) := by
  unfold State.stopOp
  exact h.bookShuttle.setFld.idleShuttle.ite h.bookShuttle

theorem Spares.stopOpBy {why k} (h : a.Spares s) (hf : why.offMeas = true := by decide) : a.Spares (s.stopOpBy why k) := by
  unfold State.stopOpBy
  exact (h.bookShuttle.stopOp.setFlag hf).ite h.bookShuttle

theorem Spares.beginOp {k op cell target ceil at_ part} (h : a.Spares s) : a.Spares (s.beginOp k op cell target ceil at_ part) := by
  unfold State.beginOp
  exact h.setFld.setFld.setFld.setFld.update.setFlag.setFlag.modShuttle.applyCurrent

theorem Spares.settleShuttle {k} (h : a.Spares s) : a.Spares (s.settleShuttle k) := by
  unfold State.settleShuttle
  split
  · exact h.modShuttle.stopOpBy.beginOp.modShuttle
  · exact h

theorem Spares.settleShuttles (h : a.Spares s) : a.Spares s.settleShuttles := by
  unfold State.settleShuttles
  exact h.forAll (fun _ _ h => h.settleShuttle)

theorem Spares.dropNext {k} (h : a.Spares s) : a.Spares (s.dropNext k) := by unfold State.dropNext; exact h.modShuttle
theorem Spares.stopBy {why k} (h : a.Spares s) (hf : why.offMeas = true := by decide) : a.Spares (s.stopBy why k) := by
  unfold State.stopBy
  exact h.settleShuttle.dropNext.endCycle.stopOpBy hf

theorem Spares.syncBleed (h : a.Spares s) : a.Spares s.syncBleed := by unfold State.syncBleed; exact h.setFlag.ite h.setFlag.same
theorem Spares.setLeft {cell nc} (h : a.Spares s) : a.Spares (s.setLeft cell nc) := by
  unfold State.setLeft
  dsimp only
  split
  · exact h.same.setFld
  · exact h

theorem Spares.setClosedFor {cell n} (h : a.Spares s) : a.Spares (s.setClosedFor cell n) := by
  unfold State.setClosedFor
  dsimp only
  split
  · exact h.same
  · exact h

theorem Spares.setTarget {cell nc} (h : a.Spares s) : a.Spares (s.setTarget cell nc) := by unfold State.setTarget; exact h.same.setLeft
theorem Spares.bleedOpen {cell} (h : a.Spares s) : a.Spares (s.bleedOpen cell) := by
  unfold State.bleedOpen
  exact h.setBitOf.setTarget.syncBleed

theorem Spares.bookBleed {cell} (h : a.Spares s) : a.Spares (s.bookBleed cell) := by
  unfold State.bookBleed
  extract_lets _ _ s1 s2 s3
  have h1 : a.Spares s1 := h.setFld.setFld
  have h2 : a.Spares s2 := h1.setClosedFor
  have h3 : a.Spares s3 := h2.setLeft
  exact (h3.bleedOpen.setBitOf.ite h3).ite h2

theorem Spares.bleedOff {cell} (h : a.Spares s) : a.Spares (s.bleedOff cell) := by
  unfold State.bleedOff
  exact h.bookBleed.bleedOpen.ite h.bookBleed

theorem Spares.ladleTrip (h : a.Spares s) : a.Spares s.ladleTrip := by
  unfold State.ladleTrip
  exact (h.forAll (fun _ _ h => h.stopBy)).forAll (fun _ _ h => h.bleedOff.ite h)

theorem Spares.loseBanks (h : a.Spares s) : a.Spares s.loseBanks := h.same
theorem Spares.abortEntry (h : a.Spares s) : a.Spares s.abortEntry := by
  unfold State.abortEntry
  exact (h.same.forAll (fun _ _ h => h.resume)).ite h

theorem Spares.wake {src} (h : a.Spares s) : a.Spares (s.wake src) := by
  unfold State.wake
  exact (h.loseBanks.ite h).setFld.setFld.setBitOf.setFlag.same.ite h.abortEntry

theorem Spares.putBank {b i l} (h : a.Spares s) : a.Spares (s.putBank b i l) := by
  induction l generalizing s i with
  | nil => exact h
  | cons w l ih => exact ih (h.setReg (by split <;> omega))

theorem Spares.putHfo {b} (h : a.Spares s) : a.Spares (s.putHfo b) := by unfold State.putHfo; exact h.putBank.putBank
theorem Spares.setBankAt {bank} (h : a.Spares s) : a.Spares (s.setBankAt bank) := by unfold State.setBankAt; exact h.same
theorem Spares.tripRecord {bank words} (h : a.Spares s) : a.Spares (s.tripRecord bank words) := by
  unfold State.tripRecord
  exact h.bbxAppend

theorem Spares.fillBank {bank} (h : a.Spares s) : a.Spares (s.fillBank bank) := by
  unfold State.fillBank
  exact h.putBank.ite (h.putBank.putBank.putHfo.ite h.putBank.putBank)

theorem Spares.recordLatch {source bank} (h : a.Spares s) : a.Spares (s.recordLatch source bank) := by
  unfold State.recordLatch
  exact (h.tripRecord.ite h).ite h.same

theorem Spares.noteLatch {number bank} (h : a.Spares s) : a.Spares (s.noteLatch number bank) := by
  unfold State.noteLatch
  exact h.setFld.setBankAt.setFlag.ite (h.setFld.setBankAt.ite h.setFld.setBankAt.setFlag).same

theorem Spares.latch {source number bank late} (h : a.Spares s) : a.Spares (s.latch source number bank late) := by
  unfold State.latch
  exact h.ite h.putBank.fillBank.noteLatch.recordLatch.raise

theorem Spares.takeLocal (h : a.Spares s) : a.Spares s.takeLocal.2 := by unfold State.takeLocal; exact h.same
theorem Spares.latchTrip {src p here} (h : a.Spares s) : a.Spares (s.latchTrip src p here) := by
  unfold State.latchTrip
  exact h.same.takeLocal.latch.setFlag.ite h.same.takeLocal.latch

theorem Spares.sendAlarm {p} (h : a.Spares s) : a.Spares (s.sendAlarm p) := by unfold State.sendAlarm; exact h.modPort.didWork
theorem Spares.startAlarm {p} (h : a.Spares s) : a.Spares (s.startAlarm p) := by
  unfold State.startAlarm
  exact h.ite (h.modPort.setFlag.sendAlarm.ite h.modPort.setFlag)

theorem Spares.alarmOn {ok} (h : a.Spares s) : a.Spares (s.alarmOn ok) := by
  unfold State.alarmOn
  exact h.forAll (fun _ _ h => h.startAlarm)

theorem Spares.enqueueTrip {p f} (h : a.Spares s) : a.Spares (s.enqueueTrip p f) := by
  unfold State.enqueueTrip
  exact h.abortPrimer.await.ite h.enqueue

theorem Spares.sendTrip {kind} (h : a.Spares s) : a.Spares (s.sendTrip kind) := by
  unfold State.sendTrip
  dsimp only
  split
  · exact (h.forAll fun _ _ h => h.enqueueTrip).alarmOn
  · have hp (q : Option Port) (f : Port → Frame) :
        a.Spares (match q with | some p => s.enqueueTrip p (f p) | none => s) := by
      split
      · exact h.enqueueTrip
      · exact h
    split
    · exact (hp _ _).ite (hp _ _).enqueueTrip
    · exact hp _ _

theorem Spares.sendTrips {kind n} (h : a.Spares s) : a.Spares (s.sendTrips kind n) := by
  induction n generalizing s with
  | zero => exact h
  | succ n ih => exact ih h.sendTrip

end State
end Sys2Proof.Machine
end

section
/-! SUPPORT. O30: bits of fields, and one sample of one cell (R251, R253). -/

namespace Sys2Proof.Machine

/-! ## Bits of registers -/

theorem bitAt_eq_testBit (n i : Nat) : bitAt n i = n.testBit i := by
  rw [bitAt, bitsAt, pow_one, Nat.testBit_eq_decide_div_mod_eq]

theorem State.fld_testBit (s : State) (f : Fld) (i n : Nat) : (s.fld f i).testBit n = s.bitOf f n i := (bitAt_eq_testBit _ n).symm

/-- `setBitOf` writes one bit of its field. -/
theorem State.bitOf_setBitOf {s : State} (h : wfFrom regDefault 0 s.regs = true) {f : Fld} (hf : f.lo + f.width ≤ 32) {n m : Nat}
    (hm : m < f.width) (b : Bool) (i : Nat) : (s.setBitOf f n b i).bitOf f m i = if m = n then b else s.bitOf f m i := by
  have field : (s.setBitOf f n b i).fld f i = withBits (s.fld f i) n 1 (if b then 1 else 0) % 2 ^ f.width := fld_setFld_same s f _ i h hf
  rw [← State.fld_testBit, field, Nat.testBit_mod_two_pow, withBits_testBit, ← State.fld_testBit, decide_eq_true hm, Bool.true_and]
  by_cases hmn : m = n
  · subst hmn
    cases b <;> simp
  · have apart : m < n ∨ ¬m < n ∧ ¬m < n + 1 := by omega
    obtain below | ⟨notBelow, above⟩ := apart
    · simp [below, hmn]
    · simp [notBelow, above, hmn]

/-- Another field of the same register keeps its bits. -/
theorem State.bitOf_setBitOf_other {s : State} (h : wfFrom regDefault 0 s.regs = true) (f : Fld) {g : Fld} (n : Nat) (b : Bool) (m : Nat)
    (hk : g.base + g.stride * 0 = f.base + f.stride * 0) (hg : g.lo + g.width ≤ 32)
    (ha : g.lo + g.width ≤ f.lo ∨ f.lo + f.width ≤ g.lo) : (s.setBitOf f n b).bitOf g m = s.bitOf g m :=
  congrArg (bitAt · m) (fld_setFld_beside s f g _ 0 0 h hk hg ha)

/-! ## One sample of one cell -/

/-- What the sentinels hold of cell `n` + 1: its live bits and its counts. -/
def State.cellSeen (s : State) (n : Nat) : Bool × Bool × Nat × Nat :=
  (s.bitOf Reg.SENT_LIVE.OV n, s.bitOf Reg.SENT_LIVE.UV n, countOf s.meas.sentOver n, countOf s.meas.sentUnder n)

/-- What they hold of it after a sample of `v`. -/
def State.cellNext (s : State) (n : Nat) (v : Int) : Bool × Bool × Nat × Nat :=
  (liveAfter (s.bitOf Reg.SENT_LIVE.OV n) (decide (s.ovLimit n < v)) (decide (v ≤ s.ovLimit n - 20000)),
    liveAfter (s.bitOf Reg.SENT_LIVE.UV n) (decide (v < s.uvLimit n)) (decide (s.uvLimit n + 20000 ≤ v)),
    countAfter (countOf s.meas.sentOver n) (decide (s.ovLimit n < v)), countAfter (countOf s.meas.sentUnder n) (decide (v < s.uvLimit n)))

/-- `t` differs from `s` in what samples change alone: the live bits and the counts. -/
structure State.SampledFrom (s t : State) : Prop where
  now : t.now = s.now
  mem : t.mem = s.mem
  ctxs : t.ctxs = s.ctxs
  regs : wfFrom regDefault 0 t.regs = true
  reg : ∀ k, k ≠ 0x2070 → t.reg k = s.reg k

theorem countOf_setCount (v : Vector Nat 12) {n m : Nat} (hn : n < 12) (hm : m < 12) (k : Nat) :
    countOf (setCount v n k) m = if m = n then k else countOf v m := by
  simp [countOf, setCount, hn, hm, Vector.getElem_set, List.getD_eq_getElem?_getD, eq_comm]

theorem State.sampleCell_sampledFrom {s : State} (h : wfFrom regDefault 0 s.regs = true) (n : Nat) (v : Int) :
    s.SampledFrom (s.sampleCell n v) where
  now := rfl
  mem := rfl
  ctxs := rfl
  regs := regs_wf_setFld _ _ _ _ (regs_wf_setFld _ _ _ _ h)
  reg k hk := (reg_setReg_other _ 0x2070 k _ (regs_wf_setFld _ _ _ _ h) hk).trans (reg_setReg_other s 0x2070 k _ h hk)

/-- A sample of cell `n` + 1 changes what is held of that cell alone. -/
theorem State.sampleCell_seen {s : State} (h : wfFrom regDefault 0 s.regs = true) {n m : Nat} (hn : n < 12) (hm : m < 12) (v : Int) :
    (s.sampleCell n v).cellSeen m = if m = n then s.cellNext n v else s.cellSeen m := by
  have h1 : wfFrom regDefault 0 (s.setBitOf Reg.SENT_LIVE.OV n (s.cellNext n v).1).regs = true := regs_wf_setFld _ _ _ _ h
  have high : (s.sampleCell n v).bitOf Reg.SENT_LIVE.OV m = if m = n then (s.cellNext n v).1 else s.bitOf Reg.SENT_LIVE.OV m :=
    (State.bitOf_setBitOf_other h1 Reg.SENT_LIVE.UV (g := Reg.SENT_LIVE.OV) n (s.cellNext n v).2.1 m rfl (by decide) (by decide)).trans
      (State.bitOf_setBitOf h (f := Reg.SENT_LIVE.OV) (by decide) hm _ 0)
  have low : (s.sampleCell n v).bitOf Reg.SENT_LIVE.UV m = if m = n then (s.cellNext n v).2.1 else s.bitOf Reg.SENT_LIVE.UV m :=
    (State.bitOf_setBitOf h1 (f := Reg.SENT_LIVE.UV) (by decide) hm _ 0).trans
      (congrArg _ (State.bitOf_setBitOf_other h Reg.SENT_LIVE.OV (g := Reg.SENT_LIVE.UV) n _ m rfl (by decide) (by decide)))
  have countHigh : countOf (s.sampleCell n v).meas.sentOver m = if m = n then (s.cellNext n v).2.2.1 else countOf s.meas.sentOver m :=
    countOf_setCount _ hn hm _
  have countLow : countOf (s.sampleCell n v).meas.sentUnder m = if m = n then (s.cellNext n v).2.2.2 else countOf s.meas.sentUnder m :=
    countOf_setCount _ hn hm _
  rw [State.cellSeen, high, low, countHigh, countLow]
  by_cases hmn : m = n
  · simp [hmn]
  · simp [hmn, State.cellSeen]

/-! ## A sample of the cells -/

theorem State.SampledFrom.refl {s : State} (h : wfFrom regDefault 0 s.regs = true) : s.SampledFrom s := ⟨rfl, rfl, rfl, h, fun _ _ => rfl⟩

theorem State.SampledFrom.trans {s t u : State} (h : s.SampledFrom t) (g : t.SampledFrom u) : s.SampledFrom u :=
  ⟨g.now.trans h.now, g.mem.trans h.mem, g.ctxs.trans h.ctxs, g.regs, fun k hk => (g.reg k hk).trans (h.reg k hk)⟩

theorem State.SampledFrom.fld {s t : State} (h : s.SampledFrom t) (f : Fld) (i : Nat) (hf : f.base + f.stride * i ≠ 0x2070) :
    t.fld f i = s.fld f i := by rw [State.fld, h.reg _ hf, State.fld]

theorem State.SampledFrom.cellNext {s t : State} (h : s.SampledFrom t) {n : Nat} (seen : t.cellSeen n = s.cellSeen n) (v : Int) :
    t.cellNext n v = s.cellNext n v := by
  have widen : t.fld Reg.MEAS_WIDEN.W n = s.fld Reg.MEAS_WIDEN.W n := h.fld _ _ (by simp only [Reg.MEAS_WIDEN.W]; omega)
  have ov : t.ovLimit n = s.ovLimit n := by rw [State.ovLimit, widen, h.fld Reg.SENT_OV.CODE 0 (by decide), State.ovLimit]
  have uv : t.uvLimit n = s.uvLimit n := by rw [State.uvLimit, widen, h.fld Reg.SENT_UV.CODE 0 (by decide), State.uvLimit]
  simp only [State.cellSeen, Prod.mk.injEq] at seen
  simp only [State.cellNext, ov, uv, seen]

/-- Samples of the cells numbered in `l`, each once. -/
theorem State.sampleCells {l : List Nat} (hl : ∀ n ∈ l, n < 12) (once : l.Nodup) (cells : List Int) {s : State}
    (h : wfFrom regDefault 0 s.regs = true) :
    let t := forAll l (fun n t => t.sampleCell n (cells.getD n 0)) s
    s.SampledFrom t ∧ ∀ m, m < 12 → t.cellSeen m = if m ∈ l then s.cellNext m (cells.getD m 0) else s.cellSeen m := by
  induction l generalizing s with
  | nil => exact ⟨.refl h, fun m _ => by simp [forAll]⟩
  | cons n l ih =>
    obtain ⟨hn, rest⟩ := List.forall_mem_cons.mp hl
    obtain ⟨new, once⟩ := List.nodup_cons.mp once
    have first := State.sampleCell_sampledFrom h n (cells.getD n 0)
    obtain ⟨frame, seen⟩ := ih rest once first.regs
    refine ⟨first.trans frame, fun m hm => ?_⟩
    have step := State.sampleCell_seen h hn hm (cells.getD n 0)
    refine (seen m hm).trans ?_
    by_cases hmn : m = n
    · subst hmn
      rw [if_neg new, step, if_pos rfl, if_pos List.mem_cons_self]
    · rw [if_neg hmn] at step
      rw [first.cellNext step, step]
      simp [hmn]


end Sys2Proof.Machine
end

section
/-! SUPPORT. O30: the sample of the twelve cells and the trip that follows it. -/

namespace Sys2Proof.Machine

/-! ## Counts that reach COUNT -/

theorem testBit_sum_two_pow {l : List Nat} (h : l.Nodup) (i : Nat) : ((l.map (2 ^ ·)).sum).testBit i = decide (i ∈ l) := by
  have apart : (l.map (2 ^ ·)).Pairwise fun a b => ∀ j, a.testBit j = true → b.testBit j = false := by
    refine List.pairwise_map.mpr (h.imp fun {m n} hne j hj => ?_)
    simp only [Nat.testBit_two_pow, decide_eq_true_eq, decide_eq_false_iff_not] at hj ⊢
    omega
  rw [testBit_sum apart, List.any_map, Bool.eq_iff_iff, List.any_eq_true]
  simp [Nat.testBit_two_pow]

/-- The channels with a bit in `reached` are the enabled ones whose count is COUNT. -/
theorem State.reached_testBit (s : State) (v : Vector Nat 12) (n : Nat) : (s.reached v).testBit n =
    decide (n < 12 ∧ s.bitOf Reg.SENT_CFG.MASK n = true ∧ countOf v n = s.sentCount) := by
  rw [State.reached, testBit_sum_two_pow (List.nodup_range.filter _)]
  simp [List.mem_filter]

theorem State.sentCount_bounds (s : State) : 1 ≤ s.sentCount ∧ s.sentCount ≤ 8 := by
  simp only [State.sentCount, Bool.and_eq_true, decide_eq_true_eq]
  split <;> omega

/-! ## A trip -/

theorem State.raise_rang (s : State) {e : Nat} (he : e < 32) (h : ctx0Event e = false) (c : Cid) : (s.raise e).rang c e := by
  have bit : ((s.ctx c).evpend ||| BitVec.ofNat 32 (2 ^ e)).getLsbD e = true := by
    rw [BitVec.getLsbD_or, mask_getLsbD _ he, Nat.testBit_two_pow_self, Bool.or_true]
  rwa [State.rang, State.raise, h, if_neg Bool.false_ne_true, ctx_modAll, Ctx.raise_evpend]

theorem State.sentTrip_after {s : State} (h : wfFrom regDefault 0 s.regs = true) (ov uv : Nat) :
    ((s.strike Reg.SENT_ST.OV ov).strike Reg.SENT_ST.UV uv).Spares (s.sentTrip ov uv) ∧
      ∀ c, (s.sentTrip ov uv).rang c Ev.SENTINEL := by
  unfold State.sentTrip
  extract_lets _ _ s1 s2 s3 s4
  have h1 : s1.Spares s1 := .refl (regs_wf_setFld _ _ _ _ (regs_wf_setFld _ _ _ _ h))
  have h2 : s1.Spares s2 := h1.latchTrip
  have rest {a : State} (g : a.Spares (s2.raise Ev.SENTINEL)) (n : Nat) (kind : Byte) :
      a.Spares (if n = 0 then s4 else (s4.sendTrips kind n).raise Ev.TRIP_SEEN) := by
    have h3 : a.Spares s3 := g.ladleTrip.wake
    have h4 : a.Spares s4 := h3.alarmOn.ite h3
    exact h4.ite h4.sendTrips.raise
  exact ⟨rest h2.raise _ _, fun c => (rest (.refl h2.raise.regs) _ _).rang c _ (s2.raise_rang (by decide) (by decide) c)⟩

/-- The bits that a trip strikes are set in SENT_ST. -/
theorem State.strike_strike_bitOf {s : State} (h : wfFrom regDefault 0 s.regs = true) (ov uv : Nat) {n : Nat} (hn : n < 12)
    (hit : ov.testBit n = true) : ((s.strike Reg.SENT_ST.OV ov).strike Reg.SENT_ST.UV uv).bitOf Reg.SENT_ST.OV n = true := by
  have second : ((s.strike Reg.SENT_ST.OV ov).strike Reg.SENT_ST.UV uv).fld Reg.SENT_ST.OV =
      (s.strike Reg.SENT_ST.OV ov).fld Reg.SENT_ST.OV :=
    fld_setFld_beside _ Reg.SENT_ST.UV Reg.SENT_ST.OV _ 0 0 (regs_wf_setFld _ _ _ _ h) rfl (by decide) (by decide)
  have first : (s.strike Reg.SENT_ST.OV ov).fld Reg.SENT_ST.OV = (s.fld Reg.SENT_ST.OV ||| ov) % 2 ^ 12 :=
    fld_setFld_same s Reg.SENT_ST.OV _ 0 h (by decide)
  rw [← State.fld_testBit, second, first, Nat.testBit_mod_two_pow, Nat.testBit_or, hit, Bool.or_true, Bool.and_true, decide_eq_true hn]

/-! ## The sample -/

/-- The machine when the twelve cells are sampled and CFGERR is known to be 0, before what the counts ask for. -/
def State.sensed (s : State) (cells : List Int) : State :=
  (forAll ((List.range 12).filter fun n => s.bitOf Reg.SENT_CFG.MASK n) (fun n t => t.sampleCell n (cells.getD n 0)) s).setFlag
    Reg.SENT_ST.CFGERR false

theorem State.fld_setFlag_above {s : State} (h : wfFrom regDefault 0 s.regs = true) (f g : Fld) (b : Bool)
    (hk : g.base + g.stride * 0 = f.base + f.stride * 0) (hg : g.lo + g.width ≤ f.lo) (hw : f.lo ≤ 32) :
    (s.setFlag f b).fld g = s.fld g := fld_setFld_beside s f g _ 0 0 h hk (hg.trans hw) (.inl hg)

theorem State.cellSeen_setFlag {s : State} (h : wfFrom regDefault 0 s.regs = true) {f : Fld} (b : Bool) (n : Nat)
    (hf : f.base + f.stride * 0 = 0x206C) : (s.setFlag f b).cellSeen n = s.cellSeen n := by
  have live (g : Fld) (hg : g.base + g.stride * 0 = 0x2070) : (s.setFlag f b).bitOf g n = s.bitOf g n :=
    congrArg (bitAt · n) (fld_setFld_apart s f g _ 0 0 h (by rw [hf, hg]; decide))
  rw [State.cellSeen, live Reg.SENT_LIVE.OV rfl, live Reg.SENT_LIVE.UV rfl]
  rfl

/-- What the machine is when the cells are sampled. -/
structure State.Sensed (s t : State) (cells : List Int) : Prop where
  now : t.now = s.now
  mem : t.mem = s.mem
  ctxs : t.ctxs = s.ctxs
  regs : wfFrom regDefault 0 t.regs = true
  ov : t.fld Reg.SENT_ST.OV = s.fld Reg.SENT_ST.OV
  uv : t.fld Reg.SENT_ST.UV = s.fld Reg.SENT_ST.UV
  cfg : t.reg 0x2068 = s.reg 0x2068
  seen : ∀ n, n < 12 → s.bitOf Reg.SENT_CFG.MASK n = true → t.cellSeen n = s.cellNext n (cells.getD n 0)

theorem State.sensed_of {s : State} (h : wfFrom regDefault 0 s.regs = true) (cells : List Int) : s.Sensed (s.sensed cells) cells := by
  obtain ⟨frame, seen⟩ := State.sampleCells (l := (List.range 12).filter fun n => s.bitOf Reg.SENT_CFG.MASK n) (fun n hn => by
    simpa using (List.mem_filter.mp hn).1) (List.nodup_range.filter _) cells h
  have live (n : Nat) : (s.sensed cells).cellSeen n =
      (forAll ((List.range 12).filter fun n => s.bitOf Reg.SENT_CFG.MASK n) (fun n t => t.sampleCell n (cells.getD n 0)) s).cellSeen n :=
    State.cellSeen_setFlag frame.regs false n rfl
  exact {
    now := frame.now
    mem := frame.mem
    ctxs := frame.ctxs
    regs := regs_wf_setFld _ _ _ _ frame.regs
    ov := (State.fld_setFlag_above frame.regs Reg.SENT_ST.CFGERR Reg.SENT_ST.OV false rfl (by decide) (by decide)).trans
      (frame.fld Reg.SENT_ST.OV 0 (by decide))
    uv := (State.fld_setFlag_above frame.regs Reg.SENT_ST.CFGERR Reg.SENT_ST.UV false rfl (by decide) (by decide)).trans
      (frame.fld Reg.SENT_ST.UV 0 (by decide))
    cfg := (reg_setReg_other _ 0x206C 0x2068 _ frame.regs (by decide)).trans (frame.reg _ (by decide))
    seen := fun n hn hm => by
      rw [live, seen n hn, if_pos]
      simp [hn, hm] }

theorem State.sentSample_eq {s : State} (hr : s.sentRuns = true) (hb : s.cfgBad = false) (cells : List Int) :
    let t := s.sensed cells
    let ov := t.reached t.meas.sentOver
    let uv := t.reached t.meas.sentUnder
    ∃ b, s.sentSample cells = (if ov = 0 && uv = 0 then t else t.sentTrip ov uv).setFlag Reg.SENT_ST.CONFIRM b := by
  simp only [State.sentSample, hr, hb, if_true, Bool.false_eq_true, if_false]
  exact ⟨_, rfl⟩

theorem State.Sensed.fldCfg {s t : State} {cells : List Int} (h : s.Sensed t cells) (f : Fld) (hf : f.base + f.stride * 0 = 0x2068) :
    t.fld f = s.fld f := by rw [State.fld, hf, h.cfg, ← hf, State.fld]

theorem State.Sensed.sentCount {s t : State} {cells : List Int} (h : s.Sensed t cells) : t.sentCount = s.sentCount := by
  rw [State.sentCount, h.fldCfg Reg.SENT_CFG.COUNT rfl, State.sentCount]

theorem State.Sensed.mask {s t : State} {cells : List Int} (h : s.Sensed t cells) (n : Nat) :
    t.bitOf Reg.SENT_CFG.MASK n = s.bitOf Reg.SENT_CFG.MASK n := congrArg (bitAt · n) (h.fldCfg Reg.SENT_CFG.MASK rfl)

/-- A sample above the threshold sets the live bit, and the count reaches COUNT when one more sample makes it. -/
theorem State.Sensed.reached {s t : State} {cells : List Int} (h : s.Sensed t cells) {n : Nat} (hn : n < 12)
    (hm : s.bitOf Reg.SENT_CFG.MASK n = true) (hv : s.ovLimit n < cells.getD n 0) (hc : countOf s.meas.sentOver n + 1 = s.sentCount) :
    t.bitOf Reg.SENT_LIVE.OV n = true ∧ (t.reached t.meas.sentOver).testBit n = true := by
  have seen := h.seen n hn hm
  simp only [State.cellSeen, State.cellNext, Prod.mk.injEq, decide_eq_true hv] at seen
  obtain ⟨live, _, count, _⟩ := seen
  have most := s.sentCount_bounds.2
  have full : countOf t.meas.sentOver n = t.sentCount := by
    rw [count, h.sentCount, countAfter, if_pos rfl, hc]
    omega
  refine ⟨live.trans rfl, ?_⟩
  rw [State.reached_testBit, h.mask]
  exact decide_eq_true ⟨hn, hm, full⟩

/-- Cells well inside their thresholds clear the live bits and the counts. -/
theorem State.Sensed.inside {s t : State} {cells : List Int} (h : s.Sensed t cells) {n : Nat} (hn : n < 12)
    (hm : s.bitOf Reg.SENT_CFG.MASK n = true) (hv : s.uvLimit n + 20000 ≤ cells.getD n 0 ∧ cells.getD n 0 ≤ s.ovLimit n - 20000) :
    t.cellSeen n = (false, false, 0, 0) := by
  have notAbove : ¬s.ovLimit n < cells.getD n 0 := by omega
  have notUnder : ¬cells.getD n 0 < s.uvLimit n := by omega
  rw [h.seen n hn hm, State.cellNext]
  simp only [decide_eq_true hv.1, decide_eq_true hv.2, decide_eq_false notAbove, decide_eq_false notUnder, liveAfter, countAfter]
  simp

theorem State.reached_zero {s : State} {v : Vector Nat 12} (h : ∀ n, n < 12 → s.bitOf Reg.SENT_CFG.MASK n = true → countOf v n = 0) :
    s.reached v = 0 := by
  refine Nat.eq_of_testBit_eq fun n => ?_
  rw [State.reached_testBit, Nat.zero_testBit]
  refine decide_eq_false fun ⟨hn, hm, full⟩ => ?_
  have least := s.sentCount_bounds.1
  rw [h n hn hm] at full
  omega

/-- Cells well inside their thresholds reach no count. -/
theorem State.Sensed.calm {s t : State} {cells : List Int} (h : s.Sensed t cells)
    (hv : ∀ n, n < 12 → s.uvLimit n + 20000 ≤ cells.getD n 0 ∧ cells.getD n 0 ≤ s.ovLimit n - 20000) :
    t.reached t.meas.sentOver = 0 ∧ t.reached t.meas.sentUnder = 0 := by
  have counts (n : Nat) (hn : n < 12) (hm : t.bitOf Reg.SENT_CFG.MASK n = true) :
      countOf t.meas.sentOver n = 0 ∧ countOf t.meas.sentUnder n = 0 := by
    have seen := h.inside hn ((h.mask n).symm.trans hm) (hv n hn)
    simp only [State.cellSeen, Prod.mk.injEq] at seen
    exact seen.2.2
  exact ⟨State.reached_zero fun n hn hm => (counts n hn hm).1, State.reached_zero fun n hn hm => (counts n hn hm).2⟩

/-! ## SENTINEL_SAMPLE -/

theorem State.passPower_below (s : State) (n : Nat) : (s.passPower n).below = s.power.below := by
  unfold State.passPower
  dsimp only
  split
  · rfl
  · split <;> rfl

theorem State.sentRuns_advance (s : State) (n : Nat) : (s.advance n).sentRuns = s.sentRuns := by
  rw [State.sentRuns, advance_power, s.passPower_below, State.sentRuns]
  rfl

/-- The state in which the next sample is taken. -/
def State.sampleDue (s : State) : State :=
  let u := s.reach (s.meas.sentAt + s.samplePeriod)
  { u with meas := { u.meas with sentAt := u.now } }

theorem exec_sentinelSample {s : State} (h : s.sentRuns = true) (cells : List Int) :
    exec (.sentinelSample cells) s = .next (s.sampleDue.sentSample cells) := by
  rw [show exec (.sentinelSample cells) s = execSentinelSample cells s from rfl, execSentinelSample, if_pos h]
  rfl

/-- The time that passes till the next sample changes nothing that it looks at. -/
structure State.Awaited (s u : State) : Prop where
  now : u.now = max s.now (s.meas.sentAt + s.samplePeriod)
  regs : u.regs = s.regs
  mem : u.mem = s.mem
  ctxs : u.ctxs = s.ctxs
  runs : u.sentRuns = s.sentRuns
  high : u.meas.sentOver = s.meas.sentOver
  low : u.meas.sentUnder = s.meas.sentUnder

theorem State.sampleDue_awaited (s : State) : s.Awaited s.sampleDue where
  now := (reach_now s _).trans (max_comm _ _)
  regs := reach_keeps s State.regs (fun _ _ => rfl) _
  mem := reach_keeps s State.mem (fun _ _ => rfl) _
  ctxs := reach_keeps s State.ctxs (fun _ _ => rfl) _
  runs := reach_keeps s State.sentRuns (fun u n => u.sentRuns_advance n) _
  high := reach_keeps s (fun u => u.meas.sentOver) (fun _ _ => rfl) _
  low := reach_keeps s (fun u => u.meas.sentUnder) (fun _ _ => rfl) _

theorem State.fld_of_regs {s u : State} (h : u.regs = s.regs) (f : Fld) (i : Nat) : u.fld f i = s.fld f i := by
  rw [State.fld, State.reg, h, State.fld, State.reg]

theorem State.Awaited.bitOf {s u : State} (h : s.Awaited u) (f : Fld) (n : Nat) : u.bitOf f n = s.bitOf f n :=
  congrArg (bitAt · n) (State.fld_of_regs h.regs f 0)

theorem State.Awaited.ovLimit {s u : State} (h : s.Awaited u) (n : Nat) : u.ovLimit n = s.ovLimit n := by
  rw [State.ovLimit, State.fld_of_regs h.regs, State.fld_of_regs h.regs, State.ovLimit]

theorem State.Awaited.uvLimit {s u : State} (h : s.Awaited u) (n : Nat) : u.uvLimit n = s.uvLimit n := by
  rw [State.uvLimit, State.fld_of_regs h.regs, State.fld_of_regs h.regs, State.uvLimit]

theorem State.Awaited.cfgBad {s u : State} (h : s.Awaited u) : u.cfgBad = s.cfgBad := by
  rw [State.cfgBad, State.fld_of_regs h.regs, State.fld_of_regs h.regs, State.cfgBad]

theorem State.Awaited.sentCount {s u : State} (h : s.Awaited u) : u.sentCount = s.sentCount := by
  rw [State.sentCount, State.fld_of_regs h.regs, State.sentCount]

/-- CONFIRM, which every sample writes, is apart from the bits of SENT_ST that trips set. -/
theorem State.bitOf_setConfirm {s : State} (h : wfFrom regDefault 0 s.regs = true) (b : Bool) (n : Nat) :
    (s.setFlag Reg.SENT_ST.CONFIRM b).bitOf Reg.SENT_ST.OV n = s.bitOf Reg.SENT_ST.OV n :=
  congrArg (bitAt · n) (State.fld_setFlag_above h Reg.SENT_ST.CONFIRM Reg.SENT_ST.OV b rfl (by decide) (by decide))

theorem State.strike_now (s : State) (f : Fld) (m i : Nat) : (s.strike f m i).now = s.now := rfl

theorem State.strike_reg_other {s : State} (h : wfFrom regDefault 0 s.regs = true) (f : Fld) (m : Nat) {k : Nat}
    (hk : k ≠ f.base + f.stride * 0) : (s.strike f m).reg k = s.reg k := by
  have word : (s.strike f m).regs = (s.setFld f (Nat.lor (s.fld f) m)).regs := rfl
  rw [State.reg, word]
  exact reg_setReg_other s _ k _ h hk

theorem State.setFlag_reg_other {s : State} (h : wfFrom regDefault 0 s.regs = true) (f : Fld) (b : Bool) {k : Nat}
    (hk : k ≠ f.base + f.stride * 0) : (s.setFlag f b).reg k = s.reg k := by
  have word : (s.setFlag f b).regs = (s.setFld f (if b then 1 else 0)).regs := rfl
  rw [State.reg, word]
  exact reg_setReg_other s _ k _ h hk

theorem State.bitOf_of_reg {s t : State} {f : Fld} {k : Nat} (hk : f.base + f.stride * 0 = k) (h : t.reg k = s.reg k) (n : Nat) :
    t.bitOf f n = s.bitOf f n := by
  subst hk
  rw [State.bitOf, State.fld, h, State.bitOf, State.fld]

/-- R254, R255: the sample that makes COUNT in a row above the threshold. -/
theorem State.sentSample_trip {s : State} (h : wfFrom regDefault 0 s.regs = true) (hr : s.sentRuns = true) (hb : s.cfgBad = false)
    {cells : List Int} {n : Nat} (hn : n < 12) (hm : s.bitOf Reg.SENT_CFG.MASK n = true) (hv : s.ovLimit n < cells.getD n 0)
    (hc : countOf s.meas.sentOver n + 1 = s.sentCount) :
    let t := s.sentSample cells
    t.now = s.now ∧ t.bitOf Reg.SENT_ST.OV n = true ∧ (∀ c, t.rang c Ev.SENTINEL) ∧ t.bitOf Reg.SENT_LIVE.OV n = true := by
  obtain ⟨b, sample⟩ := State.sentSample_eq hr hb cells
  have sensed := State.sensed_of h cells
  generalize s.sensed cells = t at sensed sample
  obtain ⟨live, hit⟩ := sensed.reached hn hm hv hc
  have trips : t.reached t.meas.sentOver ≠ 0 := fun zero => by
    rw [zero, Nat.zero_testBit] at hit
    cases hit
  simp only [trips, decide_false, Bool.false_and, Bool.false_eq_true, if_false] at sample
  generalize t.reached t.meas.sentOver = ov at hit sample
  generalize t.reached t.meas.sentUnder = uv at sample
  obtain ⟨spares, rang⟩ := State.sentTrip_after sensed.regs ov uv
  have struck := State.strike_strike_bitOf sensed.regs ov uv hn hit
  have liveStruck : ((t.strike Reg.SENT_ST.OV ov).strike Reg.SENT_ST.UV uv).reg 0x2070 = t.reg 0x2070 :=
    (State.strike_reg_other (regs_wf_setFld _ _ _ _ sensed.regs) Reg.SENT_ST.UV uv (by decide)).trans
      (State.strike_reg_other sensed.regs Reg.SENT_ST.OV ov (by decide))
  generalize t.sentTrip ov uv = u at sample spares rang
  have now : u.now = s.now := by rw [spares.now, State.strike_now, State.strike_now, sensed.now]
  have liveKept : (u.setFlag Reg.SENT_ST.CONFIRM b).reg 0x2070 = t.reg 0x2070 := by
    rw [State.setFlag_reg_other spares.regs Reg.SENT_ST.CONFIRM b (by decide), spares.meas 0x2070 (by decide) (by decide), liveStruck]
  have status := State.bitOf_of_reg (f := Reg.SENT_ST.OV) rfl (spares.meas 0x206C (by decide) (by decide)) n
  rw [sample]
  refine ⟨(setFlag_now _ _ _ _).trans now, ?_, fun c => ?_, ?_⟩
  · rw [State.bitOf_setConfirm spares.regs, status, struck]
  · rw [State.rang, State.ctx, setFlag_ctxs]
    exact rang c
  · rw [State.bitOf_of_reg rfl liveKept, live]

/-- R253: a sample of cells well inside their thresholds. -/
theorem State.sentSample_calm {s : State} (h : wfFrom regDefault 0 s.regs = true) (hr : s.sentRuns = true) (hb : s.cfgBad = false)
    {cells : List Int} (hv : ∀ n, n < 12 → s.uvLimit n + 20000 ≤ cells.getD n 0 ∧ cells.getD n 0 ≤ s.ovLimit n - 20000) :
    let t := s.sentSample cells
    t.fld Reg.SENT_ST.OV = s.fld Reg.SENT_ST.OV ∧ t.fld Reg.SENT_ST.UV = s.fld Reg.SENT_ST.UV ∧ t.ctxs = s.ctxs ∧ t.mem = s.mem ∧
      ∀ n, n < 12 → s.bitOf Reg.SENT_CFG.MASK n = true → t.bitOf Reg.SENT_LIVE.OV n = false ∧ t.bitOf Reg.SENT_LIVE.UV n = false := by
  obtain ⟨b, sample⟩ := State.sentSample_eq hr hb cells
  have sensed := State.sensed_of h cells
  generalize s.sensed cells = t at sensed sample
  obtain ⟨high, low⟩ := sensed.calm hv
  simp only [high, low, decide_true, Bool.and_self, if_true] at sample
  rw [sample]
  refine ⟨(State.fld_setFlag_above sensed.regs Reg.SENT_ST.CONFIRM Reg.SENT_ST.OV b rfl (by decide) (by decide)).trans sensed.ov,
    (State.fld_setFlag_above sensed.regs Reg.SENT_ST.CONFIRM Reg.SENT_ST.UV b rfl (by decide) (by decide)).trans sensed.uv,
    (setFlag_ctxs _ _ _ _).trans sensed.ctxs, (setFlag_mem _ _ _ _).trans sensed.mem, fun n hn hm => ?_⟩
  have seen := (State.cellSeen_setFlag sensed.regs (f := Reg.SENT_ST.CONFIRM) b n rfl).trans (sensed.inside hn hm (hv n hn))
  simp only [State.cellSeen, Prod.mk.injEq] at seen
  exact ⟨seen.1, seen.2.1⟩

end Sys2Proof.Machine
end

section
/-! SUPPORT. O30: writes of SENT_ST and of the thresholds, and the obligation. -/

namespace Sys2Proof.Machine

/-! ## Writes of the sentinels' registers -/

theorem State.writeOff_sentinels (s : State) {off : Nat} (ho : off ∈ [0x2060, 0x2064, 0x2068, 0x206C]) :
    s.writeOff .host off = !s.hasCells := by
  simp only [List.mem_cons, List.not_mem_nil, or_false] at ho
  obtain rfl | rfl | rfl | rfl := ho <;> simp [State.writeOff, State.pageOff, State.hostOff, State.keyOff, State.keyOf, selectorOf]

theorem State.open_sentinels {s : State} (h : s.hasCells = true) {off : Nat} (ho : off ∈ [0x2060, 0x2064, 0x2068, 0x206C]) (v : Word) :
    s.Open .host off v where
  master := .inl rfl
  untrapped := by
    simp only [List.mem_cons, List.not_mem_nil, or_false] at ho
    obtain rfl | rfl | rfl | rfl := ho <;> rfl
  notTest := by
    simp only [List.mem_cons, List.not_mem_nil, or_false] at ho
    obtain rfl | rfl | rfl | rfl := ho <;> rfl
  notOff := by rw [s.writeOff_sentinels ho, h]; rfl

/-- Where the sentinels are Off a write does nothing (R24). -/
theorem State.busWord_sentinelsOff {s : State} (h : s.hasCells = false) {off : Nat} (ho : off ∈ [0x2060, 0x2064, 0x2068, 0x206C])
    (v : Word) : s.busWord .host off v = s := by
  have off := s.writeOff_sentinels ho
  rw [h, Bool.not_false] at off
  rw [State.busWord, State.busWrite, if_pos off]

theorem testBit_sub_land (a m i : Nat) : (a - (a &&& m)).testBit i = (a.testBit i && !m.testBit i) := by
  have apart : ∀ j, (a &&& m).testBit j = true → (a ^^^ (a &&& m)).testBit j = false := fun j hj => by
    rw [Nat.testBit_and, Bool.and_eq_true] at hj
    simp [Nat.testBit_xor, Nat.testBit_and, hj]
  have whole : a = (a &&& m) + (a ^^^ (a &&& m)) := Nat.eq_of_testBit_eq fun j => by
    rw [testBit_add_of_apart apart, Nat.testBit_xor, Nat.testBit_and]
    cases a.testBit j <;> cases m.testBit j <;> rfl
  have rest : a - (a &&& m) = a ^^^ (a &&& m) := by omega
  rw [rest, Nat.testBit_xor, Nat.testBit_and]
  cases a.testBit i <;> cases m.testBit i <;> rfl

/-- The twelve bits from bit `lo` on of a word written to SENT_ST, but for those that hardware set in this tick (R13). -/
def State.sentStHits (s : State) (v : Word) (lo : Nat) : Nat :=
  bitsAt (BitVec.ofNat 32 v.toNat &&& ~~~(s.freshBits Reg.SENT_ST.OV.base)).toNat lo 12

/-- What is left of a status field when `hit` is written to it and `live` holds its live bits (R256). -/
def clearedBits (st live hit : Nat) : Nat := (st - Nat.land st (hit - Nat.land hit live)) % 2 ^ 12

theorem State.sentStHits_testBit (s : State) (v : Word) {lo n : Nat} (hn : n < 12) (hlo : lo + n < 32) :
    (s.sentStHits v lo).testBit n = (v.getLsbD (lo + n) && !(s.freshBits Reg.SENT_ST.OV.base).getLsbD (lo + n)) := by
  rw [State.sentStHits, bitsAt_testBit, BitVec.testBit_toNat, BitVec.ofNat_toNat, BitVec.setWidth_eq, BitVec.getLsbD_and,
    BitVec.getLsbD_not, decide_eq_true hn, decide_eq_true hlo, Bool.true_and, Bool.true_and]

theorem clearedBits_testBit (st live hit : Nat) {n : Nat} (hn : n < 12) :
    (clearedBits st live hit).testBit n = (st.testBit n && !(hit.testBit n && !live.testBit n)) := by
  have field : (st - Nat.land st (hit - Nat.land hit live)).testBit n = (st.testBit n && !(hit - Nat.land hit live).testBit n) :=
    testBit_sub_land st _ n
  have hits : (hit - Nat.land hit live).testBit n = (hit.testBit n && !live.testBit n) := testBit_sub_land hit live n
  rw [clearedBits, Nat.testBit_mod_two_pow, decide_eq_true hn, Bool.true_and, field, hits]

theorem State.sentSt_row {s : State} (h : s.hasCells = true) (v : Word) :
    (s.unnoted.writeSentSt v.toNat).Alike (s.busWord .host 0x206C v) :=
  (State.open_sentinels h (off := 0x206C) (by decide) v).busWord_alike (k := 0x206C) (by decide) rfl (by decide +kernel)
    (s.rsDiscards_of_noMask (by decide +kernel) v)

theorem State.writeSentSt_bitOf {s : State} (h : wfFrom regDefault 0 s.regs = true) (v : Word) {n : Nat} (hn : n < 12) :
    (s.writeSentSt v.toNat).bitOf Reg.SENT_ST.OV n = (s.bitOf Reg.SENT_ST.OV n && !(v.getLsbD n && !s.bitOf Reg.SENT_LIVE.OV n &&
        !(s.freshBits Reg.SENT_ST.OV.base).getLsbD n)) ∧
      (s.writeSentSt v.toNat).bitOf Reg.SENT_ST.UV n = (s.bitOf Reg.SENT_ST.UV n && !(v.getLsbD (16 + n) &&
        !s.bitOf Reg.SENT_LIVE.UV n && !(s.freshBits Reg.SENT_ST.UV.base).getLsbD (16 + n))) := by
  have high : (s.writeSentSt v.toNat).fld Reg.SENT_ST.OV =
      clearedBits (s.fld Reg.SENT_ST.OV) (s.fld Reg.SENT_LIVE.OV) (s.sentStHits v 0) :=
    (fld_setFld_beside _ Reg.SENT_ST.UV Reg.SENT_ST.OV _ 0 0 (regs_wf_setFld _ _ _ _ h) rfl (by decide) (by decide)).trans
      (fld_setFld_same s Reg.SENT_ST.OV _ 0 h (by decide))
  have low : (s.writeSentSt v.toNat).fld Reg.SENT_ST.UV =
      clearedBits (s.fld Reg.SENT_ST.UV) (s.fld Reg.SENT_LIVE.UV) (s.sentStHits v 16) :=
    fld_setFld_same _ Reg.SENT_ST.UV _ 0 (regs_wf_setFld _ _ _ _ h) (by decide)
  have bits (st live lo : Nat) (hlo : lo + n < 32) : (clearedBits st live (s.sentStHits v lo)).testBit n = (st.testBit n &&
      !(v.getLsbD (lo + n) && !live.testBit n && !(s.freshBits Reg.SENT_ST.OV.base).getLsbD (lo + n))) := by
    rw [clearedBits_testBit _ _ _ hn, s.sentStHits_testBit v hn hlo, Bool.and_right_comm]
  simp only [← State.fld_testBit]
  rw [high, low, bits _ _ 0 (by omega), bits _ _ 16 (by omega), Nat.zero_add]
  exact ⟨rfl, rfl⟩

theorem State.Canonical.sentSt_write {s : State} (hs : s.Canonical) (h : s.hasCells = true) (v : Word) {n : Nat} (hn : n < 12) :
    let t := s.busWord .host 0x206C v
    t.bitOf Reg.SENT_ST.OV n = (s.bitOf Reg.SENT_ST.OV n && !(v.getLsbD n && !s.bitOf Reg.SENT_LIVE.OV n &&
        !(s.freshBits Reg.SENT_ST.OV.base).getLsbD n)) ∧
      t.bitOf Reg.SENT_ST.UV n = (s.bitOf Reg.SENT_ST.UV n && !(v.getLsbD (16 + n) && !s.bitOf Reg.SENT_LIVE.UV n &&
        !(s.freshBits Reg.SENT_ST.UV.base).getLsbD (16 + n))) ∧
      t.mem = s.mem ∧ t.ctxs = s.ctxs := by
  have row := State.sentSt_row h v
  obtain ⟨ov, uv⟩ := State.writeSentSt_bitOf (s := s.unnoted) hs.regs v hn
  exact ⟨(State.bitOf_of_reg rfl (row.reg _) n).trans ov, (State.bitOf_of_reg rfl (row.reg _) n).trans uv, row.mem, row.ctxs⟩

/-- With SEAL9 on, an RS field takes the written value. -/
theorem State.written_rs (s : State) (hseal : s.seal9 = true) {r : RegDesc} (h : r.fits = true) {f : FieldDesc} (hf : f ∈ r.fields)
    (hacc : f.acc = .rs) (fresh old w : Word) : bitsAt (s.written r fresh old w).toNat f.lo f.width = bitsAt w.toNat f.lo f.width := by
  by_contra hne
  obtain ⟨i, hi, hbit⟩ := (bitsAt_ne_iff _ _ f).mp hne
  refine hbit ((s.written_bit_mem h hf hi fresh old w fun _ off => absurd (off.symm.trans hseal) Bool.false_ne_true).trans ?_)
  rw [hacc]
  rfl

/-- A write of a threshold register, with SEAL9 on: its fields take the value, and every count restarts (R257). -/
structure State.Thresholds (s t : State) (off : Nat) (v : Word) : Prop where
  fields : ∀ r, descOf off = some r → ∀ f ∈ r.fields, f.acc = .rs →
    bitsAt (t.reg off).toNat f.lo f.width = bitsAt v.toNat f.lo f.width
  high : t.meas.sentOver = Vector.replicate 12 0
  low : t.meas.sentUnder = Vector.replicate 12 0
  mem : t.mem = s.mem
  ctxs : t.ctxs = s.ctxs

theorem State.writeKey_thresholds (s : State) {off : Nat} (ho : off ∈ [0x2060, 0x2064, 0x2068]) (v : Word) :
    s.writeKey .host off v = (s.plainWrite off v).restartCounts := by
  simp only [List.mem_cons, List.not_mem_nil, or_false] at ho
  obtain rfl | rfl | rfl := ho <;> rfl

theorem State.Canonical.thresholds_write {s : State} (hs : s.Canonical) (h : s.hasCells = true) (hseal : s.seal9 = true) {off : Nat}
    (ho : off ∈ [0x2060, 0x2064, 0x2068]) (v : Word) : s.Thresholds (s.busWord .host off v) off v := by
  have listed : (descOf off).isSome = true := by
    simp only [List.mem_cons, List.not_mem_nil, or_false] at ho
    obtain rfl | rfl | rfl := ho <;> decide +kernel
  obtain ⟨r, hd⟩ := Option.isSome_iff_exists.mp listed
  have key : s.keyOf .host off = off := by
    simp only [List.mem_cons, List.not_mem_nil, or_false] at ho
    obtain rfl | rfl | rfl := ho <;> rfl
  have register : isRegister off = true := by
    simp only [List.mem_cons, List.not_mem_nil, or_false] at ho
    obtain rfl | rfl | rfl := ho <;> rfl
  have row := (State.open_sentinels h (List.mem_append_left [0x206C] ho) v).busWord_alike register key listed
    (by rw [State.rsDiscards, hseal]; rfl)
  rw [State.writeKey_thresholds _ ho] at row
  have kept := s.plainWrite_alike_unnoted off v
  rw [s.plainWrite_desc hd] at kept
  have word : (s.busWord .host off v).reg off = s.written r (s.freshBits off) (s.reg off) v :=
    (row.reg off).trans ((kept.reg off).trans (reg_setReg_same s off _ hs.regs))
  refine ⟨fun r' hd' f hf hacc => ?_, row.meas ▸ rfl, row.meas ▸ rfl, row.mem.trans kept.mem, row.ctxs.trans kept.ctxs⟩
  obtain rfl := Option.some.inj (hd.symm.trans hd')
  rw [word, s.written_rs hseal (descOf_fits hd) hf hacc]

theorem State.Thresholds.fld {s t : State} {off : Nat} {v : Word} (h : s.Thresholds t off v) (f : Fld)
    (hf : f.base + f.stride * 0 = off) (row : (descOf off).any (fun r => r.fields.contains ⟨f.lo, f.width, .rs⟩) = true) :
    t.fld f = v.toNat / 2 ^ f.lo % 2 ^ f.width := by
  obtain ⟨r, hd, has⟩ := (Option.any_eq_true _ _).mp row
  rw [State.fld, hf]
  exact h.fields r hd ⟨f.lo, f.width, .rs⟩ (List.contains_iff_mem.mp has) rfl

/-- Settles O30: a sample is one of each enabled cell, the trip that follows spares what the sample left, and a write follows its row. -/
theorem sentinels : Obligations.Sentinels := by
  unfold Obligations.Sentinels
  intro s hs
  have h := s.canonical_iff.mp hs
  have due := s.sampleDue_awaited
  have wf : wfFrom regDefault 0 s.sampleDue.regs = true := due.regs ▸ h.regs
  refine ⟨fun n cells hr hb hm hv hc => ⟨_, exec_sentinelSample hr cells, ?_⟩,
    fun cells hr hb hv => ⟨_, exec_sentinelSample hr cells, ?_⟩,
    fun v off => ⟨_, rfl, State.busWord_sentinelsOff off (by decide) v⟩, fun v n on => ⟨_, rfl, h.sentSt_write on v n.isLt⟩,
    fun v on hseal => ⟨⟨_, rfl, ?_⟩, ⟨_, rfl, ?_⟩, ⟨_, rfl, ?_⟩⟩⟩
  · rw [← due.runs] at hr
    rw [← due.cfgBad] at hb
    rw [← due.bitOf] at hm
    rw [← due.ovLimit] at hv
    rw [← due.sentCount, ← due.high] at hc
    obtain ⟨now, status, rang, live⟩ := State.sentSample_trip wf hr hb n.isLt hm hv hc
    exact ⟨now.trans due.now, status, rang, live⟩
  · simp only [← due.uvLimit, ← due.ovLimit] at hv
    obtain ⟨ov, uv, ctxs, mem, live⟩ := State.sentSample_calm wf (due.runs.trans hr) (due.cfgBad.trans hb) hv
    exact ⟨ov.trans (State.fld_of_regs due.regs _ _), uv.trans (State.fld_of_regs due.regs _ _), ctxs.trans due.ctxs, mem.trans due.mem,
      fun n hn hm => live n hn ((due.bitOf _ n).trans hm)⟩
  · have t := h.thresholds_write on hseal (off := 0x2060) (by decide) v
    exact ⟨(t.fld Reg.SENT_OV.CODE rfl (by decide +kernel)).trans (by simp [Reg.SENT_OV.CODE]),
      t.high, t.low, t.mem, t.ctxs⟩
  · have t := h.thresholds_write on hseal (off := 0x2064) (by decide) v
    exact ⟨(t.fld Reg.SENT_UV.CODE rfl (by decide +kernel)).trans (by simp [Reg.SENT_UV.CODE]),
      t.high, t.low, t.mem, t.ctxs⟩
  · have t := h.thresholds_write on hseal (off := 0x2068) (by decide) v
    exact ⟨(t.fld Reg.SENT_CFG.COUNT rfl (by decide +kernel)).trans (by simp [Reg.SENT_CFG.COUNT]),
      t.fld Reg.SENT_CFG.MASK rfl (by decide +kernel), t.fld Reg.SENT_CFG.WMAX rfl (by decide +kernel), t.high, t.mem, t.ctxs⟩

end Sys2Proof.Machine
end

section
/-! SUPPORT. O53: what an event leaves of the contexts, a register write with no effect, and the host's bell (R747). -/

namespace Sys2Proof.Machine

/-! ## An event leaves the contexts what they hold -/

theorem Ctx.keeps_refl (v : Ctx) : v.keeps v :=
  ⟨rfl, rfl, rfl, rfl, rfl, rfl, rfl, rfl, rfl, rfl, rfl, rfl, rfl, rfl, rfl, rfl, BitVec.and_not_self _⟩

theorem Ctx.checkEvents_keeps {v w : Ctx} (h : v.keeps w) : v.keeps w.checkEvents := by
  unfold Ctx.checkEvents
  split
  · exact h
  · split <;> exact h

/-- A raised event only adds to what is pending, and may ready the context (R71, R83). -/
theorem Ctx.raise_keeps (v : Ctx) (t e : Nat) : v.keeps (v.raise t e) := by
  refine Ctx.checkEvents_keeps ⟨rfl, rfl, rfl, rfl, rfl, rfl, rfl, rfl, rfl, rfl, rfl, rfl, rfl, rfl, rfl, rfl, ?_⟩
  rw [BitVec.not_or, ← BitVec.and_assoc, BitVec.and_not_self]
  exact BitVec.zero_and

theorem State.ctx_raise_keeps (s : State) (e : Nat) (c : Cid) : (s.ctx c).keeps ((s.raise e).ctx c) := by
  unfold State.raise
  split
  · by_cases hc : c = 0
    · subst hc
      rw [ctx_modCtx_same]
      exact Ctx.raise_keeps _ _ _
    · rw [ctx_modCtx_other _ _ _ _ hc]
      exact Ctx.keeps_refl _
  · rw [ctx_modAll]
    exact Ctx.raise_keeps _ _ _

/-- An event after a change outside contexts, memory and queue. -/
theorem State.coreKept_raise {s t : State} (ctxs : t.ctxs = s.ctxs) (mem : t.mem = s.mem) (pending : t.pending = s.pending) (e : Nat) :
    s.coreKept (t.raise e) := by
  refine ⟨fun c => ?_, (raise_mem t e).trans mem, (raise_pending t e).trans pending⟩
  have kept := t.ctx_raise_keeps e c
  rwa [State.ctx, ctxs] at kept

/-! ## A register write and its note -/

theorem State.noteWritten_pending (s : State) (k : Nat) (old : Word) : (s.noteWritten k old).pending = s.pending := by
  unfold State.noteWritten
  split
  · dsimp only
    split <;> rfl
  · rfl

theorem State.noted_pending (s : State) (m : Master) (off : Nat) (e : State → State) :
    (s.noted m off e).pending = (e s.unnoted).pending := State.noteWritten_pending _ _ _

/-- A register that holds what it held has no field to note (R15). -/
theorem State.noteWritten_same (s : State) (k : Nat) : s.noteWritten k (s.reg k) = s := by
  unfold State.noteWritten
  split
  · simp [fieldMask]
  · rfl

/-- A write without effect leaves no note either. -/
theorem State.noted_of_noEffect (s : State) {e : State → State} (he : ∀ t, e t = t) (m : Master) (off : Nat) :
    s.noted m off e = s := by
  have kept : s.noted m off e = s.noteWritten (s.keyOf m off) (s.reg (s.keyOf m off)) := by
    simp only [State.noted, State.writing, he, if_true]
  rw [kept, s.noteWritten_same]

/-- A write without effect, of a register that is neither CTX0's alone, nor a selector, nor in the TEST page: whoever makes it, nothing
changes. -/
theorem State.busWrite_of_noEffect (s : State) {off : Nat} {e : State → State} (he : ∀ t, e t = t)
    (hc : ctx0Only off = false) (hsel : selectorAt off = none) (ht : onTestPage off = false) (m : Master) (w : Word) :
    s.busWrite m off w e = s := by
  cases m with
  | ctx c =>
    have untrapped : s.writeTrap (.ctx c) off w = none := by simp [State.writeTrap, hc, hsel]
    simp [State.busWrite, ht, untrapped, s.noted_of_noEffect he]
  | dma n => simp [State.busWrite, ht, hc, s.noted_of_noEffect he]
  | host => simp [State.busWrite, s.noted_of_noEffect he]
  | served => simp [State.busWrite, s.noted_of_noEffect he]

/-! ## The host's bell -/

theorem State.hostBell_of_other (s : State) {m : Master} (hm : m ≠ .host) (code : Nat) : s.hostBell m code = s := if_neg hm

/-- The machine with OVR set if the host has rung before. -/
def State.bellOverrun (s : State) : State :=
  if s.fld Reg.HOST_BELLIN.CODE = 0 then s else s.setFlag Reg.HOST_BELLIN.OVR true

theorem State.hostBell_host (s : State) (code : Nat) : s.hostBell .host code =
    (s.bellOverrun.setFld Reg.HOST_BELLIN.CODE (Nat.lor (s.fld Reg.HOST_BELLIN.CODE) (code % 2 ^ 16))).raise Ev.DOORBELL := rfl

theorem State.bellOverrun_regs_wf {s : State} (h : wfFrom regDefault 0 s.regs = true) : wfFrom regDefault 0 s.bellOverrun.regs = true := by
  unfold State.bellOverrun
  split
  · exact h
  · exact regs_wf_setFld s _ _ _ h

theorem State.bellOverrun_ctxs (s : State) : s.bellOverrun.ctxs = s.ctxs := by unfold State.bellOverrun; split <;> rfl
theorem State.bellOverrun_mem (s : State) : s.bellOverrun.mem = s.mem := by unfold State.bellOverrun; split <;> rfl
theorem State.bellOverrun_pending (s : State) : s.bellOverrun.pending = s.pending := by unfold State.bellOverrun; split <;> rfl

theorem State.bellOverrun_ovr {s : State} (h : wfFrom regDefault 0 s.regs = true) :
    s.bellOverrun.flag Reg.HOST_BELLIN.OVR = (s.flag Reg.HOST_BELLIN.OVR || s.fld Reg.HOST_BELLIN.CODE ≠ 0) := by
  unfold State.bellOverrun
  split_ifs with silent
  · simp [silent]
  · have set : (s.setFlag Reg.HOST_BELLIN.OVR true).fld Reg.HOST_BELLIN.OVR = 1 := fld_setFld_same s Reg.HOST_BELLIN.OVR 1 0 h (by decide)
    simp [State.flag, set, silent]

/-- R747: what a ring of the host leaves. -/
structure State.Rung (s t : State) (code : BitVec 16) : Prop where
  code : t.fld Reg.HOST_BELLIN.CODE = Nat.lor (s.fld Reg.HOST_BELLIN.CODE) code.toNat
  ovr : t.flag Reg.HOST_BELLIN.OVR = (s.flag Reg.HOST_BELLIN.OVR || s.fld Reg.HOST_BELLIN.CODE ≠ 0)
  rang : ∀ c, t.rang c Ev.DOORBELL
  kept : s.coreKept t

theorem State.hostBell_rung {s : State} (h : wfFrom regDefault 0 s.regs = true) (code : BitVec 16) :
    s.Rung (s.hostBell .host code.toNat) code := by
  have wf := State.bellOverrun_regs_wf h
  have fits : Nat.lor (s.fld Reg.HOST_BELLIN.CODE) code.toNat < 2 ^ 16 := Nat.or_lt_two_pow (bitsAt_lt _ _ _) code.isLt
  rw [State.hostBell_host, Nat.mod_eq_of_lt code.isLt]
  constructor
  case code =>
    rw [State.fld_of_regs (raise_regs _ _), fld_setFld_same _ _ _ _ wf (by decide)]
    exact Nat.mod_eq_of_lt fits
  case ovr =>
    have beside := fld_setFld_beside s.bellOverrun Reg.HOST_BELLIN.CODE Reg.HOST_BELLIN.OVR
      (Nat.lor (s.fld Reg.HOST_BELLIN.CODE) code.toNat) 0 0 wf rfl (by decide) (by decide)
    rw [← State.bellOverrun_ovr h, State.flag, State.fld_of_regs (raise_regs _ _), beside, State.flag]
  case rang => exact State.raise_rang _ (by decide) (by decide)
  case kept => exact State.coreKept_raise (t := s.bellOverrun.setFld _ _) s.bellOverrun_ctxs s.bellOverrun_mem s.bellOverrun_pending _

/-- What a ring leaves stands outside the note of the fields written. -/
theorem State.noted_hostBell_rung {s : State} (h : wfFrom regDefault 0 s.regs = true) (off : Nat) (code : BitVec 16) :
    s.Rung (s.noted .host off fun t => t.hostBell .host code.toNat) code := by
  have alike : (s.unnoted.hostBell .host code.toNat).Alike (s.noted .host off fun t => t.hostBell .host code.toNat) :=
    s.writing_alike _ fun t => t.hostBell .host code.toNat
  obtain ⟨code', ovr, rang, ctxs, mem, pending⟩ := State.hostBell_rung (s := s.unnoted) h code
  refine ⟨(State.fld_of_regs alike.regs _ _).trans code', ?_, fun c => ?_, fun c => ?_, alike.mem.trans mem,
    (s.noted_pending _ _ _).trans pending⟩
  · rw [State.flag, State.fld_of_regs alike.regs]
    exact ovr
  · rw [State.rang, alike.ctx]
    exact rang c
  · rw [alike.ctx]
    exact ctxs c

theorem State.writeOff_hostBell (s : State) : s.writeOff .host 0xB014 = !s.flag Reg.HOST_CFG.EN := by
  simp [State.writeOff, State.pageOff, State.hostOff, State.keyOff, State.keyOf, selectorOf]

theorem exec_hostBell (s : State) (m : Master) (code : BitVec 16) :
    exec (.hostBell m code) s = .next (s.busWrite m 0xB014 0 fun t => t.hostBell m code.toNat) := rfl

/-- Settles O53: the host's write comes to its ring unless the port is disabled, and another master's has no effect. -/
theorem hostBell : Obligations.HostBell := by
  unfold Obligations.HostBell
  refine fun s code hs => ⟨fun hen => ⟨_, exec_hostBell s .host code, ?_⟩, fun hen => ⟨_, exec_hostBell s .host code, ?_⟩,
    fun m hm => ⟨_, exec_hostBell s m code, ?_⟩⟩
  · have disabled : s.writeOff .host 0xB014 = true := by rw [s.writeOff_hostBell, hen]; rfl
    exact if_pos disabled
  · have opened : s.Open .host 0xB014 0 := ⟨.inl rfl, rfl, by decide, by rw [s.writeOff_hostBell, hen]; rfl⟩
    obtain ⟨code', ovr, rang, kept⟩ := State.noted_hostBell_rung (s.canonical_iff.mp hs).regs 0xB014 code
    rw [opened.busWrite]
    exact ⟨code', ovr, rang, kept⟩
  · exact s.busWrite_of_noEffect (fun t => t.hostBell_of_other hm code.toNat) (by decide +kernel) (by decide) (by decide) m 0

end Sys2Proof.Machine
end

section
/-! SUPPORT. Three statements about the sequencer's reset, the loader and the black box that fail, each with the state at which it does. -/

namespace Sys2Proof.Machine

/-! ## The sequencer's reset among registers listed out of order (R87) -/

/-- CTX0 is to execute in a trap, and BAL_ST of a busy shuttle stands in the list before SNAP_W, listed out of order. -/
def disordered : State :=
  { State.reset with
    hfo := true
    regs := [(0x14804, 1), (0xE000, 5)]
    ctxs := Vector.ofFn fun c => { Ctx.reset c with state := .ready, status := 0x10 } }

/-- What a command leaves, or the state before it where it does not complete. -/
def State.after (s : State) (i : Instr) : State :=
  match exec i s with
  | .next t => t
  | _ => s

theorem State.eq_after {s t : State} {i : Instr} (h : exec i s = .next t) : t = s.after i := by
  rw [State.after, h]

theorem Completes.after {i : Instr} {s : State} {P : State → Prop} (h : Completes i s P) : P (s.after i) := by
  obtain ⟨t, done, holds⟩ := h
  rw [← State.eq_after done]
  exact holds

theorem disordered_executing : disordered.executing = some 0 := by decide +kernel

theorem disordered_reads : disordered.reg 0xE000 = 0 ∧ (disordered.after (.trap 0 0 0)).reg 0xE000 = 5 := by decide +kernel

/-- Refutes O8: nothing asks for registers listed in order, and the clearing of a register listed before another uncovers that one. -/
theorem not_trapAndReturn : ¬ Obligations.TrapAndReturn := by
  unfold Obligations.TrapAndReturn
  rintro ⟨_, doubleFault⟩
  have clause := doubleFault disordered 0 (.trap 0 0 0) 0x0C disordered_executing (by decide) (.inr ⟨0, rfl, rfl⟩)
  obtain ⟨_, _, _, _, _, _, exports, _⟩ := (clause.2 rfl).after
  obtain ⟨before, now⟩ := disordered_reads
  have kept := exports 0xE000 (by decide)
  rw [before, now] at kept
  exact absurd kept (by decide)

/-! ## A commit that fails with an image committed before it (R113, R116) -/

/-- A load of one word, none of it received, after a commit of it without RESTART. -/
def committedLoad : Load := ⟨1, 4, 0, 0, 0, true, [], [], none, none, true, 7⟩

/-- The marker of a committed image is set, and the host may load. -/
def markedState : State :=
  { State.reset with
    hfo := true
    regs := [(0xB000, 1), (0xD010, 4)]
    mem := [(0x1001C200, 0xA5), (0x1001C201, 0xA5), (0x1001C202, 0x5A), (0x1001C203, 0x5A)]
    load := some committedLoad }

theorem markedState_commits : markedState.flag Reg.HOST_CFG.EN = true ∧ markedState.loadAllowed .host = true ∧
    markedState.settled.commitCode committedLoad = some 2 ∧
    (markedState.after (.loadCommit (.host [3, 0, 0, 0]))).nvmQ ≠ markedState.nvmQ := by decide +kernel

/-- Refutes O26: a LOAD_COMMIT that fails after an image was committed without RESTART has the directory's marker cleared. -/
theorem not_loaderAndStart : ¬ Obligations.LoaderAndStart := by
  unfold Obligations.LoaderAndStart
  rintro ⟨messages, _⟩
  obtain ⟨enabled, allowed, code, queue⟩ := markedState_commits
  have loading := (messages markedState [3, 0, 0, 0] enabled).1 allowed
  have commit := (loading.2 committedLoad rfl rfl).2.2.1 2 rfl code
  exact queue commit.after.2.1

/-! ## A record before the ring's scan (R500, R515) -/

/-- A record waits while the ring has not been scanned. -/
def unscanned : State :=
  { State.reset.setFlag Reg.BBX_STAT.HOLDUP_OK true with
    bbx := { State.reset.bbx with queue := [(⟨1, false, false, false, 0, 0, 0, 0xFF, List.replicate 44 0⟩, none)] } }

theorem unscanned_waits : unscanned.canonical = true ∧ unscanned.bbx.redo = [] ∧ unscanned.bbx.commit = none ∧
    unscanned.flag Reg.BBX_STAT.HOLDUP_OK = true ∧ unscanned.flag Reg.BBX_STAT.DEGRADED = false ∧
    unscanned.nextFree unscanned.bbx.nextPos = some 0 ∧ (unscanned.after .bbxCommitStart).bbx.commit = none := by decide +kernel

/-- Refutes O36: before the scan has set READY no commit begins. -/
theorem not_blackBoxCommits : ¬ Obligations.BlackBoxCommits := by
  unfold Obligations.BlackBoxCommits
  intro h
  obtain ⟨canonical, redo, idle, holdup, fit, free, still⟩ := unscanned_waits
  have begins := (h unscanned canonical).1 _ none [] 0 rfl redo idle (fun sticky => absurd sticky (by decide)) holdup fit free
  rw [begins.after.1] at still
  exact absurd still (by simp)

end Sys2Proof.Machine
end

section
/-! SUPPORT. One instruction on the core: what taking the core, retiring, waiting and trapping leave of the contexts (R69, R84, R138). -/

namespace Sys2Proof.Machine

/-! ## Contexts that are the same -/

theorem Ctx.sameSpecial_refl (v : Ctx) : v.sameSpecial v := ⟨rfl, rfl, rfl, rfl, rfl, rfl, rfl, rfl, rfl, rfl, rfl, rfl⟩

theorem Ctx.same_refl (v : Ctx) : v.same v := ⟨rfl, rfl, rfl, v.sameSpecial_refl⟩

theorem Ctx.sameSpecial.trans {u v w : Ctx} (h : u.sameSpecial v) (g : v.sameSpecial w) : u.sameSpecial w := by
  unfold Ctx.sameSpecial at *
  simp_all

theorem Ctx.same.trans {u v w : Ctx} (h : u.same v) (g : v.same w) : u.same w := by
  obtain ⟨x, pc, status, special⟩ := h
  obtain ⟨x', pc', status', special'⟩ := g
  exact ⟨x'.trans x, pc'.trans pc, status'.trans status, special.trans special'⟩

/-- The wait of a YIELD can end; nothing else of the context changes. -/
theorem Ctx.yieldSees_eq (c : Cid) (v : Ctx) : ∃ st w y, v.yieldSees c = { v with state := st, wait := w, yielded := y } := by
  unfold Ctx.yieldSees
  split
  · split <;> exact ⟨_, _, _, rfl⟩
  · exact ⟨_, _, _, rfl⟩

theorem Ctx.yieldSees_same (c : Cid) (v : Ctx) : v.same (v.yieldSees c) := by
  obtain ⟨_, _, _, e⟩ := v.yieldSees_eq c
  rw [e]
  exact v.same_refl

/-- A context that waits for no YIELD does not see one. -/
theorem Ctx.yieldSees_of_ne {c : Cid} {v : Ctx} (h : ∀ l, v.wait ≠ some (.yield l)) : v.yieldSees c = v := by
  unfold Ctx.yieldSees
  split
  · next l _ hw => exact absurd hw (h l)
  · rfl

theorem Ctx.setX_eq (v : Ctx) (r : RegNo) (w : Word) : v.setX r w = { v with x := (v.setX r w).x } := by
  unfold Ctx.setX
  split <;> rfl

/-! ## What stands outside a context -/

/-- Outside context `c`, `t` holds the registers and memory of `s`, its queue of commands, and its contexts but for whether they wait. -/
structure State.Outside (s t : State) (c : Cid) : Prop where
  others : ∀ d, d ≠ c → (s.ctx d).same (t.ctx d)
  pending : t.pending = s.pending
  regs : t.regs = s.regs
  mem : t.mem = s.mem

namespace State

variable {s t u : State} {c : Cid}

theorem Outside.refl (s : State) (c : Cid) : s.Outside s c := ⟨fun _ _ => Ctx.same_refl _, rfl, rfl, rfl⟩

theorem Outside.trans (h : s.Outside t c) (g : t.Outside u c) : s.Outside u c :=
  ⟨fun d hd => (h.others d hd).trans (g.others d hd), g.pending.trans h.pending, g.regs.trans h.regs, g.mem.trans h.mem⟩

theorem Outside.othersSame (h : s.Outside t c) : s.othersSame t c := ⟨h.others, h.pending⟩

theorem Outside.storesNothing (h : s.Outside t c) : s.storesNothing t :=
  ⟨h.regs, fun a => congrArg (look memDefault · a) h.mem⟩

theorem modCtx_outside (s : State) (c : Cid) (f : Ctx → Ctx) : s.Outside (s.modCtx c f) c :=
  ⟨fun d hd => by rw [ctx_modCtx_other s c d f hd]; exact Ctx.same_refl _, rfl, rfl, rfl⟩

theorem setCtx_outside (s : State) (c : Cid) (v : Ctx) : s.Outside (s.setCtx c v) c :=
  ⟨fun d hd => by rw [ctx_setCtx_other s c d v hd]; exact Ctx.same_refl _, rfl, rfl, rfl⟩

theorem advance_outside (s : State) (c : Cid) (n : Nat) : s.Outside (s.advance n) c := ⟨fun _ _ => Ctx.same_refl _, rfl, rfl, rfl⟩

theorem yieldSees_outside (s : State) (d c : Cid) : s.Outside (s.yieldSees d) c :=
  ⟨fun e _ => by rw [State.yieldSees, ctx_modAll]; exact Ctx.yieldSees_same _ _, rfl, rfl, rfl⟩

theorem spend_outside (s : State) (c : Cid) (n : Nat) : s.Outside (s.spend c n) c :=
  (s.modCtx_outside c _).trans (advance_outside _ c n)

/-! ## Taking the core -/

/-- The context that has the core: RUNNING, its long instruction kept only where it held the core before. -/
theorem ctx_takeCore_self (s : State) (c : Cid) : (s.takeCore c).ctx c =
    { s.ctx c with state := .running, cont := if s.holder = some c then (s.ctx c).cont else none } := by
  simp only [State.takeCore, ctx_advance, ctx_modCtx_same]
  simp [State.ctx, State.modAll]

/-- Every other context: what it had under way on the core is to be executed again. -/
theorem ctx_takeCore_other (s : State) {c d : Cid} (h : d ≠ c) : (s.takeCore c).ctx d =
    if (s.ctx d).state = .running then { s.ctx d with state := .ready, cont := none } else s.ctx d := by
  simp only [State.takeCore, ctx_advance, ctx_modCtx_other _ _ _ _ h]
  by_cases running : (s.ctx d).state = .running <;> simp_all [State.ctx, State.modAll]

theorem takeCore_outside (s : State) (c : Cid) : s.Outside (s.takeCore c) c where
  others d hd := by
    rw [s.ctx_takeCore_other hd]
    split <;> exact Ctx.same_refl _
  pending := rfl
  regs := rfl
  mem := rfl

theorem executing_inReset (h : s.executing = some c) : s.boot.inReset = false := by
  unfold State.executing at h
  split at h
  · next e => simpa using And.right (by simpa using e)
  · cases h

theorem boot_setX (u : State) (c : Cid) (rd : RegNo) (v : Word) : (u.setX c rd v).boot = u.boot := rfl

theorem takeCore_inReset (h : s.executing = some c) : (s.takeCore c).boot.inReset = false := (executing_inReset h :)

theorem runInstr_of (h : s.executing = some c) (body : State → Cid → Word → Did) :
    s.runInstr body = (body (s.takeCore c) c (s.ctx c).pc).finish c (s.ctx c).pc := by
  simp only [State.runInstr, h, ctx_takeCore_self]

/-! ## Retiring -/

/-- What retiring at `pc` leaves of context `c`, its cycles counted. -/
theorem ctx_retire_self (hb : u.boot.inReset = false) (c : Cid) (pc : Word) (n : Nat) : (u.retire c pc n).ctx c =
    { ({ u.ctx c with pc := pc, yielded := false, cont := none } : Ctx).yieldSees c with
      cycle := (u.ctx c).cycle + BitVec.ofNat 32 n } := by
  obtain ⟨_, _, _, e⟩ := ({ u.ctx c with pc := pc, yielded := false, cont := none } : Ctx).yieldSees_eq c
  simp [State.retire, hb, State.spend, State.yieldSees, e]

theorem retire_outside (u : State) (c : Cid) (pc : Word) (n : Nat) : u.Outside (u.retire c pc n) c := by
  unfold State.retire
  split
  · exact .refl u c
  · exact ((u.modCtx_outside c _).trans (yieldSees_outside _ c c)).trans (spend_outside _ c n)

/-- A retired instruction leaves its context the registers that it had, at the given pc. -/
structure Retired (v w : Ctx) (pc : Word) : Prop where
  x : w.x = v.x
  pc : w.pc = pc
  status : w.status = v.status
  special : v.sameSpecial w
  rtimeHold : w.rtimeHold = v.rtimeHold

theorem retire_retired (hb : u.boot.inReset = false) (c : Cid) (pc : Word) (n : Nat) :
    Retired (u.ctx c) ((u.retire c pc n).ctx c) pc := by
  obtain ⟨_, _, _, e⟩ := ({ u.ctx c with pc := pc, yielded := false, cont := none } : Ctx).yieldSees_eq c
  rw [ctx_retire_self hb, e]
  exact ⟨rfl, rfl, rfl, Ctx.sameSpecial_refl _, rfl⟩

theorem Retired.getX {v w : Ctx} {pc : Word} (h : Retired v w pc) (r : RegNo) : w.getX r = v.getX r := by
  rw [Ctx.getX, h.x, Ctx.getX]

/-- An instruction has put `v` in `rd` and retires: no other register has changed. -/
theorem gave_retire {rd : RegNo} {v : Word} (hb : u.boot.inReset = false)
    (hx : ∀ r, (u.ctx c).getX r = if r = rd ∧ r ≠ 0 then v else (s.ctx c).getX r) (n : Nat) :
    s.gave (u.retire c ((s.ctx c).pc + 4) n) c rd v := by
  have done := retire_retired hb c ((s.ctx c).pc + 4) n
  exact ⟨fun r => (done.getX r).trans (hx r), done.pc⟩

/-- It has changed nothing else of its context, and nothing outside. -/
theorem Outside.wroteReg_retire {rd : RegNo} {v : Word} (o : s.Outside u c) (hb : u.boot.inReset = false)
    (hx : ∀ r, (u.ctx c).getX r = if r = rd ∧ r ≠ 0 then v else (s.ctx c).getX r) (hs : (s.ctx c).sameSpecial (u.ctx c))
    (hst : (u.ctx c).status = (s.ctx c).status) (pc : Word) (n : Nat) :
    s.wroteReg (u.retire c pc n) c rd v pc ∧ ((u.retire c pc n).ctx c).status = (s.ctx c).status ∧
      s.storesNothing (u.retire c pc n) := by
  have done := retire_retired hb c pc n
  have frame := o.trans (u.retire_outside c pc n)
  exact ⟨⟨fun r => (done.getX r).trans (hx r), done.pc, hs.trans done.special, frame.othersSame⟩, done.status.trans hst,
    frame.storesNothing⟩

theorem ctx_setX_takeCore (s : State) (c : Cid) (rd : RegNo) (v : Word) : ((s.takeCore c).setX c rd v).ctx c =
    ({ s.ctx c with state := .running, cont := if s.holder = some c then (s.ctx c).cont else none } : Ctx).setX rd v := by
  rw [State.setX, ctx_modCtx_same, ctx_takeCore_self]

/-- The instruction in `rd` took `v` on the core and did nothing else. -/
theorem setX_retire (h : s.executing = some c) (rd : RegNo) (v pc : Word) (n : Nat) :
    s.wroteReg (((s.takeCore c).setX c rd v).retire c pc n) c rd v pc ∧
      ((((s.takeCore c).setX c rd v).retire c pc n).ctx c).status = (s.ctx c).status ∧
      s.storesNothing (((s.takeCore c).setX c rd v).retire c pc n) := by
  have frame : s.Outside ((s.takeCore c).setX c rd v) c := (s.takeCore_outside c).trans (modCtx_outside _ c _)
  have live : ((s.takeCore c).setX c rd v).boot.inReset = false := by rw [boot_setX, takeCore_inReset h]
  have self := s.ctx_setX_takeCore c rd v
  apply frame.wroteReg_retire live
  · intro r
    rw [self, getX_setX]
    rfl
  · rw [self, Ctx.setX_eq]
    exact Ctx.sameSpecial_refl _
  · rw [self, Ctx.setX_eq]

/-! ## Waiting -/

theorem beginWait_outside (u : State) (c : Cid) (w : Wait) : u.Outside (u.beginWait c w) c := by
  have cont : u.Outside (u.setCont c none) c := u.modCtx_outside c _
  unfold State.beginWait
  dsimp only
  split
  · exact cont.trans (modCtx_outside _ c _)
  · exact (cont.trans (modCtx_outside _ c _)).trans (yieldSees_outside _ c c)

/-- A context waits where it stands, with its registers (R71). -/
theorem wait_finish (s : State) (c : Cid) {w : Wait} (hr : w ≠ .remote) (hy : ∀ l, w = .yield l → l ≠ [] ∧ c ∉ l) :
    let t := ((s.takeCore c).spend c 0).beginWait c w
    (t.ctx c).state = .waiting ∧ (t.ctx c).wait = some w ∧ (t.ctx c).pc = (s.ctx c).pc ∧ (t.ctx c).x = (s.ctx c).x ∧
      (t.ctx c).status = (s.ctx c).status ∧ s.storesNothing t := by
  have frame := ((s.takeCore_outside c).trans (spend_outside _ c 0)).trans (beginWait_outside _ c w)
  have keeps : ∀ v : Ctx, v.state = .waiting → v.wait = some w → v.yieldSees c = v := by
    intro v hv hw
    by_cases hyield : ∃ l, w = .yield l
    · obtain ⟨l, rfl⟩ := hyield
      obtain ⟨some, other⟩ := hy l rfl
      have all : l.filter (· ≠ c) = l := List.filter_eq_self.mpr fun d hd => by simpa using fun e : d = c => other (e ▸ hd)
      simp only [Ctx.yieldSees, hv, hw, all, some, if_false]
      cases v
      simp_all
    · exact Ctx.yieldSees_of_ne fun l hl => hyield ⟨l, Option.some.inj (hw.symm.trans hl)⟩
  have self : (((s.takeCore c).spend c 0).beginWait c w).ctx c =
      { s.ctx c with state := .waiting, wait := some w, cont := none, cycle := (s.ctx c).cycle + BitVec.ofNat 32 0 } := by
    simp only [State.beginWait, hr, decide_false, Bool.false_and, Bool.false_eq_true, if_false, State.yieldSees, ctx_modAll,
      ctx_modCtx_same, State.setCont, State.spend, ctx_advance, ctx_takeCore_self]
    exact keeps _ rfl rfl
  intro t
  have at_c : t.ctx c = _ := self
  rw [at_c]
  exact ⟨rfl, rfl, rfl, rfl, rfl, frame.storesNothing⟩

/-! ## Trapping -/

/-- A trap that is no double fault (R84). -/
theorem trap_of_clear (u : State) {c : Cid} (h : (u.ctx c).status.getLsbD 4 = false) (cause detail tval back : Nat) :
    u.trap c cause detail tval back = u.setCtx c { u.ctx c with
      estatus := (u.ctx c).status, epc := BitVec.ofNat 32 back, cause := BitVec.ofNat 32 (cause + 256 * (detail % 2 ^ 16)),
      tval := BitVec.ofNat 32 tval, status := (u.ctx c).status ||| 0x10, pc := (u.ctx c).tvec } := by
  simp only [State.trap, h, Bool.false_eq_true, if_false]

/-- The instruction at pc of context `c` traps before it has changed anything. -/
theorem trap_finish {s : State} {c : Cid} (h : (s.ctx c).status.getLsbD 4 = false) {cause : Nat} (hs : cause ≠ Cause.SOFT)
    (detail n : Nat) :
    let t := (Did.trap (s.takeCore c) cause detail 0 n).finish c (s.ctx c).pc
    s.trapped t c (BitVec.ofNat 32 (cause + 256 * (detail % 2 ^ 16))) 0 (s.ctx c).pc ∧ s.storesNothing t := by
  have clear : ((((s.takeCore c).setCont c none).spend c (n + 3)).ctx c).status.getLsbD 4 = false := by
    rw [State.spend, ctx_advance, ctx_modCtx_same, State.setCont, ctx_modCtx_same, ctx_takeCore_self]
    exact h
  have frame (v : Ctx) : s.Outside ((((s.takeCore c).setCont c none).spend c (n + 3)).setCtx c v) c :=
    (((s.takeCore_outside c).trans (modCtx_outside _ c fun v => { v with cont := none })).trans (spend_outside _ c (n + 3))).trans
      (setCtx_outside _ c v)
  simp only [Did.finish, hs, if_false, trap_of_clear _ clear]
  refine ⟨?_, (frame _).storesNothing⟩
  simp only [State.trapped, ctx_setCtx_same, State.spend, ctx_advance, ctx_modCtx_same, State.setCont, ctx_takeCore_self]
  exact ⟨trivial, by simp, trivial, rfl, trivial, trivial, trivial, trivial, trivial, trivial, (frame _).othersSame⟩

end State
end Sys2Proof.Machine
end

section
/-! SUPPORT. WAITE, SLEEP, YIELD and FENCE (R71, R74, R137 to R139, R141). -/

namespace Sys2Proof.Machine
namespace State

variable {s : State} {c : Cid}

/-- An instruction completes with what its body comes to, in the context whose turn it is. -/
theorem completes_runInstr (h : s.executing = some c) {i : Instr} {body : State → Cid → Word → Did} {P : State → Prop}
    (he : exec i s = .next (s.runInstr body)) (hP : P ((body (s.takeCore c) c (s.ctx c).pc).finish c (s.ctx c).pc)) :
    Completes i s P :=
  ⟨_, he, by rw [runInstr_of h]; exact hP⟩

theorem getX_takeCore (s : State) (c : Cid) (r : RegNo) : ((s.takeCore c).ctx c).getX r = (s.ctx c).getX r := by
  rw [ctx_takeCore_self]
  rfl

/-- The instruction did nothing on the core but retire. -/
theorem takeCore_retire (h : s.executing = some c) (pc : Word) (n : Nat) :
    s.wroteReg ((s.takeCore c).retire c pc n) c 0 0 pc ∧ (((s.takeCore c).retire c pc n).ctx c).status = (s.ctx c).status ∧
      s.storesNothing ((s.takeCore c).retire c pc n) := by
  apply (s.takeCore_outside c).wroteReg_retire (takeCore_inReset h)
  · intro r
    rw [getX_takeCore, if_neg fun e => e.2 e.1]
  · rw [ctx_takeCore_self]
    exact Ctx.sameSpecial_refl _
  · rw [ctx_takeCore_self]

/-! ## WAITE and SLEEP -/

/-- The enabled pending events of a context. -/
def hit (s : State) (c : Cid) : Word := (s.ctx c).evpend &&& (s.ctx c).evmask

theorem awaitEvents_takeCore (s : State) (c : Cid) (rd : RegNo) (w : Wait) : (s.takeCore c).awaitEvents c rd w =
    if s.hit c ≠ 0 then .done ((s.takeCore c).setX c rd (s.hit c)) 1 else .wait (s.takeCore c) w 0 := by
  rw [State.awaitEvents, ctx_takeCore_self]
  rfl

theorem awaitEvents_of_hit {rd : RegNo} {w : Wait} (h : s.hit c ≠ 0) :
    (s.takeCore c).awaitEvents c rd w = .done ((s.takeCore c).setX c rd (s.hit c)) 1 := by
  rw [awaitEvents_takeCore, if_pos h]

theorem awaitEvents_of_none {rd : RegNo} {w : Wait} (h : s.hit c = 0) :
    (s.takeCore c).awaitEvents c rd w = .wait (s.takeCore c) w 0 := by
  rw [awaitEvents_takeCore, if_neg (not_not.mpr h)]

theorem exec_waite (rd : RegNo) (s : State) :
    exec (.waite rd 0 0 0) s = .next (s.runInstr fun t c _ => t.awaitEvents c rd .event) := rfl

/-- What SLEEP comes to with the low bits `k` of its register (R137, R141). -/
def sleepAs (t : State) (c : Cid) (rd : RegNo) (k : Nat) : Did :=
  if k = 0 || 5 ≤ k then .illegal t 2
  else if k = 4 && c ≠ 0 then .trap t Cause.PRIV 0 0 0
  else t.awaitEvents c rd (.sleep k)

theorem exec_sleep (rd p : RegNo) (s : State) :
    exec (.sleep rd p 0 0) s = .next (s.runInstr fun t c _ => t.sleepAs c rd (((t.ctx c).getX p).toNat % 8)) := rfl

theorem sleepAs_of_permitted {t : State} {rd : RegNo} {k : Nat} (h : 1 ≤ k ∧ k ≤ 3 ∨ k = 4 ∧ c = 0) :
    t.sleepAs c rd k = t.awaitEvents c rd (.sleep k) := by
  have defined : (k = 0 || 5 ≤ k) = false := by simp; omega
  have allowed : (k = 4 && c ≠ 0) = false := by
    rcases h with h | ⟨_, rfl⟩
    · simp; omega
    · simp
  rw [sleepAs, defined, allowed]
  rfl

theorem sleepAs_of_undefined {t : State} {rd : RegNo} {k : Nat} (h : k = 0 ∨ 5 ≤ k) : t.sleepAs c rd k = .illegal t 2 := by
  rw [sleepAs, if_pos (by simpa using h)]

theorem sleepAs_ship {t : State} {rd : RegNo} (h : c ≠ 0) : t.sleepAs c rd 4 = .trap t Cause.PRIV 0 0 0 := by
  rw [sleepAs, if_neg (by decide), if_pos (by simpa using h)]

/-! ## YIELD -/

/-- The higher-numbered contexts that are READY when context `c` has the core. -/
def higher (s : State) (c : Cid) : List Cid := allCtx.filter fun d => c < d && ((s.takeCore c).ctx d).state = .ready

theorem mem_allCtx (d : Cid) : d ∈ allCtx := by
  revert d
  decide

theorem mem_higher (s : State) (c d : Cid) :
    d ∈ s.higher c ↔ c < d ∧ ((s.ctx d).state = .ready ∨ (s.ctx d).state = .running) := by
  simp only [higher, List.mem_filter, mem_allCtx, true_and, Bool.and_eq_true, decide_eq_true_eq]
  refine and_congr_right fun above => ?_
  rw [ctx_takeCore_other s (ne_of_gt above)]
  by_cases running : (s.ctx d).state = .running <;> simp [running]

theorem higher_eq_nil : s.higher c = [] ↔ ∀ d, ¬(c < d ∧ ((s.ctx d).state = .ready ∨ (s.ctx d).state = .running)) := by
  rw [List.eq_nil_iff_forall_not_mem]
  exact forall_congr' fun d => not_congr (s.mem_higher c d)

theorem completes_yield (h : s.executing = some c) {P : State → Prop}
    (passes : ((s.ctx c).yielded = true ∨ s.higher c = [] ∨ s.hit c ≠ 0) → P ((s.takeCore c).retire c ((s.ctx c).pc + 4) 2))
    (waits : (s.ctx c).yielded = false → s.higher c ≠ [] → s.hit c = 0 →
      P (((s.takeCore c).spend c 0).beginWait c (.yield (s.higher c)))) : Completes (.yield 0 0 0 0) s P := by
  refine completes_runInstr h rfl ?_
  have events : ((s.takeCore c).ctx c).evpend &&& ((s.takeCore c).ctx c).evmask = s.hit c := by rw [ctx_takeCore_self]; rfl
  have once : ((s.takeCore c).ctx c).yielded = (s.ctx c).yielded := by rw [ctx_takeCore_self]
  simp only [events, once, ne_eq, not_true_eq_false, decide_false, Bool.or_self, Bool.false_eq_true, if_false]
  by_cases done : (s.ctx c).yielded = true ∨ s.higher c = [] ∨ s.hit c ≠ 0
  · rw [if_pos (by simpa [higher, or_assoc] using done)]
    exact passes done
  · rw [if_neg (by simpa [higher, or_assoc] using done)]
    obtain ⟨fresh, some, none⟩ := by simpa using done
    exact waits fresh some none

/-! ## FENCE -/

/-- A remote store of context `c` is outstanding. -/
def storeOut (s : State) (c : Cid) : Prop := ∃ r, (s.ctx c).req = some r ∧ r.write = true

/-- A channel that context `c` owns is at work. -/
def channelWorks (s : State) (c : Cid) : Prop := ∃ n : Fin 4, s.dmaOwner n = c.val ∧ (s.dmaState n = 1 ∨ s.dmaState n = 2)

theorem dmaIdle_iff (s : State) (c : Cid) : s.dmaIdle c = true ↔ ¬s.channelWorks c := by
  have all (n : Fin 4) : n ∈ allDma := by revert n; decide
  simp only [State.dmaIdle, List.all_eq_true, all, true_imp_iff, channelWorks]
  push Not
  simp [imp_iff_not_or]

/-- A FENCE of class `cls` is over when nothing that it names is at work (R139). -/
theorem fenceOver_iff (s : State) (c : Cid) (cls : BitVec 3) : s.fenceOver c cls = true ↔
    ¬((cls = 0 ∨ cls.getLsbD 1 = true) ∧ s.storeOut c) ∧ ¬((cls = 0 ∨ cls.getLsbD 2 = true) ∧ s.channelWorks c) := by
  have store : s.storeOut c ↔ (match (s.ctx c).req with | some r => r.write | none => false) = true := by
    unfold storeOut
    cases (s.ctx c).req <;> simp
  have channel := s.dmaIdle_iff c
  rw [store, State.fenceOver]
  grind

theorem fenceOver_takeCore (s : State) (c : Cid) (cls : BitVec 3) : (s.takeCore c).fenceOver c cls = s.fenceOver c cls := by
  rw [State.fenceOver, State.fenceOver, ctx_takeCore_self]
  rfl

theorem exec_fence (cls : BitVec 3) (s : State) : exec (.fence 0 0 0 (cls.zeroExtend 14)) s =
    .next (s.runInstr fun t c _ => if t.fenceOver c cls then .done t 1 else .wait t (.fence cls) 0) := by
  have small : ¬8 ≤ (cls.zeroExtend 14).toNat := by simp; omega
  have same : BitVec.ofNat 3 (cls.zeroExtend 14).toNat = cls := BitVec.eq_of_toNat_eq (by simp; omega)
  change execFence 0 0 0 (cls.zeroExtend 14) s = _
  simp only [execFence, same, decide_eq_false small, ne_eq, not_true_eq_false, decide_false, Bool.or_self, Bool.false_eq_true, if_false]

/-! ## What each leaves -/

/-- The instruction goes on at pc + 4 with `v` in `rd`, and changes nothing else. -/
def wentOn (s : State) (c : Cid) (rd : RegNo) (v : Word) (t : State) : Prop :=
  s.wroteReg t c rd v ((s.ctx c).pc + 4) ∧ (t.ctx c).status = (s.ctx c).status ∧ s.storesNothing t

/-- The context waits for `w` at the same pc, and nothing that it holds is changed. -/
def waits (s : State) (c : Cid) (w : Wait) (t : State) : Prop :=
  (t.ctx c).state = .waiting ∧ (t.ctx c).wait = some w ∧ (t.ctx c).pc = (s.ctx c).pc ∧ (t.ctx c).x = (s.ctx c).x ∧
    (t.ctx c).status = (s.ctx c).status ∧ s.storesNothing t

/-- SLEEP with the low bits `k` permits a state. -/
def Permitted (c : Cid) (k : Nat) : Prop := 1 ≤ k ∧ k ≤ 3 ∨ k = 4 ∧ c = 0

/-- The low three bits of a context's register. -/
def sleepCode (s : State) (c : Cid) (p : RegNo) : Nat := ((s.ctx c).getX p).toNat % 8

section
variable (h : s.executing = some c) (rd p : RegNo)
include h

theorem completes_sleep {P : State → Prop} (hP : P (((s.takeCore c).sleepAs c rd (s.sleepCode c p)).finish c (s.ctx c).pc)) :
    Completes (.sleep rd p 0 0) s P := by
  refine completes_runInstr h (exec_sleep rd p s) ?_
  rw [getX_takeCore]
  exact hP

theorem waite_wentOn (some : s.hit c ≠ 0) : Completes (.waite rd 0 0 0) s (s.wentOn c rd (s.hit c)) := by
  refine completes_runInstr h (exec_waite rd s) ?_
  rw [awaitEvents_of_hit some]
  exact setX_retire h rd _ _ 1

theorem sleep_wentOn (some : s.hit c ≠ 0) (ok : Permitted c (s.sleepCode c p)) :
    Completes (.sleep rd p 0 0) s (s.wentOn c rd (s.hit c)) := by
  refine completes_sleep h rd p ?_
  rw [sleepAs_of_permitted ok, awaitEvents_of_hit some]
  exact setX_retire h rd _ _ 1

theorem waite_waits (none : s.hit c = 0) : Completes (.waite rd 0 0 0) s (s.waits c .event) := by
  refine completes_runInstr h (exec_waite rd s) ?_
  rw [awaitEvents_of_none none]
  exact wait_finish s c (by simp) (by simp)

theorem sleep_waits (none : s.hit c = 0) (ok : Permitted c (s.sleepCode c p)) :
    Completes (.sleep rd p 0 0) s (s.waits c (.sleep (s.sleepCode c p))) := by
  refine completes_sleep h rd p ?_
  rw [sleepAs_of_permitted ok, awaitEvents_of_none none]
  exact wait_finish s c (by simp) (by simp)

theorem sleep_illegal (free : (s.ctx c).status.getLsbD 4 = false) (bad : s.sleepCode c p = 0 ∨ 5 ≤ s.sleepCode c p) :
    Completes (.sleep rd p 0 0) s fun t => s.trapped t c 0x201 0 (s.ctx c).pc := by
  refine completes_sleep h rd p ?_
  rw [sleepAs_of_undefined bad]
  exact (trap_finish free (by decide) 2 0).1

theorem sleep_priv (free : (s.ctx c).status.getLsbD 4 = false) (ship : s.sleepCode c p = 4) (high : c ≠ 0) :
    Completes (.sleep rd p 0 0) s fun t => s.trapped t c 2 0 (s.ctx c).pc := by
  refine completes_sleep h rd p ?_
  rw [ship, sleepAs_ship high]
  exact (trap_finish free (by decide) 0 0).1

end

section
variable (h : s.executing = some c)
include h

theorem yield_wentOn (passes : s.higher c = [] ∨ s.hit c ≠ 0 ∨ (s.ctx c).yielded = true) :
    Completes (.yield 0 0 0 0) s (s.wentOn c 0 0) := by
  refine completes_yield h (fun _ => takeCore_retire h _ 2) fun fresh some none => ?_
  simp [fresh, some, none] at passes

theorem yield_waits (some : s.higher c ≠ []) (none : s.hit c = 0) (fresh : (s.ctx c).yielded = false) :
    Completes (.yield 0 0 0 0) s (s.waits c (.yield (s.higher c))) := by
  refine completes_yield h (fun passes => ?_) fun _ _ _ => wait_finish s c (by simp) fun l e => ?_
  · simp [fresh, some, none] at passes
  · obtain rfl : s.higher c = l := Wait.yield.inj e
    exact ⟨some, fun mem => absurd ((s.mem_higher c c).mp mem).1 (lt_irrefl c)⟩

theorem fence_wentOn {cls : BitVec 3} (passes : s.fenceOver c cls = true) :
    Completes (.fence 0 0 0 (cls.zeroExtend 14)) s (s.wentOn c 0 0) := by
  refine completes_runInstr h (exec_fence cls s) ?_
  rw [fenceOver_takeCore, if_pos passes]
  exact takeCore_retire h _ 1

theorem fence_waits {cls : BitVec 3} (works : ¬s.fenceOver c cls = true) :
    Completes (.fence 0 0 0 (cls.zeroExtend 14)) s (s.waits c (.fence cls)) := by
  refine completes_runInstr h (exec_fence cls s) ?_
  rw [fenceOver_takeCore, if_neg works]
  exact wait_finish s c (by simp) (by simp)

end
end State

/-- Settles O7: each instruction either retires at once or waits where it stands, as its condition says. -/
theorem eventInstructions : Obligations.EventInstructions := by
  unfold Obligations.EventInstructions
  intro s c rd p h
  refine ⟨State.waite_wentOn h rd, State.sleep_wentOn h rd p,
    fun free => ⟨State.sleep_illegal h rd p free, State.sleep_priv h rd p free⟩,
    fun none => ⟨State.waite_waits h rd none, State.sleep_waits h rd p none⟩, ⟨fun passes => ?_, fun some none fresh => ?_⟩,
    fun cls => ⟨fun store channel => ?_, fun works => ?_⟩⟩
  · exact State.yield_wentOn h (passes.imp_left State.higher_eq_nil.mpr)
  · obtain ⟨t, done, waiting⟩ := State.yield_waits h (mt State.higher_eq_nil.mp (not_forall_not.mpr some)) none fresh
    exact ⟨t, done, _, waiting, s.mem_higher c⟩
  · exact State.fence_wentOn h ((s.fenceOver_iff c cls).mpr ⟨store, channel⟩)
  · exact State.fence_waits h fun passes => not_or.mpr ((s.fenceOver_iff c cls).mp passes) works

end Sys2Proof.Machine
end

section
/-! SUPPORT. What raising events, sending frames, latching, appending records and stopping channels leave of the contexts, of the start-up and
of a program's frames in the ports. One lemma per operation, in the order of the model. -/

namespace Sys2Proof.Machine

/-! ## A program's frame in a port -/

/-- Frames alike but for what their link owns. -/
def sentAs (g f : Frame) : Prop :=
  g.ftype = f.ftype ∧ g.dest = f.dest ∧ g.hops = f.hops ∧ g.prio = f.prio ∧ g.ackreq = f.ackreq ∧ g.payload = f.payload

/-- The item is a program's frame `f` under its tag, whole and with its payload as given. -/
structure TxItem.Carries (i : TxItem) (f : Frame) (tag : Nat) : Prop where
  use : i.use = .program tag
  stamp : i.stamp = .fixed
  poison : i.poison = false
  cut : i.cut = none
  frame : sentAs i.frame f

/-- The frame waits on the port, or is on its transmitter; one chosen before its SOF can wait again. -/
def PortSt.Has (v : PortSt) (f : Frame) (tag : Nat) : Prop :=
  (∃ i ∈ v.queue, i.Carries f tag) ∨ ∃ i, v.cur = some i ∧ i.Carries f tag ∧ ∀ e, v.plan = some e → e.1.Carries f tag

theorem TxItem.carries_of (f : Frame) (tag : Nat) : (TxItem.of f (.program tag)).Carries f tag :=
  ⟨rfl, rfl, rfl, rfl, rfl, rfl, rfl, rfl, rfl, rfl⟩

section
variable {i : TxItem} {f : Frame} {tag : Nat} (h : i.Carries f tag)
include h

theorem TxItem.Carries.not_begun : i.begun = false := by
  rw [TxItem.begun, h.poison, h.cut]
  rfl

theorem TxItem.Carries.not_shunned (s : State) : i.shunned s = false := by
  rw [TxItem.shunned, h.use]

theorem TxItem.Carries.not_overflows (now : Nat) : i.overflows now = false := by
  rw [TxItem.overflows, h.stamp]

theorem TxItem.Carries.payloadOf (s : State) : s.payloadOf i = i.frame.payload := by
  rw [State.payloadOf, h.stamp]

end

theorem PortSt.Has.imp {v w : PortSt} {f : Frame} {tag : Nat} (h : v.Has f tag)
    (queue : ∀ i ∈ v.queue, i.Carries f tag → i ∈ w.queue) (cur : w.cur = v.cur) (plan : w.plan = v.plan) : w.Has f tag := by
  obtain ⟨i, waits, carries⟩ | ⟨i, flies, carries, again⟩ := h
  · exact .inl ⟨i, queue i waits carries, carries⟩
  · exact .inr ⟨i, cur.trans flies, carries, fun e chosen => again e (plan.symm.trans chosen)⟩

/-- With nothing on the transmitter every frame of the port waits. -/
theorem PortSt.Has.waits {v : PortSt} {f : Frame} {tag : Nat} (h : v.Has f tag) (idle : v.cur = none) : ∃ i ∈ v.queue, i.Carries f tag := by
  obtain waits | ⟨i, flies, _⟩ := h
  · exact waits
  · rw [idle] at flies
    cases flies

/-- A list with an element put between still has all that it had. -/
theorem mem_insertAt {α : Type} {ok : α → Bool} {l : List α} {x y : α} (h : y ∈ l) : y ∈ l.takeWhile ok ++ x :: l.dropWhile ok := by
  rw [← List.takeWhile_append_dropWhile (p := ok) (l := l), List.mem_append] at h
  exact List.mem_append.mpr (h.imp_right (List.mem_cons_of_mem x))

theorem mem_insertAt_self {α : Type} {ok : α → Bool} {l : List α} {x : α} : x ∈ l.takeWhile ok ++ x :: l.dropWhile ok :=
  List.mem_append_right _ List.mem_cons_self

/-- Of the waiting frames one is picked, and the others stay. -/
theorem mem_pickItem {ok : TxItem → Bool} {l : List TxItem} {i : TxItem} {rest : List TxItem} (h : pickItem ok l = some (i, rest)) :
    ∀ j ∈ l, j = i ∨ j ∈ rest := by
  induction l generalizing i rest with
  | nil => cases h
  | cons x l ih =>
    rw [pickItem] at h
    intro j mem
    split at h
    · split at h
      · obtain ⟨rfl, rfl⟩ := Prod.mk.inj (Option.some.inj h)
        exact List.mem_cons.mp mem
      · cases h
    · next k r picked =>
      split at h
      · obtain ⟨rfl, rfl⟩ := Prod.mk.inj (Option.some.inj h)
        exact List.mem_cons.mp mem
      · obtain ⟨rfl, rfl⟩ := Prod.mk.inj (Option.some.inj h)
        obtain rfl | mem := List.mem_cons.mp mem
        · exact .inr List.mem_cons_self
        · exact (ih picked j mem).imp_right (List.mem_cons_of_mem x)

theorem PortSt.loadSide_sends (v : PortSt) (now : Nat) :
    (v.loadSide now).queue = v.queue ∧ (v.loadSide now).cur = v.cur ∧ (v.loadSide now).plan = v.plan := by
  unfold PortSt.loadSide
  split
  · split
    · split <;> exact ⟨rfl, rfl, rfl⟩
    · exact ⟨rfl, rfl, rfl⟩
  · split <;> exact ⟨rfl, rfl, rfl⟩

/-! ## The relation -/

theorem Ctx.keeps_trans {u v w : Ctx} (h : u.keeps v) (g : v.keeps w) : u.keeps w := by
  unfold Ctx.keeps at *
  have pending : u.evpend &&& ~~~w.evpend = 0 := by
    have h' := h.2.2.2.2.2.2.2.2.2.2.2.2.2.2.2.2
    have g' := g.2.2.2.2.2.2.2.2.2.2.2.2.2.2.2.2
    apply BitVec.eq_of_getLsbD_eq
    intro i hi
    have a := congrArg (·.getLsbD i) h'
    have b := congrArg (·.getLsbD i) g'
    simp [hi] at a b ⊢
    tauto
  simp_all

/-- `t` has the contexts of `a` but for pending events and waits that are over, the start-up of `a`, and every program's frame that is in a
port of `a`. -/
structure State.Sends (a t : State) : Prop where
  ctx : ∀ c, (a.ctx c).keeps (t.ctx c)
  state : ∀ c, (a.ctx c).state ≠ .waiting → (t.ctx c).state = (a.ctx c).state
  boot : t.boot = a.boot
  has : ∀ p f tag, (a.port p).Has f tag → (t.port p).Has f tag

namespace State

variable {a s : State}

theorem Sends.refl (s : State) : s.Sends s := ⟨fun _ => Ctx.keeps_refl _, fun _ _ => rfl, rfl, fun _ _ _ h => h⟩

theorem Sends.trans {t : State} (h : a.Sends s) (g : s.Sends t) : a.Sends t where
  ctx c := Ctx.keeps_trans (h.ctx c) (g.ctx c)
  state c run := (g.state c (by rwa [h.state c run])).trans (h.state c run)
  boot := g.boot.trans h.boot
  has p f tag mine := g.has p f tag (h.has p f tag mine)

theorem Sends.rang {t : State} (h : a.Sends t) {c : Cid} {e : Nat} (r : a.rang c e) : t.rang c e := by
  have small : e < 32 := BitVec.lt_of_getLsbD r
  have kept := congrArg (·.getLsbD e) (h.ctx c).2.2.2.2.2.2.2.2.2.2.2.2.2.2.2.2
  have was : (a.ctx c).evpend.getLsbD e = true := r
  rw [State.rang, BitVec.getLsbD_eq_getElem small]
  simpa [was, small] using kept

/-- Only the contexts, the ports and the start-up count. -/
theorem Sends.same {pending now free struck wrote rtime rtHold hfo lastTime regs latches mem eccBad holder hostSel servedSel dma serving load
    nvmQ trips replyAt primSince upFrom bbx meas ladle snap power safe sfu rack hostPort lt cvu} (h : a.Sends s) :
    a.Sends ⟨pending, now, free, struck, wrote, rtime, rtHold, hfo, lastTime, regs, latches, mem, eccBad, s.ctxs, holder,
      hostSel, servedSel, dma, serving, load, nvmQ, s.ports, trips, replyAt, primSince, upFrom, bbx, meas, ladle, snap, power, safe, sfu,
      rack, hostPort, s.boot, lt, cvu⟩ := ⟨h.ctx, h.state, h.boot, h.has⟩

theorem Sends.ite {t : State} {c : Prop} [Decidable c] (hs : a.Sends s) (ht : a.Sends t) : a.Sends (if c then s else t) := by
  split
  · exact hs
  · exact ht

theorem Sends.forAll {α : Type} {l : List α} {f : α → State → State} (h : a.Sends s) (hf : ∀ x t, a.Sends t → a.Sends (f x t)) :
    a.Sends (Machine.forAll l f s) := by
  unfold Machine.forAll
  induction l generalizing s with
  | nil => exact h
  | cons x l ih => exact ih (hf x s h)

theorem Sends.setReg {k w} (h : a.Sends s) : a.Sends (s.setReg k w) := h.same
theorem Sends.setFld {f v i} (h : a.Sends s) : a.Sends (s.setFld f v i) := h.same
theorem Sends.setFlag {f b i} (h : a.Sends s) : a.Sends (s.setFlag f b i) := h.same
theorem Sends.setBitOf {f n b i} (h : a.Sends s) : a.Sends (s.setBitOf f n b i) := h.same
theorem Sends.update {t f v i} (h : a.Sends s) : a.Sends (s.update t f v i) := h.same
theorem Sends.count {f i} (h : a.Sends s) : a.Sends (s.count f i) := h.same
theorem Sends.setBytes {ad l} (h : a.Sends s) : a.Sends (s.setBytes ad l) := by
  induction l generalizing s ad with
  | nil => exact h
  | cons b l ih => exact ih h.same

theorem Sends.putMem {ad l} (h : a.Sends s) : a.Sends (s.putMem ad l) := by unfold State.putMem; exact h.setBytes.same

/-- Waits that are over change a context's state alone. -/
theorem Sends.modAll {f : Cid → Ctx → Ctx} (h : a.Sends s)
    (hf : ∀ c v, v.keeps (f c v) ∧ (v.state ≠ .waiting → (f c v).state = v.state)) : a.Sends (s.modAll f) := by
  refine h.trans ⟨fun c => ?_, fun c run => ?_, rfl, fun _ _ _ mine => mine⟩
  · rw [ctx_modAll]
    exact (hf c _).1
  · rw [ctx_modAll]
    exact (hf c _).2 run

theorem Sends.modCtx {c : Cid} {f : Ctx → Ctx} (h : a.Sends s)
    (hf : ∀ v, v.keeps (f v) ∧ (v.state ≠ .waiting → (f v).state = v.state)) : a.Sends (s.modCtx c f) := by
  refine h.trans ⟨fun d => ?_, fun d run => ?_, rfl, fun _ _ _ mine => mine⟩ <;> by_cases hd : d = c
  · subst hd
    rw [ctx_modCtx_same]
    exact (hf _).1
  · rw [ctx_modCtx_other _ _ _ _ hd]
    exact Ctx.keeps_refl _
  · subst hd
    rw [ctx_modCtx_same]
    exact (hf _).2 run
  · rw [ctx_modCtx_other _ _ _ _ hd]

theorem checkEvents_state {v : Ctx} (h : v.state ≠ .waiting) : v.checkEvents.state = v.state := by
  unfold Ctx.checkEvents
  split
  · rfl
  · split
    · contradiction
    · contradiction
    · contradiction
    · rfl

theorem Sends.raise {e} (h : a.Sends s) : a.Sends (s.raise e) := by
  have one (v : Ctx) : v.keeps (v.raise s.now e) ∧ (v.state ≠ .waiting → (v.raise s.now e).state = v.state) :=
    ⟨v.raise_keeps _ _, fun run => checkEvents_state run⟩
  unfold State.raise
  exact (h.modCtx one).ite (h.modAll fun _ => one)

theorem Sends.wakeFences (h : a.Sends s) : a.Sends s.wakeFences := by
  unfold State.wakeFences
  refine h.modAll fun c v => ?_
  split
  · next waits _ =>
    split
    · exact ⟨v.keeps_refl, fun run => absurd waits run⟩
    · exact ⟨v.keeps_refl, fun _ => rfl⟩
  · exact ⟨v.keeps_refl, fun _ => rfl⟩

/-! ## Ports -/

theorem port_setPort_same (s : State) (p : Port) (v : PortSt) : (s.setPort p v).port p = v := by
  simp [State.port, State.setPort]

theorem port_setPort_other (s : State) {p q : Port} (v : PortSt) (h : q ≠ p) : (s.setPort p v).port q = s.port q := by
  simp [State.port, State.setPort, Fin.val_ne_of_ne h.symm]

theorem Sends.setPort {p v} (h : a.Sends s) (hv : ∀ f tag, (s.port p).Has f tag → v.Has f tag) : a.Sends (s.setPort p v) := by
  refine h.trans ⟨fun _ => Ctx.keeps_refl _, fun _ _ => rfl, rfl, fun q f tag mine => ?_⟩
  by_cases hq : q = p
  · subst hq
    rw [port_setPort_same]
    exact hv f tag mine
  · rwa [port_setPort_other _ _ hq]

theorem Sends.modPort {p f} (h : a.Sends s) (hf : ∀ g tag, (s.port p).Has g tag → (f (s.port p)).Has g tag) : a.Sends (s.modPort p f) := by
  unfold State.modPort
  exact h.setPort hf

theorem Sends.raisePort {p} (h : a.Sends s) : a.Sends (s.raisePort p) := by unfold State.raisePort; exact h.ite h.raise
theorem Sends.setLink {p st} (h : a.Sends s) : a.Sends (s.setLink p st) := by unfold State.setLink; exact h.ite h.setFld.raisePort

theorem Sends.txFail {u p} (h : a.Sends s) : a.Sends (s.txFail u p) := by
  unfold State.txFail
  extract_lets s1
  have h1 : a.Sends s1 := h.count
  split
  · exact h1.setBitOf.raise
  · exact h1.count
  · exact h1

theorem Sends.ackLost {p i} (h : a.Sends s) : a.Sends (s.ackLost p i) := by
  unfold State.ackLost
  exact (h.modPort fun _ _ mine => mine).ite h

theorem Sends.failItem {p i} (h : a.Sends s) : a.Sends (s.failItem p i) := by
  unfold State.failItem
  extract_lets s1 s2
  have h1 : a.Sends s1 := h.ackLost
  have h2 : a.Sends s2 := h1.count
  split
  · exact h1.txFail
  · split
    · exact h1
    · split
      · exact h2.txFail
      · exact h2

/-- The item that an idle transmitter takes is on it, and what waited still waits. -/
theorem startTx_has {p i f tag} (h : i.Carries f tag ∨ ∃ j ∈ (s.port p).queue, j.Carries f tag) :
    ((s.startTx p i).port p).Has f tag := by
  have port (u : State) (fresh : Bool) (w : Nat) : ((if fresh then u.setFld Reg.PORT_LSEQ.LAST_TX w p else u).port p) = u.port p := by
    split <;> rfl
  unfold State.startTx
  dsimp only
  rw [port, port_setPort_same]
  obtain carries | ⟨j, waits, carries⟩ := h
  · refine .inr ⟨_, rfl, ⟨carries.use, carries.stamp, carries.poison, carries.cut, ?_⟩, fun e chosen => ?_⟩
    · obtain ⟨type, dest, hops, prio, ackreq, payload⟩ := carries.frame
      exact ⟨type, dest, hops, prio, ackreq, (carries.payloadOf _).trans payload⟩
    · dsimp only at chosen
      split at chosen
      · exact Option.some.inj chosen ▸ carries
      · cases chosen
  · exact .inl ⟨j, ((s.port p).loadSide_sends _).1.symm ▸ waits, carries⟩

theorem startTx_port_other {p q i} (h : q ≠ p) : (s.startTx p i).port q = s.port q := by
  unfold State.startTx
  dsimp only
  split <;> exact port_setPort_other s _ h

theorem startTx_ctxs (s : State) (p i) : (s.startTx p i).ctxs = s.ctxs := by
  unfold State.startTx
  dsimp only
  split <;> rfl

theorem startTx_boot (s : State) (p i) : (s.startTx p i).boot = s.boot := by
  unfold State.startTx
  dsimp only
  split <;> rfl

/-- From `t`, which is `s` but for what has been taken from port `p`, a transmission of that begins. -/
theorem Sends.startTx {t : State} {p i} (h : a.Sends s) (ctxs : t.ctxs = s.ctxs) (boot : t.boot = s.boot)
    (others : ∀ q, q ≠ p → t.port q = s.port q)
    (taken : ∀ f tag, (s.port p).Has f tag → i.Carries f tag ∨ ∃ j ∈ (t.port p).queue, j.Carries f tag) : a.Sends (t.startTx p i) := by
  have ctx (c : Cid) : (t.startTx p i).ctx c = s.ctx c := by rw [State.ctx, startTx_ctxs, ctxs, State.ctx]
  refine h.trans ⟨fun c => ?_, fun c _ => by rw [ctx], (startTx_boot t p i).trans boot, fun q f tag mine => ?_⟩
  · rw [ctx]
    exact Ctx.keeps_refl _
  · by_cases hq : q = p
    · subst hq
      exact startTx_has (taken f tag mine)
    · rwa [startTx_port_other hq, others q hq]

theorem Sends.preempt {p} (h : a.Sends s) : a.Sends (s.preempt p) := by
  unfold State.preempt
  dsimp only
  split
  · next c t flies _ =>
    refine Sends.ite (h.setPort fun f tag mine => ?_) h
    obtain ⟨i, waits, carries⟩ | ⟨i, cur, carries, _⟩ := mine
    · exact .inl ⟨i, by dsimp only; split <;> simp [waits], carries⟩
    · obtain rfl : c = i := Option.some.inj (flies.symm.trans cur)
      exact .inl ⟨c, by simp [carries.not_begun, carries.not_shunned], carries⟩
  · exact h

theorem Sends.unpick {p} (h : a.Sends s) : a.Sends (s.unpick p) := by
  unfold State.unpick
  dsimp only
  split
  · next i last chosen =>
    refine Sends.ite (h.setPort fun f tag mine => ?_).setFld h
    obtain ⟨j, waits, carries⟩ | ⟨j, cur, _, again⟩ := mine
    · exact .inl ⟨j, mem_insertAt waits, carries⟩
    · exact .inl ⟨i, mem_insertAt_self, again _ chosen⟩
  · exact h

theorem Sends.unplan {p} (h : a.Sends s) : a.Sends (s.unplan p) := by
  unfold State.unplan
  split
  · exact h.unpick.ite h
  · exact h

theorem Sends.dropMissed {p} (h : a.Sends s) : a.Sends (s.dropMissed p) := by
  unfold State.dropMissed
  refine h.modPort fun f tag mine => mine.imp (fun i waits carries => ?_) rfl rfl
  exact List.mem_filter.mpr ⟨waits, by rw [carries.not_begun]; rfl⟩

theorem Sends.dropLate {p} (h : a.Sends s) : a.Sends (s.dropLate p) := by
  unfold State.dropLate
  refine Sends.ite (h.modPort fun f tag mine => mine.imp (fun i waits carries => ?_) rfl rfl).setFlag h
  exact List.mem_filter.mpr ⟨waits, by simp [carries.not_overflows]⟩

theorem Sends.kick {p} (h : a.Sends s) : a.Sends (s.kick p) := by
  unfold State.kick
  extract_lets s1 v
  have h1 : a.Sends s1 := h.dropMissed.dropLate.unplan.preempt
  split
  · exact h1
  · next free =>
    have idle : (s1.port p).cur = none := by
      rw [Bool.or_eq_true, not_or] at free
      simpa [v] using free.1
    have waits (x : TxItem) (f : Frame) (tag : Nat) (mine : (s1.port p).Has f tag) :
        x.Carries f tag ∨ ∃ i ∈ (s1.port p).queue, i.Carries f tag := .inr (mine.waits idle)
    split
    · split
      · next i rest picked =>
        refine h1.startTx rfl rfl (fun q hq => port_setPort_other _ _ hq) fun f tag mine => ?_
        obtain ⟨j, mem, carries⟩ := mine.waits idle
        obtain rfl | mem := mem_pickItem picked j mem
        · exact .inl carries
        · exact .inr ⟨j, by rwa [port_setPort_same], carries⟩
      · exact Sends.ite (h1.startTx rfl rfl (fun _ _ => rfl) (waits _)) h1
    · exact Sends.ite (h1.startTx rfl rfl (fun _ _ => rfl) (waits _)) h1

theorem Sends.resume {p} (h : a.Sends s) : a.Sends (s.resume p) := by
  unfold State.resume
  exact (h.modPort fun _ _ mine => mine).setLink.kick.ite h

theorem Sends.await {p i} (h : a.Sends s) : a.Sends (s.await p i) := by
  unfold State.await
  exact h.modPort fun _ _ mine => mine.imp (fun _ waits _ => mem_insertAt waits) rfl rfl

theorem Sends.enqueue {p i} (h : a.Sends s) : a.Sends (s.enqueue p i) := by
  unfold State.enqueue
  exact h.failItem.ite (h.await.kick.ite (h.await.ite (h.await.resume.ite h.failItem)))

/-! ## Records and latches -/

theorem Sends.sendMirror {p payload use} (h : a.Sends s) : a.Sends (s.sendMirror p payload use) := by
  unfold State.sendMirror
  exact h.ite h.enqueue

theorem Sends.mrecTo {area r} (h : a.Sends s) : a.Sends (s.mrecTo area r) := by
  unfold State.mrecTo
  dsimp only
  split
  · split
    · exact h.ite h.sendMirror
    · exact h
  · split
    · exact h.ite h.sendMirror
    · exact h

theorem Sends.mirror {r} (h : a.Sends s) : a.Sends (s.mirror r) := by unfold State.mirror; exact (h.ite h.same).mrecTo.mrecTo

theorem Sends.handoff {kind sticky origin content owner} (h : a.Sends s) : a.Sends (s.handoff kind sticky origin content owner) := by
  unfold State.handoff
  extract_lets _ _ _ _ _ _ s1 s2 s3
  have h1 : a.Sends s1 := h.same.setFld
  have h2 : a.Sends s2 := h1.setFlag.raise.ite h1
  have h3 : a.Sends s3 := h2.count.ite h2
  exact h3.mirror.ite h1.same

theorem Sends.bbxAppend {kind sticky content} (h : a.Sends s) : a.Sends (s.bbxAppend kind sticky content) := by
  unfold State.bbxAppend
  exact h.count.ite (h.handoff.ite h.same)

theorem Sends.putBank {b i l} (h : a.Sends s) : a.Sends (s.putBank b i l) := by
  induction l generalizing s i with
  | nil => exact h
  | cons w l ih => exact ih h.setReg

theorem Sends.fillBank {bank} (h : a.Sends s) : a.Sends (s.fillBank bank) := by
  unfold State.fillBank State.putHfo
  exact h.putBank.ite (h.putBank.putBank.putBank.putBank.ite h.putBank.putBank)

theorem Sends.recordLatch {source bank} (h : a.Sends s) : a.Sends (s.recordLatch source bank) := by
  unfold State.recordLatch State.tripRecord
  exact (h.bbxAppend.ite h).ite h.same

theorem Sends.noteLatch {number bank} (h : a.Sends s) : a.Sends (s.noteLatch number bank) := by
  unfold State.noteLatch State.setBankAt
  exact h.setFld.same.setFlag.ite (h.setFld.same.ite h.setFld.same.setFlag).same

theorem Sends.latch {source number bank late} (h : a.Sends s) : a.Sends (s.latch source number bank late) := by
  unfold State.latch
  exact h.ite h.putBank.fillBank.noteLatch.recordLatch.raise

theorem Sends.takeLocal (h : a.Sends s) : a.Sends s.takeLocal.2 := by unfold State.takeLocal; exact h.same

theorem Sends.latchTrip {src p here} (h : a.Sends s) : a.Sends (s.latchTrip src p here) := by
  unfold State.latchTrip
  exact h.same.takeLocal.latch.setFlag.ite h.same.takeLocal.latch

theorem Sends.sendUsable {f stamp} (h : a.Sends s) : a.Sends (s.sendUsable f stamp) := by
  unfold State.sendUsable
  exact h.forAll fun _ _ h => h.enqueue

theorem Sends.followUp (h : a.Sends s) : a.Sends s.followUp := by
  unfold State.followUp State.sendSched State.takeRack
  exact h.update.sendUsable.enqueue.same.ite h

/-! ## Channels that stop -/

theorem Sends.dmaHalt {n code cause} (h : a.Sends s) : a.Sends (s.dmaHalt n code cause) := by
  unfold State.dmaHalt State.dmaBack
  exact ((h.putMem.ite h).setFld.setFld.same).wakeFences

theorem Sends.dmaStop {n code} (h : a.Sends s) : a.Sends (s.dmaStop n code) := by
  unfold State.dmaStop
  exact h.same.ite (h.dmaHalt.ite h)

theorem Sends.stopOwned {c} (h : a.Sends s) : a.Sends (s.stopOwned c) := by
  unfold State.stopOwned
  exact h.forAll fun _ _ h => h.dmaStop.ite h

end State
end Sys2Proof.Machine
end

section
/-! SUPPORT. CSRR, CSRW and SELCH (R80 to R82, R98, R135, R136). -/

namespace Sys2Proof.Machine

/-! ## Table 3-3 as a function of a context -/

theorem csrTable_setX (c : Cid) (v : Ctx) (r : RegNo) (w : Word) (j : Nat) : csrTable c (v.setX r w) j = csrTable c v j := by
  rw [Ctx.setX_eq]
  rfl

theorem Ctx.setX_sameSpecial (v : Ctx) (r : RegNo) (w : Word) : v.sameSpecial (v.setX r w) := by
  rw [Ctx.setX_eq]
  exact v.sameSpecial_refl

/-- What has retired has its control registers but CYCLE. -/
theorem State.Retired.csrTable {v w : Ctx} {pc : Word} (h : State.Retired v w pc) (c : Cid) {j : Nat} (hj : j ≠ 9) :
    Machine.csrTable c w j = Machine.csrTable c v j := by
  obtain ⟨epc, estatus, cause, tval, tvec, evmask, evpend, scratch0, scratch1, _⟩ := h.special
  unfold Machine.csrTable
  split
  case h_10 => contradiction
  all_goals simp only [h.status, epc, estatus, cause, tval, tvec, evmask, evpend, scratch0, scratch1]

theorem csrTable_lt {c : Cid} {v : Ctx} {k : Nat} {w : Word} (h : csrTable c v k = some w) : k < 0xE ∧ k ≠ 0xA := by
  unfold csrTable at h
  split at h
  case h_13 => cases h
  all_goals decide

namespace State

variable {s : State} {c : Cid}

/-- Past the context's own registers stand the selectors, and no more. -/
theorem csr_of_ge {k : Nat} (h : 0xE ≤ k) : s.csr c k =
    if 0x10 ≤ k && k ≤ 0x15 then some (BitVec.ofNat 32 (s.selOf (.ctx c) (k - 0x10))) else none := by
  rw [State.csr] <;> omega

theorem csr_of_csrTable {k : Nat} {w : Word} (h : csrTable c (s.ctx c) k = some w) : s.csr c k = some w := by
  unfold csrTable at h
  split at h
  case h_13 => cases h
  all_goals exact h

theorem csrTable_takeCore (s : State) (c : Cid) (k : Nat) : csrTable c ((s.takeCore c).ctx c) k = csrTable c (s.ctx c) k := by
  rw [ctx_takeCore_self]
  rfl

theorem csr_of_table {k : Nat} {w : Word} (h : csrTable c (s.ctx c) k = some w) : (s.takeCore c).csr c k = some w :=
  csr_of_csrTable ((s.csrTable_takeCore c k).trans h)

theorem csr_of_none {k : Nat} (h : k = 0xE ∨ k = 0xF ∨ 0x16 ≤ k) : s.csr c k = none := by
  rw [csr_of_ge (by omega), if_neg (by simp; omega)]

theorem selOf_takeCore (s : State) (c : Cid) (n : Fin 6) : (s.takeCore c).selOf (.ctx c) n.val = (s.ctx c).sel[n] := by
  rw [State.selOf, ctx_takeCore_self]
  simp

theorem csr_selector (n : Fin 6) : (s.takeCore c).csr c (0x10 + n.val) = some (BitVec.ofNat 32 (s.ctx c).sel[n]) := by
  rw [csr_of_ge (by omega), if_pos (by simp; omega), Nat.add_sub_cancel_left, selOf_takeCore]

/-! ## CSRR -/

/-- The context when it has read RTIME_LO. -/
def holdingRtime (s : State) (v : Ctx) : Ctx := { v with rtimeHold := BitVec.ofNat 24 (s.rackTicks / 2 ^ 32 + 2 ^ 16 * s.epoch) }

section
variable (h : s.executing = some c) (rd p : RegNo)
include h

/-- CSRR of an index that the table has. -/
theorem completes_csrr {k : BitVec 14} {w : Word} {P : State → Prop} (small : k.toNat < 2 ^ 12)
    (value : (s.takeCore c).csr c k.toNat = some w)
    (hP : P ((((s.takeCore c).csrReadEffect c k.toNat).setX c rd w).retire c ((s.ctx c).pc + 4) 1)) : Completes (.csrr rd 0 0 k) s P := by
  refine completes_runInstr h rfl ?_
  simp only [value, decide_eq_false (not_le.mpr small), ne_eq, not_true_eq_false, decide_false, Bool.or_self, Bool.false_eq_true, if_false]
  exact hP

theorem csrr_gives {k : BitVec 14} {w : Word} (small : k.toNat < 2 ^ 12) (other : k.toNat ≠ 0xA)
    (value : (s.takeCore c).csr c k.toNat = some w) : Completes (.csrr rd 0 0 k) s (s.wentOn c rd w) := by
  refine completes_csrr h rd small value ?_
  rw [State.csrReadEffect, if_neg other]
  exact setX_retire h rd w _ 1

/-- What an instruction that changes its own context by `f`, and puts `v` in rd, leaves. -/
theorem modCtx_retire (f : Ctx → Ctx) (v pc : Word) (n : Nat) :
    Retired ((f ((s.takeCore c).ctx c)).setX rd v) (((((s.takeCore c).modCtx c f).setX c rd v).retire c pc n).ctx c) pc ∧
      s.Outside ((((s.takeCore c).modCtx c f).setX c rd v).retire c pc n) c := by
  have live : (((s.takeCore c).modCtx c f).setX c rd v).boot.inReset = false := by
    rw [boot_setX, modCtx_boot, takeCore_inReset h]
  have self : (((s.takeCore c).modCtx c f).setX c rd v).ctx c = (f ((s.takeCore c).ctx c)).setX rd v := by
    rw [State.setX, ctx_modCtx_same, ctx_modCtx_same]
  have done := retire_retired live c pc n
  rw [self] at done
  exact ⟨done, (((s.takeCore_outside c).trans (modCtx_outside _ c f)).trans (modCtx_outside _ c _)).trans (retire_outside _ c pc n)⟩

/-- It has put `v` in rd and left the other registers, when `f` leaves them. -/
theorem modCtx_gave {f : Ctx → Ctx} (hf : ∀ v, (f v).x = v.x) (v : Word) (n : Nat) :
    s.gave ((((s.takeCore c).modCtx c f).setX c rd v).retire c ((s.ctx c).pc + 4) n) c rd v := by
  obtain ⟨done, _⟩ := modCtx_retire h rd f v ((s.ctx c).pc + 4) n
  have kept (r : RegNo) : (f ((s.takeCore c).ctx c)).getX r = (s.ctx c).getX r := by
    rw [Ctx.getX, hf, ctx_takeCore_self]
    rfl
  exact ⟨fun r => by rw [done.getX, getX_setX, kept], done.pc⟩

/-- RTIME_LO holds the rest of rack time for RTIME_HI (R81). -/
theorem csrr_rtimeLo : Completes (.csrr rd 0 0 0xA) s fun t =>
    s.wroteReg t c rd (BitVec.ofNat 32 (s.takeCore c).rackTicks) ((s.ctx c).pc + 4) ∧
      (t.ctx c).rtimeHold.toNat = (s.takeCore c).rackTicks / 2 ^ 32 % 2 ^ 16 + 2 ^ 16 * (s.takeCore c).epoch ∧
      (t.ctx c).status = (s.ctx c).status ∧ s.storesNothing t := by
  refine completes_csrr h rd (by decide) rfl ?_
  obtain ⟨done, outside⟩ := modCtx_retire h rd (s.takeCore c).holdingRtime (BitVec.ofNat 32 (s.takeCore c).rackTicks) ((s.ctx c).pc + 4) 1
  have gave := modCtx_gave h rd (f := (s.takeCore c).holdingRtime) (fun _ => rfl) (BitVec.ofNat 32 (s.takeCore c).rackTicks) 1
  rw [Ctx.setX_eq, ctx_takeCore_self] at done
  have ticks : (s.takeCore c).rackTicks < 2 ^ 48 := Nat.mod_lt _ (by decide)
  have epoch : (s.takeCore c).epoch < 256 := Nat.mod_lt _ (by decide)
  refine ⟨⟨gave.1, gave.2, done.special, outside.othersSame⟩, ?_, done.status, outside.storesNothing⟩
  refine (congrArg BitVec.toNat done.rtimeHold).trans ?_
  change (BitVec.ofNat 24 _).toNat = _
  rw [BitVec.toNat_ofNat]
  omega

theorem csrr_rtimeHi : Completes (.csrr rd 0 0 0xB) s fun t =>
    s.wroteReg t c rd ((s.ctx c).rtimeHold.zeroExtend 32) ((s.ctx c).pc + 4) ∧ (t.ctx c).rtimeHold = (s.ctx c).rtimeHold ∧
      (t.ctx c).status = (s.ctx c).status ∧ s.storesNothing t := by
  have value : (s.takeCore c).csr c 0xB = some ((s.ctx c).rtimeHold.zeroExtend 32) := by
    rw [State.csr, ctx_takeCore_self]
  refine completes_csrr h rd (by decide) value ?_
  have self := s.ctx_setX_takeCore c rd ((s.ctx c).rtimeHold.zeroExtend 32)
  have done := retire_retired ((boot_setX _ c rd _).symm ▸ takeCore_inReset h) c ((s.ctx c).pc + 4) 1
    (u := (s.takeCore c).setX c rd ((s.ctx c).rtimeHold.zeroExtend 32))
  rw [self, Ctx.setX_eq] at done
  obtain ⟨wrote, status, stored⟩ := setX_retire h rd ((s.ctx c).rtimeHold.zeroExtend 32) ((s.ctx c).pc + 4) 1
  exact ⟨wrote, done.rtimeHold, status, stored⟩

/-- An index that the table has not (R82). -/
theorem csr_traps {k : BitVec 14} (small : k.toNat < 2 ^ 12) (none : k.toNat = 0xE ∨ k.toNat = 0xF ∨ 0x16 ≤ k.toNat)
    (free : (s.ctx c).status.getLsbD 4 = false) :
    ∀ i ∈ [Instr.csrr rd 0 0 k, .csrw rd p 0 k], Completes i s fun t => s.trapped t c 0x401 0 (s.ctx c).pc ∧ s.storesNothing t := by
  have traps : s.trapped ((Did.illegal (s.takeCore c) 4).finish c (s.ctx c).pc) c 0x401 0 (s.ctx c).pc ∧
      s.storesNothing ((Did.illegal (s.takeCore c) 4).finish c (s.ctx c).pc) := trap_finish free (by decide) 4 0
  have value : (s.takeCore c).csr c k.toNat = Option.none := csr_of_none none
  refine List.forall_mem_cons.mpr ⟨?_, List.forall_mem_singleton.mpr ?_⟩ <;> refine completes_runInstr h rfl ?_
  · simp only [value, decide_eq_false (not_le.mpr small), ne_eq, not_true_eq_false, decide_false, Bool.or_self, Bool.false_eq_true, if_false]
    exact traps
  · simp only [value, decide_eq_false (not_le.mpr small), ne_eq, not_true_eq_false, decide_false, Bool.or_self, Bool.false_eq_true, if_false]
    exact traps

/-! ## CSRW -/

/-- CSRW of an index that the table has, where it does not trap. -/
theorem completes_csrw {k : BitVec 14} {old : Word} {P : State → Prop} (small : k.toNat < 2 ^ 12)
    (value : (s.takeCore c).csr c k.toNat = some old) (passes : csrTrap c k.toNat ((s.ctx c).getX p) = none)
    (hP : P (((((s.takeCore c).csrReadEffect c k.toNat).csrWrite c k.toNat ((s.ctx c).getX p)).setX c rd old).retire c
      ((s.ctx c).pc + 4) 1)) : Completes (.csrw rd p 0 k) s P := by
  refine completes_runInstr h rfl ?_
  simp only [value, getX_takeCore, passes, decide_eq_false (not_le.mpr small), ne_eq, not_true_eq_false, decide_false, Bool.or_self,
    Bool.false_eq_true, if_false]
  exact hP

/-- A register of the context's own, written by `f`. -/
theorem csrw_own {k : BitVec 14} {old : Word} {f : Ctx → Ctx} (value : csrTable c (s.ctx c) k.toNat = some old)
    (writes : (s.takeCore c).csrWrite c k.toNat ((s.ctx c).getX p) = (s.takeCore c).modCtx c f) (hf : ∀ v, (f v).x = v.x) :
    Completes (.csrw rd p 0 k) s fun t => Retired ((f ((s.takeCore c).ctx c)).setX rd old) (t.ctx c) ((s.ctx c).pc + 4) ∧
      s.gave t c rd old ∧ s.othersSame t c ∧ s.storesNothing t := by
  obtain ⟨low, ticks⟩ := csrTable_lt value
  have passes : csrTrap c k.toNat ((s.ctx c).getX p) = none := if_neg (by simp; omega)
  refine completes_csrw h rd p (by omega) (csr_of_table value) passes ?_
  rw [State.csrReadEffect, if_neg ticks, writes]
  obtain ⟨done, outside⟩ := modCtx_retire h rd f old ((s.ctx c).pc + 4) 1
  exact ⟨done, modCtx_gave h rd hf old 1, outside.othersSame, outside.storesNothing⟩

end

/-! ## The registers that CSRW writes whole -/

/-- EPC, ESTATUS, TVEC, SCRATCH0, SCRATCH1 (Table 3-3). -/
def wholeCsrs : List Nat := [1, 2, 5, 0xC, 0xD]

/-- The context with `w` written to one of them. -/
def putCsr (k : Nat) (w : Word) (v : Ctx) : Ctx :=
  match k with
  | 1 => { v with epc := w }
  | 2 => { v with estatus := w }
  | 5 => { v with tvec := w &&& 0xFFFFFFFC }
  | 0xC => { v with scratch0 := w }
  | 0xD => { v with scratch1 := w }
  | _ => v

theorem wholeCsrs_cases {k : Nat} (h : k ∈ wholeCsrs) : k = 1 ∨ k = 2 ∨ k = 5 ∨ k = 0xC ∨ k = 0xD := by
  simpa [wholeCsrs] using h

section
variable {k : Nat} (hk : k ∈ wholeCsrs) (w : Word) (v : Ctx)
include hk

theorem csrWrite_whole (u : State) (c : Cid) : u.csrWrite c k w = u.modCtx c (putCsr k w) := by
  obtain rfl | rfl | rfl | rfl | rfl := wholeCsrs_cases hk <;> rfl

theorem putCsr_keeps : (putCsr k w v).x = v.x ∧ (putCsr k w v).sel = v.sel := by
  obtain rfl | rfl | rfl | rfl | rfl := wholeCsrs_cases hk <;> exact ⟨rfl, rfl⟩

theorem csrTable_putCsr_same (c : Cid) : csrTable c (putCsr k w v) k = some (if k = 5 then w &&& 0xFFFFFFFC else w) := by
  obtain rfl | rfl | rfl | rfl | rfl := wholeCsrs_cases hk <;> rfl

theorem csrTable_putCsr_other (c : Cid) {j : Nat} (hj : j ≠ k) : csrTable c (putCsr k w v) j = csrTable c v j := by
  obtain rfl | rfl | rfl | rfl | rfl := wholeCsrs_cases hk <;> unfold csrTable <;> split <;> simp_all [putCsr]

theorem csrTable_whole (c : Cid) : ∃ old, csrTable c v k = some old := by
  obtain rfl | rfl | rfl | rfl | rfl := wholeCsrs_cases hk <;> exact ⟨_, rfl⟩

theorem ofNat_wholeCsr : (BitVec.ofNat 14 k).toNat = k := by
  obtain rfl | rfl | rfl | rfl | rfl := wholeCsrs_cases hk <;> rfl

end

/-- STATUS takes the low five bits of what is written (R82). -/
theorem statusWith_getLsbD (old w : Word) (i : Nat) : (statusWith old w).getLsbD i = if i < 5 then w.getLsbD i else old.getLsbD i := by
  have high : (0xFFFFFFE0 : Word) = ~~~BitVec.ofNat 32 (2 ^ 5 - 1) := by decide
  have low : (0x1F : Word) = BitVec.ofNat 32 (2 ^ 5 - 1) := by decide
  rw [statusWith, BitVec.getLsbD_or, high, and_not_mask_getLsbD, low, BitVec.getLsbD_and, BitVec.getLsbD_ofNat,
    Nat.testBit_two_pow_sub_one]
  by_cases hi : i < 5
  · simp [hi]
    omega
  · simp [hi]

section
variable (h : s.executing = some c) (rd p : RegNo)
include h

theorem csrw_whole {k : Nat} (hk : k ∈ wholeCsrs) : Completes (.csrw rd p 0 (BitVec.ofNat 14 k)) s fun t =>
    csrTable c (t.ctx c) k = some (if k = 5 then (s.ctx c).getX p &&& 0xFFFFFFFC else (s.ctx c).getX p) ∧
      (∀ j, j ≠ k → j ≠ 9 → csrTable c (t.ctx c) j = csrTable c (s.ctx c) j) ∧ (t.ctx c).sel = (s.ctx c).sel ∧
      (∀ old, csrTable c (s.ctx c) k = some old → s.gave t c rd old) ∧ s.othersSame t c ∧ s.storesNothing t := by
  have index := ofNat_wholeCsr hk
  obtain ⟨old, value⟩ := csrTable_whole hk (s.ctx c) c
  obtain ⟨t, run, done, gave, others, stored⟩ := csrw_own h rd p (k := BitVec.ofNat 14 k) (by rwa [index])
    (by rw [index]; exact csrWrite_whole hk ((s.ctx c).getX p) _ c) fun v => (putCsr_keeps hk _ v).1
  have notCycle : k ≠ 9 := by
    rintro rfl
    simp [wholeCsrs] at hk
  refine ⟨t, run, ?_, fun j hj cycle => ?_, ?_, fun was e => ?_, others, stored⟩
  · rw [done.csrTable c notCycle, csrTable_setX, csrTable_putCsr_same hk]
  · rw [done.csrTable c cycle, csrTable_setX, csrTable_putCsr_other hk _ _ c hj, csrTable_takeCore]
  · obtain ⟨_, _, _, _, _, _, _, _, _, sel, _, _⟩ := ((Ctx.setX_sameSpecial _ rd old).trans done.special)
    rw [sel, (putCsr_keeps hk _ _).2, ctx_takeCore_self]
  · obtain rfl : old = was := Option.some.inj (value.symm.trans e)
    exact gave

theorem csrw_evmask : Completes (.csrw rd p 0 6) s fun t =>
    (t.ctx c).evmask = (s.ctx c).getX p ∧ s.gave t c rd (s.ctx c).evmask ∧ s.storesNothing t := by
  obtain ⟨t, run, done, gave, _, stored⟩ := csrw_own h rd p (k := 6) (f := fun v => { v with evmask := (s.ctx c).getX p })
    rfl rfl fun _ => rfl
  rw [Ctx.setX_eq] at done
  obtain ⟨_, _, _, _, _, evmask, _⟩ := done.special
  exact ⟨t, run, evmask, gave, stored⟩

theorem csrw_evpend : Completes (.csrw rd p 0 7) s fun t =>
    (t.ctx c).evpend = (s.ctx c).evpend &&& ~~~((s.ctx c).getX p &&& ~~~(s.ctx c).freshEvents (s.takeCore c).now) ∧
      s.gave t c rd (s.ctx c).evpend ∧ (t.ctx c).evmask = (s.ctx c).evmask ∧ s.storesNothing t := by
  obtain ⟨t, run, done, gave, _, stored⟩ := csrw_own h rd p (k := 7)
    (f := fun v => v.clearEvents (s.takeCore c).now ((s.ctx c).getX p)) rfl rfl fun _ => rfl
  rw [Ctx.setX_eq, ctx_takeCore_self] at done
  obtain ⟨_, _, _, _, _, evmask, evpend, _⟩ := done.special
  exact ⟨t, run, evpend, gave, evmask, stored⟩

theorem csrw_status : Completes (.csrw rd p 0 0) s fun t =>
    (∀ i, i < 5 → (t.ctx c).status.getLsbD i = ((s.ctx c).getX p).getLsbD i) ∧
      (∀ i, 5 ≤ i → (t.ctx c).status.getLsbD i = (s.ctx c).status.getLsbD i) ∧ s.gave t c rd (s.ctx c).status ∧ s.storesNothing t := by
  obtain ⟨t, run, done, gave, _, stored⟩ := csrw_own h rd p (k := 0)
    (f := fun v => { v with status := statusWith v.status ((s.ctx c).getX p) }) rfl rfl fun _ => rfl
  rw [Ctx.setX_eq, ctx_takeCore_self] at done
  refine ⟨t, run, fun i hi => ?_, fun i hi => ?_, gave, stored⟩
  · rw [done.status, statusWith_getLsbD, if_pos hi]
  · rw [done.status, statusWith_getLsbD, if_neg (by omega)]

end
/-! ## Selectors -/

/-- What SELCH, and CSRW of a selector's index, come to with channel `x` for selector `n` (R98, R136). -/
def selectAs (t : State) (c : Cid) (rd : RegNo) (n x : Nat) : Did :=
  if selReserved n c then .trap t Cause.PRIV 0 0 0
  else if selCount n ≤ x then .trap t Cause.SEL_RANGE n 0 0
  else .done ((t.setSel (.ctx c) n x).setX c rd (BitVec.ofNat 32 (t.selOf (.ctx c) n))) 1

/-- A number of eight bits under the selector's number, as SELCH has them in its field. -/
theorem selchField (n : Nat) (k : BitVec 8) (hn : n < 8) :
    (BitVec.ofNat 14 (n * 256 + k.toNat)).toNat = n * 256 + k.toNat ∧ bitsAt (n * 256 + k.toNat) 8 3 = n ∧
      (n * 256 + k.toNat) % 256 = k.toNat := by
  rw [BitVec.toNat_ofNat, bitsAt]
  omega

/-- The channel that SELCH asks for. -/
def selchChannel (s : State) (c : Cid) (p : RegNo) (k : BitVec 8) : Nat := ((s.ctx c).getX p + k.zeroExtend 32).toNat

/-- The channel that CSRW of selector `n` asks for. -/
def csrwChannel (s : State) (c : Cid) (p : RegNo) (n : Nat) : Nat := ((s.ctx c).getX p).toNat % 2 ^ selWidth n

theorem csrWrite_selector (u : State) (c : Cid) (n : Fin 6) (w : Word) :
    u.csrWrite c (0x10 + n.val) w = u.setSel (.ctx c) n.val (w.toNat % 2 ^ selWidth n.val) := by
  have inside : (0x10 ≤ 0x10 + n.val && 0x10 + n.val ≤ 0x15) = true := by simp; omega
  unfold State.csrWrite
  split
  case h_9 => rw [if_pos inside, Nat.add_sub_cancel_left]
  all_goals omega

theorem csrTrap_selector (c : Cid) (n : Fin 6) (w : Word) : csrTrap c (0x10 + n.val) w =
    if selReserved n.val c then some (Cause.PRIV, 0)
    else if selCount n.val ≤ w.toNat % 2 ^ selWidth n.val then some (Cause.SEL_RANGE, n.val) else none := by
  rw [csrTrap, if_pos (by simp; omega), Nat.add_sub_cancel_left]

section
variable (h : s.executing = some c) (rd p : RegNo)
include h

theorem completes_selch {n : Nat} {k : BitVec 8} {P : State → Prop} (hn : n < 6)
    (hP : P (((s.takeCore c).selectAs c rd n (s.selchChannel c p k)).finish c (s.ctx c).pc)) :
    Completes (.selch rd p 0 (BitVec.ofNat 14 (n * 256 + k.toNat))) s P := by
  obtain ⟨field, number, image⟩ := selchField n k (by omega)
  refine completes_runInstr h rfl ?_
  have small : ¬2 ^ 11 ≤ n * 256 + k.toNat := by omega
  have known : ¬6 ≤ n := by omega
  have channel : BitVec.ofNat 32 k.toNat = k.zeroExtend 32 := BitVec.ofNat_toNat 32 k
  simp only [field, number, image, small, known, getX_takeCore, channel, ne_eq, not_true_eq_false, decide_false, Bool.or_self,
    Bool.false_eq_true, if_false]
  exact hP

theorem selch_illegal {n : Nat} {k : BitVec 8} (hn : n = 6 ∨ n = 7) (free : (s.ctx c).status.getLsbD 4 = false) :
    Completes (.selch rd p 0 (BitVec.ofNat 14 (n * 256 + k.toNat))) s fun t =>
      s.trapped t c 0x201 0 (s.ctx c).pc ∧ s.storesNothing t := by
  obtain ⟨field, number, _⟩ := selchField n k (by omega)
  refine completes_runInstr h rfl ?_
  have small : ¬2 ^ 11 ≤ n * 256 + k.toNat := by omega
  have unknown : 6 ≤ n := by omega
  simp only [field, number, small, unknown, ne_eq, not_true_eq_false, decide_false, Bool.or_self, Bool.false_eq_true, if_false, if_true]
  exact trap_finish free (by decide) 2 0

theorem completes_csrw_selector {n : Fin 6} {P : State → Prop}
    (hP : P (((s.takeCore c).selectAs c rd n (s.csrwChannel c p n)).finish c (s.ctx c).pc)) :
    Completes (.csrw rd p 0 (BitVec.ofNat 14 (0x10 + n.val))) s P := by
  have field : (BitVec.ofNat 14 (0x10 + n.val)).toNat = 0x10 + n.val := by
    rw [BitVec.toNat_ofNat]
    omega
  have small : ¬2 ^ 12 ≤ 0x10 + n.val := by omega
  have ticks : ¬0x10 + n.val = 0xA := by omega
  refine completes_runInstr h rfl ?_
  simp only [field, csr_selector n, small, getX_takeCore, ne_eq, not_true_eq_false, decide_false, Bool.or_self, Bool.false_eq_true, if_false,
    State.csrReadEffect, ticks, csrWrite_selector, csrTrap_selector]
  rw [selectAs, selOf_takeCore] at hP
  by_cases reserved : selReserved n.val c = true
  · rw [if_pos reserved] at hP ⊢
    exact hP
  · rw [if_neg reserved] at hP ⊢
    by_cases beyond : selCount n.val ≤ ((s.ctx c).getX p).toNat % 2 ^ selWidth n.val
    · rw [if_pos beyond]
      exact (if_pos beyond ▸ hP :)
    · rw [if_neg beyond]
      exact (if_neg beyond ▸ hP :)

end
/-! ## A trap leaves the selectors and the registers (R84, R86) -/

/-- A context of CTX1 to CTX7 that is parked keeps what it holds (R86). -/
theorem park_keeps (u : State) (c : Cid) (first : Word) : (u.ctx c).keeps ((u.park c first).ctx c) := by
  let parked : Ctx := { u.ctx c with state := .parked, wait := none, yielded := false, cont := none }
  have self : ((u.setCtx c parked).yieldSees c).ctx c = parked := by
    rw [State.yieldSees, ctx_modAll, ctx_setCtx_same]
    exact Ctx.yieldSees_of_ne fun _ e => by cases e
  have sends : ((u.setCtx c parked).yieldSees c).Sends (u.park c first) := by
    unfold State.park
    exact (Sends.refl _).stopOwned.raise.bbxAppend
  have keeps := sends.ctx c
  rw [self] at keeps
  exact Ctx.keeps_trans (u.ctx c).keeps_refl keeps

theorem trap_keeps (u : State) {c : Cid} (hc : c ≠ 0 ∨ (u.ctx c).status.getLsbD 4 = false) (cause detail tval back : Nat) :
    ((u.trap c cause detail tval back).ctx c).sel = (u.ctx c).sel ∧ ((u.trap c cause detail tval back).ctx c).x = (u.ctx c).x ∧
      ((u.trap c cause detail tval back).ctx c).cause = BitVec.ofNat 32 (cause + 256 * (detail % 2 ^ 16)) := by
  by_cases clear : (u.ctx c).status.getLsbD 4 = false
  · rw [trap_of_clear u clear, ctx_setCtx_same]
    exact ⟨rfl, rfl, rfl⟩
  · have high : c ≠ 0 := hc.resolve_right clear
    simp only [State.trap, Bool.not_eq_false _ ▸ clear, high, if_true, if_false]
    have keeps := park_keeps (u.setCtx c { u.ctx c with
      cause := BitVec.ofNat 32 (cause + 256 * (detail % 2 ^ 16)), tval := BitVec.ofNat 32 tval }) c (u.ctx c).cause
    rw [ctx_setCtx_same] at keeps
    obtain ⟨x, _, _, _, _, cause, _, _, _, _, _, _, sel, _⟩ := keeps
    exact ⟨sel, x, cause⟩

/-- So does one by an instruction that has the core. -/
theorem trap_finish_keeps (s : State) {c : Cid} (hc : c ≠ 0 ∨ (s.ctx c).status.getLsbD 4 = false) {cause : Nat} (hs : cause ≠ Cause.SOFT)
    (detail n : Nat) : let t := (Did.trap (s.takeCore c) cause detail 0 n).finish c (s.ctx c).pc
    (t.ctx c).sel = (s.ctx c).sel ∧ (t.ctx c).x = (s.ctx c).x ∧ (t.ctx c).cause = BitVec.ofNat 32 (cause + 256 * (detail % 2 ^ 16)) := by
  have core : (((s.takeCore c).setCont c none).spend c (n + 3)).ctx c =
      { s.ctx c with state := .running, cont := none, cycle := (s.ctx c).cycle + BitVec.ofNat 32 (n + 3) } := by
    rw [State.spend, ctx_advance, ctx_modCtx_same, State.setCont, ctx_modCtx_same, ctx_takeCore_self]
  have keeps := (((s.takeCore c).setCont c none).spend c (n + 3)).trap_keeps (c := c) (by rw [core]; exact hc) cause detail 0 (s.ctx c).pc.toNat
  simp only [Did.finish, hs, if_false]
  rw [core] at keeps
  exact keeps

/-! ## What each write of a selector leaves -/

/-- The selector of the context holds `x`, its others what they held; rd takes the old value. -/
def selected (s : State) (c : Cid) (rd : RegNo) (n : Fin 6) (x : Nat) (t : State) : Prop :=
  (t.ctx c).sel[n] = x ∧ (∀ m : Fin 6, m ≠ n → (t.ctx c).sel[m] = (s.ctx c).sel[m]) ∧
    s.gave t c rd (BitVec.ofNat 32 (s.ctx c).sel[n]) ∧ s.othersSame t c ∧ s.storesNothing t

theorem putSel_getElem (v : Vector Nat 6) (n m : Fin 6) (x : Nat) : (putSel v n.val x)[m] = if m = n then x else v[m] := by
  simp [putSel, Vector.getElem_set, Fin.ext_iff, eq_comm]

theorem selReserved_of_may {n : Nat} (may : n ≠ 2 ∧ n ≠ 3 ∨ c = 0) : selReserved n c = false := by
  obtain ⟨two, three⟩ | rfl := may
  · simp [selReserved, two, three]
  · simp [selReserved]

theorem selectAs_selects (h : s.executing = some c) (rd : RegNo) (n : Fin 6) {x : Nat} (own : selReserved n.val c = false)
    (hx : x < selCount n.val) : s.selected c rd n x (((s.takeCore c).selectAs c rd n.val x).finish c (s.ctx c).pc) := by
  rw [selectAs, if_neg (by simp [own]), if_neg (by omega), selOf_takeCore]
  obtain ⟨done, outside⟩ := modCtx_retire h rd (fun v => { v with sel := putSel v.sel n.val x }) (BitVec.ofNat 32 (s.ctx c).sel[n])
    ((s.ctx c).pc + 4) 1
  have gave := modCtx_gave h rd (f := fun v => { v with sel := putSel v.sel n.val x }) (fun _ => rfl) (BitVec.ofNat 32 (s.ctx c).sel[n]) 1
  rw [Ctx.setX_eq, ctx_takeCore_self] at done
  obtain ⟨_, _, _, _, _, _, _, _, _, sel, _, _⟩ := done.special
  have put (m : Fin 6) := (congrArg (fun v : Vector Nat 6 => v[m]) sel).trans (putSel_getElem (s.ctx c).sel n m x)
  exact ⟨(put n).trans (if_pos rfl), fun m hm => (put m).trans (if_neg hm), gave, outside.othersSame, outside.storesNothing⟩

theorem selectAs_beyond (rd : RegNo) {n x : Nat} (own : selReserved n c = false) (hx : selCount n ≤ x) (hn : n < 6)
    (free : (s.ctx c).status.getLsbD 4 = false) :
    let t := ((s.takeCore c).selectAs c rd n x).finish c (s.ctx c).pc
    s.trapped t c (BitVec.ofNat 32 (0xA + 256 * n)) 0 (s.ctx c).pc ∧ (t.ctx c).sel = (s.ctx c).sel := by
  rw [selectAs, if_neg (by simp [own]), if_pos hx]
  have detail : n % 2 ^ 16 = n := by omega
  have trapped := (trap_finish free (cause := Cause.SEL_RANGE) (by decide) n 0).1
  rw [detail] at trapped
  exact ⟨trapped, (s.trap_finish_keeps (.inr free) (cause := Cause.SEL_RANGE) (by decide) n 0).1⟩

theorem selectAs_reserved (rd : RegNo) {n : Nat} (x : Nat) (hn : n = 2 ∨ n = 3) (hc : c ≠ 0) :
    let t := ((s.takeCore c).selectAs c rd n x).finish c (s.ctx c).pc
    (t.ctx c).sel = (s.ctx c).sel ∧ (t.ctx c).cause = 2 ∧ (t.ctx c).x = (s.ctx c).x ∧
      ((s.ctx c).status.getLsbD 4 = false → s.trapped t c 2 0 (s.ctx c).pc ∧ s.storesNothing t) := by
  have reserved : selReserved n c = true := by simp [selReserved, hn, hc]
  rw [selectAs, if_pos reserved]
  obtain ⟨sel, x, cause⟩ := s.trap_finish_keeps (.inl hc) (cause := Cause.PRIV) (by decide) 0 0
  exact ⟨sel, cause, x, fun free => trap_finish free (by decide) 0 0⟩

end State

/-- Settles O5: each access of a control register or selector, by what Table 3-3 and R136 make of its index. -/
theorem controlRegisters : Obligations.ControlRegisters := by
  unfold Obligations.ControlRegisters
  refine ⟨fun s c rd p h => ⟨fun k w value => ?_, fun n => ?_, State.csrr_rtimeLo h rd, State.csrr_rtimeHi h rd,
    fun k small none free => State.csr_traps h rd p small none free, fun k hk => State.csrw_whole h rd p hk, State.csrw_evmask h rd p,
    State.csrw_evpend h rd p, State.csrw_status h rd p⟩, fun s c rd p n k h => ?_,
    fun s c rd p n k h hn free => State.selch_illegal h rd p hn free⟩
  · obtain ⟨low, ticks⟩ := csrTable_lt value
    exact State.csrr_gives h rd (by omega) ticks (State.csr_of_table value)
  · have field : (BitVec.ofNat 14 (0x10 + n.val)).toNat = 0x10 + n.val := by
      rw [BitVec.toNat_ofNat]
      omega
    exact State.csrr_gives h rd (by omega) (by omega) (by rw [field]; exact State.csr_selector n)
  · intro x image
    have selects : ∀ e ∈ [(Instr.selch rd p 0 (BitVec.ofNat 14 (n.val * 256 + k.toNat)), (x + k.zeroExtend 32).toNat),
        (.csrw rd p 0 (BitVec.ofNat 14 (0x10 + n.val)), image)],
        ∀ P : State → Prop, P (((s.takeCore c).selectAs c rd n e.2).finish c (s.ctx c).pc) → Completes e.1 s P :=
      List.forall_mem_cons.mpr ⟨fun _ hP => State.completes_selch h rd p n.isLt hP,
        List.forall_mem_singleton.mpr fun _ hP => State.completes_csrw_selector h rd p hP⟩
    refine fun e he => ⟨fun may => ⟨fun hx => ?_, fun hx free => ?_⟩, fun hn hc => ?_⟩
    · exact selects e he _ (State.selectAs_selects h rd n (State.selReserved_of_may may) hx)
    · exact selects e he _ (State.selectAs_beyond rd (State.selReserved_of_may may) hx n.isLt free)
    · exact selects e he _ (State.selectAs_reserved rd e.2 hn hc)

end Sys2Proof.Machine
end

section
/-! SUPPORT. CTX_START, CTX_STOP, EV_RAISE and the selected registers by the host (R72, R75, R76, R83). -/

namespace Sys2Proof.Machine

theorem cidsOf_one (c : Cid) : cidsOf (maskWord (BitVec.ofNat 8 (2 ^ c.val))) = [c] := by
  revert c
  decide

namespace State

variable (s : State) (c : Cid)

/-- No block that is Off has a register in the CTX page. -/
theorem keyOff_ctxPage {k : Nat} (h : k % 0x10000 / 0x1000 = 0xD) : s.keyOff k = false := by
  unfold State.keyOff
  dsimp only
  rw [h]
  rfl

theorem keyOf_page (m : Master) (off : Nat) : (s.keyOf m off) % 0x10000 = off % 0x10000 := by
  unfold State.keyOf
  split
  · split_ifs <;> omega
  · rfl

/-- The host's write of a register of the CTX page takes effect. -/
theorem writeOff_ctxPage {off : Nat} (h : 0xD000 ≤ off ∧ off < 0xE000) : s.writeOff .host off = false := by
  have page : s.pageOff .host off = false := s.keyOff_ctxPage (by rw [keyOf_page]; omega)
  have notHost : s.hostOff off = false := by simp [State.hostOff]; omega
  unfold State.writeOff
  rw [page, notHost]
  rfl

theorem busWrite_ctxPage {off : Nat} (w : Word) (h : 0xD000 ≤ off ∧ off < 0xE000) (e : State → State) :
    (e s.unnoted).Alike (s.busWrite .host off w e) := by
  have noted : s.busWrite .host off w e = s.noted .host off e := if_neg (by simp [s.writeOff_ctxPage h])
  rw [noted]
  exact s.writing_alike _ e

/-! ## CTX_START -/

theorem startCtx_keeps : (∀ d, d ≠ c → (s.startCtx c).ctx d = s.ctx d) ∧ (s.startCtx c).regs = s.regs ∧ (s.startCtx c).mem = s.mem := by
  have set (v : Ctx) : (∀ d, d ≠ c → (s.setCtx c v).ctx d = s.ctx d) ∧ (s.setCtx c v).regs = s.regs ∧ (s.setCtx c v).mem = s.mem :=
    ⟨fun d hd => ctx_setCtx_other s c d v hd, rfl, rfl⟩
  unfold State.startCtx
  dsimp only
  split
  · exact set _
  · exact set _
  · exact ⟨fun _ _ => rfl, rfl, rfl⟩

/-- What CTX_START makes of a context (R76). -/
def started (v : Ctx) : Ctx :=
  match v.state with
  | .idle => { v with state := .ready }
  | .parked => { v with state := .ready, status := v.status &&& ~~~(0x10 : Word) }
  | _ => v

theorem ctx_startCtx_self : (s.startCtx c).ctx c = started (s.ctx c) := by
  cases e : (s.ctx c).state <;> simp [State.startCtx, started, e, ctx_setCtx_same]

theorem ctxStart_host : Completes (.ctxStart .host (BitVec.ofNat 8 (2 ^ c.val))) s fun t =>
    (∀ d, d ≠ c → t.ctx d = s.ctx d) ∧ t.regs = s.regs ∧ t.mem = s.mem ∧ t.ctx c = started (s.ctx c) := by
  refine ⟨_, rfl, ?_⟩
  have one (t : State) : t.ctxStartWrite (maskWord (BitVec.ofNat 8 (2 ^ c.val))) = t.startCtx c := by
    rw [State.ctxStartWrite, cidsOf_one]
    rfl
  have alike := s.busWrite_ctxPage 0 (off := 0xD004) (by decide) fun t => t.ctxStartWrite (maskWord (BitVec.ofNat 8 (2 ^ c.val)))
  rw [one] at alike
  obtain ⟨others, regs, mem⟩ := s.unnoted.startCtx_keeps c
  exact ⟨fun d hd => (alike.ctx d).trans (others d hd), alike.regs.trans regs, alike.mem.trans mem,
    (alike.ctx c).trans (s.unnoted.ctx_startCtx_self c)⟩

/-! ## EV_RAISE -/

theorem raise_soft (v : Ctx) (t : Nat) : (v.raise t Ev.SOFT).evpend = v.evpend ||| 0x40000000 := v.raise_evpend t Ev.SOFT

theorem evRaise_host : Completes (.evRaise .host (BitVec.ofNat 8 (2 ^ c.val))) s fun t =>
    (t.ctx c).evpend = (s.ctx c).evpend ||| 0x40000000 ∧ (∀ d, d ≠ c → t.ctx d = s.ctx d) ∧ t.regs = s.regs ∧ t.mem = s.mem := by
  refine ⟨_, rfl, ?_⟩
  have one (t : State) : t.evRaiseWrite (maskWord (BitVec.ofNat 8 (2 ^ c.val))) = t.modCtx c fun v => v.raise t.now Ev.SOFT := by
    rw [State.evRaiseWrite, cidsOf_one]
    rfl
  have alike := s.busWrite_ctxPage 0 (off := 0xD00C) (by decide) fun t => t.evRaiseWrite (maskWord (BitVec.ofNat 8 (2 ^ c.val)))
  rw [one] at alike
  refine ⟨?_, fun d hd => (alike.ctx d).trans (ctx_modCtx_other _ c d _ hd), alike.regs, alike.mem⟩
  rw [alike.ctx, ctx_modCtx_same]
  exact raise_soft _ _

/-! ## CTX_STOP -/

/-- A context that is stopped keeps what it holds, and is IDLE where it ran or waited (R75). -/
theorem stopCtx_keeps : (s.ctx c).keeps ((s.stopCtx c).ctx c) ∧
    ((s.ctx c).state = .ready ∨ (s.ctx c).state = .running ∨ (s.ctx c).state = .waiting → ((s.stopCtx c).ctx c).state = .idle) := by
  unfold State.stopCtx
  dsimp only
  split
  · let idle : Ctx := { s.ctx c with state := .idle, wait := none, yielded := false, cont := none }
    have self : ((s.setCtx c idle).yieldSees c).ctx c = idle := by
      rw [State.yieldSees, ctx_modAll, ctx_setCtx_same]
      exact Ctx.yieldSees_of_ne fun _ e => by cases e
    have sends : ((s.setCtx c idle).yieldSees c).Sends (((s.setCtx c idle).yieldSees c).stopOwned c) := (Sends.refl _).stopOwned
    have keeps := sends.ctx c
    have stays := sends.state c (by rw [self]; simp [idle])
    rw [self] at keeps stays
    exact ⟨Ctx.keeps_trans (s.ctx c).keeps_refl keeps, fun _ => stays⟩
  · next idle =>
    refine ⟨(s.ctx c).keeps_refl, fun runs => absurd ?_ idle⟩
    rcases runs with e | e | e <;> simp [Ctx.isRunnable, e]

theorem ctxStop_host : Completes (.ctxStop .host (BitVec.ofNat 8 (2 ^ c.val))) s fun t =>
    (t.ctx c).x = (s.ctx c).x ∧ (t.ctx c).pc = (s.ctx c).pc ∧ (t.ctx c).status = (s.ctx c).status ∧
      (c ≠ 0 → ((s.ctx c).state = .ready ∨ (s.ctx c).state = .running ∨ (s.ctx c).state = .waiting) → (t.ctx c).state = .idle) ∧
      (c = 0 → (t.ctx c).state = (s.ctx c).state) := by
  refine ⟨_, rfl, ?_⟩
  have alike := s.busWrite_ctxPage 0 (off := 0xD008) (by decide) fun t => t.ctxStopWrite (maskWord (BitVec.ofNat 8 (2 ^ c.val)))
  by_cases hc : c = 0
  · have none : s.unnoted.ctxStopWrite (maskWord (BitVec.ofNat 8 (2 ^ c.val))) = s.unnoted := by
      rw [State.ctxStopWrite, cidsOf_one, hc]
      rfl
    rw [none] at alike
    beta_reduce
    rw [alike.ctx]
    exact ⟨rfl, rfl, rfl, fun high => absurd hc high, fun _ => rfl⟩
  · have one : s.unnoted.ctxStopWrite (maskWord (BitVec.ofNat 8 (2 ^ c.val))) = s.unnoted.stopCtx c := by
      rw [State.ctxStopWrite, cidsOf_one, List.filter_cons_of_pos (by simpa using hc)]
      rfl
    rw [one] at alike
    obtain ⟨keeps, stops⟩ := s.unnoted.stopCtx_keeps c
    obtain ⟨x, pc, status, _⟩ := keeps
    beta_reduce
    rw [alike.ctx]
    exact ⟨x, pc, status, fun _ => stops, fun low => absurd low hc⟩

/-! ## The selected registers -/

theorem writeSelected_pc (u : Ctx) (t : Nat) (w : Word) : u.writeSelected t 0x808 w =
    if u.state = .idle ∨ u.state = .parked then { u with pc := w } else { u with werr := true, werrAt := some t } := by
  simp [Ctx.writeSelected, needsHalt, Ctx.putSelected]

theorem exec_ctxSelectedWrite_pc (v : Word) : exec (.ctxSelectedWrite .host 8 v) s =
    .next (s.busWrite .host 0xD808 v fun t => t.writeWord .host 0xD808 v) := rfl

theorem ctxSelectedWrite_pc (v : Word) (shown : s.selOf .host 2 = c.val) : Completes (.ctxSelectedWrite .host 8 v) s fun t =>
    (∀ d, d ≠ c → t.ctx d = s.ctx d) ∧ t.regs = s.regs ∧ t.mem = s.mem ∧ (t.ctx c).x = (s.ctx c).x ∧ (t.ctx c).state = (s.ctx c).state ∧
      ((s.ctx c).state = .idle ∨ (s.ctx c).state = .parked → (t.ctx c).pc = v ∧ (t.ctx c).werr = (s.ctx c).werr) ∧
      (¬((s.ctx c).state = .idle ∨ (s.ctx c).state = .parked) → (t.ctx c).pc = (s.ctx c).pc ∧ (t.ctx c).werr = true) := by
  refine ⟨_, exec_ctxSelectedWrite_pc s v, ?_⟩
  have this : s.unnoted.shownCtx .host = c := by
    rw [State.shownCtx, show s.unnoted.selOf .host 2 = c.val from shown]
    exact Fin.ext (Nat.mod_eq_of_lt c.isLt)
  have row : s.unnoted.writeWord .host 0xD808 v = s.unnoted.modCtx c fun u => u.writeSelected s.now 0x808 v := by
    rw [State.writeWord, if_neg (by simp [s.unnoted.writeOff_ctxPage]), this]
    rfl
  have alike := s.busWrite_ctxPage v (off := 0xD808) (by decide) fun t => t.writeWord .host 0xD808 v
  rw [row] at alike
  have self : (s.unnoted.modCtx c fun u => u.writeSelected s.now 0x808 v).ctx c = (s.ctx c).writeSelected s.now 0x808 v :=
    ctx_modCtx_same _ c _
  refine ⟨fun d hd => (alike.ctx d).trans (ctx_modCtx_other _ c d _ hd), alike.regs, alike.mem, ?_⟩
  rw [(alike.ctx c).trans self, writeSelected_pc]
  by_cases halted : (s.ctx c).state = .idle ∨ (s.ctx c).state = .parked
  · rw [if_pos halted]
    exact ⟨rfl, rfl, fun _ => ⟨rfl, rfl⟩, fun runs => absurd halted runs⟩
  · rw [if_neg halted]
    exact ⟨rfl, rfl, fun halts => absurd halts halted, fun _ => ⟨rfl, rfl⟩⟩

end State

/-- Settles O15: each write has its effect on the context that it names. -/
theorem contextControl : Obligations.ContextControl := by
  unfold Obligations.ContextControl
  intro s c v
  exact ⟨s.ctxStart_host c, s.ctxStop_host c, s.evRaise_host c, s.ctxSelectedWrite_pc c v⟩

end Sys2Proof.Machine
end

section
/-! SUPPORT. Bytes written to memory, and what a die reset makes of the state (R113, R767 to R771). -/

namespace Sys2Proof.Machine

/-! ## Bytes of memory -/

/-- A map without the entries below `lo`. -/
theorem look_filter_ge {α : Type} (d : Nat → α) (m : List (Nat × α)) (lo k : Nat) :
    look d (m.filter fun e => lo ≤ e.1) k = if lo ≤ k then look d m k else d k := by
  induction m with
  | nil => split <;> rfl
  | cons e m ih =>
    obtain ⟨j, v⟩ := e
    by_cases kept : lo ≤ j
    · rw [List.filter_cons_of_pos (by simpa using kept)]
      grind [look]
    · rw [List.filter_cons_of_neg (by simpa using kept), ih]
      grind [look]

namespace State

variable {s t u : State}

theorem byte_setByte (h : Memory.wf s.mem = true) (a x : Nat) (b : Byte) : (s.setByte a b).byte x = if x = a then b else s.byte x := by
  by_cases hx : x = a
  · rw [if_pos hx, hx]
    exact look_put_same _ _ _ 0 h
  · rw [if_neg hx]
    exact look_put_other _ _ _ _ 0 h hx

/-- The bytes written stand where they were written, and every other byte as it was. -/
theorem byte_setBytes (h : Memory.wf s.mem = true) (l : List Byte) (a x : Nat) :
    (s.setBytes a l).byte x = if a ≤ x ∧ x < a + l.length then l.getD (x - a) 0 else s.byte x := by
  induction l generalizing s a with
  | nil => rw [if_neg (by simp)]; rfl
  | cons b l ih =>
    rw [State.setBytes, ih (mem_wf_setByte s a b h), byte_setByte h, List.length_cons]
    obtain below | rfl | above := Nat.lt_trichotomy x a
    · rw [if_neg (by omega), if_neg (by omega), if_neg (by omega)]
    · rw [if_neg (by omega), if_pos rfl, if_pos (by omega), Nat.sub_self]
      rfl
    · by_cases inside : x < a + (l.length + 1)
      · rw [if_pos (by omega), if_pos (by omega), show x - a = x - (a + 1) + 1 by omega, List.getD_cons_succ]
      · rw [if_neg (by omega), if_neg (by omega), if_neg (by omega)]

/-- Memory is all that changes: its registers, the queue of commands and the engine stay. -/
structure CutFrom (s t : State) : Prop where
  regs : t.regs = s.regs
  pending : t.pending = s.pending
  bbx : t.bbx = s.bbx

theorem CutFrom.setBytes {a : Nat} {l : List Byte} (h : s.CutFrom t) : s.CutFrom (t.setBytes a l) := by
  induction l generalizing t a with
  | nil => exact h
  | cons b l ih => exact ih ⟨h.regs, h.pending, h.bbx⟩

theorem CutFrom.putMem {a : Nat} {l : List Byte} (h : s.CutFrom t) : s.CutFrom (t.putMem a l) := by
  obtain ⟨regs, pending, bbx⟩ := h.setBytes (a := a) (l := l)
  exact ⟨regs, pending, bbx⟩

/-! ## What is cut off (R113, R507) -/

/-- Nothing but the engine's commit, which carries no bytes here, is being written. -/
def Spent (s : State) : Prop := ∀ w, s.nvmQ.head? = some w → w.writer = .commit ∧ w.bytes = []

theorem cutWrite_cutFrom (s : State) : s.CutFrom s.cutWrite := by
  unfold State.cutWrite
  extract_lets kept t u
  have ht : s.CutFrom t := by
    unfold t
    split
    · exact ⟨rfl, rfl, rfl⟩
    · exact CutFrom.putMem ⟨rfl, rfl, rfl⟩
  have hu : s.CutFrom u := ⟨ht.regs, ht.pending, ht.bbx⟩
  split
  · exact hu.putMem
  · exact hu

/-- Only the marker of a load that has not committed is touched. -/
theorem cutWrite_byte (h : Memory.wf s.mem = true) (spent : s.Spent) (x : Nat) :
    s.cutWrite.byte x = if (s.load.any fun l => !l.committed) = true ∧ 0x1001C200 ≤ x ∧ x < 0x1001C204 then 0 else s.byte x := by
  unfold State.cutWrite
  extract_lets kept t u
  have mem : u.mem = s.mem := by
    show t.mem = s.mem
    unfold t
    split
    · rfl
    · next w _ queue =>
      obtain ⟨writer, empty⟩ := spent w (by rw [queue]; rfl)
      have none : w.cutBytes s.free = [] := by
        rw [NvmWrite.cutBytes, writer, empty]
        rfl
      rw [none]
      rfl
  have byte : u.byte x = s.byte x := congrArg (look memDefault · x) mem
  split
  · next loading =>
    have zeros : (u.putMem 0x1001C200 [0, 0, 0, 0]).byte x = (u.setBytes 0x1001C200 [0, 0, 0, 0]).byte x := rfl
    rw [zeros, byte_setBytes (by rw [mem]; exact h), byte]
    have zero (n : Nat) : ([0, 0, 0, 0] : List Byte).getD n 0 = 0 := by
      rcases n with _ | _ | _ | _ | n <;> rfl
    simp only [zero, loading, true_and]
    rfl
  · next loading => rw [if_neg fun e => loading e.1, byte]

/-- A commit in progress is no more. -/
theorem cutCommit_cuts (s : State) : s.cutCommit.pending = s.pending ∧ s.cutCommit.bbx.commit = none := by
  unfold State.cutCommit
  extract_lets _ t u
  have hu : u.pending = s.pending ∧ u.bbx.commit = none := by
    unfold u
    split
    · have cut : t.CutFrom t := ⟨rfl, rfl, rfl⟩
      split
      · exact ⟨cut.putMem.pending, congrArg Bbx.commit cut.putMem.bbx⟩
      · exact ⟨rfl, rfl⟩
    · next e => exact ⟨rfl, e⟩
  split
  · split
    · exact hu
    · exact hu
  · exact hu

theorem cutCommit_idle (h : s.bbx.commit = none) :
    s.cutCommit.mem = s.mem ∧ s.cutCommit.nvmQ = s.nvmQ ∧ s.cutCommit.load = s.load := by
  unfold State.cutCommit
  simp only [h]
  split
  · split <;> exact ⟨rfl, rfl, rfl⟩
  · exact ⟨rfl, rfl, rfl⟩

/-- The state at the end of what a reset by `code` cuts off. -/
def cutBy (s : State) (code : Nat) : State := (if code = 1 then s.cutCommit else s).cutWrite

theorem cutBy_pending (s : State) (code : Nat) : (s.cutBy code).pending = s.pending := by
  unfold cutBy
  rw [(cutWrite_cutFrom _).pending]
  split
  · exact s.cutCommit_cuts.1
  · rfl

theorem cutBy_commit (s : State) (code : Nat) : (s.cutBy code).bbx.commit = if code = 1 then none else s.bbx.commit := by
  unfold cutBy
  rw [(cutWrite_cutFrom _).bbx]
  split
  · exact s.cutCommit_cuts.2
  · rfl

theorem cutBy_regs (s : State) {code : Nat} (h : code ≠ 1) : (s.cutBy code).regs = s.regs := by
  unfold cutBy
  rw [if_neg h]
  exact s.cutWrite_cutFrom.regs

theorem cutBy_byte (h : Memory.wf s.mem = true) (spent : s.Spent) {code : Nat} (idle : code ≠ 1 ∨ s.bbx.commit = none) (x : Nat) :
    (s.cutBy code).byte x =
      if (s.load.any fun l => !l.committed) = true ∧ 0x1001C200 ≤ x ∧ x < 0x1001C204 then 0 else s.byte x := by
  unfold cutBy
  split
  · next por =>
    obtain ⟨mem, nvmQ, load⟩ := cutCommit_idle (idle.resolve_left fun e => e por)
    rw [cutWrite_byte (by rwa [mem]) (by unfold Spent; rwa [nvmQ]), load, State.byte, mem, ← State.byte]
  · exact cutWrite_byte h spent x

/-! ## Registers taken over -/

/-- The registers may differ, and what no claim here is about. -/
structure RegsOnly (t u : State) : Prop where
  hfo : u.hfo = t.hfo
  ctxs : u.ctxs = t.ctxs
  rtime : u.rtime = t.rtime
  pending : u.pending = t.pending
  mem : u.mem = t.mem
  commit : u.bbx.commit = t.bbx.commit

theorem RegsOnly.refl (t : State) : t.RegsOnly t := ⟨rfl, rfl, rfl, rfl, rfl, rfl⟩

theorem RegsOnly.trans {v : State} (h : t.RegsOnly u) (g : u.RegsOnly v) : t.RegsOnly v :=
  ⟨g.hfo.trans h.hfo, g.ctxs.trans h.ctxs, g.rtime.trans h.rtime, g.pending.trans h.pending, g.mem.trans h.mem, g.commit.trans h.commit⟩

theorem takeKeys_regsOnly (s t : State) (ks : List Nat) : t.RegsOnly (t.takeKeys s ks) := by
  unfold State.takeKeys Machine.forAll
  induction ks generalizing t with
  | nil => exact .refl t
  | cons k ks ih =>
    have one : t.RegsOnly (t.setReg k (s.reg k)) := ⟨rfl, rfl, rfl, rfl, rfl, rfl⟩
    exact one.trans (ih _)

theorem reg_takeKeys (h : wfFrom regDefault 0 t.regs = true) (ks : List Nat) (k : Nat) :
    wfFrom regDefault 0 (t.takeKeys s ks).regs = true ∧ (t.takeKeys s ks).reg k = if k ∈ ks then s.reg k else t.reg k := by
  unfold State.takeKeys Machine.forAll
  induction ks generalizing t with
  | nil => exact ⟨h, by simp⟩
  | cons j ks ih =>
    obtain ⟨wf, reg⟩ := ih (t := t.setReg j (s.reg j)) (regs_wf_setReg t j _ h)
    refine ⟨wf, reg.trans ?_⟩
    by_cases hk : k = j
    · subst hk
      simp [reg_setReg_same t k _ h]
    · simp [hk, reg_setReg_other t j k _ h hk]

theorem RegsOnly.ite {v : State} {p : Prop} [Decidable p] (hu : t.RegsOnly u) (hv : t.RegsOnly v) : t.RegsOnly (if p then u else v) := by
  split
  · exact hu
  · exact hv

theorem RegsOnly.takeKeys {ks : List Nat} (h : t.RegsOnly u) : t.RegsOnly (u.takeKeys s ks) := h.trans (takeKeys_regsOnly s u ks)

theorem RegsOnly.noteBusy (h : t.RegsOnly u) : t.RegsOnly u.noteBusy := h.trans ⟨rfl, rfl, rfl, rfl, rfl, rfl⟩

theorem RegsOnly.setFld {f : Fld} {v i : Nat} (h : t.RegsOnly u) : t.RegsOnly (u.setFld f v i) := h.trans ⟨rfl, rfl, rfl, rfl, rfl, rfl⟩

theorem reg_noteBusy (h : wfFrom regDefault 0 t.regs = true) :
    wfFrom regDefault 0 t.noteBusy.regs = true ∧ ∀ k, k ≠ 0x8004 → t.noteBusy.reg k = t.reg k :=
  ⟨regs_wf_setReg t.startBurn _ _ h, fun k hk => reg_setReg_other t.startBurn _ k _ h hk⟩

/-! ## The state after a reset -/

/-- What a reset leaves of `u`, which holds what the reset cut off, before registers are taken over. -/
def resetBase (u : State) : State :=
  { State.reset with
    pending := u.pending, now := u.now, free := u.free, boot := u.boot, nvmQ := u.nvmQ
    mem := u.mem.filter fun c => 0x10000 ≤ c.1
    eccBad := u.eccBad.filter fun w => 0x10000 ≤ w
    bbx := u.bbx.afterReset }

theorem resetTo_regsOnly (s : State) (code : Nat) : (s.cutBy code).resetBase.RegsOnly (s.resetTo code) := by
  unfold State.resetTo
  extract_lets s1 s2 _ t0 t1 t2
  have h0 : (s.cutBy code).resetBase.RegsOnly t0 := ⟨rfl, rfl, rfl, rfl, rfl, rfl⟩
  have h1 : (s.cutBy code).resetBase.RegsOnly t1 := RegsOnly.noteBusy (RegsOnly.takeKeys (h0.trans ⟨rfl, rfl, rfl, rfl, rfl, rfl⟩))
  have h2 : (s.cutBy code).resetBase.RegsOnly t2 := h1.takeKeys.ite h1
  exact h2.ite h2.takeKeys

/-- The register is one that a reset may take over. -/
def mayKeep (k : Nat) : Prop := k ∈ fuseKeys ∨ k ∈ mapKeys ∨ k ∈ keptKeys ∨ k = 0x8004

/-- The registers hold their reset values, but for those that a reset may take over. -/
structure FreshRegs (t : State) : Prop where
  wf : wfFrom regDefault 0 t.regs = true
  words : ∀ k, ¬mayKeep k → t.reg k = look regDefault Reg.resetWords k

theorem FreshRegs.takeKeys {ks : List Nat} (h : t.FreshRegs) (hks : ∀ k ∈ ks, mayKeep k) : (t.takeKeys s ks).FreshRegs where
  wf := (reg_takeKeys h.wf ks 0).1
  words k hk := (reg_takeKeys h.wf ks k).2.trans ((if_neg fun mem => hk (hks k mem)).trans (h.words k hk))

theorem FreshRegs.noteBusy (h : t.FreshRegs) : t.noteBusy.FreshRegs where
  wf := (reg_noteBusy h.wf).1
  words k hk := ((reg_noteBusy h.wf).2 k fun busy => hk (.inr (.inr (.inr busy)))).trans (h.words k hk)

theorem FreshRegs.ite {p : Prop} [Decidable p] (ht : t.FreshRegs) (hu : u.FreshRegs) : (if p then t else u).FreshRegs := by
  split
  · exact ht
  · exact hu

theorem resetTo_reg (s : State) (code : Nat) :
    (s.resetTo code).FreshRegs ∧ (3 ≤ code → ∀ k ∈ keptKeys, (s.resetTo code).reg k = s.reg k) := by
  unfold State.resetTo
  extract_lets s1 s2 _ t0 t1 t2
  have h0 : FreshRegs (t0.periodsFrom s2.now) := ⟨resetWords_wf, fun _ _ => rfl⟩
  have h1 : t1.FreshRegs := (h0.takeKeys fun _ fuse => .inl fuse).noteBusy
  have h2 : t2.FreshRegs := (h1.takeKeys fun _ map => .inr (.inl map)).ite h1
  refine ⟨h2.ite (h2.takeKeys fun _ kept => .inr (.inr (.inl kept))), fun other k kept => ?_⟩
  have regs : s2.regs = s.regs := s.cutBy_regs (by omega)
  rw [if_neg (by omega), (reg_takeKeys h2.wf keptKeys k).2, if_pos kept, State.reg, regs, State.reg]

/-! ## A source that is asserted (R767) -/

theorem lowestCode_single {code : Nat} (h : 1 ≤ code ∧ code ≤ 7) : lowestCode (2 ^ (code - 1)) = code := by
  obtain ⟨low, high⟩ := h
  interval_cases code <;> rfl

/-- What a reset by source `code` leaves of `s`. -/
def Entered (s : State) (code : Nat) (t : State) : Prop :=
  t.boot.inReset = true ∧ bitAt (t.fld Reg.SYS_RSTCAUSE.CAUSES) (code - 1) = true ∧
    (s.stillReset = false → t.fld Reg.SYS_RSTCAUSE.CAUSES = 2 ^ (code - 1) ∧ t.fld Reg.SYS_RSTCAUSE.PRIMARY = code) ∧ t.hfo = false ∧
    (∀ c, t.ctx c = Ctx.reset c) ∧ (∀ p, t.link p = Link.DOWN) ∧ t.rtime = 0 ∧ t.pending = s.pending ∧
    (∀ x, x < 0x10000 → t.byte x = 0) ∧ (code ≠ 1 ∨ s.bbx.commit = none → ∀ x, 0x10000 ≤ x → t.byte x =
      if (s.load.any fun l => !l.committed) = true ∧ 0x1001C200 ≤ x ∧ x < 0x1001C204 then 0 else s.byte x) ∧
    t.bbx.commit = (if code = 1 then none else s.bbx.commit) ∧
    (3 ≤ code → (∀ k < 4, t.reg (0x1050 + 4 * k) = s.reg (0x1050 + 4 * k)) ∧ (∀ k < 15, t.reg (0x1100 + 4 * k) = s.reg (0x1100 + 4 * k)) ∧
      (s.stillReset = false → t.fld Reg.SYS_RSTCNT.DIE = min 0xFFFF (s.fld Reg.SYS_RSTCNT.DIE + 1)))

/-- The sources recorded when source `code` is asserted. -/
def causesWith (s : State) (code : Nat) : Nat := Nat.lor (if s.stillReset then s.boot.causes else 0) (2 ^ (code - 1))

/-- The reset counted, where it is one that counts. -/
def counted (s : State) (code : Nat) : State :=
  if s.stillReset || code ≤ 2 then s.resetTo code else (s.resetTo code).count Reg.SYS_RSTCNT.DIE

/-- The reset with its sources recorded. -/
def caused (s : State) (code : Nat) : State :=
  ((s.counted code).setFld Reg.SYS_RSTCAUSE.CAUSES (s.causesWith code)).setFld Reg.SYS_RSTCAUSE.PRIMARY (lowestCode (s.causesWith code))

theorem resetBy_caused (s : State) (code : Nat) : ∃ boot : Boot, boot.inReset = true ∧ s.resetBy code = { s.caused code with boot := boot } :=
  ⟨_, rfl, rfl⟩

theorem counted_wf (s : State) (code : Nat) : wfFrom regDefault 0 (s.counted code).regs = true := by
  have wf := (s.resetTo_reg code).1.wf
  unfold counted
  split
  · exact wf
  · exact regs_wf_setFld _ _ _ _ wf

/-- Recording and counting touch SYS_RSTCAUSE and SYS_RSTCNT alone. -/
theorem caused_reg (s : State) (code : Nat) {k : Nat} (cause : k ≠ 0x10) (count : k ≠ 0x14) :
    (s.caused code).reg k = (s.resetTo code).reg k := by
  have wf := s.counted_wf code
  have wf' := regs_wf_setFld (s.counted code) Reg.SYS_RSTCAUSE.CAUSES (s.causesWith code) 0 wf
  have counts : (s.counted code).reg k = (s.resetTo code).reg k := by
    unfold counted
    split
    · rfl
    · exact reg_setReg_other _ _ _ _ (s.resetTo_reg code).1.wf count
  exact (reg_setReg_other _ _ _ _ wf' cause).trans ((reg_setReg_other _ _ _ _ wf cause).trans counts)

theorem caused_regsOnly (s : State) (code : Nat) : (s.cutBy code).resetBase.RegsOnly (s.caused code) := by
  have counts : (s.cutBy code).resetBase.RegsOnly (s.counted code) :=
    (s.resetTo_regsOnly code).ite ((s.resetTo_regsOnly code).trans ⟨rfl, rfl, rfl, rfl, rfl, rfl⟩)
  exact counts.setFld.setFld

theorem caused_causes (s : State) (code : Nat) : (s.caused code).fld Reg.SYS_RSTCAUSE.CAUSES = s.causesWith code % 2 ^ 7 ∧
    (s.caused code).fld Reg.SYS_RSTCAUSE.PRIMARY = lowestCode (s.causesWith code) % 2 ^ 4 := by
  have wf := s.counted_wf code
  have wf' := regs_wf_setFld (s.counted code) Reg.SYS_RSTCAUSE.CAUSES (s.causesWith code) 0 wf
  unfold caused
  refine ⟨?_, fld_setFld_same _ _ _ _ wf' (by decide)⟩
  exact (fld_setFld_beside _ Reg.SYS_RSTCAUSE.PRIMARY Reg.SYS_RSTCAUSE.CAUSES _ 0 0 wf' rfl (by decide) (by decide)).trans
    (fld_setFld_same _ _ _ _ wf (by decide))

theorem caused_link (s : State) (code : Nat) (p : Port) : (s.caused code).link p = Link.DOWN := by
  have fresh : ∀ p : Port, ¬mayKeep (0x5808 + 0x10000 * p.val) ∧ look regDefault Reg.resetWords (0x5808 + 0x10000 * p.val) = 0 := by
    unfold mayKeep
    decide +kernel
  have word : (s.caused code).reg (0x5808 + 0x10000 * p.val) = 0 :=
    (s.caused_reg code (by omega) (by omega)).trans (((s.resetTo_reg code).1.words _ (fresh p).1).trans (fresh p).2)
  have state : (s.caused code).link p = bitsAt ((s.caused code).reg (0x5808 + 0x10000 * p.val)).toNat 0 3 := rfl
  rw [state, word]
  rfl

/-- The registers that are kept (Table 18-6). -/
theorem caused_kept (s : State) {code k : Nat} (h : 3 ≤ code) (kept : k ∈ keptKeys) (count : k ≠ 0x14) :
    (s.caused code).reg k = s.reg k := by
  have cause : k ≠ 0x10 := by
    rintro rfl
    revert kept
    decide
  rw [s.caused_reg code cause count, (s.resetTo_reg code).2 h k kept]

theorem caused_count (s : State) {code : Nat} (h : 3 ≤ code) (first : s.stillReset = false) :
    (s.caused code).fld Reg.SYS_RSTCNT.DIE = min 0xFFFF (s.fld Reg.SYS_RSTCNT.DIE + 1) := by
  have wf := s.counted_wf code
  have wf' := regs_wf_setFld (s.counted code) Reg.SYS_RSTCAUSE.CAUSES (s.causesWith code) 0 wf
  have was : (s.resetTo code).fld Reg.SYS_RSTCNT.DIE = s.fld Reg.SYS_RSTCNT.DIE :=
    congrArg (fun w : Word => bitsAt w.toNat 0 16) ((s.resetTo_reg code).2 h 0x14 (by decide))
  have counts : s.counted code = (s.resetTo code).count Reg.SYS_RSTCNT.DIE := if_neg (by simp [first]; omega)
  have cause : Reg.SYS_RSTCNT.DIE.base + Reg.SYS_RSTCNT.DIE.stride * 0 ≠ 0x10 := by decide
  have same : (s.caused code).fld Reg.SYS_RSTCNT.DIE = (s.counted code).fld Reg.SYS_RSTCNT.DIE :=
    (fld_setFld_apart _ Reg.SYS_RSTCAUSE.PRIMARY Reg.SYS_RSTCNT.DIE _ 0 0 wf' cause).trans
      (fld_setFld_apart _ Reg.SYS_RSTCAUSE.CAUSES Reg.SYS_RSTCNT.DIE _ 0 0 wf cause)
  rw [same, counts]
  refine (fld_setFld_same _ _ _ _ (s.resetTo_reg code).1.wf (by decide)).trans ?_
  rw [was, min_comm]
  exact Nat.mod_eq_of_lt (by change min (2 ^ 16 - 1) _ < 2 ^ 16; omega)

theorem causesWith_bit (s : State) {code : Nat} (known : 1 ≤ code ∧ code ≤ 7) : bitAt (s.causesWith code % 2 ^ 7) (code - 1) = true := by
  have bit : (s.causesWith code).testBit (code - 1) = true := by
    unfold causesWith
    rw [show Nat.lor _ _ = _ ||| _ from rfl, Nat.testBit_or, Nat.testBit_two_pow_self, Bool.or_true]
  rw [bitAt_eq_testBit, Nat.testBit_mod_two_pow, bit, decide_eq_true (by omega)]
  rfl

/-- A source that is asserted enters its reset. -/
theorem resetBy_entered (h : s.Canonical) (spent : s.Spent) {code : Nat} (known : 1 ≤ code ∧ code ≤ 7) : s.Entered code (s.resetBy code) := by
  obtain ⟨boot, reset, e⟩ := s.resetBy_caused code
  obtain ⟨hfo, ctxs, rtime, pending, mem, commit⟩ := s.caused_regsOnly code
  obtain ⟨causes, primary⟩ := s.caused_causes code
  have byte (x : Nat) : (s.resetBy code).byte x = if 0x10000 ≤ x then (s.cutBy code).byte x else memDefault x := by
    rw [e, State.byte]
    exact (congrArg (look memDefault · x) mem).trans (look_filter_ge memDefault (s.cutBy code).mem 0x10000 x)
  have single (first : s.stillReset = false) : s.causesWith code = 2 ^ (code - 1) := by
    rw [causesWith, first]
    exact Nat.zero_or _
  rw [e] at byte ⊢
  refine ⟨reset, ?_, fun first => ⟨causes.trans ?_, primary.trans ?_⟩, hfo, fun c => ?_, s.caused_link code, rtime,
    pending.trans (s.cutBy_pending code), fun x hx => ?_, fun idle x hx => ?_, commit.trans (s.cutBy_commit code),
    fun other => ⟨fun k hk => ?_, fun k hk => ?_, s.caused_count other⟩⟩
  · exact (congrArg (bitAt · (code - 1)) causes).trans (s.causesWith_bit known)
  · rw [single first]
    exact Nat.mod_eq_of_lt (Nat.pow_lt_pow_right (by decide) (by omega))
  · rw [single first, lowestCode_single known]
    exact Nat.mod_eq_of_lt (by omega)
  · exact (congrArg (fun v : Vector Ctx 8 => v[c]) ctxs).trans (reset_ctx c)
  · rw [byte, if_neg (by omega), memDefault, if_pos hx]
  · rw [byte, if_pos hx, cutBy_byte h.mem spent idle]
  · refine s.caused_kept other ?_ (by omega)
    interval_cases k <;> decide
  · refine s.caused_kept other ?_ (by omega)
    interval_cases k <;> decide

/-- The end of the source leaves the reset as it is. -/
theorem Entered.resetOff {code off : Nat} (h : s.Entered code t) : s.Entered code (t.resetOff off) := by
  unfold State.resetOff
  split
  · exact h
  · exact h

theorem Entered.resetPulse (h : s.Canonical) (spent : s.Spent) {code : Nat} (known : 1 ≤ code ∧ code ≤ 7) :
    s.Entered code (s.resetPulse code) := (resetBy_entered h spent known).resetOff

/-! ## The sources -/

/-- A level that is not asserted ends where it was alone (R768). -/
theorem resetOff_alone (s : State) {i : Nat} (h : i < 6) :
    (s.boot.active = 2 ^ i → s.resetOff (i + 1) = { s with boot := { s.boot with active := 0, quietAt := s.now } }) ∧
      (bitAt s.boot.active i = false → s.resetOff (i + 1) = s) := by
  unfold State.resetOff
  rw [Nat.add_sub_cancel]
  refine ⟨fun alone => ?_, fun none => if_neg (by simp [none])⟩
  have clears : bitAt (2 ^ i) i = true ∧ withBits (2 ^ i) i 1 0 = 0 := by
    interval_cases i <;> decide
  rw [alone, if_pos clears.1, clears.2]

theorem level_ends (s : State) {i : Nat} (h : i < 6) {c : Instr} (he : exec c s = .next (s.resetOff (i + 1))) :
    (s.boot.active = 2 ^ i → Completes c s fun t => t = { s with boot := { s.boot with active := 0, quietAt := s.now } }) ∧
      (bitAt s.boot.active i = false → Completes c s fun t => t = s) :=
  ⟨fun e => ⟨_, he, (s.resetOff_alone h).1 e⟩, fun e => ⟨_, he, (s.resetOff_alone h).2 e⟩⟩

/-- The write's note of the fields that it changed. -/
theorem noteWritten_wrote (s : State) (k : Nat) (old : Word) : ∃ w, s.noteWritten k old = { s with wrote := w } := by
  unfold State.noteWritten
  split
  · dsimp only
    split
    · exact ⟨_, rfl⟩
    · exact ⟨_, rfl⟩
  · exact ⟨_, rfl⟩

theorem exec_softReset (s : State) (key : BitVec 16) :
    exec (.softReset .host key) s = .next (s.busWrite .host 0x20 0 fun t => t.writeSysCtl (key.toNat * 2 ^ 16 + 1)) := rfl

theorem busWrite_sysCtl (s : State) (e : State → State) : s.busWrite .host 0x20 0 e = s.noted .host 0x20 e :=
  if_neg (by simp [State.writeOff, State.pageOff, State.hostOff, State.keyOff, State.keyOf, selectorOf])

theorem softReset_entered (h : s.Canonical) (spent : s.Spent) : Completes (.softReset .host 0xD1E5) s (s.Entered 7) := by
  refine ⟨_, exec_softReset s _, ?_⟩
  rw [busWrite_sysCtl]
  have pulse (t : State) : t.writeSysCtl ((0xD1E5 : BitVec 16).toNat * 2 ^ 16 + 1) = t.resetPulse 7 := if_pos (by decide)
  have entered : s.unnoted.Entered 7 (s.unnoted.resetPulse 7) :=
    Entered.resetPulse (s := s.unnoted) ⟨h.regs, h.latches, h.mem⟩ spent (by decide)
  unfold State.noted State.writing
  simp only [pulse]
  obtain ⟨w, e⟩ := State.noteWritten_wrote _ _ _
  rw [e]
  exact entered

theorem softReset_wrongKey {key : BitVec 16} (h : key ≠ 0xD1E5) : Completes (.softReset .host key) s fun t => t = s := by
  refine ⟨_, exec_softReset s key, ?_⟩
  rw [busWrite_sysCtl]
  refine s.noted_of_noEffect (fun t => if_neg ?_) _ _
  have other : key.toNat ≠ 0xD1E5 := fun e => h (BitVec.eq_of_toNat_eq e)
  have upper : (key.toNat * 2 ^ 16 + 1) / 2 ^ 16 = key.toNat := by omega
  rw [upper, decide_eq_false other, Bool.and_false]
  exact Bool.false_ne_true

/-- The state with instruction `i` in the test-access port. -/
def tapped (s : State) (i : TapInstr) : State := { s with boot := { s.boot with tap := i } }

theorem exec_tapReset (s : State) (i : TapInstr) : exec (.tapReset i) s = .next ((s.tapped i).resetLevel 6 (!tapRuns i)) := rfl

theorem tapReset_entered (s : State) (h : s.Canonical) (spent : s.Spent) {i : TapInstr} (held : tapRuns i = false) :
    Completes (.tapReset i) s fun t => s.Entered 6 t ∧ t.boot.tap = i := by
  refine ⟨_, exec_tapReset s i, ?_⟩
  have entered : (s.tapped i).Entered 6 ((s.tapped i).resetBy 6) :=
    resetBy_entered (s := s.tapped i) ⟨h.regs, h.latches, h.mem⟩ spent (by decide)
  rw [held]
  exact ⟨entered, rfl⟩

theorem tapReset_runs (s : State) {i : TapInstr} (runs : tapRuns i = true) :
    (s.boot.active = 2 ^ 5 → Completes (.tapReset i) s fun t =>
      t = { s.tapped i with boot := { (s.tapped i).boot with active := 0, quietAt := s.now } }) ∧
      (bitAt s.boot.active 5 = false → Completes (.tapReset i) s fun t => t = s.tapped i) := by
  have off : (s.tapped i).resetLevel 6 (!tapRuns i) = (s.tapped i).resetOff 6 := by
    rw [runs]
    rfl
  obtain ⟨alone, none⟩ := (s.tapped i).resetOff_alone (i := 5) (by decide)
  exact ⟨fun e => ⟨_, exec_tapReset s i, off.trans (alone e)⟩, fun e => ⟨_, exec_tapReset s i, off.trans (none e)⟩⟩

theorem resetEnd_ends (s : State) (reset : s.boot.inReset = true) (quiet : s.boot.active = 0) : Completes .resetEnd s fun t =>
    s.cameTo t (s.boot.quietAt + us 10) ∧ t.boot.inReset = false ∧ t.regs = s.regs ∧ t.mem = s.mem ∧ t.ctxs = s.ctxs := by
  refine ⟨_, rfl, ?_⟩
  rw [if_pos (by simp [reset, quiet])]
  exact ⟨(reach_now s _).trans (max_comm _ _), rfl, reach_keeps s State.regs (fun _ _ => rfl) _, reach_keeps s State.mem (fun _ _ => rfl) _,
    reach_keeps s State.ctxs (fun _ _ => rfl) _⟩

end State

/-- Settles O51: every source asserted comes to `resetBy`, and the reset ends 10 µs after the last has ended. -/
theorem resets : Obligations.Resets := by
  unfold Obligations.Resets
  intro s canonical spent
  have h := s.canonical_iff.mp canonical
  have enters {code : Nat} (known : 1 ≤ code ∧ code ≤ 7) : s.Entered code (s.resetBy code) := State.resetBy_entered h spent known
  have pulse {code : Nat} (known : 1 ≤ code ∧ code ≤ 7) : s.Entered code (s.resetPulse code) := (enters known).resetOff
  refine ⟨⟨_, rfl, enters (by decide)⟩, ⟨_, rfl, enters (by decide)⟩, ⟨_, rfl, enters (by decide)⟩, fun i held => s.tapReset_entered h spent held,
    State.softReset_entered h spent, fun key wrong => State.softReset_wrongKey wrong,
    fun ship => ⟨_, rfl, (congrArg (s.Entered 2) (if_pos ship)).mpr (pulse (by decide))⟩, fun other => ⟨_, rfl, if_neg other⟩,
    fun dev hfo => ⟨fun far => ⟨_, rfl, ?_⟩, fun near => ⟨_, rfl, ?_⟩⟩, ?_, fun i runs => s.tapReset_runs runs,
    fun reset quiet => s.resetEnd_ends reset quiet, fun active => ⟨_, rfl, if_neg (by simp [active])⟩⟩
  · have beyond : (s.hfo && (if s.safe.running then 60 else 150) < dev.natAbs) = true := by
      rw [hfo, Bool.true_and, decide_eq_true_eq]
      split <;> omega
    exact (congrArg (s.Entered 4) (if_pos beyond)).mpr (pulse (by decide))
  · have within : ¬(s.hfo && (if s.safe.running then 60 else 150) < dev.natAbs) = true := by
      rw [hfo, Bool.true_and, decide_eq_true_eq]
      split <;> omega
    exact if_neg within
  · exact List.forall_mem_cons.mpr ⟨s.level_ends (i := 0) (by decide) rfl, List.forall_mem_cons.mpr
      ⟨s.level_ends (i := 2) (by decide) rfl, List.forall_mem_singleton.mpr (s.level_ends (i := 4) (by decide) rfl)⟩⟩

end Sys2Proof.Machine
end

section
/-! SUPPORT. What a frame given to one port leaves of the links and far-end checks of the others, and of the frame (R161, R384, R388). -/

namespace Sys2Proof.Machine

/-- No copy of the field lies in a register of a port's link state or far-end check. -/
def Fld.offLink (f : Fld) : Bool :=
  f.stride % 0x10000 = 0 && f.base % 0x10000 ≠ 0x5808 && (f.base % 0x10000 < 0x6100 || 0x61A0 ≤ f.base % 0x10000)

theorem Fld.offLink_key {f : Fld} (h : f.offLink = true) (i : Nat) (o : Port) :
    0x5808 + 0x10000 * o.val ≠ f.base + f.stride * i ∧ 0x6100 + 0x20 * o.val ≠ f.base + f.stride * i := by
  simp only [Fld.offLink, Bool.and_eq_true, Bool.or_eq_true, decide_eq_true_eq] at h
  obtain ⟨⟨stride, link⟩, check⟩ := h
  have page : (f.base + f.stride * i) % 0x10000 = f.base % 0x10000 := by
    rw [Nat.add_mod, Nat.mul_mod, stride]
    simp
  omega

namespace State

/-- Links that are UP in `a` are so in `t`, and the far-end checks are as they were. -/
structure Links (a t : State) : Prop where
  regs : wfFrom regDefault 0 t.regs = true
  up : ∀ o, a.link o = Link.UP → t.link o = Link.UP
  check : ∀ o, t.check o = a.check o

variable {a s : State}

theorem Links.refl (h : wfFrom regDefault 0 s.regs = true) : s.Links s := ⟨h, fun _ e => e, fun _ => rfl⟩

/-- Only the registers count. -/
theorem Links.same {pending now free struck wrote rtime rtHold hfo lastTime latches mem eccBad ctxs holder hostSel servedSel dma serving load
    nvmQ ports trips replyAt primSince upFrom bbx meas ladle snap power safe sfu rack hostPort boot lt cvu} (h : a.Links s) :
    a.Links ⟨pending, now, free, struck, wrote, rtime, rtHold, hfo, lastTime, s.regs, latches, mem, eccBad, ctxs, holder,
      hostSel, servedSel, dma, serving, load, nvmQ, ports, trips, replyAt, primSince, upFrom, bbx, meas, ladle, snap, power, safe, sfu,
      rack, hostPort, boot, lt, cvu⟩ := ⟨h.regs, h.up, h.check⟩

theorem Links.ite {t : State} {c : Prop} [Decidable c] (hs : a.Links s) (ht : a.Links t) : a.Links (if c then s else t) := by
  split
  · exact hs
  · exact ht

theorem Links.forAll {α : Type} {l : List α} {f : α → State → State} (h : a.Links s) (hf : ∀ x t, a.Links t → a.Links (f x t)) :
    a.Links (Machine.forAll l f s) := by
  unfold Machine.forAll
  induction l generalizing s with
  | nil => exact h
  | cons x l ih => exact ih (hf x s h)

theorem check_of_reg {s t : State} {o : Port} (h : t.reg (0x6100 + 0x20 * o.val) = s.reg (0x6100 + 0x20 * o.val)) : t.check o = s.check o :=
  congrArg (fun w : Word => if o = xlink then 2 else bitsAt w.toNat 0 2) h

theorem link_of_reg {s t : State} {o : Port} (h : t.reg (0x5808 + 0x10000 * o.val) = s.reg (0x5808 + 0x10000 * o.val)) : t.link o = s.link o :=
  congrArg (fun w : Word => bitsAt w.toNat 0 3) h

theorem Links.setFld {f v i} (h : a.Links s) (hf : f.offLink = true := by decide) : a.Links (s.setFld f v i) where
  regs := regs_wf_setFld s f v i h.regs
  up o e := (link_of_reg (reg_setReg_other s _ _ _ h.regs (Fld.offLink_key hf i o).1)).trans (h.up o e)
  check o := (check_of_reg (reg_setReg_other s _ _ _ h.regs (Fld.offLink_key hf i o).2)).trans (h.check o)

theorem Links.setFlag {f b i} (h : a.Links s) (hf : f.offLink = true := by decide) : a.Links (s.setFlag f b i) := by
  unfold State.setFlag
  exact (h.setFld hf).same

theorem Links.setBitOf {f n b i} (h : a.Links s) (hf : f.offLink = true := by decide) : a.Links (s.setBitOf f n b i) := by
  unfold State.setBitOf
  exact (h.setFld hf).same

theorem Links.count {f i} (h : a.Links s) (hf : f.offLink = true := by decide) : a.Links (s.count f i) := by
  unfold State.count State.countBy
  exact h.setFld hf

theorem Links.raise {e} (h : a.Links s) : a.Links (s.raise e) := by
  unfold State.raise
  exact h.same.ite h.same

theorem Links.setPort {p v} (h : a.Links s) : a.Links (s.setPort p v) := h.same
theorem Links.modPort {p f} (h : a.Links s) : a.Links (s.modPort p f) := h.same

/-- A link that is not UP comes up to RESUMING. -/
theorem Links.setLink {p st} (h : a.Links s) (down : s.link p ≠ Link.UP) : a.Links (s.setLink p st) := by
  have moved : a.Links (s.setFld Reg.PORT_ST.STATE st p) := by
    refine ⟨regs_wf_setFld s _ _ _ h.regs, fun o e => ?_, fun o => ?_⟩
    · have other : o ≠ p := by
        rintro rfl
        exact down (h.up o e)
      refine (link_of_reg (reg_setReg_other s _ _ _ h.regs ?_)).trans (h.up o e)
      have : o.val ≠ p.val := Fin.val_ne_of_ne other
      change 0x5808 + 0x10000 * o.val ≠ 0x5808 + 0x10000 * p.val
      omega
    · refine (check_of_reg (reg_setReg_other s _ _ _ h.regs ?_)).trans (h.check o)
      change 0x6100 + 0x20 * o.val ≠ 0x5808 + 0x10000 * p.val
      omega
  unfold State.setLink State.raisePort
  exact h.ite (moved.ite moved.raise)

theorem Links.txFail {u p} (h : a.Links s) : a.Links (s.txFail u p) := by
  unfold State.txFail
  extract_lets s1
  have h1 : a.Links s1 := h.count
  split
  · exact h1.setBitOf.raise
  · exact h1.count
  · exact h1

theorem Links.failItem {p i} (h : a.Links s) : a.Links (s.failItem p i) := by
  unfold State.failItem
  extract_lets s1 s2
  have h1 : a.Links s1 := by
    unfold s1 State.ackLost
    exact h.modPort.ite h
  have h2 : a.Links s2 := h1.count
  split
  · exact h1.txFail
  · split
    · exact h1
    · split
      · exact h2.txFail
      · exact h2

theorem Links.startTx {p i} (h : a.Links s) : a.Links (s.startTx p i) := by
  unfold State.startTx
  exact h.setPort.setFld.ite h.setPort

theorem Links.preempt {p} (h : a.Links s) : a.Links (s.preempt p) := by
  unfold State.preempt
  dsimp only
  split
  · exact h.setPort.ite h
  · exact h

theorem Links.unplan {p} (h : a.Links s) : a.Links (s.unplan p) := by
  have unpick : a.Links (s.unpick p) := by
    unfold State.unpick
    dsimp only
    split
    · exact h.setPort.setFld.ite h
    · exact h
  unfold State.unplan
  split
  · exact unpick.ite h
  · exact h

theorem Links.kick {p} (h : a.Links s) : a.Links (s.kick p) := by
  unfold State.kick
  extract_lets s1
  have h1 : a.Links s1 := by
    unfold s1 State.dropMissed State.dropLate
    exact (h.modPort.modPort.setFlag.ite h.modPort).unplan.preempt
  split
  · exact h1
  · split
    · split
      · exact h1.setPort.startTx
      · exact h1.startTx.ite h1
    · exact h1.startTx.ite h1

theorem Links.resume {p} (h : a.Links s) : a.Links (s.resume p) := by
  unfold State.resume
  split
  · next asleep =>
    have down : s.link p ≠ Link.UP := by
      simp only [Bool.and_eq_true, decide_eq_true_eq] at asleep
      rw [asleep.1]
      decide
    exact (h.modPort.setLink down).kick
  · exact h

theorem Links.enqueue {p i} (h : a.Links s) : a.Links (s.enqueue p i) := by
  have put : a.Links (s.await p i) := by
    unfold State.await
    exact h.modPort
  unfold State.enqueue
  exact h.failItem.ite (put.kick.ite (put.ite (put.resume.ite h.failItem)))

/-! ## The frame is in its port -/

/-- An item with its place in the queue keeps its frame. -/
theorem await_has {s : State} {p : Port} {i : TxItem} {f : Frame} {tag : Nat} (h : i.Carries f tag) : ((s.await p i).port p).Has f tag := by
  unfold State.await State.modPort
  extract_lets j t
  have carries : j.Carries f tag := by
    unfold j
    split
    · exact ⟨h.use, h.stamp, h.poison, h.cut, h.frame⟩
    · exact h
  rw [port_setPort_same]
  exact .inl ⟨j, mem_insertAt_self, carries⟩

/-- A frame given to a port whose link is UP, and which is not fenced to it, is in the port. -/
theorem enqueue_has {s : State} {p : Port} {i : TxItem} {f : Frame} {tag : Nat} (h : i.Carries f tag) (up : s.link p = Link.UP)
    (passes : s.check p ≠ 3 ∨ passesShut i.frame.ftype = true) : ((s.enqueue p i).port p).Has f tag := by
  have unfenced : ¬(s.check p = 3 && !passesShut i.frame.ftype) = true := by
    rcases passes with e | e <;> simp [e]
  unfold State.enqueue
  rw [if_neg unfenced, if_pos up]
  exact (Sends.refl _).kick.has p f tag (await_has h)

end State
end Sys2Proof.Machine
end

section
/-! SUPPORT. SEND: the payload read, the frame issued, and what retires (R106, R157 to R161, R430, R440, R447). -/

namespace Sys2Proof.Machine

/-! ## Bytes and numbers -/

theorem leBytes_leNat (l : List Byte) : leBytes l.length (leNat l) = l := by
  induction l with
  | nil => rfl
  | cons b l ih =>
    have low : BitVec.ofNat 8 (b.toNat + 256 * leNat l) = b := BitVec.eq_of_toNat_eq (by simp; omega)
    have high : (b.toNat + 256 * leNat l) / 256 = leNat l := by omega
    rw [List.length_cons, leNat, leBytes, low, high, ih]

namespace State

variable {s t u : State} {c : Cid}

theorem bytes_of_byte (h : ∀ x, t.byte x = s.byte x) (a n : Nat) : t.bytes a n = s.bytes a n := by
  induction n generalizing a with
  | zero => rfl
  | succ n ih => rw [State.bytes, State.bytes, h, ih]

theorem bytes_of_mem (h : t.mem = s.mem) (a n : Nat) : t.bytes a n = s.bytes a n :=
  bytes_of_byte (fun x => congrArg (look memDefault · x) h) a n

theorem bytes_length (s : State) (a n : Nat) : (s.bytes a n).length = n := by
  induction n generalizing a with
  | zero => rfl
  | succ n ih => rw [State.bytes, List.length_cons, ih]

theorem bytes_add (s : State) (a m n : Nat) : s.bytes a (m + n) = s.bytes a m ++ s.bytes (a + m) n := by
  induction m generalizing a with
  | zero => rw [Nat.zero_add]; rfl
  | succ m ih =>
    rw [Nat.add_right_comm, State.bytes, ih, State.bytes, List.cons_append, Nat.add_assoc, Nat.add_comm 1 m]

theorem bytes_take (s : State) (a : Nat) {m n : Nat} (h : m ≤ n) : (s.bytes a n).take m = s.bytes a m := by
  obtain ⟨k, rfl⟩ := Nat.exists_eq_add_of_le h
  rw [bytes_add, List.take_left' (s.bytes_length a m)]

/-! ## What taking the core leaves -/

theorem isManager_takeCore (s : State) (c : Cid) : (s.takeCore c).isManager = s.isManager := rfl

theorem place_takeCore (s : State) (c : Cid) (d : Nat) {a : Reach} (h : a.dma = false) : (s.takeCore c).place d a = s.place d a := by
  have win (w : Nat) : (s.takeCore c).win d w = s.win d w := rfl
  have at_ (va : Nat) : (s.takeCore c).windowAt d va = s.windowAt d va := rfl
  unfold State.place
  rw [at_, isManager_takeCore, h]
  simp only [win, Bool.false_and]

theorem bytes_takeCore (s : State) (c : Cid) (a n : Nat) : (s.takeCore c).bytes a n = s.bytes a n :=
  bytes_of_mem (takeCore_outside s c).mem a n

theorem advance_ports (s : State) (n : Nat) (p : Port) :
    ((s.advance n).port p).queue = (s.port p).queue ∧ ((s.advance n).port p).cur = (s.port p).cur ∧
      ((s.advance n).port p).plan = (s.port p).plan ∧ ((s.advance n).port p).outs = (s.port p).outs := by
  have ports : (s.advance n).port p = (s.passPrimers n)[p] := rfl
  rw [ports, State.passPrimers]
  split
  · have one : (Vector.ofFn fun p => (s.port p).passPrimer s.now n (Config.lineErrors s.free (2 * p.val))
        (Config.lineErrors s.free (2 * p.val + 1)))[p] = (s.port p).passPrimer s.now n (Config.lineErrors s.free (2 * p.val))
        (Config.lineErrors s.free (2 * p.val + 1)) := by simp
    rw [one, PortSt.passPrimer]
    split <;> exact ⟨rfl, rfl, rfl, rfl⟩
  · exact ⟨rfl, rfl, rfl, rfl⟩

theorem tagBusy_advance (s : State) (n tag : Nat) : (s.advance n).tagBusy tag = s.tagBusy tag := by
  unfold State.tagBusy
  congr 1
  funext p
  obtain ⟨queue, cur, _, outs⟩ := s.advance_ports n p
  dsimp only
  rw [queue, cur, outs]

theorem freeTags_takeCore (s : State) (c : Cid) : (s.takeCore c).freeTags = s.freeTags := by
  unfold State.freeTags
  congr 1
  funext tag
  exact congrArg (!·) (tagBusy_advance _ _ tag)

/-! ## The payload (R160) -/

/-- The addresses of `n` words from `pa` on. -/
def wordsAt (pa : Nat) : Nat → List Nat
  | 0 => []
  | n + 1 => pa :: wordsAt (pa + 4) n

/-- The reach of a word of a payload at `va`. -/
def payloadReach (va : Nat) : Reach := ⟨va, 4, false, 0, false, true⟩

theorem checkPayload_sram (n va pa : Nat) (h : ∀ j, j < n → s.reachesSram c (payloadReach (va + 4 * j)) (pa + 4 * j)) :
    (s.takeCore c).checkPayload c va n = .ok (wordsAt pa n) := by
  induction n generalizing va pa with
  | zero => rfl
  | succ n ih =>
    obtain ⟨⟨w, place⟩, sram, sound⟩ := h 0 (by omega)
    rw [Nat.mul_zero, Nat.add_zero, Nat.add_zero] at place
    rw [Nat.mul_zero, Nat.add_zero] at sram sound
    have next := ih (va + 4) (pa + 4) fun j hj => by
      have := h (j + 1) (by omega)
      rwa [show va + 4 * (j + 1) = va + 4 + 4 * j by ring, show pa + 4 * (j + 1) = pa + 4 + 4 * j by ring] at this
    have here : (s.takeCore c).place c.val (payloadReach va) = .here pa w := (s.place_takeCore c c.val rfl).trans place
    have stop : (s.takeCore c).readStop (payloadReach va) pa w = none := by
      have low : pa < 0x10000 := by simpa [isSram] using sram
      have notNvm : isNvm pa = false := by simp [isNvm]; omega
      have noError : (s.takeCore c).eccHit pa = false := sound
      simp [State.readStop, notNvm, noError]
    unfold State.checkPayload
    dsimp only
    rw [show (⟨va, 4, false, 0, false, true⟩ : Reach) = payloadReach va from rfl, here]
    dsimp only
    rw [stop, next]
    rfl

theorem readWords_sram (n pa : Nat) (h : ∀ j, j < n → isSram (pa + 4 * j) = true) : t.readWords c (wordsAt pa n) = (t, t.bytes pa (4 * n)) := by
  induction n generalizing pa with
  | zero => rfl
  | succ n ih =>
    have sram := h 0 (by omega)
    have low : pa < 0x10000 := by simpa [isSram] using sram
    have notPage : isPage pa = false := by simp [isPage]; omega
    have read : t.readAt (.ctx c) pa 4 = (t.num pa 4, t) := if_neg (by simp [notPage])
    have word : leBytes 4 (t.num pa 4) = t.bytes pa 4 := by
      have := leBytes_leNat (t.bytes pa 4)
      rwa [bytes_length] at this
    rw [wordsAt, State.readWords, read]
    dsimp only
    rw [ih (pa + 4) fun j hj => by
      have := h (j + 1) (by omega)
      rwa [show pa + 4 * (j + 1) = pa + 4 + 4 * j by ring] at this, word, show 4 * (n + 1) = 4 + 4 * n by ring, bytes_add]

/-! ## SEND once its payload is read -/

/-- The tag that SEND takes of the free ones. -/
def sendTag (t : State) : Nat := t.freeTags.getD (Config.slotChoice t.draw.1 % t.freeTags.length) 0

/-- The port that SEND names when its frame is not routed. -/
def sendPort (sel : Nat) : Option Port := if bitAt sel 7 then some (portOf (bitsAt sel 8 2)) else none

/-- What SEND comes to with payload `b`. -/
def sendPayload (t : State) (c : Cid) (rd : RegNo) (w : Word) (sel : Nat) (b : List Byte) : Did :=
  let len := sel % 2 ^ 7
  let ty := w.toNat / 2 ^ 28
  if ty = 7 && (fieldOf b 1 1 = 0 || 64 < fieldOf b 1 1) then .illegal t 2
  else if ty = 5 && fieldOf b 0 1 = 1 && len ≠ 0 && !t.seal9 then .trap t Cause.PRIV 0 0 0
  else .done ((t.draw.2.issueFrame (t.programFrame w.toNat b) (sendPort sel) t.sendTag).setX c rd (BitVec.ofNat 32 t.sendTag))
    (3 + (len + 3) / 4)

theorem sendTag_mem (h : t.freeTags ≠ []) : t.sendTag ∈ t.freeTags := by
  have some : 0 < t.freeTags.length := List.length_pos_iff.mpr h
  have index : Config.slotChoice t.draw.1 % t.freeTags.length < t.freeTags.length := Nat.mod_lt _ some
  rw [sendTag, List.getD_eq_getElem _ _ index]
  exact List.getElem_mem index

section
variable {w x : Word} {sel : Nat} {rd : RegNo}

/-- A SEND that its type or its length does not bar. -/
structure Sendable (s : State) (c : Cid) (w x : Word) (len : Nat) : Prop where
  short : len ≤ 64
  type : s.typeTrap c (w.toNat / 2 ^ 28) = none
  aligned : x.toNat % 4 = 0
  enum : w.toNat / 2 ^ 28 = 7 → 36 ≤ len

theorem send_shortEnum (short : sel % 2 ^ 7 ≤ 64) (type : s.typeTrap c (w.toNat / 2 ^ 28) = none) (enum : w.toNat / 2 ^ 28 = 7)
    (bad : sel % 2 ^ 7 < 36) : (s.takeCore c).send' c rd w x sel = .illegal (s.takeCore c) 2 := by
  have type' : (s.takeCore c).typeTrap c (w.toNat / 2 ^ 28) = none := type
  unfold State.send'
  simp only [if_neg (not_lt.mpr short), type']
  rw [if_pos (by rw [enum, decide_eq_true bad]; rfl)]

theorem send_noSlot (ok : s.Sendable c w x (sel % 2 ^ 7)) (full : s.freeTags = []) :
    (s.takeCore c).send' c rd w x sel = .done ((s.takeCore c).setX c rd 0) 3 := by
  have type' : (s.takeCore c).typeTrap c (w.toNat / 2 ^ 28) = none := ok.type
  have enum : ¬(w.toNat / 2 ^ 28 = 7 && sel % 2 ^ 7 < 36) = true := by
    simpa using ok.enum
  unfold State.send'
  simp only [if_neg (not_lt.mpr ok.short), type']
  rw [if_neg enum, if_neg (not_not.mpr ok.aligned), freeTags_takeCore, full]

theorem send_reads (ok : s.Sendable c w x (sel % 2 ^ 7)) (slot : s.freeTags ≠ []) {pa : Nat}
    (reach : ∀ j, j < (sel % 2 ^ 7 + 3) / 4 → s.reachesSram c (payloadReach (x.toNat + 4 * j)) (pa + 4 * j)) :
    (s.takeCore c).send' c rd w x sel = (s.takeCore c).sendPayload c rd w sel (s.bytes pa (sel % 2 ^ 7)) := by
  have type' : (s.takeCore c).typeTrap c (w.toNat / 2 ^ 28) = none := ok.type
  have enum : ¬(w.toNat / 2 ^ 28 = 7 && sel % 2 ^ 7 < 36) = true := by
    simpa using ok.enum
  have check := checkPayload_sram ((sel % 2 ^ 7 + 3) / 4) x.toNat pa reach
  have read := readWords_sram (t := s.takeCore c) (c := c) ((sel % 2 ^ 7 + 3) / 4) pa fun j hj => (reach j hj).2.1
  have payload : ((s.takeCore c).bytes pa (4 * ((sel % 2 ^ 7 + 3) / 4))).take (sel % 2 ^ 7) = s.bytes pa (sel % 2 ^ 7) := by
    rw [bytes_takeCore, bytes_take _ _ (by omega)]
  have slot' : (s.takeCore c).freeTags ≠ [] := by rwa [freeTags_takeCore]
  unfold State.send'
  simp only [if_neg (not_lt.mpr ok.short), type', check, read, payload]
  rw [if_neg enum, if_neg (not_not.mpr ok.aligned)]
  rfl

end

/-! ## What retiring leaves of a frame sent -/

theorem mem_ports (p : Port) : p ∈ xlink :: allPorts := by
  revert p
  decide

/-- A program's frame in a port holds its tag. -/
theorem has_tagBusy {p : Port} {f : Frame} {tag : Nat} (h : (t.port p).Has f tag) : t.tagBusy tag = true := by
  refine List.any_eq_true.mpr ⟨p, mem_ports p, ?_⟩
  obtain ⟨i, waits, carries⟩ | ⟨i, flies, carries, _⟩ := h
  · have waiting : ((t.port p).queue.any fun i => i.use = .program tag) = true := List.any_eq_true.mpr ⟨i, waits, decide_eq_true carries.use⟩
    simp only [waiting, Bool.true_or]
  · have flying : ((t.port p).cur.any fun i => i.use = .program tag) = true := by
      rw [flies]
      exact decide_eq_true carries.use
    simp only [flying, Bool.or_true, Bool.true_or]

/-- A program's frame in the port leaves it. -/
theorem has_leaves {p : Port} {f : Frame} {tag : Nat} (h : (t.port p).Has f tag) : t.leaves p fun g => sentAs g f := by
  obtain ⟨i, waits, carries⟩ | ⟨i, flies, carries, _⟩ := h
  · exact ⟨i, .inl waits, carries.frame⟩
  · exact ⟨i, .inr flies, carries.frame⟩

theorem retire_has {pc : Word} {n : Nat} {p : Port} {f : Frame} {tag : Nat} (h : (u.port p).Has f tag) :
    ((u.retire c pc n).port p).Has f tag := by
  unfold State.retire
  split
  · exact h
  · let v := (u.modCtx c fun v => { v with pc := pc, yielded := false, cont := none }).yieldSees c
    obtain ⟨queue, cur, plan, _⟩ := (v.modCtx c fun v => { v with cycle := v.cycle + BitVec.ofNat 32 n }).advance_ports n p
    exact h.imp (fun i waits _ => by
      unfold State.spend
      rw [queue]
      exact waits) cur plan

/-- Events that are pending when an instruction retires stay so. -/
theorem retire_rang (hb : u.boot.inReset = false) {pc : Word} {n : Nat} {d : Cid} {e : Nat} (h : u.rang d e) : (u.retire c pc n).rang d e := by
  have evpend : ((u.retire c pc n).ctx d).evpend = (u.ctx d).evpend := by
    by_cases hd : d = c
    · subst hd
      obtain ⟨_, _, _, _, _, _, evpend, _⟩ := (retire_retired hb d pc n).special
      exact evpend
    · obtain ⟨_, _, _, _, _, _, _, _, _, evpend, _⟩ := (u.retire_outside c pc n).others d hd
      exact evpend
  rw [State.rang, evpend]
  exact h

/-- What SEND leaves once its frame is issued as `u`: the tag in rd, the frame in its ports, and the events raised. -/
structure Issued (s : State) (c : Cid) (rd : RegNo) (u t : State) (tag : Nat) : Prop where
  gave : s.gave t c rd (BitVec.ofNat 32 tag)
  has : ∀ o f, (u.port o).Has f tag → (t.port o).Has f tag
  rang : ∀ d e, u.rang d e → t.rang d e
  regs : t.regs = u.regs

theorem issued_retire (h : s.executing = some c) (rd : RegNo) (sends : (s.takeCore c).Sends u) (tag n : Nat) :
    s.Issued c rd u ((u.setX c rd (BitVec.ofNat 32 tag)).retire c ((s.ctx c).pc + 4) n) tag := by
  have live : (u.setX c rd (BitVec.ofNat 32 tag)).boot.inReset = false := by
    rw [boot_setX, sends.boot, takeCore_inReset h]
  have x : (u.ctx c).x = (s.ctx c).x := by
    obtain ⟨x, _⟩ := sends.ctx c
    rw [x, ctx_takeCore_self]
  constructor
  case gave =>
    refine gave_retire live (fun r => ?_) n
    rw [State.setX, ctx_modCtx_same, getX_setX, Ctx.getX, x, ← Ctx.getX]
  case has => exact fun o f mine => retire_has mine
  case rang =>
    refine fun d e r => retire_rang live ?_
    have evpend : ((u.setX c rd (BitVec.ofNat 32 tag)).ctx d).evpend = (u.ctx d).evpend := by
      by_cases hd : d = c
      · subst hd
        rw [State.setX, ctx_modCtx_same, Ctx.setX_eq]
      · rw [State.setX, ctx_modCtx_other _ _ _ _ hd]
    rw [State.rang, evpend]
    exact r
  case regs => exact (retire_outside _ c _ n).regs

end State
end Sys2Proof.Machine
end

section
/-! SUPPORT. The frame that SEND issues, by the way that it leaves (R161, R430, R440, R447). -/

namespace Sys2Proof.Machine
namespace State

variable {s t u : State} {c : Cid}

/-! ## What only the registers say -/

theorem route_of_regs (h : t.regs = s.regs) (d : BitVec 16) : t.route d = s.route d := by
  have own : t.route d = ({ s with regs := t.regs } : State).route d := rfl
  rw [own, h]

theorem bitOf_of_regs (h : t.regs = s.regs) (f : Fld) (n i : Nat) : t.bitOf f n i = s.bitOf f n i := by
  have own : t.bitOf f n i = ({ s with regs := t.regs } : State).bitOf f n i := rfl
  rw [own, h]

/-! ## The ways that a frame takes -/

variable {f : Frame} {p o : Port} {tag : Nat} {direct : Option Port}

theorem issueFrame_enum (h : f.ftype = Ty.ENUM) : s.issueFrame f direct tag =
    s.sendOn (pathEntry f.payload 0) { f with hops := fieldOf f.payload 1 1 - 1, dest := 0 } tag := if_pos h

theorem issueFrame_direct (plain : f.ftype ≠ Ty.ENUM) (other : s.isMine f.dest = false ∨ f.isBroadcast = true) :
    s.issueFrame f (some p) tag = (s.sendOn p f tag).ownTrip f := by
  have away : ¬(s.isMine f.dest && !f.isBroadcast) = true := by
    rcases other with e | e <;> simp [e]
  rw [State.issueFrame, if_neg plain, if_neg away]

theorem issueFrame_routed (plain : f.ftype ≠ Ty.ENUM) (other : s.isMine f.dest = false) (one : f.isBroadcast = false) :
    s.issueFrame f none tag = (s.sendRouted f (.program tag)).ownTrip f := by
  simp [State.issueFrame, plain, other, one]

theorem issueFrame_broadcast (plain : f.ftype ≠ Ty.ENUM) (all : f.isBroadcast = true) : s.issueFrame f none tag = s.sendAll f tag := by
  simp [State.issueFrame, plain, all]

/-- A port that is UP, and OPEN or given an ENUM, and in no Primer, takes the frame. -/
theorem sendOn_eq_enqueue (up : s.link p = Link.UP) (passes : f.ftype = Ty.ENUM ∨ s.check p = 2) (free : s.inPrimer p = false) :
    s.sendOn p f tag = s.enqueue p (.of f (.program tag)) := by
  have alive : s.linkAlive p = true := by rw [State.linkAlive, up]; rfl
  have may : (decide (f.ftype = Ty.ENUM) || decide (s.check p = 2)) = true := by simpa using passes
  rw [State.sendOn, free, Bool.and_false, if_neg Bool.false_ne_true, alive, may]
  rfl

/-! ## A TRIP of this die -/

theorem Sends.ownTrip (h : s.Sends t) : s.Sends (t.ownTrip f) := by
  unfold State.ownTrip
  exact (h.latchTrip.raise.followUp.ite h.latchTrip.raise).ite h

theorem ownTrip_rang (h : f.ftype = Ty.TRIP) (d : Cid) : (s.ownTrip f).rang d Ev.TRIP_SEEN := by
  have rung : ((s.latchTrip s.addr 0 true).raise Ev.TRIP_SEEN).rang d Ev.TRIP_SEEN := State.raise_rang _ (by decide) rfl d
  rw [State.ownTrip, if_pos h]
  dsimp only
  split
  · exact (Sends.refl _).followUp.rang rung
  · exact rung

/-! ## The frame is in its ports -/

/-- The frame has been given to port `o`, and with a TRIP every context knows. -/
structure Emitted (s u : State) (o : Port) (f : Frame) (tag : Nat) : Prop where
  sends : s.Sends u
  has : (u.port o).Has f tag
  trip : f.ftype = Ty.TRIP → ∀ d, u.rang d Ev.TRIP_SEEN

theorem enqueue_emitted {i : TxItem} (carries : i.Carries f tag) (up : s.link o = Link.UP) (passes : s.check o = 2) :
    s.Emitted ((s.enqueue o i).ownTrip f) o f tag where
  sends := (Sends.refl s).enqueue.ownTrip
  has := (Sends.refl _).ownTrip.has o f tag (enqueue_has carries up (.inl (by rw [passes]; decide)))
  trip h := ownTrip_rang h

/-- An ENUM leaves on the first port of its PATH (R447). -/
theorem enum_emitted (enum : f.ftype = Ty.ENUM) (up : s.link (pathEntry f.payload 0) = Link.UP) (free : s.inPrimer (pathEntry f.payload 0) = false) :
    s.Emitted (s.issueFrame f direct tag) (pathEntry f.payload 0) { f with hops := fieldOf f.payload 1 1 - 1, dest := 0 } tag := by
  rw [issueFrame_enum enum, sendOn_eq_enqueue (f := { f with hops := _, dest := 0 }) up (.inl enum) free]
  have passes : passesShut (TxItem.of { f with hops := fieldOf f.payload 1 1 - 1, dest := 0 } (.program tag)).frame.ftype = true := by
    change passesShut f.ftype = true
    rw [enum]
    rfl
  exact ⟨(Sends.refl s).enqueue, enqueue_has (TxItem.carries_of _ tag) up (.inr passes), fun trip => by rw [enum] at trip; cases trip⟩

/-- With DIRECT it leaves on the port that SEND names (R161). -/
theorem direct_emitted (plain : f.ftype ≠ Ty.ENUM) (other : s.isMine f.dest = false ∨ f.isBroadcast = true) (up : s.link o = Link.UP)
    (passes : s.check o = 2) (free : s.inPrimer o = false) : s.Emitted (s.issueFrame f (some o) tag) o f tag := by
  rw [issueFrame_direct plain other, sendOn_eq_enqueue up (.inr passes) free]
  exact enqueue_emitted (TxItem.carries_of f tag) up passes

/-- Else by its DEST on the port of its route (R430). -/
theorem routed_emitted (plain : f.ftype ≠ Ty.ENUM) (other : s.isMine f.dest = false) (one : f.isBroadcast = false) {via : Bool}
    (route : s.route f.dest = some (o, via)) (up : s.link o = Link.UP) (passes : s.check o = 2) :
    s.Emitted (s.issueFrame f none tag) o f tag := by
  rw [issueFrame_routed plain other one, State.sendRouted, route]
  obtain ⟨use, stamp, poison, cut, frame⟩ := TxItem.carries_of f tag
  exact enqueue_emitted ⟨use, stamp, poison, cut, frame⟩ up passes

theorem forAll_enqueue_has {l : List Port} (mem : o ∈ l) {i : TxItem} (carries : i.Carries f tag) (wf : wfFrom regDefault 0 s.regs = true)
    (up : s.link o = Link.UP) (passes : s.check o = 2) : ((forAll l (fun p t => t.enqueue p i) s).port o).Has f tag := by
  induction l generalizing s with
  | nil => cases mem
  | cons p l ih =>
    obtain rfl | later := List.mem_cons.mp mem
    · exact ((Sends.refl (s.enqueue o i)).forAll fun _ _ h => h.enqueue).has o f tag (enqueue_has carries up (.inl (by rw [passes]; decide)))
    · have links : s.Links (s.enqueue p i) := (Links.refl wf).enqueue
      exact ih later links.regs (links.up o up) ((links.check o).trans passes)

theorem sendAll_of_some {l : List Port} (h : allPorts.filter s.usable = l) (some : l ≠ []) :
    s.sendAll f tag = forAll l (fun p t => t.enqueue p (.of f (.program tag))) s := by
  unfold State.sendAll
  rw [h]
  cases l with
  | nil => contradiction
  | cons => rfl

theorem broadcast_type (all : f.isBroadcast = true) : f.ftype ≠ Ty.ENUM ∧ f.ftype ≠ Ty.TRIP := by
  have type : f.ftype ∈ [Ty.TIME, Ty.SCHED, Ty.BCAST, Ty.PROG] := by
    simp only [Frame.isBroadcast, Bool.or_eq_true, Bool.and_eq_true, decide_eq_true_eq] at all
    simp only [List.mem_cons]
    tauto
  constructor <;> intro e <;> rw [e] at type <;> revert type <;> decide

/-- A broadcast leaves on every port that is UP and OPEN (R440). -/
theorem broadcast_emitted (all : f.isBroadcast = true) (wf : wfFrom regDefault 0 s.regs = true) (ready : ∃ o ∈ allPorts, s.usable o = true) :
    s.Sends (s.issueFrame f none tag) ∧ ∀ o ∈ allPorts, s.usable o = true → s.link o = Link.UP → s.check o = 2 →
      s.Emitted (s.issueFrame f none tag) o f tag := by
  have type := broadcast_type all
  obtain ⟨q, memq, usable⟩ := ready
  have some : allPorts.filter s.usable ≠ [] := List.ne_nil_of_mem (List.mem_filter.mpr ⟨memq, usable⟩)
  have sends : s.Sends (s.issueFrame f none tag) := by
    rw [issueFrame_broadcast type.1 all, sendAll_of_some rfl some]
    exact (Sends.refl s).forAll fun _ _ h => h.enqueue
  refine ⟨sends, fun o mem usable up passes => ⟨sends, ?_, fun trip => absurd trip type.2⟩⟩
  rw [issueFrame_broadcast type.1 all, sendAll_of_some rfl some]
  exact forAll_enqueue_has (List.mem_filter.mpr ⟨mem, usable⟩) (TxItem.carries_of f tag) wf up passes

/-- With no port usable its tag is failed (log 11). -/
theorem broadcast_fails (plain : f.ftype ≠ Ty.ENUM) (all : f.isBroadcast = true) (wf : wfFrom regDefault 0 s.regs = true)
    (none : ∀ o ∈ allPorts, s.usable o = false) (small : tag - 1 < Reg.PORT_TXFAIL.FAIL.width) :
    s.Sends (s.issueFrame f .none tag) ∧ (s.issueFrame f .none tag).bitOf Reg.PORT_TXFAIL.FAIL (tag - 1) = true ∧
      ∀ d, (s.issueFrame f .none tag).rang d Ev.TX_DONE := by
  have empty : allPorts.filter s.usable = [] := List.filter_eq_nil_iff.mpr fun o mem => by rw [none o mem]; decide
  rw [issueFrame_broadcast plain all, State.sendAll, empty]
  dsimp only
  refine ⟨(Sends.refl s).txFail, ?_, fun d => State.raise_rang _ (by decide) rfl d⟩
  have counted : wfFrom regDefault 0 (s.count Reg.PORT_TXFAILC.COUNT (0 : Port)).regs = true := regs_wf_setFld s _ _ _ wf
  rw [State.txFail, bitOf_of_regs (raise_regs _ _), State.bitOf_setBitOf counted (by decide) small, if_pos rfl]

end State
end Sys2Proof.Machine
end

section
/-! SUPPORT. SEND by its type, payload and route (R106, R157 to R161, R430, R440, R447). -/

namespace Sys2Proof.Machine
namespace State

variable {s t u : State} {c : Cid}

theorem programFrame_type (s : State) (w : Word) (b : List Byte) : (s.programFrame w.toNat b).ftype.val = w.toNat / 2 ^ 28 :=
  Nat.mod_eq_of_lt (by omega : w.toNat / 2 ^ 28 < 16)

theorem programFrame_isType (s : State) (w : Word) (b : List Byte) (ty : Fin 16) :
    (s.programFrame w.toNat b).ftype = ty ↔ w.toNat / 2 ^ 28 = ty.val := by
  rw [← programFrame_type s w b, Fin.val_inj]

/-! ## The ways that SEND ends -/

section
variable (h : s.executing = some c) {rd p q : RegNo} {sel : Nat} {P : State → Prop}
include h

theorem completes_send (small : sel < 2 ^ 10)
    (hP : P (((s.takeCore c).send' c rd ((s.ctx c).getX p) ((s.ctx c).getX q) sel).finish c (s.ctx c).pc)) :
    Completes (.send rd p q (BitVec.ofNat 14 sel)) s P := by
  have value : (BitVec.ofNat 14 sel).toNat = sel := Nat.mod_eq_of_lt (by omega)
  refine completes_runInstr h rfl ?_
  rw [value, if_neg (by omega), getX_takeCore, getX_takeCore]
  exact hP

theorem send_illegal (small : sel < 2 ^ 10) (free : (s.ctx c).status.getLsbD 4 = false)
    (bad : (s.takeCore c).send' c rd ((s.ctx c).getX p) ((s.ctx c).getX q) sel = .illegal (s.takeCore c) 2) :
    Completes (.send rd p q (BitVec.ofNat 14 sel)) s fun t => s.trapped t c 0x201 0 (s.ctx c).pc ∧ s.storesNothing t := by
  refine completes_send h small ?_
  rw [bad]
  exact trap_finish (cause := Cause.ILLEGAL) free (by decide) 2 0

/-- With no transmit slot free rd holds 0 (R158). -/
theorem send_full (small : sel < 2 ^ 10) (ok : s.Sendable c ((s.ctx c).getX p) ((s.ctx c).getX q) (sel % 2 ^ 7)) (full : s.freeTags = []) :
    Completes (.send rd p q (BitVec.ofNat 14 sel)) s fun t => s.gave t c rd 0 ∧ s.storesNothing t := by
  refine completes_send h small ?_
  rw [send_noSlot ok full]
  obtain ⟨⟨x, pc, _⟩, _, nothing⟩ := setX_retire h rd 0 ((s.ctx c).pc + 4) 3
  exact ⟨⟨x, pc⟩, nothing⟩

end

/-- What a header word `w` with payload `b` asks is allowed: a PATH of an ENUM has its length, and SEAL9 is on for a LOAD_BEGIN (R106, R447). -/
structure Allowed (s : State) (w : Word) (len : Nat) (b : List Byte) : Prop where
  path : w.toNat / 2 ^ 28 = 7 → 1 ≤ fieldOf b 1 1 ∧ fieldOf b 1 1 ≤ 64
  load : w.toNat / 2 ^ 28 = 5 → fieldOf b 0 1 = 1 → 0 < len → s.seal9 = true

theorem sendPayload_done {w : Word} {sel : Nat} {b : List Byte} (h : t.Allowed w (sel % 2 ^ 7) b) (rd : RegNo) :
    t.sendPayload c rd w sel b =
      .done ((t.draw.2.issueFrame (t.programFrame w.toNat b) (sendPort sel) t.sendTag).setX c rd (BitVec.ofNat 32 t.sendTag))
        (3 + (sel % 2 ^ 7 + 3) / 4) := by
  have path : ¬(w.toNat / 2 ^ 28 = 7 && (fieldOf b 1 1 = 0 || 64 < fieldOf b 1 1)) = true := by
    simp only [Bool.and_eq_true, Bool.or_eq_true, decide_eq_true_eq]
    rintro ⟨enum, bad⟩
    have := h.path enum
    omega
  have load : ¬(w.toNat / 2 ^ 28 = 5 && fieldOf b 0 1 = 1 && sel % 2 ^ 7 ≠ 0 && !t.seal9) = true := by
    simp only [Bool.and_eq_true, decide_eq_true_eq, Bool.not_eq_true']
    rintro ⟨⟨⟨prog, begins⟩, some⟩, off⟩
    rw [h.load prog begins (Nat.pos_of_ne_zero some)] at off
    cases off
  rw [sendPayload, if_neg path, if_neg load]

/-- The state in which SEND issues its frame: the core taken, and its slot chosen. -/
def atIssue (s : State) (c : Cid) : State := (s.takeCore c).draw.2

theorem atIssue_regs (s : State) (c : Cid) : (s.atIssue c).regs = s.regs := (takeCore_outside s c).regs

theorem Sends.ofIssue (h : (s.atIssue c).Sends u) : (s.takeCore c).Sends u := ((Sends.refl (s.takeCore c)).same : _).trans h

theorem sendTag_free (slot : s.freeTags ≠ []) : (s.takeCore c).sendTag ∈ s.freeTags := by
  have mem := sendTag_mem (t := s.takeCore c) (by rwa [freeTags_takeCore])
  rwa [freeTags_takeCore] at mem

/-- SEND with selector `sel` finds `len` bytes of payload in SRAM at `pa` and a transmit slot free. -/
structure Loaded (s : State) (c : Cid) (p q : RegNo) (sel len pa : Nat) : Prop where
  small : sel < 2 ^ 10
  length : sel % 2 ^ 7 = len
  ok : s.Sendable c ((s.ctx c).getX p) ((s.ctx c).getX q) len
  slot : s.freeTags ≠ []
  reach : ∀ j, j < (len + 3) / 4 → s.reachesSram c (payloadReach (((s.ctx c).getX q).toNat + 4 * j)) (pa + 4 * j)

/-- The frame that SEND makes of a header in `p` and payload `b`. -/
def sendFrame (s : State) (c : Cid) (p : RegNo) (b : List Byte) : Frame := s.programFrame ((s.ctx c).getX p).toNat b

/-- Port `o` has the frame of SEND's header in `p` and payload `b` under a tag that was free, which rd holds; with TRIP every context knows. -/
def sentOn (s : State) (c : Cid) (rd p : RegNo) (b : List Byte) (o : Port) (t : State) : Prop :=
  (∃ tag ∈ s.freeTags, s.gave t c rd (BitVec.ofNat 32 tag) ∧ t.tagBusy tag = true) ∧
    (t.leaves o fun g => g.ftype = (s.sendFrame c p b).ftype ∧ g.dest = (s.sendFrame c p b).dest ∧ g.prio = (s.sendFrame c p b).prio ∧
      g.ackreq = (s.sendFrame c p b).ackreq ∧ g.payload = b) ∧
    (((s.ctx c).getX p).toNat / 2 ^ 28 = 2 → ∀ d, t.rang d Ev.TRIP_SEEN)

theorem leaves_imp {ok ok' : Frame → Prop} {o : Port} (h : t.leaves o ok) (imp : ∀ g, ok g → ok' g) : t.leaves o ok' := by
  obtain ⟨i, there, good⟩ := h
  exact ⟨i, there, imp _ good⟩

section
variable {rd p q : RegNo} {sel len pa tag : Nat} {o : Port} {P : State → Prop}

theorem Issued.tagged {f : Frame} (i : s.Issued c rd u t tag) (free : tag ∈ s.freeTags) (e : (s.atIssue c).Emitted u o f tag) :
    ∃ tag ∈ s.freeTags, s.gave t c rd (BitVec.ofNat 32 tag) ∧ t.tagBusy tag = true :=
  ⟨tag, free, i.gave, has_tagBusy (i.has o f e.has)⟩

theorem Issued.sentOn {b : List Byte} (i : s.Issued c rd u t tag) (free : tag ∈ s.freeTags)
    (e : (s.atIssue c).Emitted u o (s.sendFrame c p b) tag) : s.sentOn c rd p b o t := by
  refine ⟨i.tagged free e, leaves_imp (has_leaves (i.has _ _ e.has)) ?_, fun trip d => i.rang d _ (e.trip ?_ d)⟩
  · rintro g ⟨type, dest, _, prio, ackreq, payload⟩
    exact ⟨type, dest, prio, ackreq, payload⟩
  · exact (programFrame_isType s _ b Ty.TRIP).mpr trip

variable (h : s.executing = some c) (r : s.Loaded c p q sel len pa)
include h r

theorem send_loaded (hP : P (((s.takeCore c).sendPayload c rd ((s.ctx c).getX p) sel (s.bytes pa len)).finish c (s.ctx c).pc)) :
    Completes (.send rd p q (BitVec.ofNat 14 sel)) s P := by
  obtain ⟨small, rfl, ok, slot, reach⟩ := r
  refine completes_send h small ?_
  rw [send_reads ok slot reach]
  exact hP

/-- A LOAD_BEGIN while SEAL9 is off traps (R106). -/
theorem send_loadBegin (free : (s.ctx c).status.getLsbD 4 = false) (prog : ((s.ctx c).getX p).toNat / 2 ^ 28 = 5)
    (begins : fieldOf (s.bytes pa len) 0 1 = 1) (some : 0 < len) (off : s.seal9 = false) :
    Completes (.send rd p q (BitVec.ofNat 14 sel)) s fun t => s.trapped t c 2 0 (s.ctx c).pc ∧ s.storesNothing t := by
  refine send_loaded h r ?_
  have off' : (s.takeCore c).seal9 = false := off
  have payload : (s.takeCore c).sendPayload c rd ((s.ctx c).getX p) sel (s.bytes pa len) = .trap (s.takeCore c) Cause.PRIV 0 0 0 := by
    simp only [sendPayload, prog, begins, off', r.length]
    simp [some.ne']
  rw [payload]
  exact trap_finish (cause := Cause.PRIV) free (by decide) 0 0

/-- An ENUM with a PATH of no length, or longer than 64, traps (R447). -/
theorem send_badPath (free : (s.ctx c).status.getLsbD 4 = false) (enum : ((s.ctx c).getX p).toNat / 2 ^ 28 = 7)
    (bad : fieldOf (s.bytes pa len) 1 1 = 0 ∨ 64 < fieldOf (s.bytes pa len) 1 1) :
    Completes (.send rd p q (BitVec.ofNat 14 sel)) s fun t => s.trapped t c 0x201 0 (s.ctx c).pc ∧ s.storesNothing t := by
  refine send_loaded h r ?_
  have payload : (s.takeCore c).sendPayload c rd ((s.ctx c).getX p) sel (s.bytes pa len) = .illegal (s.takeCore c) 2 := by
    simp only [sendPayload, enum]
    simp [bad]
  rw [payload]
  exact trap_finish (cause := Cause.ILLEGAL) free (by decide) 2 0

/-- SEND with a payload in SRAM and a slot free issues its frame under a free tag. -/
theorem send_issued (allowed : s.Allowed ((s.ctx c).getX p) len (s.bytes pa len))
    (emits : ∀ tag ∈ s.freeTags, ∀ u, u = (s.atIssue c).issueFrame (s.sendFrame c p (s.bytes pa len)) (sendPort sel) tag →
      (s.atIssue c).Sends u ∧ ∀ t, s.Issued c rd u t tag → P t) :
    Completes (.send rd p q (BitVec.ofNat 14 sel)) s P := by
  obtain ⟨sends, holds⟩ := emits _ (sendTag_free (c := c) r.slot) _ rfl
  refine send_loaded h r ?_
  have allowed' : (s.takeCore c).Allowed ((s.ctx c).getX p) (sel % 2 ^ 7) (s.bytes pa len) := ⟨allowed.path, r.length ▸ allowed.load⟩
  rw [sendPayload_done allowed']
  exact holds _ (issued_retire h rd sends.ofIssue _ _)

/-- An ENUM leaves on the first port of its PATH, with one hop less than its PATH has (R447). -/
theorem send_enum (enum : ((s.ctx c).getX p).toNat / 2 ^ 28 = 7) (path : 1 ≤ fieldOf (s.bytes pa len) 1 1 ∧ fieldOf (s.bytes pa len) 1 1 ≤ 64)
    (up : s.link (pathEntry (s.bytes pa len) 0) = Link.UP) (free : s.inPrimer (pathEntry (s.bytes pa len) 0) = false) :
    Completes (.send rd p q (BitVec.ofNat 14 sel)) s fun t =>
      (∃ tag ∈ s.freeTags, s.gave t c rd (BitVec.ofNat 32 tag) ∧ t.tagBusy tag = true) ∧
        t.leaves (pathEntry (s.bytes pa len) 0) fun g => g.ftype = Ty.ENUM ∧ g.dest = 0 ∧ g.hops = fieldOf (s.bytes pa len) 1 1 - 1 ∧
          g.prio = (s.sendFrame c p (s.bytes pa len)).prio ∧ g.ackreq = (s.sendFrame c p (s.bytes pa len)).ackreq ∧
          g.payload = s.bytes pa len := by
  have type : (s.sendFrame c p (s.bytes pa len)).ftype = Ty.ENUM := (programFrame_isType s _ _ Ty.ENUM).mpr enum
  refine send_issued h r ⟨fun _ => path, fun prog => by omega⟩ ?_
  rintro tag mem u rfl
  have e := enum_emitted (s := s.atIssue c) (direct := sendPort sel) (tag := tag) type up free
  refine ⟨e.sends, fun t i => ⟨i.tagged mem e, leaves_imp (has_leaves (i.has _ _ e.has)) ?_⟩⟩
  rintro g ⟨type', dest, hops, prio, ackreq, payload⟩
  exact ⟨type'.trans type, dest, hops, prio, ackreq, payload⟩

section
variable (plain : ((s.ctx c).getX p).toNat / 2 ^ 28 ≠ 7)
  (load : ((s.ctx c).getX p).toNat / 2 ^ 28 = 5 → fieldOf (s.bytes pa len) 0 1 = 1 → 0 < len → s.seal9 = true)
include plain load

theorem send_issued_plain (emits : ∀ tag ∈ s.freeTags, (s.sendFrame c p (s.bytes pa len)).ftype ≠ Ty.ENUM → ∀ u,
    u = (s.atIssue c).issueFrame (s.sendFrame c p (s.bytes pa len)) (sendPort sel) tag →
      (s.atIssue c).Sends u ∧ ∀ t, s.Issued c rd u t tag → P t) : Completes (.send rd p q (BitVec.ofNat 14 sel)) s P :=
  send_issued h r ⟨fun enum => absurd enum plain, load⟩ fun tag mem =>
    emits tag mem fun type => plain ((programFrame_isType s _ _ Ty.ENUM).mp type)

theorem send_direct (port : sendPort sel = some o) (up : s.link o = Link.UP) (passes : s.check o = 2) (free : s.inPrimer o = false)
    (other : s.isMine (s.sendFrame c p (s.bytes pa len)).dest = false ∨ (s.sendFrame c p (s.bytes pa len)).isBroadcast = true) :
    Completes (.send rd p q (BitVec.ofNat 14 sel)) s (s.sentOn c rd p (s.bytes pa len) o) := by
  refine send_issued_plain h r plain load ?_
  rintro tag mem type u rfl
  have e := direct_emitted (s := s.atIssue c) (tag := tag) type other up passes free
  rw [port]
  exact ⟨e.sends, fun t i => i.sentOn mem e⟩

theorem send_routed (port : sendPort sel = none) (one : (s.sendFrame c p (s.bytes pa len)).isBroadcast = false)
    (other : s.isMine (s.sendFrame c p (s.bytes pa len)).dest = false) {via : Bool}
    (route : s.route (s.sendFrame c p (s.bytes pa len)).dest = some (o, via)) (up : s.link o = Link.UP) (passes : s.check o = 2) :
    Completes (.send rd p q (BitVec.ofNat 14 sel)) s (s.sentOn c rd p (s.bytes pa len) o) := by
  refine send_issued_plain h r plain load ?_
  rintro tag mem type u rfl
  have e := routed_emitted (s := s.atIssue c) (tag := tag) type other one ((route_of_regs (atIssue_regs s c) _).trans route) up passes
  rw [port]
  exact ⟨e.sends, fun t i => i.sentOn mem e⟩

section
variable (canonical : s.Canonical) (port : sendPort sel = none) (all : (s.sendFrame c p (s.bytes pa len)).isBroadcast = true)
include canonical port all

theorem send_broadcast (ready : ∃ o ∈ allPorts, s.link o = Link.UP ∧ s.check o = 2 ∧ s.inPrimer o = false) :
    Completes (.send rd p q (BitVec.ofNat 14 sel)) s fun t => ∀ o ∈ allPorts,
      s.link o = Link.UP ∧ s.check o = 2 ∧ s.inPrimer o = false → s.sentOn c rd p (s.bytes pa len) o t := by
  have usable {o : Port} (up : s.link o = Link.UP) (passes : s.check o = 2) (free : s.inPrimer o = false) : s.usable o = true := by
    rw [State.usable, State.linkAlive, up, passes, free]
    rfl
  have wf : wfFrom regDefault 0 (s.atIssue c).regs = true := (atIssue_regs s c).symm ▸ canonical.regs
  refine send_issued_plain h r plain load ?_
  rintro tag mem type u rfl
  obtain ⟨o, memo, up, passes, free⟩ := ready
  obtain ⟨sends, emitted⟩ := broadcast_emitted (s := s.atIssue c) (tag := tag) all wf ⟨o, memo, usable up passes free⟩
  rw [port]
  exact ⟨sends, fun t i o memo ⟨up, passes, free⟩ => i.sentOn mem (emitted o memo (usable up passes free) up passes)⟩

theorem send_broadcast_none (none : ∀ o ∈ allPorts, s.usable o = false) : Completes (.send rd p q (BitVec.ofNat 14 sel)) s fun t =>
    ∃ tag ∈ s.freeTags, s.gave t c rd (BitVec.ofNat 32 tag) ∧ t.bitOf Reg.PORT_TXFAIL.FAIL (tag - 1) = true ∧ ∀ d, t.rang d Ev.TX_DONE := by
  have wf : wfFrom regDefault 0 (s.atIssue c).regs = true := (atIssue_regs s c).symm ▸ canonical.regs
  refine send_issued_plain h r plain load ?_
  rintro tag mem type u rfl
  have small : tag - 1 < Reg.PORT_TXFAIL.FAIL.width := by
    obtain ⟨k, low, rfl⟩ := List.mem_map.mp (List.mem_filter.mp mem).1
    exact List.mem_range.mp low
  obtain ⟨sends, failed, done⟩ := broadcast_fails (s := s.atIssue c) type all wf none small
  rw [port]
  exact ⟨sends, fun t i => ⟨tag, mem, i.gave, (bitOf_of_regs i.regs _ _ _).trans failed, fun d => i.rang d _ (done d)⟩⟩

end
end
end

end State
end Sys2Proof.Machine
end

section
/-! SUPPORT. RECV: the words of a frame written to its buffer (R162 to R164), and the obligation on SEND and RECV. -/

namespace Sys2Proof.Machine

/-! ## Words and their bytes -/

/-- The bytes of words, each least significant first (R78). -/
def bytesOf (l : List Word) : List Byte := l.flatMap fun w => leBytes 4 w.toNat

theorem bytesOf_cons (w : Word) (l : List Word) : bytesOf (w :: l) = leBytes 4 w.toNat ++ bytesOf l := rfl

theorem leNat_lt (l : List Byte) : leNat l < 256 ^ l.length := by
  induction l with
  | nil => decide
  | cons b l ih =>
    rw [leNat, List.length_cons, pow_succ]
    omega

theorem wordsOf_length (n : Nat) (b : List Byte) : (wordsOf n b).length = n := by
  induction n generalizing b with
  | zero => rfl
  | succ n ih => rw [wordsOf, List.length_cons, ih]

theorem bytesOf_wordsOf (n : Nat) (b : List Byte) (h : b.length = 4 * n) : bytesOf (wordsOf n b) = b := by
  induction n generalizing b with
  | zero => exact (List.length_eq_zero_iff.mp h).symm
  | succ n ih =>
    have four : (b.take 4).length = 4 := by
      rw [List.length_take]
      omega
    have first : leBytes 4 (BitVec.ofNat 32 (leNat (b.take 4))).toNat = b.take 4 := by
      have small := leNat_lt (b.take 4)
      rw [four, show 256 ^ 4 = 2 ^ 32 by norm_num] at small
      rw [BitVec.toNat_ofNat, Nat.mod_eq_of_lt small]
      have whole := leBytes_leNat (b.take 4)
      rwa [four] at whole
    rw [wordsOf, bytesOf_cons, first, ih (b.drop 4) (by rw [List.length_drop]; omega), List.take_append_drop]

theorem padTo_eq (n : Nat) (b : List Byte) (h : b.length ≤ n) : padTo n b = b ++ List.replicate (n - b.length) 0 := by
  rw [padTo, List.take_append, List.take_of_length_le h, List.take_replicate, Nat.min_eq_left (Nat.sub_le _ _)]

/-- The three header words that RECV writes (R163). -/
def recvHead (r : RxFrame) : List Byte :=
  leBytes 4 (frameHeader r.frame) ++ leBytes 2 r.frame.src.toNat ++ leBytes 2 r.frame.lseq.toNat ++
    [BitVec.ofNat 8 r.frame.payload.length, r.port, 0, 0]

theorem recvBytes_eq (r : RxFrame) : recvBytes r =
    recvHead r ++ (r.frame.payload ++ List.replicate ((r.frame.payload.length + 3) / 4 * 4 - r.frame.payload.length) 0) := by
  have length : (recvHead r ++ r.frame.payload).length = 12 + r.frame.payload.length := List.length_append
  have pad := padTo_eq (12 + (r.frame.payload.length + 3) / 4 * 4) (recvHead r ++ r.frame.payload) (by omega)
  rw [length, Nat.add_sub_add_left, List.append_assoc] at pad
  exact pad

theorem recvBytes_length (r : RxFrame) : (recvBytes r).length = 4 * (3 + (r.frame.payload.length + 3) / 4) := by
  have head : (recvHead r).length = 12 := rfl
  rw [recvBytes_eq, List.length_append, List.length_append, List.length_replicate, head]
  omega

namespace State

variable {s t u : State} {c : Cid}

/-! ## The buffer -/

/-- The words of a buffer from `pa` on, each with its address. -/
def bufferAt (pa : Nat) : List Word → List (Nat × Word)
  | [] => []
  | w :: l => (pa, w) :: bufferAt (pa + 4) l

/-- The reach of a word of a buffer at `va`. -/
def bufferReach (va : Nat) : Reach := ⟨va, 4, true, 1, false, true⟩

theorem checkBuffer_sram (l : List Word) (va pa : Nat) (low : pa + 4 * l.length ≤ 0x10000)
    (h : ∀ j, j < l.length → ∃ w, s.place c.val (bufferReach (va + 4 * j)) = .here (pa + 4 * j) w) :
    (s.takeCore c).checkBuffer c va l = .ok (bufferAt pa l) := by
  induction l generalizing va pa with
  | nil => rfl
  | cons x l ih =>
    rw [List.length_cons] at low h
    obtain ⟨w, place⟩ := h 0 (by omega)
    rw [Nat.mul_zero, Nat.add_zero, Nat.add_zero] at place
    have next := ih (va + 4) (pa + 4) (by omega) fun j hj => by
      have := h (j + 1) (by omega)
      rwa [show va + 4 * (j + 1) = va + 4 + 4 * j by ring, show pa + 4 * (j + 1) = pa + 4 + 4 * j by ring] at this
    have here : (s.takeCore c).place c.val (bufferReach va) = .here pa w := (s.place_takeCore c c.val rfl).trans place
    have notPage : isPage pa = false := by simp [isPage]; omega
    have ok : (s.takeCore c).storeTrap c (bufferReach va) pa x.toNat = none := if_neg (by rw [notPage]; decide)
    unfold State.checkBuffer
    dsimp only
    rw [show (⟨va, 4, true, 1, false, true⟩ : Reach) = bufferReach va from rfl, here]
    dsimp only
    rw [ok, next]
    rfl

/-! ## Bytes stored -/

/-- `t` is `s` but for the bytes `b` from `pa` on. -/
structure Stored (s t : State) (pa : Nat) (b : List Byte) : Prop where
  byte : ∀ x, t.byte x = if pa ≤ x ∧ x < pa + b.length then b.getD (x - pa) 0 else s.byte x
  regs : t.regs = s.regs
  ctxs : t.ctxs = s.ctxs
  boot : t.boot = s.boot
  wf : Memory.wf t.mem = true

theorem Stored.refl (h : Memory.wf s.mem = true) (pa : Nat) : s.Stored s pa [] :=
  ⟨fun x => (if_neg (by simp)).symm, rfl, rfl, rfl, h⟩

theorem Stored.append {pa : Nat} {b d : List Byte} (h : s.Stored t pa b) (g : t.Stored u (pa + b.length) d) : s.Stored u pa (b ++ d) where
  byte x := by
    rw [g.byte, h.byte, List.length_append]
    by_cases first : pa ≤ x ∧ x < pa + b.length
    · rw [if_neg (by omega), if_pos first, if_pos (by omega), List.getD_append _ _ _ _ (by omega)]
    · by_cases second : pa + b.length ≤ x ∧ x < pa + b.length + d.length
      · rw [if_pos second, if_pos (by omega), List.getD_append_right _ _ _ _ (by omega)]
        congr 1
        omega
      · rw [if_neg second, if_neg first, if_neg (by omega)]
  regs := g.regs.trans h.regs
  ctxs := g.ctxs.trans h.ctxs
  boot := g.boot.trans h.boot
  wf := g.wf

theorem setBytes_boot (s : State) (pa : Nat) (b : List Byte) : (s.setBytes pa b).boot = s.boot := by
  induction b generalizing s pa with
  | nil => rfl
  | cons x b ih => exact ih (s.setByte pa x) (pa + 1)

theorem putMem_stored (h : Memory.wf s.mem = true) (pa : Nat) (b : List Byte) : s.Stored (s.putMem pa b) pa b :=
  ⟨byte_setBytes h b pa, setBytes_regs s b pa, setBytes_ctxs s b pa, s.setBytes_boot pa b, mem_wf_setBytes s b pa h⟩

theorem writeBuffer_stored (h : Memory.wf s.mem = true) (l : List Word) (pa : Nat) (low : pa + 4 * l.length ≤ 0x10000) :
    s.Stored (forAll (bufferAt pa l) (fun e t => t.writeAt (.ctx c) e.1 4 e.2.toNat) s) pa (bytesOf l) := by
  induction l generalizing s pa with
  | nil => exact Stored.refl h pa
  | cons w l ih =>
    rw [List.length_cons] at low
    have notPage : isPage pa = false := by simp [isPage]; omega
    have write : s.writeAt (.ctx c) pa 4 w.toNat = s.putMem pa (leBytes 4 w.toNat) := if_neg (by rw [notPage]; decide)
    have first : s.Stored (s.writeAt (.ctx c) pa 4 w.toNat) pa (leBytes 4 w.toNat) := write ▸ putMem_stored h pa _
    exact first.append (ih first.wf (pa + 4) (by omega))

theorem bytes_eq_of_byte {a : Nat} (b : List Byte) (h : ∀ i, i < b.length → t.byte (a + i) = b.getD i 0) : t.bytes a b.length = b := by
  induction b generalizing a with
  | nil => rfl
  | cons x b ih =>
    have first := h 0 (Nat.succ_pos _)
    rw [List.length_cons, State.bytes, ih fun i hi => ?_, show t.byte a = x from first]
    have later := h (i + 1) (Nat.succ_lt_succ hi)
    rwa [List.getD_cons_succ, Nat.add_comm i 1, ← Nat.add_assoc] at later

theorem Stored.bytes {pa : Nat} {b : List Byte} (h : s.Stored t pa b) : t.bytes pa b.length = b := by
  refine bytes_eq_of_byte b fun i hi => ?_
  rw [h.byte, if_pos (by omega), Nat.add_sub_cancel_left]

/-! ## RECV -/

theorem rx_takeCore (s : State) (c : Cid) : ((s.takeCore c).ctx c).rx = (s.ctx c).rx := by rw [ctx_takeCore_self]

/-- The state in which RECV has taken the head frame off its queue. -/
def unqueued (s : State) (c : Cid) (rest : List RxFrame) : State := (s.takeCore c).modCtx c fun v => { v with rx := rest }

/-- RECV that has stored its frame as `u` retires. -/
theorem stored_retire (h : s.executing = some c) {rest : List RxFrame} {pa : Nat} {b : List Byte} (stored : (s.unqueued c rest).Stored u pa b)
    (rd : RegNo) (w : Word) (n : Nat) :
    let t := (u.setX c rd w).retire c ((s.ctx c).pc + 4) n
    s.gave t c rd w ∧ (t.ctx c).rx = rest ∧ (∀ x, t.byte x = u.byte x) ∧ t.regs = s.regs := by
  have live : (u.setX c rd w).boot.inReset = false := by
    rw [boot_setX, stored.boot, unqueued, modCtx_boot, takeCore_inReset h]
  have frame := retire_outside (u.setX c rd w) c ((s.ctx c).pc + 4) n
  have self : u.ctx c = { s.ctx c with state := .running, cont := if s.holder = some c then (s.ctx c).cont else none, rx := rest } := by
    rw [State.ctx, stored.ctxs, ← State.ctx, unqueued, ctx_modCtx_same, ctx_takeCore_self]
  refine ⟨gave_retire live (fun r => ?_) n, ?_, fun x => congrArg (look memDefault · x) frame.mem, frame.regs.trans ?_⟩
  · rw [State.setX, ctx_modCtx_same, getX_setX, self]
    rfl
  · obtain ⟨_, _, _, _, _, _, _, _, _, _, _, rx⟩ := (retire_retired live c ((s.ctx c).pc + 4) n).special
    rw [rx, State.setX, ctx_modCtx_same, Ctx.setX_eq, self]
  · rw [State.setX, modCtx_regs, stored.regs, unqueued, modCtx_regs, (takeCore_outside s c).regs]

/-- What stands in a frame's buffer: the three header words, the payload, and around it what stood there. -/
theorem Stored.received {r : RxFrame} {pa : Nat} (h : s.Stored t pa (recvBytes r)) :
    t.bytes pa 12 = recvHead r ∧ t.bytes (pa + 12) r.frame.payload.length = r.frame.payload ∧
      ∀ a, a < pa ∨ pa + 12 + 4 * ((r.frame.payload.length + 3) / 4) ≤ a → t.byte a = s.byte a := by
  have all := h.bytes
  have length := recvBytes_length r
  refine ⟨?_, ?_, fun a far => (h.byte a).trans (if_neg (by omega))⟩
  · rw [← t.bytes_take pa (show 12 ≤ (recvBytes r).length by omega), all, recvBytes_eq]
    exact List.take_left' rfl
  · have parts := t.bytes_add pa 12 (4 * ((r.frame.payload.length + 3) / 4))
    rw [show 12 + 4 * ((r.frame.payload.length + 3) / 4) = (recvBytes r).length by omega, all, recvBytes_eq] at parts
    have tail := (List.append_inj parts (t.bytes_length pa 12).symm).2
    rw [← t.bytes_take (pa + 12) (show r.frame.payload.length ≤ 4 * ((r.frame.payload.length + 3) / 4) by omega), ← tail]
    exact List.take_left' rfl

section
variable (h : s.executing = some c) {rd p : RegNo}
include h

theorem completes_recv {P : State → Prop}
    (hP : P (((s.takeCore c).recv' c rd ((s.ctx c).getX p)).finish c (s.ctx c).pc)) : Completes (.recv rd p 0 0) s P := by
  refine completes_runInstr h rfl ?_
  rw [getX_takeCore]
  exact hP

/-- With no frame in its queue rd holds all ones (R164). -/
theorem recv_empty (aligned : ((s.ctx c).getX p).toNat % 4 = 0) (empty : (s.ctx c).rx = []) :
    Completes (.recv rd p 0 0) s fun t => s.wroteReg t c rd 0xFFFFFFFF ((s.ctx c).pc + 4) ∧ s.storesNothing t := by
  refine completes_recv h ?_
  rw [State.recv', if_neg (not_not.mpr aligned), rx_takeCore s c, empty]
  obtain ⟨wrote, _, nothing⟩ := setX_retire h rd 0xFFFFFFFF ((s.ctx c).pc + 4) 6
  exact ⟨wrote, nothing⟩

variable {r : RxFrame} {rest : List RxFrame} {pa : Nat}

theorem recv_head (canonical : s.Canonical) (head : (s.ctx c).rx = r :: rest) (low : pa + 76 ≤ 0x10000) (short : r.frame.payload.length ≤ 64)
    (aligned : ((s.ctx c).getX p).toNat % 4 = 0)
    (place : ∀ j, j < 3 + (r.frame.payload.length + 3) / 4 →
      ∃ w, s.place c.val (bufferReach (((s.ctx c).getX p).toNat + 4 * j)) = .here (pa + 4 * j) w) :
    Completes (.recv rd p 0 0) s fun t => s.gave t c rd (BitVec.ofNat 32 r.frame.payload.length) ∧ (t.ctx c).rx = rest ∧
      t.bytes pa 12 = recvHead r ∧ t.bytes (pa + 12) r.frame.payload.length = r.frame.payload ∧
      (∀ a, a < pa ∨ pa + 12 + 4 * ((r.frame.payload.length + 3) / 4) ≤ a → t.byte a = s.byte a) ∧ t.regs = s.regs := by
  have count := wordsOf_length (3 + (r.frame.payload.length + 3) / 4) (recvBytes r)
  have check := checkBuffer_sram (s := s) (c := c) _ ((s.ctx c).getX p).toNat pa (by rw [count]; omega) (count.symm ▸ place)
  refine completes_recv h ?_
  rw [State.recv', if_neg (not_not.mpr aligned), rx_takeCore s c, head]
  dsimp only
  rw [check]
  dsimp only
  have wf : Memory.wf (s.unqueued c rest).mem = true := canonical.mem
  have stored := writeBuffer_stored (c := c) wf (wordsOf (3 + (r.frame.payload.length + 3) / 4) (recvBytes r)) pa (by rw [count]; omega)
  rw [bytesOf_wordsOf _ _ (recvBytes_length r)] at stored
  obtain ⟨gave, rx, bytes, regs⟩ := stored_retire h stored rd (BitVec.ofNat 32 r.frame.payload.length) (6 + (r.frame.payload.length + 3) / 4)
  obtain ⟨head, payload, others⟩ := stored.received
  refine ⟨gave, rx, ?_, ?_, ?_, regs⟩
  · exact (bytes_of_byte bytes pa 12).trans head
  · exact (bytes_of_byte bytes _ _).trans payload
  · exact fun a far => (bytes a).trans (others a far)

end

end State

theorem sendPort_direct (len : Nat) (short : len ≤ 64) (line : Fin 4) :
    (len + 128 + 256 * line.val) % 2 ^ 7 = len ∧ State.sendPort (len + 128 + 256 * line.val) = some (portOf line.val) := by
  have bit : bitAt (len + 128 + 256 * line.val) 7 = true := by
    rw [bitAt, bitsAt, decide_eq_true_eq]
    omega
  have port : bitsAt (len + 128 + 256 * line.val) 8 2 = line.val := by
    rw [bitsAt]
    omega
  exact ⟨by omega, by rw [State.sendPort, bit, port]; rfl⟩

theorem sendPort_routed (len : Nat) (short : len ≤ 64) : len % 2 ^ 7 = len ∧ State.sendPort len = none := by
  have bit : bitAt len 7 = false := by
    rw [bitAt, bitsAt, decide_eq_false_iff_not]
    omega
  exact ⟨by omega, by rw [State.sendPort, bit]; rfl⟩

open State in
/-- Settles O11: SEND by its type, payload and route, RECV by its queue. -/
theorem sendAndReceive : Obligations.SendAndReceive := by
  unfold Obligations.SendAndReceive
  intro s c rd p q canonical h
  have canon := s.canonical_iff.mp canonical
  refine ⟨?_, recv_empty h, fun r rest pa head _ low short aligned place => recv_head h canon head low short aligned place⟩
  intro len pa line w va b f sent ready short type aligned
  obtain ⟨length, noPort⟩ := sendPort_routed len short
  obtain ⟨length', port⟩ := sendPort_direct len short line
  have small : len < 2 ^ 10 := by omega
  refine ⟨fun enum bad free => ?_, fun enum full => ?_, fun reach slot => ?_⟩
  · refine send_illegal h small free (send_shortEnum ?_ type enum ?_) <;> omega
  · refine send_full h small ?_ full
    rw [length]
    exact ⟨short, type, aligned, enum⟩
  have loaded {sel : Nat} (fits : sel < 2 ^ 10) (le : sel % 2 ^ 7 = len) (enum : w / 2 ^ 28 = 7 → 36 ≤ len) : s.Loaded c p q sel len pa :=
    ⟨fits, le, ⟨short, type, aligned, enum⟩, slot, reach⟩
  have small' : len + 128 + 256 * line.val < 2 ^ 10 := by omega
  refine ⟨fun prog begins some off free => ?_, fun enum long direct => ?_, fun plain load => ?_⟩
  · exact send_loadBegin h (loaded small length fun enum => by omega) free prog begins some off
  · have fits : len + 128 * direct.val + 256 * line.val < 2 ^ 10 := by omega
    have l := loaded fits (by omega) fun _ => long
    exact ⟨fun bad free => send_badPath h l free enum bad, fun first last up free => send_enum h l enum ⟨first, last⟩ up free⟩
  · have l := loaded small length fun enum => absurd enum plain
    exact ⟨fun other ⟨up, passes, free⟩ =>
        send_direct h (loaded small' length' fun enum => absurd enum plain) plain load port up passes free other,
      fun one other o via route up passes => send_routed h l plain load noPort one other route up passes,
      fun all ready => send_broadcast h l plain load canon noPort all ready,
      fun all none => send_broadcast_none h l plain load canon noPort all none⟩

end Sys2Proof.Machine
end
